-- ==== Sys2Proof/Word.lean ====
section
/-! DEFINITION. Bytes, words and their plainest arithmetic (00_scope R11). -/

namespace Sys2Proof

/-- One byte of a register, record or of device DRAM. -/
abbrev Byte := BitVec 8

/-- The low `k` bytes of a number, little-endian (R11: every multi-byte field is little-endian). -/
def le : Nat → Nat → List Byte
  | 0, _ => []
  | k + 1, n => BitVec.ofNat 8 n :: le k (n / 256)

/-- The number a little-endian run of bytes spells (R11). -/
def unle : List Byte → Nat
  | [] => 0
  | b :: bs => b.toNat + 256 * unle bs

/-- The residue of an integer that a field of `k` bits holds (R11, two's complement). -/
def wrapTo (k : Nat) (i : Int) : Nat := (i % (2 ^ k : Int)).toNat

/-- The two's complement reading of the low `k` bits of a number (R11). -/
def signed (k : Nat) (n : Nat) : Int :=
  let m := n % 2 ^ k
  if 2 * m < 2 ^ k then (m : Int) else (m : Int) - (2 ^ k : Int)

/-- R11: the signed difference of least magnitude of two 32-bit values; exactly 2^31 reads as −2^31. -/
def diff32 (a b : Int) : Int := signed 32 (wrapTo 32 (a - b))

end Sys2Proof
end

