-- ==== Sys2Proof/Syntax.lean ====
section
/-! DEFINITION. The commands of the CQ3200: one constructor per row of spec/opcode_table.json.
A row that is an Mbosal command carries first the mailbox that holds it (0 to 15, or 16 for the USB
service exchange, R421), then the command's arguments in the order its family's table lists them (R577).
A row that is an event carries what is physical in it: a level, a measured value, a received frame (DESIGN CHOICE, log 11). -/

namespace Sys2Proof

/-- A point in bed coordinates (R34) or in angle space (R36), signed LSB. -/
structure Pt where
  x : Int
  y : Int
deriving DecidableEq, Repr, Inhabited

/-- The arguments of `field.grid` (R38): the set header and where its node array lies. -/
structure GridArg where
  oar : Nat
  set : Nat
  temp : Int
  gx0 : Int
  gy0 : Int
  pitch : Nat
  focusGain : Int
  addr : Nat
  len : Nat
  crc : Nat
deriving DecidableEq, Repr, Inhabited

/-- A stitch pair entry (R50, R578). -/
structure StitchArg where
  a : Nat
  b : Nat
  w : Nat
  s : Pt
deriving DecidableEq, Repr, Inhabited

/-- The fields of `oar.motion` (R194). -/
structure MotionArg where
  obsBw : Nat
  rateMax : List Nat
  accMax : List Nat
  nSettle : Nat
  settleTol : Nat
  dotTol : Nat
  dotSettleMax : Nat
  predWarn : Nat
  backstopPct : Nat
  reapproachMin : Nat
  lenSettle : Nat
deriving DecidableEq, Repr, Inhabited

/-- The fields of `oar.camera` (R232). -/
structure CameraArg where
  en : Nat
  x0 : Nat
  y0 : Nat
  w : Nat
  h : Nat
  period : Nat
  exposureNs : Nat
  thresh : Nat
  spatMin : Nat
deriving DecidableEq, Repr, Inhabited

/-- The slot descriptor of the loop array (R226). -/
structure SlotDesc where
  slot : Nat
  mode : Nat
  spSrc : Nat
  spIdx : Nat
  pvSrc : Nat
  pvIdx : Nat
  outDst : Nat
  outIdx : Nat
  gainTable : Nat
  rate : Nat
  lflags : Nat
  eNorm : Nat
  uMin : Int
  uMax : Int
  iMin : Int
  iMax : Int
  slew : Nat
  dFilt : Nat
  aw : Nat
  kv : Int
  ka : Int
  manValue : Int
  failValue : Int
  pvLo : Int
  pvHi : Int
deriving DecidableEq, Repr, Inhabited

/-- The slide-axis descriptor (R344). `reservedZero` is false when a reserved byte or bit is not zero. -/
structure AxisDesc where
  axis : Nat
  aflags : Nat
  encSel : Nat
  loopUse : Nat
  microFine : Nat
  microCoarse : Nat
  msMap : Nat
  vMax : Nat
  aMax : Nat
  dMax : Nat
  jMax : Nat
  msUp : Nat
  msDown : Nat
  stepW : Nat
  dirSetup : Nat
  msSetup : Nat
  elecOffset : Nat
  trimMax : Nat
  followMax : Nat
  inPos : Nat
  moveDrawW : Nat
  softMin : Int
  softMax : Int
deriving DecidableEq, Repr, Inhabited

/-- The encoder descriptor (R345). -/
structure EncDesc where
  enc : Nat
  emode : Nat
  eflags : Nat
  minEdge : Nat
  obsBw : Nat
  num : Nat
  den : Nat
  indexPeriod : Nat
  indexTol : Nat
  idxMaxOn : Nat
  stillTime : Nat
deriving DecidableEq, Repr, Inhabited

/-- The arguments of `slide.home` (R326). -/
structure HomeArg where
  mode : Nat
  direction : Int
  speed : Nat
  swFilter : Nat
  lockout : Nat
  qualWin : Nat
  homePos : Int
deriving DecidableEq, Repr, Inhabited

/-- The parameters of `slide.recoat` (R337). -/
structure RecoatArg where
  recoater : Nat
  platform : Nat
  doser : Nat
  spreadStart : Int
  spreadEnd : Int
  park : Int
  returnSpeed : Nat
  recUpm : Nat
  platRatio : Int
  doseNominal : Nat
deriving DecidableEq, Repr, Inhabited

/-- One strobe direction of `image.config` (R359, R366). -/
structure DirArg where
  mask : Nat
  current : Nat
  width : Nat
deriving DecidableEq, Repr, Inhabited

/-- The arguments of `image.config` (R366, R578). -/
structure ImageArg where
  start : Int
  stop : Int
  lineW : Nat
  lineX0 : Nat
  lineExp : Nat
  strobeDelay : Nat
  dirs : List DirArg
  dutyMax : Nat
  bufBase : Nat
  slots : Nat
  nMax : Nat
  required : Nat
deriving DecidableEq, Repr, Inhabited

/-- One step of a pattern (R364). -/
structure PatternStep where
  level : Nat
  shape : Nat
  time : Nat
deriving DecidableEq, Repr, Inhabited

/-- The arguments of `led.lamp` (R363, R366, R578). -/
structure LampArg where
  ain : Nat
  rPu : Nat
  r25 : Nat
  beta : Nat
  tDerate : Int
  tMax : Int
  thermLo : Nat
  thermHi : Nat
deriving DecidableEq, Repr, Inhabited

/-- The arguments of `time.port` (R432, R450). -/
structure TimePortArg where
  port : Nat
  mac : Nat
  vlan : Option (Nat × Nat)
  ipv4 : Option Nat
  txCorr : Int
  rxCorr : Int
deriving DecidableEq, Repr, Inhabited

/-- The arguments of `time.domain` (R435, R450). -/
structure TimeDomainArg where
  domain : Nat
  port : Nat
  number : Nat
  profile : Nat
  transport : Nat
  role : Nat
  oneStep : Nat
  logSync : Int
  preferred : Nat
deriving DecidableEq, Repr, Inhabited

/-- One oar's rated power and wall-plug factor in `mode.budget` (R533). -/
structure OarPowerArg where
  oar : Nat
  rated : Nat
  wallPlug : Nat
deriving DecidableEq, Repr, Inhabited

/-- What a read of DRAM met (R375, R376): nothing, a corrected symbol, or an uncorrectable error. -/
inductive EccOutcome where
  | clean
  | corrected (symbol : Nat)
  | uncorrectable
deriving DecidableEq, Repr, Inhabited

/-- The reset sources of R493. -/
inductive ResetSource where
  | porn
  | porDetector
  | rstn
deriving DecidableEq, Repr, Inhabited

/-- What the parts of a boot ladder step that the model does not compute came to (R500, DESIGN CHOICE, log 11). -/
structure StepReport where
  ok : Bool
  /-- S2: REFCLK present; S5, unless `ok`: slots that cannot be read, A and B; S3: PLLs that lock, bits Cox, fabric A, B, exposure A, B, link, DDR, PCIe, Ethernet; S4: Umpire
      cores that pass; S6: Cox cores that pass; S7: chip selects that answer, 3 × channel + rank, bit 6 that the saved training succeeds; S8: lanes; S11, unless
      `ok`: items that fail, bits calibration sets, geometry, loops, latencies, power maps, rated powers, LED and imaging,
      safety set; S12: block instances that fail, block 0x1 from bit 0, the others following on. -/
  mask : Nat
  /-- S7: the bin at which full training succeeds; S8: the rate. -/
  value : Nat
deriving DecidableEq, Repr, Inhabited

/-- What a training phase reported at its end (R287): the frequency check, and of each preset measured the points of its
scan that passed: phase steps from -32 in bit 0 on, voltage steps from -127 in bit 0 on (R299). -/
structure TrainReport where
  ok : Bool
  margins : List (Nat × Nat × Nat)
deriving DecidableEq, Repr, Inhabited

/-- A one-step Sync, a two-step Sync, or the Follow_Up of the two-step Sync received last (R433). -/
inductive SyncKind where
  | oneStep
  | twoStep
  | followUp
deriving DecidableEq, Repr, Inhabited

/-- A PTP Sync or Follow_Up with its stamps in 1/256 ns: t1 in master time, t2 and t3 as the stamp unit reads them. A
two-step Sync carries no t1, a Follow_Up neither t2 nor t3 (R436). -/
structure SyncMsg where
  kind : SyncKind
  /-- clockIdentity of the port that sent it. -/
  source : Nat
  t1 : Int
  t2 : Int
  /-- Transmit stamp of the Delay_Req that answers this Sync. -/
  t3 : Int
deriving DecidableEq, Repr, Inhabited

/-- What an Announce message carries for the best master clock algorithm (R433). -/
structure AnnounceMsg where
  /-- clockIdentity of the port that sent it. -/
  source : Nat
  gmId : Nat
  priority1 : Nat
  clockClass : Nat
  accuracy : Nat
  variance : Nat
  priority2 : Nat
  stepsRemoved : Nat
deriving DecidableEq, Repr, Inhabited

/-- What the platform sets in the configuration space of a function (R395, R396, R422): log2 of the BAR2 size, D3hot, the completion
timeout of Device Control 2 in µs, relaxed ordering enabled, payload and read request sizes, ECRC check and generation, the bits of
the AER status that it clears. -/
structure PciConfig where
  pf1 : Bool
  bar2Log : Nat
  d3hot : Bool
  completionUs : Nat
  relaxed : Bool
  maxPayload : Nat
  maxRead : Nat
  ecrcCheck : Bool
  ecrcGen : Bool
  aerClear : Nat
deriving DecidableEq, Repr, Inhabited

/-- A write of one entry of an MSI-X table in BAR4 (R396). -/
structure MsixWrite where
  pf1 : Bool
  vector : Nat
  addr : Nat
  data : Nat
  masked : Bool
deriving DecidableEq, Repr, Inhabited

/-- The rows of spec/opcode_table.json. -/
inductive Instr where
  -- oar (R66, R193, R263, R309)
  | oarEnable (mbx : Nat) (mask : Nat)
  | oarDisable (mbx : Nat) (mask : Nat)
  | oarStatus (mbx : Nat)
  | oarMotion (mbx : Nat) (mask : Nat) (m : MotionArg)
  | oarLatency (mbx : Nat) (set : Option (Nat × Nat × Nat))
  | oarPowermap (mbx : Nat) (mask : Nat) (codes : List Nat) (idle : Nat)
  | oarPlacement (mbx : Nat) (mask : Nat) (clear : Nat)
  | oarMeasure (mbx : Nat) (mask : Nat)
  | oarCamera (mbx : Nat) (mask : Nat) (c : CameraArg)
  | oarDark (mbx : Nat) (mask : Nat)
  | oarSense (mbx : Nat) (mask : Nat)
  | oarLink (mbx : Nat) (ports : Nat) (width : Nat) (height : Nat) (preset : Nat) (autoSleep : Nat)
  | oarLinkstat (mbx : Nat) (ports : Nat) (clear : Nat)
  | oarRetrain (mbx : Nat) (ports : Nat)
  | oarPower (mbx : Nat) (ports : Nat) (state : Nat)
  | oarEyescan (mbx : Nat) (port : Nat) (ph0 : Int) (ph1 : Int) (v0 : Int) (v1 : Int) (n : Nat) (addr : Nat)
  | oarSvc (mbx : Nat) (port : Nat) (op : Nat) (addr : Nat) (len : Nat) (data : List Byte)
  -- field (R66)
  | fieldBed (mbx : Nat) (x0 : Int) (y0 : Int) (w : Int) (h : Int)
  | fieldGrid (mbx : Nat) (g : GridArg)
  | fieldPolygon (mbx : Nat) (oar : Nat) (vs : List Pt)
  | fieldKeepout (mbx : Nat) (zone : Nat) (mask : Nat) (vs : List Pt)
  | fieldStitch (mbx : Nat) (pairs : List StitchArg)
  | fieldMasks (mbx : Nat) (addr : Nat) (count : Nat) (crc : Nat)
  | fieldCommit (mbx : Nat)
  | fieldDiscard (mbx : Nat)
  | fieldQuery (mbx : Nat) (which : Nat) (item : Nat) (index : Nat)
  | fieldEligible (mbx : Nat) (p : Pt) (q : Pt) (maskIndex : Option Nat)
  -- layer (R103)
  | layerParams (mbx : Nat) (first : Nat) (count : Nat) (addr : Nat) (crc : Nat)
  | layerProfiles (mbx : Nat) (first : Nat) (count : Nat) (addr : Nat) (crc : Nat)
  | layerTargets (mbx : Nat) (first : Nat) (count : Nat) (addr : Nat) (crc : Nat)
  | layerCommit (mbx : Nat) (addr : Nat)
  | layerCancel (mbx : Nat) (layer : Nat)
  | layerAbandon (mbx : Nat) (layer : Nat)
  | layerReload (mbx : Nat) (layer : Nat) (first : Nat) (count : Nat)
  | layerStatus (mbx : Nat) (layer : Option Nat)
  | layerReport (mbx : Nat) (layer : Nat)
  | layerLibrary (mbx : Nat) (kind : Nat) (index : Nat)
  -- marshal (R155)
  | marshalConfig (mbx : Nat) (horizon : Nat) (balance : Nat) (orphan : Nat)
  | marshalThermal (mbx : Nat) (set : Option (Nat × Nat))
  | marshalThermtable (mbx : Nat) (first : Nat) (count : Nat) (addr : Nat) (crc : Nat)
  | marshalStatus (mbx : Nat)
  | marshalStats (mbx : Nat) (layer : Nat)
  | marshalInterrupted (mbx : Nat) (layer : Nat) (first : Nat) (count : Nat)
  | marshalWake (mbx : Nat) (rect : Option (Nat × Nat × Nat × Nat))
  | marshalHeat (mbx : Nat) (col : Nat) (row : Nat) (w : Nat) (h : Nat) (addr : Nat) (write : Nat)
  -- loop (R229)
  | loopConfig (mbx : Nat) (ds : List SlotDesc)
  | loopGains (mbx : Nat) (first : Nat) (count : Nat) (addr : Nat) (crc : Nat)
  | loopCommit (mbx : Nat)
  | loopMode (mbx : Nat) (slots : Nat) (state : Nat) (man : Option Int)
  | loopSetpoint (mbx : Nat) (slot : Nat) (value : Int)
  | loopGear (mbx : Nat) (enc : Nat) (num : Int) (den : Nat)
  | loopIo (mbx : Nat) (ain : List (Int × Int)) (pwm : List Nat)
  | loopStatus (mbx : Nat) (slots : Nat)
  | loopTrace (mbx : Nat) (slots : List Nat) (count : Nat) (addr : Nat)
  | loopRestore (mbx : Nat)
  -- slide (R346)
  | slideConfig (mbx : Nat) (ds : List AxisDesc)
  | slideEncoder (mbx : Nat) (ds : List EncDesc)
  | slideMove (mbx : Nat) (axis : Nat) (target : Int) (vMax : Option Nat)
  | slideStop (mbx : Nat) (mask : Nat)
  | slideHome (mbx : Nat) (axis : Nat) (h : HomeArg)
  | slideLimits (mbx : Nat) (axis : Nat) (v : Nat) (a : Nat) (d : Nat) (j : Nat)
  | slideSetpos (mbx : Nat) (axis : Nat) (pos : Int)
  | slideRecoat (mbx : Nat) (r : RecoatArg)
  | slideStatus (mbx : Nat) (mask : Nat)
  | slideClear (mbx : Nat) (mask : Nat)
  -- image, led (R366)
  | imageConfig (mbx : Nat) (c : ImageArg)
  | imageStatus (mbx : Nat)
  | imageLine (mbx : Nat) (dir : Nat) (addr : Nat)
  | ledConfig (mbx : Nat) (ch : Nat) (rsense : Nat) (iSet : Nat) (vShort : Nat)
  | ledPattern (mbx : Nat) (pattern : Nat) (steps : List PatternStep)
  | ledSet (mbx : Nat) (mask : Nat) (pattern : Nat) (phase : Nat) (map : List Nat)
  | ledLamp (mbx : Nat) (a : LampArg)
  | ledStatus (mbx : Nat)
  | ledClear (mbx : Nat) (mask : Nat)
  -- rec (R263)
  | recRing (mbx : Nat) (ring : Nat) (base : Nat) (size : Nat) (mode : Nat) (cb : Nat) (level : Nat)
  | recTake (mbx : Nat) (take : Nat) (decim : Nat) (gated : Nat)
  | recConsume (mbx : Nat) (ring : Nat) (total : Nat)
  | recStatus (mbx : Nat)
  | recMark (mbx : Nat) (value : Nat)
  -- mem (R393)
  | memFence (mbx : Nat)
  | memConfig (mbx : Nat) (order : Nat) (k : Nat) (scrub : Nat) (ceLimit : Nat) (rate : Nat)
  | memQos (mbx : Nat) (dma : Nat) (bar2 : Nat) (cox : Nat)
  | memStatus (mbx : Nat)
  | memErrlog (mbx : Nat) (first : Nat) (count : Nat) (clear : Nat)
  | memMigrate (mbx : Nat) (channel : Nat) (rank : Nat)
  | memUnretire (mbx : Nat) (channel : Nat) (rank : Nat)
  | memRetrain (mbx : Nat) (mask : Nat)
  | memInject (mbx : Nat) (addr : Nat) (kind : Nat)
  -- sys (R424, R508)
  | sysIdentify (mbx : Nat)
  | sysCq (mbx : Nat) (base : Nat) (entries : Nat)
  | sysCompletions (mbx : Nat) (first : Nat) (count : Nat)
  | sysDma (mbx : Nat) (ch : Nat) (base : Nat) (entries : Nat) (pollUs : Nat) (run : Nat)
  | sysDmastatus (mbx : Nat) (mask : Nat)
  | sysAperture (mbx : Nat) (base : Nat)
  | sysAbort (mbx : Nat) (target : Nat) (tag : Nat)
  | sysMbxstat (mbx : Nat) (clear : Nat)
  | sysService (mbx : Nat) (on : Nat)
  | sysClockplan (mbx : Nat) (cox : Nat) (divisor : Nat)
  | sysClocksrc (mbx : Nat) (src : Nat)
  | sysClockstat (mbx : Nat)
  | sysClockraw (mbx : Nat) (cox : Nat) (divisor : Nat) (frame : Nat)
  | sysBlockreset (mbx : Nat) (code : Nat) (index : Nat)
  | sysLadder (mbx : Nat) (clear : Option (Nat × Nat × Nat))
  | sysFuse (mbx : Nat) (field : Nat) (value : Nat)
  -- fw (R508)
  | fwStage (mbx : Nat) (addr : Nat) (len : Nat) (crc : Nat)
  | fwActivate (mbx : Nat) (slot : Nat)
  | fwStatus (mbx : Nat)
  | fwCommit (mbx : Nat)
  -- mode (R533)
  | modeHold (mbx : Nat) (urgent : Nat)
  | modeSet (mbx : Nat) (target : Nat)
  | modeStandby (mbx : Nat) (wake : Nat)
  | modeStatus (mbx : Nat)
  | modeBudget (mbx : Nat) (chip : Nat) (rest : Option (Nat × List OarPowerArg))
  | modeLeave (mbx : Nat) (clear : Nat)
  | modeThermal (mbx : Nat) (clear : Nat)
  -- time (R450)
  | timePort (mbx : Nat) (a : TimePortArg)
  | timeDomain (mbx : Nat) (a : TimeDomainArg)
  | timeServo (mbx : Nat) (bw : Nat) (step : Nat) (lock : Nat) (slew : Nat) (blend : Nat)
  | timeGang (mbx : Nat) (size : Nat) (device : Nat) (ports : Nat) (recovered : Nat) (skew : Nat)
  | timeSet (mbx : Nat) (sec : Nat) (ns : Nat)
  | timeSelect (mbx : Nat) (sel : Nat)
  | timeStatus (mbx : Nat) (clear : Nat)
  | timePeers (mbx : Nat) (clear : Nat)
  -- safe (R480)
  | safeEnter (mbx : Nat)
  | safeStop (mbx : Nat) (mask : Nat)
  | safeClear (mbx : Nat)
  | safeRearm (mbx : Nat) (mask : Nat)
  | safeStage (mbx : Nat) (addr : Nat) (len : Nat) (crc : Nat)
  | safeCommit (mbx : Nat) (digest : List Byte)
  | safeDiscard (mbx : Nat)
  | safeStatus (mbx : Nat)
  | safeEvents (mbx : Nat) (first : Nat) (count : Nat)
  | safeProof (mbx : Nat) (mask : Nat)
  | safeHoldpolicy (mbx : Nat) (resume : Nat)
  | safeQuery (mbx : Nat) (which : Nat)
  -- log, cal, health (R554)
  | logRead (mbx : Nat) (first : Nat) (count : Nat)
  | logVerify (mbx : Nat) (first : Nat) (last : Nat)
  | logSpoilstat (mbx : Nat) (clear : Nat)
  | logNote (mbx : Nat) (data : List Byte)
  | logDescribe (mbx : Nat) (source : Nat) (code : Nat)
  | calRun (mbx : Nat) (blocks : Nat) (instances : Nat)
  | calStatus (mbx : Nat)
  | calFactory (mbx : Nat) (blocks : Nat)
  | healthRecords (mbx : Nat) (first : Nat) (count : Nat)
  | healthReport (mbx : Nat)
  | healthReplan (mbx : Nat)
  -- registers and apertures (R401 to R407, R413, R414, R421, R548)
  | modeReq (value : Nat)
  | hostStop (value : Nat)
  | doorbell (mbx : Nat) (tag : Nat)
  | mbxAck (mask : Nat)
  | irqTest (pf1 : Bool) (hi : Bool) (value : Nat)
  | irqEnable (pf1 : Bool) (hi : Bool) (value : Nat)
  | registerWrite (pf1 : Bool) (offset : Nat) (value : Nat)
  | bar2Write (offset : Nat) (data : List Byte) (ecc : EccOutcome)
  | bar2Read (offset : Nat) (len : Nat) (ecc : EccOutcome)
  | recordApertureRead (offset : Nat) (len : Nat)
  | usbCommand (data : List Byte)
  | classDeadlineExpiry (mbx : Nat)
  | coxTaskWatchdog (core : Nat) (task : Nat)
  | irqHoldoffExpiry (pf1 : Bool) (vector : Nat)
  | pcieLinkChange (lanes : Nat) (rate : Nat) (cfg : Option PciConfig) (msix : List MsixWrite)
  | dmaPoll (ch : Nat) (desc : List Byte)
  | dmaDescriptorComplete (ch : Nat) (data : List Byte) (ecc : EccOutcome)
  | dmaTimeout (ch : Nat)
  | drainWaitExpiry (ch : Nat)
  -- frame tick and exposure (R27, R158 to R192)
  | lgateTransition (oar : Nat)
  | finishBackstop (oar : Nat)
  | dotSettleTimeout (oar : Nat)
  | jumpPlanning (oar : Nat)
  | jumpEnd (oar : Nat)
  | catchHoldLimit (oar : Nat)
  | lenRise (oar : Nat)
  | lenSettleExpiry (oar : Nat)
  | gridBlendComplete (oar : Nat)
  -- Marshal and governor (R104 to R151, R522 to R528)
  | inPosition (axis : Nat)
  -- loops and melt pool (R201 to R261)
  | loopSlotExecute (slot : Nat) (pvCode : Nat) (spCode : Nat)
  | loopSlotOverrun (slot : Nat)
  | loopSelfTest (proc : Nat) (verdict : Nat)
  | cameraExposureStart (oar : Nat)
  | cameraFeaturesReady (oar : Nat)
  | cameraFrameDeadline (oar : Nat)
  | controlBlockUpdate (ring : Nat)
  | frameStreamRelease (oar : Nat)
  -- Rigger links (R264 to R308)
  | returnFrame (port : Nat) (ps : Nat) (blocks : List Nat)
  | returnFrameMissed (port : Nat) (line : Nat)
  | linkLockLoss (port : Nat)
  | relockComplete (port : Nat)
  | relockTimeout (port : Nat)
  | trainingPhaseEnd (port : Nat) (r : TrainReport)
  | trainingPhaseTimeout (port : Nat)
  | trainingRetry (port : Nat)
  | lLinkMeasured (port : Nat)
  | forwardedClockLoss (port : Nat) (shadowLocked : Bool)
  | sleepAckTimeout (port : Nat)
  | fastExit (port : Nat) (outbound : Bool)
  | eyeProbeComplete (phases : Nat) (volts : Nat)
  | serviceTimeout (port : Nat) (tag : Nat)
  -- slides, encoders, imaging, light (R310 to R365)
  | limitActive (axis : Nat) (positive : Bool)
  | limitClear (axis : Nat) (positive : Bool)
  | homeEdgeQualified (axis : Nat)
  | homingQualWinEnd (axis : Nat)
  /-- Wire 0 A, 1 B, 2 I; 3 a change of A and B accepted at the same time. -/
  | encoderEdge (enc : Nat) (wire : Nat) (high : Bool)
  | wireFault (enc : Nat)
  | wireFaultClear (enc : Nat)
  | indexStuck (enc : Nat)
  | speedObserver (enc : Nat)
  | encoderStill (enc : Nat)
  | strobeSenseSample (ch : Nat) (senseUv : Nat) (stringMv : Nat) (limiting : Bool)
  | lampTemperature (code : Nat)
  -- DRAM (R377 to R389)
  | retrainingPause (subch : Nat) (deltas : List Int) (check : Option Nat)
  | retrainLate (subch : Nat)
  | migrationChunkCopy (channel : Nat) (found : List (Nat × EccOutcome))
  -- Ethernet, time, gang (R428 to R449)
  | ptpSync (domain : Nat) (m : SyncMsg)
  | ptpDelayResp (domain : Nat) (t4 : Int)
  | ptpAnnounce (domain : Nat) (m : AnnounceMsg)
  | ptpDelayReq (domain : Nat) (requester : Nat) (rx : Int)
  | ptpMasterTx (domain : Nat) (announce : Bool)
  | domainLost (domain : Nat)
  | ethPortChange (port : Nat) (up : Bool)
  | arpRequest (port : Nat) (ip : Nat)
  | otherFrame (port : Nat) (kind : Nat)
  | marksReceived (port : Nat) (frame : List Byte)
  | helloReceived (port : Nat) (frame : List Byte) (rx : Int)
  | peerLost (device : Nat)
  -- Umpire (R451 to R477)
  | lalmLow (oar : Nat) (low : Bool)
  | monitorSample (oar : Nat) (code : Nat)
  | coxHeartbeat (core : Nat)
  | voteLivenessLoss (core : Nat)
  | proofStart (oar : Nat)
  | proofStep (oar : Nat) (pass : Bool) (delayNs : Nat)
  -- temperature, supplies, clocks, reset, boot (R481 to R531, R562)
  | railOutOfWindow (rail : Nat) (mv : Nat)
  | railRecovered (rail : Nat)
  | pllFailure (pair : Nat)
  | pllRestart (pair : Nat)
  | pllStandbyReady (pair : Nat)
  | referenceQualified (src : Nat)
  | blockReleaseTimeout (code : Nat) (index : Nat)
  | pllLockLoss (pll : Nat)
  | coxCoreMissing (core : Nat)
  | homingSwitchToggle (axis : Nat)
  | encoderGlitch (enc : Nat) (wire : Nat)
  | unretireTestComplete (channel : Nat) (pass : Bool)
  | pcieCompletionTimeout (ch : Nat)
  | commandAreaWrite (mbx : Nat) (offset : Nat) (data : List Byte)
  -- events without operands, of every chapter
  | layerChecksComplete
  | perstAssert
  | frameTick
  | dispatchCycle
  | dispatchOverrun
  | leaveGrant
  | p5Revocation
  | wakeSweep
  | thermalSweep
  | repairPlaceFreed
  | fenceRelease
  | fenceClose
  | recoatStart
  | loopMigration
  | eyeProbe
  | lineStartSend
  | strobePulseStart
  | lineDeadline
  | ledPatternTick
  | dramRefresh
  | preferredRelockHold
  | keepSecondsWrite
  | marksSend
  | helloSend
  | discrepancyLatch
  | heartbeatLoss
  | heartbeatAbsent1s
  | umpireTimeResync
  | avsStepDownHold
  | coreUndervoltage
  | muxHandshakeBypass
  | muxSwitchAbandon
  | resetRelease
  | fusePulseEnd
  | bootStepTimeout
  | vddAonLoss
  | crystalStop
  | logbookFlush
  | replanComplete
  | coreVoltageRecovered
  -- rows whose operands take any value: these stand last (DESIGN CHOICE, log 12)
  | timeTake (value : Nat)
  | functionLevelReset (pf1 : Bool)
  | busTimeout (master : Nat)
  | leaveAnswer (req : Nat)
  | rt0BlockRead (ecc : EccOutcome)
  | strokeSenior (seq : Nat)
  | orphanTimeout (seq : Nat)
  | patrolScrubRead (ecc : EccOutcome)
  | wakeFrame (frame : List Byte)
  | estopInputChange (channelB : Bool) (high : Bool)
  | intlkInputChange (high : Bool)
  | voteComparison (differing : Option Nat)
  | holdRecovery (ok : Bool)
  | temperatureSample (c100 : Option Int)
  | avsStep (answered : Bool) (readUv : Nat) (currentMa : Option Nat)
  | referenceLoss (ridden : Bool) (src : Nat)
  | iroTrim (errorPpb : Int)
  | clockGateTimeout (block : Nat) (master : Nat)
  | resetAssert (src : ResetSource)
  | bootStep (r : StepReport)
  | standbyWake (src : Nat)
  | vbatChange (applied : Bool)
  | calBlockComplete (passMask : Nat)
  | blockFault (code : Nat)
  | unsupportedRegisterAccess (pf1 : Bool) (read : Bool)
  | spoilRelease (value : Nat)
deriving DecidableEq, Repr

end Sys2Proof
end

