-- ==== Sys2Proof/Decode.lean ====
section
/-! DEFINITION. The decoder of command words. The table of spec/opcode_table.json gives no row any bits: a row is a
command of a mailbox, a register access or an event, and carries its operands itself (DESIGN CHOICE, log 12). -/

namespace Sys2Proof

/-- No row of the table is spelled by a word. -/
def decodeTableWord (_nbits _w : Nat) : Option Instr := none

end Sys2Proof
end

