-- ==== Sys2Proof/Config.lean ====
section
/-! DEFINITION. The values the spec leaves open (DESIGN CHOICE, log 8). None of these constants has a body: nothing can be proved
about what they give. Each is applied to the counter `free` of the state, so that every draw is its own, or to the
operands that the value depends on. -/

namespace Sys2Proof.Config

/-- A value that chapter text leaves open; the step that takes it reduces it into the bounds the spec sets. -/
opaque freeNat : Nat → Nat

/-- A choice between two outcomes the spec allows. -/
opaque freeBool : Nat → Bool

/-- The error of the decay factor of R135 for an age and a time constant, reduced into its bound (DESIGN CHOICE, log 14). -/
opaque decayError : Nat → Nat → Nat

/-- Code of the spoil record of an internal fault, which the firmware release defines (R417, R576, DESIGN CHOICE, log 140). -/
opaque faultCode : BitVec 11

/-- A product of the control law that does not fit in the 64 bits in which R202 forms it. -/
opaque product64 : Int → Int → BitVec 64

end Sys2Proof.Config
end

