-- ==== Sys2Proof/Machine/StateHost.lean ====
section
/-! DEFINITION. The state of the host interface (chapter 12) and of the three logs (chapter 17). -/

namespace Sys2Proof.Machine

/-- A sparse run of bytes: address and byte pairs, addresses strictly rising, no zero byte listed (DESIGN CHOICE, log 6). -/
abbrev Cells := List Host.Cell

/-- The state of a mailbox (R401, R407). -/
inductive MbxState where
  | free
  | queued
  | executing
  | done
deriving DecidableEq, Repr, Inhabited

/-- The response header and result of R408. -/
structure Response where
  status : Nat
  detail : Nat
  opcode : Nat
  tag : Nat
  waitHint : Nat
  completionId : Nat
  logSeq : Nat
  result : List Byte
deriving DecidableEq, Repr, Inhabited

/-- One mailbox, or the USB exchange of R421 (index 16). -/
structure Mailbox where
  st : MbxState
  /-- The command area 0x000 to 0x7FF (R408), sparse. -/
  cmd : Cells
  resp : Option Response
  /-- Acceptance number of the command held (R407). -/
  seq : Nat
  /-- Tick from which the class deadline runs (R410); none while a fence holds the command (R412). -/
  startTick : Option Nat
  /-- The command is past its effect point (R410). -/
  effect : Bool
  /-- The Logbook record of the command held, or 0. -/
  logSeq : Nat
  accepted : Nat
  timeouts : Nat
  errs : Nat
  /-- Longest execution in frame ticks (R424 `sys.mbxstat`). -/
  longest : Nat
deriving DecidableEq, Repr, Inhabited

/-- What a command without its final outcome waits for (R410, R415). -/
inductive JobKind where
  | layerCommit (layer : Nat)
  | move (axis : Nat)
  | home (axis : Nat)
  | migrate (channel : Nat)
  | unretire (channel : Nat)
  | retrain (mask : Nat)
  | cal
  | replan
  | blockreset (code : Nat) (index : Nat) (since : Nat)
  | fuse
  | eyescan (port : Nat) (ph0 ph1 v0 v1 : Int) (n addr : Nat)
  | service (port : Nat) (svcTag : Nat)
  | train (ports : Nat)
  | power (ports : Nat) (state : Nat)
  | modeSet (target : Nat)
  | proof (mask : Nat)
  | fence
  | imageLine
  | ledClear (mask : Nat)
  | dark (mask : Nat)
  | measure (mask : Nat)
deriving DecidableEq, Repr, Inhabited

/-- A command in execution or ACCEPTED, until its final outcome. -/
structure Job where
  /-- 0 to 15; 16 the USB exchange; 17 MODE.MODE_REQ (R404). -/
  mbx : Nat
  opcode : Nat
  tag : Nat
  flags : Nat
  seq : Nat
  /-- 0 while its mailbox is EXECUTING; otherwise the COMPLETION_ID of its ACCEPTED response. -/
  completionId : Nat
  /-- The response was written by the deadline hardware, or discarded by a reset of the interface (R410, R399). -/
  orphaned : Bool
  kind : JobKind
deriving DecidableEq, Repr, Inhabited

/-- A completion record (R415). -/
structure Completion where
  status : Nat
  detail : Nat
  opcode : Nat
  tag : Nat
  id : Nat
  mailbox : Nat
  origin : Nat
  timeS : Nat
  timeNs : Nat
  result : List Byte
  seq : Nat
  phase : Bool
deriving DecidableEq, Repr, Inhabited

/-- The IRQ block of one function (R401, R413). -/
structure Irq where
  cause : BitVec 64
  enable : BitVec 64
  holdoff : Nat
  /-- Vector and tick of its latest message. -/
  last : List (Nat × Nat)
  /-- Vectors whose message waits out IRQ.HOLDOFF. -/
  held : List Nat
  /-- The MSI-X table of the function: address, data, mask of each vector, and its pending-bit array (R396). -/
  table : List (Nat × Nat × Bool)
  pba : BitVec 64
deriving DecidableEq, Repr, Inhabited

/-- The descriptor in progress on a DMA channel (R425). -/
structure DmaDesc where
  op : Nat
  irq : Bool
  length : Nat
  hostAddr : Nat
  devAddr : Nat
  ring : Nat
  waitUs : Nat
  dtag : Nat
  /-- Its data writes carry the relaxed-ordering attribute. -/
  relaxed : Bool
  startTick : Nat
deriving DecidableEq, Repr, Inhabited

/-- A DMA channel (R424, R425). -/
structure DmaChan where
  base : Nat
  entries : Nat
  pollUs : Nat
  /-- `sys.dma` STOP clears it; the descriptor in hand still completes. -/
  running : Bool
  index : Nat
  phase : Bool
  pollTick : Nat
  cur : Option DmaDesc
  done : Nat
  bytes : Nat
  /-- Descriptors completed BAD_ARG, TIMEOUT, ABORTED, FAULT. -/
  errs : List Nat
deriving DecidableEq, Repr, Inhabited

/-- The answer of the latest bus read: Unsupported Request, the EP attribute, the data (R397, R402, R403). -/
structure BusAnswer where
  ur : Bool
  ep : Bool
  data : List Byte
deriving DecidableEq, Repr, Inhabited

/-- MODE.REQ_STATUS and the request in execution (R401, R404). -/
structure ModeReq where
  last : Nat
  status : Nat
  detail : Nat
  busy : Bool
deriving DecidableEq, Repr, Inhabited

/-- The host interface (chapter 12). -/
structure HostIf where
  linkUp : Bool
  lanes : Nat
  rate : Nat
  /-- The settings of PF0's configuration space and of PF1's (R395, R396); whether PF1 answers; the AER status of each. -/
  cfg : PciConfig
  cfg1 : PciConfig
  link1Up : Bool
  aer0 : Nat
  aer1 : Nat
  irq0 : Irq
  irq1 : Irq
  /-- MSI-X messages sent, newest first: function and vector. The model's own record. -/
  msgs : List (Bool × Nat)
  mbx : List Mailbox
  mbxErr : BitVec 16
  acceptSeq : Nat
  modeReq : ModeReq
  hostStop : Bool
  logSelect : Nat
  spoilSelect : Nat
  bar2Base : Nat
  /-- Posted BAR2 writes that device engines do not see yet (R90, R402), oldest first: address and data. -/
  unfenced : List (Nat × List Byte)
  jobs : List Job
  completions : List Completion
  nextId : Nat
  cqSeq : Nat
  /-- Completion queue in host memory: base, entries, and the `CQ_SEQ` at which it was set up (R416). -/
  cq : Option (Nat × Nat × Nat)
  /-- What the device wrote into host memory, newest first: address, relaxed-ordering attribute (R395) and bytes. The model's own
  record. -/
  hostOut : List (Nat × Bool × List Byte)
  dma : List DmaChan
  serviceOn : Bool
  badReads : Nat
  badWrites : Nat
  denials : Nat
  bus : BusAnswer
deriving DecidableEq, Repr, Inhabited

/-- A Logbook record (R543). -/
structure LogRec where
  seq : Nat
  timeS : Nat
  timeNs : Nat
  origin : Nat
  flags : Nat
  opcode : Nat
  object : Nat
  index : Nat
  tag : Nat
  mailbox : Nat
  oldDigest : List Byte
  newDigest : List Byte
  chain : List Byte
deriving DecidableEq, Repr, Inhabited

/-- A spoil record (R547). `kept` tells whether it lies in one of the 64 kept places (R548). -/
structure SpoilRec where
  seq : Nat
  source : Nat
  inst : Nat
  code : Nat
  noCoalesce : Bool
  count : Nat
  firstS : Nat
  firstNs : Nat
  lastS : Nat
  lastNs : Nat
  info : Nat
  kept : Bool
deriving DecidableEq, Repr, Inhabited

/-- A health record (R550). -/
structure HealthRec where
  seq : Nat
  timeS : Nat
  timeNs : Nat
  kind : Nat
  severity : Nat
  subject : Nat
  inst : Nat
  value : Int
  limit : Int
  trend : Int
  plan : Int
deriving DecidableEq, Repr, Inhabited

/-- Logbook, spoil queue and health records (R543 to R550). -/
structure Logs where
  /-- On-chip Logbook records, oldest first, at most 1024. -/
  chip : List LogRec
  /-- The flash journal, oldest first, at most 8192 (R545). -/
  journal : List LogRec
  nextLog : Nat
  chain : List Byte
  /-- CHAIN of the newest record that the ring of the journal has overwritten; zeros before (R544, R546). -/
  base : List Byte
  /-- The next record is the first that step S11 writes after a Full reset: it carries RESTART (R545). -/
  restartDue : Bool
  /-- Tick since which a record waits for flash (R545). -/
  waitTick : Option Nat
  spoil : List SpoilRec
  spoilNewest : Nat
  spoilRelease : Nat
  /-- Overflow counter per source, index = SOURCE (R549). -/
  overflow : List Nat
  health : List HealthRec
  nextHealth : Nat
deriving DecidableEq, Repr, Inhabited

end Sys2Proof.Machine
end

