-- ==== Sys2Proof/Machine/StateSys.lean ====
section
/-! DEFINITION. The state of the Umpire (chapter 14), of modes, power leave and temperature (16), of clocks,
resets and the boot ladder (15), of calibration and ageing (17), and of fuses and pins (00, 18). -/

namespace Sys2Proof.Machine

/-- The eight modes (R517). -/
inductive Mode where
  | off
  | keep
  | standby
  | start
  | ready
  | build
  | hold
  | safe
deriving DecidableEq, Repr, Inhabited

/-- Reset levels (R495). -/
inductive Level where
  | full
  | warm
  | soft
deriving DecidableEq, Repr, Inhabited

/-- Why the device is in Hold (R472, R486, R516, R562, R340, R358). -/
inductive HoldCause where
  | command
  | clockLoss
  | block (code : Nat) (index : Nat)
  | rail
  | undervoltage
  | unhomed
  | image
  | dram
  | pllLoss
  /-- A fault flag or limit stop on a recoat axis (R340). -/
  | axis (a : Nat)
deriving DecidableEq, Repr, Inhabited

/-- Fuses and pins (R5 to R9, R428, R494, R507, R508). -/
structure Fuses where
  part16 : Bool
  rstMap : Nat
  compatLock : Bool
  keyRevoke : Nat
  /-- Four SHA-384 key hashes. -/
  keyHash : List (List Byte)
  svnMin : Nat
  stepping : Nat
  package : Nat
  serial : Nat
  caps : Nat
  macA : Nat
  macB : Nat
deriving DecidableEq, Repr, Inhabited

/-- Levels of the input pins and of the outputs the spec lets a command or a mode set. -/
structure Pins where
  compat : Bool
  estopA : Bool
  estopB : Bool
  intlk : Bool
  perst : Bool
  vddAon : Bool
  vbat : Bool
  /-- Rails of R562 out of their window: index as in R576. -/
  railBad : List Bool
  /-- The tick at which each was last found out of it. -/
  railTick : List Nat
  safeToggling : Bool
  /-- Levels of SAFE_A and SAFE_B, and the frame ticks that the counter of each has run since it last turned (R466). -/
  safeA : Bool
  safeB : Bool
  safeCntA : Nat
  safeCntB : Nat
  wdogOut : Bool
  therm : Bool
  pwrEn : Bool
  pewake : Bool
  /-- General GPIO levels. -/
  gpio : Nat
  /-- The pins of R497 are forced by a reset in progress. -/
  forced : Bool
  /-- TRST_N is low, as its pull has it (R557); the instruction in the test access port, 3 IDCODE after its reset (R558; DESIGN
  CHOICE, log 157). -/
  trstLow : Bool
  tapInstr : Nat
  /-- The resistor at REXT in ohms, 0 where it is open (R552, R570). -/
  rext : Nat
deriving DecidableEq, Repr, Inhabited

/-- An Umpire core (R452, R453). -/
structure UCore where
  inService : Bool
  live : Bool
  /-- Consecutive 1 µs comparisons in which it differed. -/
  differs : Nat
  /-- Ticks at which it left service; whether it stays out until a Full or Warm reset (R453). -/
  outs : List Nat
  stays : Bool
  /-- Bit k: it votes oar k's cut path closed (R452). -/
  vote : BitVec 32
deriving DecidableEq, Repr, Inhabited

/-- One reference set on the tap of R451. -/
structure RefTap where
  tick : Nat
  x : Int
  y : Int
  f : Int
  /-- CRC-8 of the set as it came (R271, R451). -/
  crc : Nat
deriving DecidableEq, Repr, Inhabited

/-- What the Umpire keeps of one oar. -/
structure OarSafe where
  /-- Cause of the standing trip, or 0 (R456). -/
  cause : Nat
  /-- LALM_N is low; the ticks at which it last changed, the tap was last bad, the port last missed (R464). -/
  lalmLow : Bool
  lalmSince : Nat
  /-- Bits of the CRC-8 that the next reference set loses on the tap (R456). -/
  tapNoise : Nat
  tapBadTick : Nat
  frameBadTick : Nat
  posCnt : Nat
  monCnt : Nat
  tapBad : Nat
  /-- Latest DAC codes, newest first (R459). -/
  dacLine : List Nat
  /-- Latest references, newest first (R457). -/
  refs : List RefTap
  lastProof : Option Nat
  rotation : Nat
  gapTicks : Nat
  /-- A proof gap is open since this tick (R471). -/
  gapSince : Option Nat
deriving DecidableEq, Repr, Inhabited

/-- An event record of R477. -/
structure UmpEvent where
  seq : Nat
  kind : Nat
  cause : Nat
  oar : Nat
  votes : Nat
  value : Int
  limit : Int
  detail2 : Nat
  timeS : Nat
  timeNs : Nat
deriving DecidableEq, Repr, Inhabited

/-- A safety parameter set: its image of 8256 bytes and SHA-256 of it (R474, R475). -/
structure SafetySet where
  image : List Byte
  digest : List Byte
deriving DecidableEq, Repr, Inhabited

/-- A proof in progress (R470): the oar, the step that runs and why it was started. -/
structure Proof where
  oar : Nat
  step : Nat
deriving DecidableEq, Repr, Inhabited

/-- The Umpire (chapter 14). -/
structure Umpire where
  cores : List UCore
  degraded : Bool
  lastCore : Nat
  /-- Bit k: oar k's cut path is closed. -/
  closed : BitVec 32
  /-- SAFETY.OAR_TRIP. -/
  trip : BitVec 32
  oars : List OarSafe
  safeCause : Nat
  safeOar : Nat
  disagreeSince : Option Nat
  latched : Bool
  bothLow : Bool
  /-- All-oar causes that hold every cut path open: clock loss (R454). -/
  clockCut : Bool
  active : Option SafetySet
  staged : Option SafetySet
  /-- Flash copies 1 and 2: image and recorded digest (R475, R476). -/
  copy1 : Option SafetySet
  copy2 : Option SafetySet
  proof : Option Proof
  /-- Oars still to be proved: Build entry, recoat, command, first proofs. -/
  proofQueue : List Nat
  /-- Outcome of the latest proofs of a `safe.proof`: oar, 0 pass or failing step, trigger or reason. -/
  proofResults : List (Nat × Nat × Nat)
  /-- A recoat proof round is running. -/
  round : Bool
  /-- Tick of the last heartbeat of each Cox core (R24). -/
  heartbeats : List Nat
  /-- Supervision of the heartbeat runs (from S6). -/
  hbWatch : Bool
  hbMissing : List Nat
  events : List UmpEvent
  nextEvent : Nat
  faultResume : Bool
  /-- Block named by `safe.status` after a failed recovery: code and index. -/
  holdBlock : Option (Nat × Nat)
  /-- Recoveries of the last hour: code, index, tick. -/
  recoveries : List (Nat × Nat × Nat)
  /-- The Umpire's copy of device time is behind by this many ns (R477). -/
  timeSkew : Int
  thermalDown : Bool
deriving DecidableEq, Repr, Inhabited

/-- Stages of an entry into Build (R518). -/
structure BuildEntry where
  proofs : List Nat
  trains : List Nat
  /-- The proofs are over and the ports woken. -/
  woken : Bool
  /-- What asked for it: 1 `mode.set`, 2 MODE.MODE_REQ, 3 the automatic resume. -/
  trigger : Nat
  startTick : Nat
deriving DecidableEq, Repr, Inhabited

/-- The mode machine (R517 to R521, R533). -/
structure ModeCtl where
  mode : Mode
  transition : Bool
  urgent : Bool
  holdFrom : Mode
  holdCauses : List HoldCause
  /-- The tick at which the latest of them came about (R473). -/
  holdTick : Nat
  /-- FAULT_RESUME or the recovery may resume: the Hold was not asked for by a command. -/
  entry : Option BuildEntry
  lastFrom : Mode
  lastTrigger : Nat
  lastS : Nat
  lastNs : Nat
  /-- Frame ticks spent in each mode since reset, index 3 to 7. -/
  ticksIn : List Nat
  wakeArmed : Nat
  /-- The automatic resume of R473 and R487 waits for the transition into Hold to end. -/
  resumeDue : Bool
deriving DecidableEq, Repr, Inhabited

/-- Who asks for leave (R523, R524). -/
inductive Requester where
  /-- P0: a proof, PARK, a stop, a forced safe level. -/
  | safety
  | stroke (oar : Nat) (seq : Nat)
  | move (axis : Nat)
  | retraining (subch : Nat)
  | scrub
  | migration (channel : Nat)
  | cal (block : Nat)
  | eyeProbe
  | eyescan (port : Nat)
  | stream (oar : Nat)
  | trace
deriving DecidableEq, Repr, Inhabited

/-- A request for leave, waiting or granted (R522 to R525). -/
structure Leave where
  id : Nat
  who : Requester
  prio : Nat
  chipMw : Nat
  plantW : Rat
  since : Nat
  /-- The base draw at the time of the request (R528). -/
  baseMw : Nat
deriving DecidableEq, Repr, Inhabited

/-- The counts of `mode.leave` for one priority (R533). -/
structure LeaveCount where
  requests : Nat
  grants : Nat
  deferrals : Nat
  refAlone : Nat
  refMode : Nat
  refCap : Nat
  revocations : Nat
  longest : Nat
deriving DecidableEq, Repr, Inhabited

/-- The power governor. -/
structure Governor where
  grants : List Leave
  waiting : List Leave
  nextId : Nat
  chipBudget : Nat
  plantBudget : Nat
  counts : List LeaveCount
  /-- Rated power and wall-plug factor per oar (R534). -/
  power : List (Nat × Nat)
  /-- Plant budget of the released layer, or 0. -/
  layerPlant : Nat
deriving DecidableEq, Repr, Inhabited

/-- Temperature and adaptive voltage (R514 to R516, R529 to R532). -/
structure Thermal where
  c100 : Int
  broken : Bool
  band : Nat
  minC : Int
  maxC : Int
  changes : Nat
  /-- Tick since which the present band has held, while a step down waits (R531). -/
  fallSince : Option Nat
  /-- Band whose guard the AVS target still carries until the fall has held. -/
  guardBand : Nat
  hotFiled : Bool
  coldFiled : Bool
  baseUv : Nat
  targetUv : Nat
  setUv : Nat
  readUv : Nat
  avsFails : Nat
  avsFault : Bool
  avsTick : Nat
  /-- The word of the latest Status read (R514). -/
  avsStatus : Nat
  /-- The tick at which the monitor last found VDD_CORE too low. -/
  uvSince : Option Nat
  lastInterp : Int
  /-- Ticks and mW of the Current reads of the last 10 ms, newest first (R514, R522). -/
  power : List (Nat × Nat)
deriving DecidableEq, Repr, Inhabited

/-- One duplicated pair of PLLs (R485). -/
structure PllPair where
  active : Nat
  standby : Bool
  switchovers : Nat
  failTick : Nat
  restartTick : Option Nat
  dead : Bool
deriving DecidableEq, Repr, Inhabited

/-- Clocks (R481 to R492). -/
structure Clocks where
  /-- 0 REFCLK, 1 RECOVERED, 2 IRO. -/
  sel : Nat
  qualified : List Bool
  /-- The tick at which each source last failed its condition of R481. -/
  lossTick : List Nat
  /-- The tick of the latest trim of the IRO (R482). -/
  trimTick : Option Nat
  /-- The reference lost and not yet requalified (R486). -/
  lost : Option Nat
  /-- The latest multiplexer switch: of the Cox clock or the reference, the old clock, its tick (R492). -/
  mux : Option (Bool × Nat × Nat)
  iroPpb : Int
  lastCorrection : Int
  trimRef : Nat
  /-- Lock of Cox, fabric, exposure, link, DDR, PCIe, Ethernet. -/
  locks : List Bool
  fabric : PllPair
  exposure : PllPair
  coxMHz : Nat
  divisor : Nat
  storedCox : Nat
  storedDiv : Nat
  raw : Option (Nat × Nat × Nat)
  /-- Blocks, by code, whose clock the Cox has gated (R491). -/
  gated : List Nat
  gateTimeouts : Nat
  bypasses : Nat
  abandons : Nat
  /-- Measured ppm per source. -/
  ppm : List Int
deriving DecidableEq, Repr, Inhabited

/-- The Keep record (R504). -/
structure KeepRec where
  valid : Bool
  lastReset : Nat
  starts : Nat
  faultS : Nat
  faultCode : Nat
  faultFlags : Nat
  lastStep : Nat
  bootInfo : Nat
  steps : List Nat
  portFail : List Nat
  portSkip : Nat
deriving DecidableEq, Repr, Inhabited

/-- A firmware slot (R506, R507): the header as stored, SHA-384 of the public key and of the body as stored. -/
structure FwSlot where
  header : List Byte
  fwVersion : Nat
  svn : Nat
  keyIndex : Nat
  pubHash : List Byte
  sigOk : Bool
  bodyOk : Bool
deriving DecidableEq, Repr, Inhabited

/-- The boot ladder, resets and firmware (R493 to R508). -/
structure Boot where
  level : Level
  standbyExit : Bool
  /-- Next ladder step, 0 to 14; 15 when the ladder has ended. -/
  next : Nat
  stepTick : Nat
  halted : Bool
  skipped : Bool
  calFailed : Bool
  keep : KeepRec
  /-- MODE.RESET_CAUSE fields: level, source, bits 4 to 7. -/
  causeLevel : Nat
  causeSource : Nat
  causeBits : Nat
  resetActive : Option Level
  resetSource : Nat
  delayedReset : Option ResetSource
  /-- Fuse pulses still to end: field, value. -/
  fusePulse : List (Nat × Nat)
  wdogBefore : Bool
  thermBefore : Bool
  compatPin : Bool
  compat : Bool
  slotA : Option FwSlot
  slotB : Option FwSlot
  running : Option Nat
  preferred : Nat
  /-- S5 has given up the preferred slot and checks the other (R500, R501). -/
  otherSlot : Bool
  /-- Blocks left in reset: code and index (R498). -/
  inReset : List (Nat × Nat)
  /-- Cox cores in service. -/
  coxCores : Nat
  keepSec : Nat
  keepSub : Nat
  /-- Its 15-bit prescaler. -/
  keepPre : Nat
  crystalStopped : Bool
deriving DecidableEq, Repr, Inhabited

/-- One calibration block instance (R536 to R538). -/
structure CalInst where
  /-- 0 not run, 1 pass, 2 fail. -/
  result : Nat
  timeS : Nat
  timeNs : Nat
  c100 : Int
  sets : List Bool
  failed : Bool
  /-- The coefficient of each temperature set, one number standing for what an instance holds (R537). -/
  coefs : List Int
  /-- The values of production test. -/
  made : List Int
  /-- The working coefficient. -/
  work : Rat
deriving DecidableEq, Repr, Inhabited

/-- A calibration run in progress (R535): blocks still to run and the instances named. -/
structure CalRun where
  blocks : List Nat
  instances : Nat
  granted : Bool
  results : List (Nat × Nat)
  startTick : Nat
  /-- The blocks as they stood before the run. -/
  before : List (List CalInst)
deriving DecidableEq, Repr, Inhabited

/-- One sample of the monitors of R540, taken by a re-plan: seconds, the slack of the 16 replicas in ps times 100, width and
height of each port's latest probe, the deltas of 4 times 40 lanes in ps, the drift of blocks 0x1 to 0x4 and that of the analogue
inputs' offset in LSB times 100, the IRO's corrections per day and the sum of them so far in ppb. -/
structure WearSample where
  sec : Nat
  slack : List Int
  eye : List (Nat × Nat)
  deltas : List Int
  drift : List Int
  trim : Int
  ppb : Int
deriving DecidableEq, Repr, Inhabited

/-- Calibration and ageing (R535 to R542). -/
structure Cal where
  /-- Blocks 0x1 to 0x6, each its instances. -/
  blocks : List (List CalInst)
  run : Option CalRun
  /-- Oars whose DAC and monitor values wait for their next finish (R537). -/
  pendingInterp : Nat
  wearUv : Nat
  t2 : Int
  t3 : Int
  /-- One sample per re-plan of the last 30 days, newest first (R540). -/
  history : List WearSample
  buildTicks : Nat
  replanSince : Option Nat
  marginLow : Bool
  /-- The sum of the IRO's corrections, ppb (R540). -/
  iroSum : Int
  /-- The part of L_pad that the oars share, in slots (R569). -/
  padBase : Nat
deriving DecidableEq, Repr, Inhabited

end Sys2Proof.Machine
end

