-- ==== Sys2Proof/Machine/StateWork.lean ====
section
/-! DEFINITION. The state of device DRAM (chapter 11), geometry (02), layers and library (03) and the Marshal (04). -/

namespace Sys2Proof.Machine

/-- Device DRAM contents: bytes, poisoned bursts (by burst number), and errors injected once (R371, R376, R394). -/
structure Dram where
  mem : Cells
  /-- Burst numbers, rising. -/
  poison : List Nat
  /-- Burst number and whether the injected error is uncorrectable. -/
  injected : List (Nat × Bool)
deriving DecidableEq, Repr, Inhabited

/-- What a step may do to device DRAM contents; applied in order by one shell (Ops). -/
inductive DramOp where
  | write (addr : Nat) (data : List Byte)
  | poison (burst : Nat)
  | inject (burst : Nat) (uncorrectable : Bool)
  | clearInject (burst : Nat)
  | wipe
  /-- The address order changes from one to the other: every burst appears at its new address (R373). -/
  | remap (fromOrder toOrder rowBits : Nat)
  /-- The bursts from one on are written anew, whole, with data of the Cox that no command reads (R373, R374). -/
  | renew (burst : Nat)
  /-- The physical ranks that serve the working rank indexes change, per channel, over a span of addresses each; ranks that still
      serve keep their contents (R370, R389). -/
  | rerole (old new : List (List Nat)) (span : Nat)
deriving DecidableEq, Repr, Inhabited

/-- A chip select as it answers at S7: device width and density in Gbit (R368). -/
structure Rank where
  present : Bool
  width : Nat
  gbit : Nat
deriving DecidableEq, Repr, Inhabited

/-- The state of a rank in the rank map (R389). -/
inductive RankState where
  | absent
  | working
  | migrating
  | retired
  | spare
  | active
deriving DecidableEq, Repr, Inhabited

/-- A rank migration (R387). -/
structure Migration where
  rank : Nat
  /-- Chunk copied first, if any. -/
  first : Option Nat
  copied : Nat
  total : Nat
  granted : Bool
  /-- Tick, with its fraction, from which on the next chunk may start. -/
  due : Rat
deriving DecidableEq, Repr, Inhabited

/-- One DRAM channel. -/
structure DramChan where
  chips : List Rank
  ranks : List RankState
  /-- Physical rank that serves each working rank index. -/
  roles : List Nat
  /-- The rank map and its roles as flash holds them, whatever answers (R389). -/
  mapRanks : List RankState
  mapRoles : List Nat
  mig : Option Migration
  testing : Option Nat
  ce : List Nat
  ue : List Nat
  /-- Ticks of corrected errors within the last hour, per rank (R386). -/
  ceTicks : List (List Nat)
deriving DecidableEq, Repr, Inhabited

/-- An error record of R391. -/
structure ErrRec where
  timeS : Nat
  timeNs : Nat
  addr : Nat
  kind : Nat
  source : Nat
  subch : Nat
  rank : Nat
  bank : Nat
  symbol : Nat
  count : Nat
  row : Nat
  col : Nat
  tick : Nat
deriving DecidableEq, Repr, Inhabited

/-- The DRAM controller (chapter 11). -/
structure MemCtl where
  chans : List DramChan
  /-- Speed bin index, 0 for 5600 to 5 for 3200. -/
  bin : Nat
  order : Nat
  k : Nat
  scrubH : Nat
  ceLimit : Nat
  migRate : Nat
  qos : List Nat
  scrubPos : Nat
  /-- Tick, with its fraction, of the next patrol read (R377). -/
  scrubDue : Rat
  panic0 : Bool
  panic1 : Bool
  panicCounts : List Nat
  /-- Last pause of each subchannel and the tick since which it is due and postponed. -/
  lastPause : List Nat
  dueSince : List (Option Nat)
  retrainLate : Nat
  deltas : List (List Int)
  /-- The timing of each lane as trained, ps from that of full training (R541). -/
  timing : List (List Int)
  margin : Int
  /-- Refresh interval in force: multiple of 1× (R378). -/
  refresh : Nat
  refreshCount : Nat
  /-- Tick, with its fraction, of the next refresh (R378). -/
  refreshDue : Rat
  errs : List ErrRec
  exhausted : Bool
  /-- Rows refreshed beside an activated one: how often, and subchannel, rank, bank and rows of the latest (R379). -/
  neighbourCount : Nat
  neighbours : List Nat
deriving DecidableEq, Repr, Inhabited

/-- A correction set (R38, R39): nodes in row-major order as X angle, Y angle, focus. -/
structure CorrSet where
  temp : Int
  gx0 : Int
  gy0 : Int
  pitch : Nat
  focusGain : Int
  nodes : List (Int × Int × Int)
deriving DecidableEq, Repr, Inhabited

/-- A keep-out zone (R48). -/
structure Zone where
  mask : Nat
  vs : List Pt
deriving DecidableEq, Repr, Inhabited

/-- A geometry, active or staged (R34 to R58, R62). -/
structure Geometry where
  /-- BED_X0, BED_Y0, width, height. -/
  bed : Option (Int × Int × Int × Int)
  /-- Per oar, four sets. -/
  sets : List (List (Option CorrSet))
  /-- Per oar, counter-clockwise vertices. -/
  fields : List (List Pt)
  zones : List (Option Zone)
  stitch : List StitchArg
  masks : List Nat
  trans : List Pt
  resid : Nat
deriving DecidableEq, Repr, Inhabited

/-- The working grid of an oar (R42 to R44): the head temperature it was blended at, and the sets it comes from. -/
structure WorkGrid where
  temp : Int
deriving DecidableEq, Repr, Inhabited

/-- Per-oar state of chapter 02. -/
structure OarGeo where
  grid : Option WorkGrid
  /-- A blend that is complete and waits for the next jump planning (R44). -/
  ready : Option WorkGrid
  /-- A blend in progress: its temperature and start tick (R43). -/
  blending : Option (Int × Nat)
  invalidFiled : Bool
deriving DecidableEq, Repr, Inhabited

/-- Chapter 02. -/
structure Geo where
  active : Geometry
  staged : Geometry
  /-- The flash copy of the geometry last committed (R64). -/
  stored : Geometry
  oars : List OarGeo
  /-- D of R60. -/
  disabled : BitVec 32
deriving DecidableEq, Repr, Inhabited

/-- A layer descriptor (R69). -/
structure Desc where
  imageEn : Bool
  recFullAll : Bool
  noRecoat : Bool
  layer : Nat
  z : Int
  stepLsb : Nat
  listAddr : Nat
  listCount : Nat
  listCrc : Nat
  recoatSpeed : Nat
  dose : Nat
  linePitch : Nat
  gasX : Int
  gasY : Int
  wakeLen : Nat
  wakeHalf : Nat
  wakeLife : Nat
  thermTau : Nat
  thermCeil : Nat
  repairPolicy : Nat
  plantBudget : Nat
deriving DecidableEq, Repr, Inhabited

/-- A parameter set (R86). -/
structure ParamSet where
  valid : Bool
  markSpeed : Nat
  jumpSpeed : Nat
  power : Nat
  profile : Nat
  target : Nat
  focusOffset : Int
  loopMode : Nat
  thermTable : Nat
  leadIn : Nat
  onDelay : Int
  offDelay : Int
  markDelay : Nat
  jumpDelay : Nat
deriving DecidableEq, Repr, Inhabited

/-- A melt-pool target (R240): its bytes as loaded; fields are read by accessors (Melt). -/
structure TargetRec where
  valid : Bool
  bytes : List Byte
deriving DecidableEq, Repr, Inhabited

/-- The parameter library and the thermal tables (R86 to R88, R138, R240): index and entry, sparse. -/
structure Library where
  params : List (Nat × ParamSet)
  profiles : List (Nat × List Nat)
  targets : List (Nat × TargetRec)
  tables : List (Nat × List Nat)
deriving DecidableEq, Repr, Inhabited

/-- A LINE or DOT with everything dispatch needs (R73, R78, R146). -/
structure Stroke where
  seq : Nat
  dot : Bool
  flags : Nat
  /-- Parameter set after binding (R78). -/
  pset : Nat
  x0 : Int
  y0 : Int
  x1 : Int
  y1 : Int
  dwell : Nat
  group : Nat
  /-- Geometric eligibility G. -/
  elig : BitVec 32
  /-- Run identifier: SEQ of its first member, when it is a member of a KEEP_ORDER run (R82). -/
  run : Option Nat
  /-- Layer fences and fences of its group that precede it in the list (R79). -/
  layerFences : Nat
  groupFences : Nat
  /-- A repair: the interrupted oar and s_F (R146). -/
  repair : Option (Nat × Rat)
deriving DecidableEq, Repr, Inhabited

/-- Where an undispatched stroke of the pool stands (R104, R109 to R113, R143). -/
inductive PoolPlace where
  | window
  | repair
  | returned (oar : Nat)
deriving DecidableEq, Repr, Inhabited

/-- An undispatched stroke. -/
structure PoolItem where
  stroke : Stroke
  place : PoolPlace
  /-- Device time of the first deferral in ns (R27, R118). -/
  deferred : Option Nat
  senior : Bool
  /-- Reasons of R110 recorded at least once, bit n for code n; the one it is held or deferred for now, or 0. -/
  reasons : Nat
  last : Nat
  orphanSince : Option Nat
  /-- Oar to which a NO_HANDOVER or run stroke is bound (R130, R143). -/
  bound : Option Nat
  /-- Waiting for leave by R107: chip budget and plant budget exceeded. -/
  leaveChip : Bool
  leavePlant : Bool
  /-- The oar that the latest request deferred for LEAVE named (R154). -/
  leaveOar : Option Nat
  /-- Tick since which it is a waiting request for leave (R107). -/
  leaveSince : Option Nat
  /-- Expected wait of the latest WAKE or THERMAL deferral, µs (R129, R140). -/
  waitUs : Nat
deriving DecidableEq, Repr, Inhabited

/-- A stroke whose leave request is outstanding (R104, R107). -/
structure PendingItem where
  item : PoolItem
  oar : Nat
  req : Nat
  prio : Nat
  plantW : Rat
  scale : Nat
  /-- F_k of R115, ps. -/
  finishPs : Rat
deriving DecidableEq, Repr, Inhabited

/-- A stroke in an oar's stroke buffer, or in hand. -/
structure BufStroke where
  item : PoolItem
  /-- Plant draw granted (R122). -/
  plantW : Rat
  /-- F_k of R115 as predicted at dispatch, ps. -/
  finishPs : Rat
deriving DecidableEq, Repr, Inhabited

/-- Per-oar state of the Marshal (R108, R112, R115, R117). -/
structure OarQueue where
  buf : List BufStroke
  /-- Predicted end of the last stroke held, ps (R115, R117). -/
  drain : Rat
  /-- Bed position of the last held finish. -/
  lastX : Int
  lastY : Int
  /-- The unfinished run for which the oar is reserved. -/
  run : Option Nat
  /-- A freed entry kept for a senior stroke in the next cycle (R118). -/
  keptFor : Option Nat
deriving DecidableEq, Repr, Inhabited

/-- Statistics of one oar for one layer (R154), in ticks where the record has µs. -/
structure OarStat where
  exposed : Nat
  contour : Nat
  markTicks : Nat
  jumpTicks : Nat
  idleTicks : Nat
  heldTicks : Nat
  returned : Nat
  interrupted : Nat
  repairs : Nat
  wakeBreach : Nat
  clamped : Nat
  leaveWait : Nat
deriving DecidableEq, Repr, Inhabited

/-- Layer-wide counts (R154). -/
structure LayerStat where
  /-- Codes 0x1 to 0x9. -/
  reasons : List Nat
  zeroLength : Nat
  notExposed : Nat
  unexposable : Nat
  overrun : Nat
  maxAgeUs : Nat
  waitTicks : Nat
deriving DecidableEq, Repr, Inhabited

/-- An interrupted-stroke record (R150). -/
structure IntRec where
  seq : Nat
  group : Nat
  oar : Nat
  cause : Nat
  iflags : Nat
  outcome : Nat
  finX : Int
  finY : Int
  finS : Nat
  repairOar : Nat
  timeS : Nat
  timeNs : Nat
deriving DecidableEq, Repr, Inhabited

/-- Where a reader of a list stands: the bound set (R78), the open group (R77), the run that may go on (R82), and the
layer fences and fences of the group passed so far (R79). -/
structure ParseState where
  bound : Option Nat
  group : Nat
  left : Nat
  keep : Bool
  run : Option Nat
  layerFences : Nat
  groupFences : Nat
deriving DecidableEq, Repr, Inhabited

/-- How a LINE or DOT of a list stands to fences: layer fences before it, its group, fences of the group before it (R79). -/
structure Ordinal where
  seq : Nat
  layerFences : Nat
  group : Nat
  groupFences : Nat
deriving DecidableEq, Repr, Inhabited

/-- What the checks keep of a 64 KiB block: its CRC-32C (R100), the reader's state at its start, and its LINE and DOT
records in their order. -/
structure BlockInfo where
  crc : Nat
  parse : ParseState
  strokes : List Ordinal
deriving DecidableEq, Repr, Inhabited

/-- A layer: being checked, queued, released or closed (R69 to R102). -/
structure LayerRec where
  desc : Desc
  descAddr : Nat
  /-- The 64 KiB blocks of the list, and those marked damaged (R100). -/
  blocks : List BlockInfo
  damaged : List Nat
  /-- The runs of the list: SEQ of the first member, then SEQ and G of every member (R82, R83). -/
  runs : List (Nat × List (Nat × Nat))
  digest : List Byte
  counts : List Nat
  /-- Library entries the layer references (R89, R138). -/
  refParams : List Nat
  refProfiles : List Nat
  refTargets : List Nat
  refTables : List Nat
  stats : List OarStat
  total : LayerStat
  ints : List IntRec
  intOverflow : Bool
  unexposable : List Nat
  notExposed : List Nat
  settled : Nat
deriving DecidableEq, Repr, Inhabited

/-- Layers (R29 to R32, R69 to R102). -/
structure Layers where
  checking : List LayerRec
  /-- Check 1 or 2 of R95, failed as the checks of the first layer in `checking` started. -/
  early : Option Nat
  queue : List LayerRec
  released : Option LayerRec
  closed : List LayerRec
  firstSinceReset : Bool
  /-- Recoat of the head layer reported complete (R339), its image complete or not needed (R29). -/
  recoatDone : Bool
  recoatStarted : Bool
  /-- The layer whose recoat runs has been cancelled: the sequence runs out and counts for no layer (R29, R99). -/
  recoatVoid : Bool
  waitSince : Option Nat
  /-- The released layer survived an entry into Safe (R99). -/
  afterSafe : Bool
deriving DecidableEq, Repr, Inhabited

/-- The released layer as the Marshal holds it (R104 to R122). -/
structure Marshal where
  horizon : Nat
  balance : Nat
  orphanMs : Nat
  /-- Values in force for the released layer (R157). -/
  inHorizon : Nat
  inBalance : Nat
  inOrphan : Nat
  /-- Next record to read in list order, and the reader's state there. -/
  nextRec : Nat
  parse : ParseState
  /-- Damaged blocks not yet read: block, next record in it, the reader's state there (R100). -/
  skipped : List (Nat × Nat × ParseState)
  window : List PoolItem
  repairs : List PoolItem
  /-- Interrupted strokes that wait for a place in the repair list, oldest first (R145). -/
  waitRepairs : List PoolItem
  pending : List PendingItem
  oars : List OarQueue
  orphanRaised : Bool
  /-- A block fault of the dispatch: the pool is rebuilt from the list at the next entry into Build (R153). -/
  rebuildDue : Bool
  /-- Marks that land at the end of the present dispatch cycle: cell, TIME, OAR, SRC (R127). -/
  openMarks : List (Nat × Nat × Nat × Nat)
  /-- Marks of the 20 µs interval for the gang: cell, oar, point, time (R445). -/
  gangMarks : List (Nat × Nat × Int × Int × Nat)
  /-- The 20 µs interval of device time for which MARKS have been sent (R27, R445). -/
  marksTurn : Nat
  /-- Wake grid, sparse: cell index, TIME, OAR, SRC 1 local or 2 peer (R123). -/
  wake : List (Nat × Nat × Nat × Nat)
  edge : Nat
  energyLsb : Nat
  /-- Thermal map, sparse: cell index, ENERGY, STAMP (R133); cells not listed hold ENERGY 0. -/
  heat : List (Nat × Nat × Nat)
  lastTau : Option Nat
  overruns : Nat
deriving DecidableEq, Repr, Inhabited

end Sys2Proof.Machine
end

