-- ==== Sys2Proof/Machine/StateIO.lean ====
section
/-! DEFINITION. The state of the exposure engines (chapter 05), the loop array (06), melt-pool engines and recorder
(07), Rigger ports (08), slide axes and encoders (09), imaging and LEDs (10), Ethernet and time (13). -/

namespace Sys2Proof.Machine

/-- Motion parameters of an oar (R194). RATE_MAX and ACC_MAX are absent until set. -/
structure Motion where
  obsBw : Nat
  rateMax : Option (List Nat)
  accMax : Option (List Nat)
  nSettle : Nat
  settleTol : Nat
  dotTol : Nat
  dotSettleMax : Nat
  predWarn : Nat
  backstopPct : Nat
  reapproachMin : Nat
  lenSettle : Nat
deriving DecidableEq, Repr, Inhabited

/-- Latencies of an oar in ps, L_link and L_pad in steps of 312.5 ps (R288), DAC_DELAY in ns (R169), and JUMP_SETTLE in ns
(R171). -/
structure Latency where
  dHead : Nat
  lLink : Nat
  lPad : Nat
  lLaser : Nat
  dacDelay : Nat
  jumpSettle : Nat
deriving DecidableEq, Repr, Inhabited

/-- State of one axis of a jump or of the observer: angle, rate per frame, acceleration per frame squared (R161, R167). -/
structure AxisState where
  th : Rat
  om : Rat
  al : Rat
deriving DecidableEq, Repr, Inhabited

/-- One quintic of a jump: coefficients c0 to c5 per axis X, Y, F in frames, and its length (R162). -/
structure Quintic where
  coeff : List (List Rat)
  frames : Nat
deriving DecidableEq, Repr, Inhabited

/-- A planned jump (R161 to R165): its quintics in order, and whether it ends at rest at L′. -/
structure JumpPlan where
  seq : Nat
  parts : List Quintic
  hold : Bool
  /-- Grid temperature and latency set that plan and stroke use (R44, R160). -/
  gridTemp : Int
  lat : Latency
deriving DecidableEq, Repr, Inhabited

/-- The course of one stroke (R158, R165, R166, R178, R195). -/
inductive Phase where
  | idle
  | jump
  | check
  | hold
  | leadIn
  | reapproach
  | settle
  | mark
  | stopping
  /-- COMPAT: JUMP_DELAY and MARK_DELAY waits (R195). -/
  | wait
  /-- A test jump, and the settling after it (R171). -/
  | test
deriving DecidableEq, Repr, Inhabited

/-- A piece of the reference trajectory, from an instant on, its time in frames: at rest, a quintic, a line flown at a
constant speed from a point at a distance, a lead-in from rest; speeds in bed LSB per frame (R159, R161 to R166, R195). -/
inductive Traj where
  | rest (th : List Rat)
  | poly (q : Quintic)
  | line (px py ux uy d0 v : Rat) (focus temp : Int)
  | soft (px py ux uy ell v : Rat) (focus temp : Int)
deriving DecidableEq, Repr, Inhabited

/-- A committed edge that has not fired (R173). -/
structure Edge where
  finish : Bool
  frame : Nat
  slot : Nat
  flags : Nat
  /-- Optical time in ps on the frame clock, and the horizon in ns. -/
  optPs : Rat
  horizonNs : Nat
  speed : Nat
deriving DecidableEq, Repr, Inhabited

/-- A fired edge whose placement error is still to be found (R180). -/
structure OpenEdge where
  seq : Nat
  finish : Bool
  frame : Nat
  slot : Nat
  flags : Nat
  optPs : Rat
  horizonNs : Nat
  speed : Nat
  tx : Int
  ty : Int
  ux : Rat
  uy : Rat
  dot : Bool
  gridTemp : Int
  timeS : Nat
  timeNs : Nat
deriving DecidableEq, Repr, Inhabited

/-- Placement statistics of catches or finishes (R192). -/
structure PlaceStat where
  count : Nat
  counted : Nat
  sumA : Int
  sumC : Int
  sqA : Nat
  sqC : Nat
  maxA : Nat
  maxC : Nat
  flags : List Nat
deriving DecidableEq, Repr, Inhabited

/-- A stroke whose finish has left the pad while its light still lags: the DAC carries its power up to the finish's
optical time (R181, R184). -/
structure PowerTail where
  stroke : BufStroke
  plan : Option JumpPlan
  catchPs : Rat
  markPs : Rat
  scales : List (Nat × Nat)
  clamped : Bool
deriving DecidableEq, Repr, Inhabited

/-- The state of a loop slot (R207). -/
inductive SlotState where
  | off
  | man
  | auto
  | track
  | fault
deriving DecidableEq, Repr, Inhabited

/-- The test jumps of an oar (R171): how many are left, the longest settling so far in ns, the point that the present one
ends at, the states that the scanner slots had before, and whether all has gone well. -/
structure TestRun where
  left : Nat
  worst : Nat
  x : Int
  y : Int
  slots : List SlotState
  ok : Bool
deriving DecidableEq, Repr, Inhabited

/-- One exposure engine (chapter 05). -/
structure Engine where
  phase : Phase
  cur : Option BufStroke
  plan : Option JumpPlan
  /-- The stroke after `cur`, its jump planned while `cur` exposes (R163). -/
  next : Option (BufStroke × JumpPlan)
  /-- The next jump starts from the observer's estimates (R223). -/
  fromObs : Bool
  /-- A stroke was taken from the engine in flight; the beam is to be brought to rest. -/
  loose : Bool
  /-- Tick at which the present phase's trajectory began. -/
  t0 : Nat
  /-- Pieces of the reference trajectory with the frame instant each begins at, newest first. -/
  traj : List (Rat × Traj)
  /-- Where the beam stands in bed coordinates when it holds, and the FOCUS_OFFSET and grid of that point. -/
  posX : Int
  posY : Int
  prev : Option Stroke
  /-- Set-points of the next tick per axis, and the rate and acceleration passed with them (R159). -/
  ref : List Int
  refV : List Rat
  refA : List Rat
  obs : List AxisState
  coast : Nat
  /-- Sample instant of the estimate, in ps of the frame clock (R167). -/
  obsPs : Rat
  /-- Samples since the jump, newest first: sample instant in ps, bed innovation squared in LSB², distance from P
  squared in LSB², and the observed along-track speed within its bound (R176, R178). -/
  settle : List (Rat × Rat × Rat × Bool)
  jumpEndPs : Rat
  reflown : Bool
  /-- Tick since which the catch check has failed while the beam holds (R130). -/
  holdSince : Option Nat
  settleSince : Nat
  /-- Committed edges that have not fired, the catch before the finish (R173). -/
  edges : List Edge
  exposing : Bool
  catchPs : Rat
  openEdges : List OpenEdge
  eflags : Nat
  disagreed : Bool
  clampedStroke : Bool
  dac : Nat
  /-- P4 of the present frame. -/
  power : Nat
  trim : Int
  len : Bool
  lenTick : Nat
  lenSettled : Bool
  lgate : Bool
  stepIdx : Nat
  stepEnergy : Rat
  /-- Scales read so far for the 1 mm steps of the stroke in hand (R139). -/
  scales : List (Nat × Nat)
  /-- Normalised distance up to which wake-cell crossings are done, and the instant the beam was there (R126, R131). -/
  cellShare : Rat
  cellPs : Rat
  tail : Option PowerTail
  /-- Slots of the present frame for which the gate has been open (R185). -/
  openSlots : Nat
  /-- Optical instant of the latest finish: the DAC carries the stroke's power up to it (R184). -/
  dacUntil : Rat
  /-- COMPAT: the instant at which the mark trajectory begins (R195). -/
  markPs : Rat
  motion : Motion
  lat : Latency
  map : List Nat
  idleCode : Nat
  jumpSplit : Nat
  jumpLimit : Nat
  reflownCount : Nat
  catchStat : PlaceStat
  finishStat : PlaceStat
  test : Option TestRun
deriving DecidableEq, Repr, Inhabited

/-- One loop slot (R198, R201, R220, R226). I and yf carry 16 fractional bits. -/
structure LoopSlot where
  desc : Option SlotDesc
  staged : Option SlotDesc
  st : SlotState
  /-- The state to which a slot in TRACK returns, AUTO or MAN (R207, R215). -/
  back : SlotState
  integ : Int
  yf : Int
  ePrev : Int
  uPrev : Int
  eLast : Int
  preset : Bool
  man : Int
  outNow : Int
  /-- Output as committed at the previous frame boundary (R214). -/
  outPrev : Int
  ovr : Bool
  overruns : Nat
  consecutive : Nat
  recent : List Bool
  badPeriods : Nat
  goodPeriods : Nat
  cmd : Int
  phase : Nat
  proc : Nat
  lastRun : Nat
  /-- PULSE: position, remainder carried and encoder count at the last reading (R222). -/
  pulse : Int
  pulseRem : Int
  pulseCount : Int
deriving DecidableEq, Repr, Inhabited

/-- A gain table: 32 points EN, KP, KI, KD (R203). -/
structure GainTable where
  pts : List (Nat × Int × Int × Int)
deriving DecidableEq, Repr, Inhabited

/-- A loop trace (R230). -/
structure Trace where
  slots : List Nat
  left : Nat
  addr : Nat
  dropped : Nat
  granted : Bool
deriving DecidableEq, Repr, Inhabited

/-- The loop array (chapter 06). -/
structure Loops where
  slots : List LoopSlot
  gains : List (Nat × GainTable)
  /-- The committed configuration and tables as flash holds them (R228). -/
  storedDescs : List SlotDesc
  storedGains : List (Nat × GainTable)
  inService : List Bool
  /-- Tick at which a processor failed and its plan is still to be adopted (R223). -/
  failing : Option (Nat × Nat)
  /-- GEAR_NUM and GEAR_DEN per encoder input (R222). -/
  gears : List (Int × Nat)
  ain : List (Int × Int)
  ainCode : List Nat
  pwmHz : List Nat
  pwmDuty : List Nat
  traces : List Trace
  loads : List Nat
deriving DecidableEq, Repr, Inhabited

/-- Camera features of a frame (R237, R252). Shape values in Q8.8. -/
structure CamFeat where
  frameNo : Nat
  area : Nat
  peak : Nat
  cx : Nat
  cy : Nat
  len : Nat
  wid : Nat
  orient : Nat
  spatter : Nat
  flags : Nat
  /-- Exposure midpoint in ps on the frame clock. -/
  midPs : Int
  tick : Nat
deriving DecidableEq, Repr, Inhabited

/-- A camera frame being received (R275, R276). -/
structure CamRx where
  frameNo : Nat
  startTick : Nat
  /-- Words received: offset and value. -/
  words : List (Nat × Nat)
  incomplete : Bool
  midPs : Int
  eof : Bool
deriving DecidableEq, Repr, Inhabited

/-- What records take from an oar's engine at a frame tick: the stroke of the span, GATE, DAC, TRIM, S, and whether a
stroke under REC_FULL exposes (R247, R250, R254). -/
structure Mid where
  tick : Nat
  seq : Nat
  repair : Bool
  gate : Bool
  dac : Nat
  trim : Int
  s : Nat
  full : Bool
deriving DecidableEq, Repr, Inhabited

/-- One melt-pool engine (chapter 07). -/
structure Melt where
  cam : CameraArg
  pdOffset : List Nat
  /-- `oar.dark`: samples averaged so far and their sums on PD0 to PD2 (R235). -/
  dark : Option (Nat × Nat × Nat × Nat)
  /-- Samples since the last execution of the oar's slot: PD0, PD1, PD2, valid. -/
  samples : List (Nat × Nat × Nat × Bool)
  monSamples : List Nat
  /-- Latest features: PD0, PD1, PD2, RATIO, invalid, ratioInvalid, sat. -/
  pd : Nat × Nat × Nat × Nat
  pdInvalid : Bool
  ratioInvalid : Bool
  pdSat : Nat
  camFeat : Option CamFeat
  camNew : Bool
  /-- Exposures commanded whose frames have not begun to arrive, oldest first: tick, take and configuration then in force. -/
  starts : List (Nat × Nat × CameraArg)
  /-- Take and configuration in force as the exposure of `rx` started. -/
  rxTake : Nat
  rxCam : CameraArg
  /-- Ticks past, newest first. -/
  hist : List Mid
  rx : Option CamRx
  camCount : Nat
  satCount : Nat
  invalidCount : Nat
  incompleteCount : Nat
  labelOvf : Nat
  /-- Camera correction in force, and one waiting for the next execution (R243). -/
  corr : Int
  corrNext : Option Int
  excursion : Nat
  excDone : Bool
  trimCount : Nat
  trimDone : Bool
  sinceKept : Nat
  grant : Option Nat
  waiting : Bool
  lastDue : Nat
deriving DecidableEq, Repr, Inhabited

/-- One recording ring (R255 to R258). -/
structure Ring where
  configured : Bool
  base : Nat
  size : Nat
  overwrite : Bool
  cb : Nat
  level : Nat
  written : Nat
  consumed : Nat
  dropFrames : Nat
  dropFeatures : Nat
  dropEvents : Nat
  overwritten : Nat
  flags : Nat
  raised : Bool
  dirtyTick : Option Nat
  updS : Nat
  updNs : Nat
  /-- Lengths of the records between CONSUMED and WRITTEN, oldest first. -/
  lens : List Nat
  /-- Totals at which the records of CONTOUR strokes begin that CONSUMED has not passed: R75 carries the flag into recordings,
  whose layouts have no bit for it. -/
  contour : List Nat
deriving DecidableEq, Repr, Inhabited

/-- Drops not yet reported, per oar (0xFF for none) (R262). -/
structure DropAcc where
  oar : Nat
  frames : Nat
  features : Nat
  events : Nat
  cause : Nat
  timeS : Nat
  timeNs : Nat
  /-- The span that holds the instant of the first drop (R250, R262). -/
  seq : Nat
deriving DecidableEq, Repr, Inhabited

/-- The recorder (R247 to R262). -/
structure Recorder where
  take : Nat
  decim : Nat
  gated : Bool
  /-- Take, PD_DECIM and GATED that the next frame tick puts into force (R248). -/
  next : Option (Nat × Nat × Bool)
  rings : List Ring
  /-- Records admitted and not yet in DRAM, oldest first: ring (3 for image and trace data), DRAM address, bytes. -/
  staging : List (Nat × Nat × List Byte)
  drops : List DropAcc
deriving DecidableEq, Repr, Inhabited

/-- The state of a port (R287 to R298). -/
inductive PortState where
  | idle
  /-- Training phase T0 to T5. -/
  | training (phase : Nat)
  /-- Between attempts (R289). -/
  | retryWait
  | trained
  | relock
  | failed
deriving DecidableEq, Repr, Inhabited

/-- An outstanding service request (R301, R302). -/
structure SvcReq where
  tag : Nat
  op : Nat
  addr : Nat
  len : Nat
  data : List Byte
  sentTick : Nat
  repeats : Nat
  /-- It waits for a free request slot of an outbound frame. -/
  due : Bool
deriving DecidableEq, Repr, Inhabited

/-- An outbound frame as it left (R277 to R279): ten block payloads. -/
structure OutFrame where
  blocks : List Nat
deriving DecidableEq, Repr, Inhabited

/-- One Rigger port (chapter 08). -/
structure Port where
  st : PortState
  /-- 0 ACTIVE, 1 RET_SLEEP, 2 OUT_SLEEP, 3 BOTH_SLEEP, 4 IDLE (R295). -/
  sleep : Nat
  /-- Sleep state asked for, frames of the command sent, acknowledgements seen (R296). -/
  sleepReq : Option Nat
  cmdFrames : Nat
  acks : Nat
  attempt : Nat
  phaseTick : Nat
  lossTick : Nat
  failPhase : Nat
  eqWidth : Nat
  eqHeight : Nat
  outPreset : Nat
  autoSleep : Bool
  /-- Per temperature band: the preset list and the last accepted preset (R286). -/
  presets : List (List Nat × Option Nat)
  setUsed : Nat
  preset : Nat
  fallback : Bool
  headFallback : Bool
  rseq : Option Nat
  oseq : Nat
  hstate : Nat
  headCmd : Nat
  missed : Nat
  /-- The latest 64 return blocks, newest in bit 0: set where the sync header was invalid (R268). -/
  syncBits : Nat
  /-- Consecutive return blocks with valid sync headers, up to 64, and whether block lock stands (R268). -/
  syncRun : Nat
  blockLock : Bool
  /-- Consecutive valid frame headers under block lock (R268). -/
  goodFrames : Nat
  headTemp : Option Int
  statSel : Nat
  holdLow : List Nat
  holdCur : List Int
  holdValid : List Bool
  outErr : Option Nat
  dHead : Nat
  dAlign : Nat
  caps : Nat
  camMax : Nat
  parkTime : Nat
  /-- L_link in steps of 312.5 ps (R288). -/
  lLinkMeas : Nat
  svc : List SvcReq
  svcRx : List Byte
  svcTag : Nat
  counters : List Nat
  probe : Nat × Nat
  history : List (Nat × Nat × Nat)
  everTrained : Bool
  lastSample : List Int
  /-- Whether the sample of each axis in the present frame is valid (R168, R215). -/
  sampleOk : List Bool
  /-- State of the outbound scrambler before the present frame (R267). -/
  scr : Nat
  /-- The latest 58 bits that the return receiver has seen, newest in bit 0: the descrambler's state (R267). -/
  dscr : Nat
  /-- The return forwarded clock is present (R290, R291). -/
  fclk : Bool
  /-- A round-trip measurement is under way: sum in ps and count of the round trips so far (R288, R293). -/
  rtDue : Bool
  rtSum : Nat
  rtCount : Nat
  /-- What phase T4 has done: bit 0 the declarations are read, bit 1 the camera registers are written (R287, R305). -/
  decl : Nat
  /-- Frames of the present fast-exit burst that have left, 5 when it is over (R297). -/
  burst : Nat
  /-- Starting equalisation of each preset set, and the receiver's present equalisation (R286, R290). -/
  eqStart : List Nat
  eq : Nat
  /-- Where in the tick the latest return frame arrived, in ps (R231, R270). -/
  arrPs : Nat
  /-- The head was being sent RUN when the port went into training (R285). -/
  runDue : Bool
  /-- The return receiver has frame lock (R268). -/
  frameLock : Bool
  /-- HEAD_ID and LINK_VER as T4 read them (R287, R304). -/
  headId : Nat
  linkVer : Nat
  /-- A write of the camera registers found no frame to leave in and is still owed to the head (R305). -/
  camDue : Bool
  /-- Return frame count of the head less the tick of the frame's arrival, modulo 2^16, once a camera frame has told it (R275). -/
  midBase : Option Nat
deriving DecidableEq, Repr, Inhabited

/-- All ports and what they share. -/
structure Links where
  ports : List Port
  nextProbe : Nat
  probeTick : Nat
  probing : Option Nat
  /-- Last outbound frame of each port. The model's own record. -/
  out : List (List Nat)
deriving DecidableEq, Repr, Inhabited

/-- The state of a slide axis (R342). -/
inductive AxisMode where
  | disabled
  | idle
  | pending
  | moving
  | homing
  | stopping
  | fault
deriving DecidableEq, Repr, Inhabited

/-- A homing search (R326, R327). -/
structure Homing where
  arg : HomeArg
  qualified : Bool
  latch : Option (Int × Int)
  latchTick : Nat
  toggles : Nat
  windowDone : Bool
  failed : Bool
deriving DecidableEq, Repr, Inhabited

/-- A segment of a profile: constant jerk for a time in s (R316). -/
structure Seg where
  dur : Rat
  jerk : Rat
deriving DecidableEq, Repr, Inhabited

/-- A slide axis (R310 to R344). -/
structure SlideAxis where
  desc : Option AxisDesc
  pendingDesc : Option AxisDesc
  st : AxisMode
  /-- Position of the profile in units, exact; displacement by the trim of the loop array since the profile's start
  (R320); speed and acceleration of the profile. -/
  pos : Rat
  off : Rat
  vel : Rat
  acc : Rat
  target : Int
  /-- The profile ends at `target`. -/
  toTarget : Bool
  /-- V_MAX of the move in hand, when the command gave one. -/
  vUse : Option Nat
  /-- Limits in force: V_MAX, A_MAX, D_MAX, J_MAX, and limits waiting for the end of the ramp (R319). -/
  lims : List Nat
  pendLims : Option (List Nat)
  /-- What is left of the profile. -/
  segs : List Seg
  /-- Position issued in steps, in units. -/
  stepPos : Int
  dirHigh : Bool
  /-- Resolution in force, log2 of the divisor, and the code that MS[2:0] shows for it (R313). -/
  micro : Nat
  msCode : Nat
  lastEdgeNs : Nat
  dirNs : Nat
  msNs : Nat
  flags : Nat
  /-- Levels at LIMP_N, LIMN_N and HOME_N, high for true, and whether each is active under its INV flag (R311). -/
  pinP : Bool
  pinN : Bool
  pinH : Bool
  limP : Bool
  limN : Bool
  home : Bool
  /-- A `slide.stop` holds a REPLACE axis until `slide.clear`. -/
  heldStop : Bool
  homing : Option Homing
  /-- Tick since which the profile has ended and the encoder stayed within IN_POS of the target (R339). -/
  inPosSince : Option Nat
  /-- Trim speed in force under ADD (R320). -/
  trim : Rat
  loopSpeed : Int
  /-- Speed that the profile of a REPLACE axis heads for. -/
  loopTgt : Int
  /-- STATUS of the completion of what a stop in progress ends. -/
  stopStatus : Nat
deriving DecidableEq, Repr, Inhabited

/-- An encoder input (R330 to R336, R345). -/
structure Encoder where
  desc : EncDesc
  count : Int
  /-- Edges counted since reset, up less down, which no zeroing and no homing shift touches (R222). -/
  edges : Int
  rem : Int
  conv : Int
  /-- Accepted levels of A, B, I. -/
  a : Bool
  b : Bool
  i : Bool
  glitch : Nat
  quadErr : Nat
  indexErr : Nat
  revCount : Nat
  indexPhase : Option Int
  pHat : Rat
  vHat : Rat
  still : Bool
  lastCountTick : Nat
  stillPair : Option (Int × Nat)
  /-- The µs in which the observer last ran (R335). -/
  obsUs : Nat
  wireFault : Bool
  stuck : Bool
  iSince : Nat
  wireTick : Nat
deriving DecidableEq, Repr, Inhabited

/-- The recoat sequence (R337 to R340). -/
structure Recoat where
  arg : Option RecoatArg
  /-- 0 not running, 1 A, 2 B, 3 C. -/
  step : Nat
  platTarget : Int
  doseTarget : Int
  layer : Nat
  speed : Nat
  linePitch : Nat
  imageEn : Bool
  /-- Axes of the step still to be in position. -/
  waiting : List Nat
  /-- Axes among them that were still stopping at resume: their moves start once they are at rest (R340). -/
  resting : List Nat
  suspended : Bool
  faulted : Bool
deriving DecidableEq, Repr, Inhabited

/-- Slide axes and encoders. -/
structure Slides where
  axes : List SlideAxis
  encs : List Encoder
  recoat : Recoat
deriving DecidableEq, Repr, Inhabited

/-- A bed-image line in progress (R349 to R356). -/
structure LineRx where
  k : Nat
  dir : Nat
  flags : Nat
  encCount : Int
  sent : Bool
  startTick : Nat
  strings : Nat
  current : Nat
  words : List (Nat × Nat)
  eof : Bool
  midPs : Int
  pulsed : Bool
  /-- Frame tick and device time of the trigger edge (R349). -/
  edgeTick : Nat
  edge : Nat × Nat
deriving DecidableEq, Repr, Inhabited

/-- The image being taken (R355 to R357). -/
structure ImageRun where
  layer : Nat
  n : Nat
  pitch : Nat
  next : Nat
  written : Nat
  incomplete : Nat
  notTaken : Nat
  strobeFault : Nat
  /-- 0 EMPTY, 1 FILLING, 2 COMPLETE, 3 ABSENT. -/
  state : Nat
  resumed : Bool
  armed : Bool
  /-- The count has reached the points of the lines below this number, moving towards IMG_END (R347). -/
  backlog : Nat
  /-- Lines above `next` that are already written as NOT_TAKEN (R350). -/
  missed : List Nat
deriving DecidableEq, Repr, Inhabited

/-- An LED channel (R359 to R365). -/
structure LedChan where
  configured : Bool
  rsense : Nat
  iSet : Nat
  vShort : Nat
  fault : Bool
  /-- Result of the latest sample: 0 none, 1 OPEN, 2 SHORT, 3 OVERCURRENT, and how often in a row. -/
  result : Nat
  run : Nat
  senseUv : Nat
  stringMv : Nat
  /-- Pulses of the last 10 ms: start in ns of the frame clock, width in ns. -/
  pulses : List (Nat × Nat)
  gate : Bool
  /-- The pulse, or the present 1 ms, has been sampled. -/
  sampled : Bool
  /-- A test for `led.clear`: 0 none, 1 awaited, 2 passed, 3 failed. -/
  test : Nat
  level : Nat
  pattern : Nat
  chosen : Nat
  phaseMs : Nat
  map : List Nat
  ms : Nat
deriving DecidableEq, Repr, Inhabited

/-- Imaging and light (chapter 10). -/
structure Imaging where
  cfg : Option ImageArg
  slots : List ImageRun
  run : Option ImageRun
  line : Option LineRx
  single : Option (Nat × Nat)
  leds : List LedChan
  patterns : List (List PatternStep)
  lamp : Option LampArg
  lampTemp : Option Int
  /-- Derating factor as a fraction. -/
  factor : Rat
  /-- Condition 4 of R29 for the layer at the head. -/
  ready : Bool
  /-- LINE_ECHO and BUSY of the latest valid frame of P32 (R352). -/
  lineEcho : Nat
  lineBusy : Bool
  /-- Start of the present 1 ms of the patterns, and the mode they were chosen for. -/
  baseTick : Nat
  ledMode : Mode
deriving DecidableEq, Repr, Inhabited

/-- An Ethernet port (R428, R429, R432, R450). -/
structure EthPort where
  up : Bool
  mac : Nat
  vlan : Option (Nat × Nat)
  ipv4 : Option Nat
  txCorr : Int
  rxCorr : Int
  /-- Received: PTP, ARP, gang, wake; dropped: PTP, ARP, gang, wake, other. -/
  rx : List Nat
  dropped : List Nat
  arp : Nat
deriving DecidableEq, Repr, Inhabited

/-- A PTP domain (R433 to R436). -/
structure Domain where
  cfg : TimeDomainArg
  locked : Bool
  lost : Bool
  seen : Bool
  offset : Int
  mpd : Int
  window : List Int
  good : Nat
  lastSync : Nat
  lastAnnounce : Nat
  gm : Option AnnounceMsg
  /-- Latest Announce of each master heard, with its tick (R433). -/
  masters : List (AnnounceMsg × Nat)
  /-- As MASTER: the intervals of device time for which Sync and Announce have been sent (R435). -/
  syncTurn : Nat
  announceTurn : Nat
  t1 : Int
  t2 : Int
  t3 : Int
  /-- A two-step Sync waits for its Follow_Up. -/
  await : Bool
  /-- A Delay_Req waits for its Delay_Resp, the Sync before it complete. -/
  asked : Bool
  /-- Device time in ns at the latest lock (R441). -/
  lockedSince : Nat
  overStep : Nat
deriving DecidableEq, Repr, Inhabited

/-- A gang peer (R446 to R448). -/
structure Peer where
  present : Bool
  known : Bool
  helloTick : Nat
  apparent : Option Int
  gseq : List Nat
  skew : Int
  inExcursion : Bool
  mismatch : Bool
  applied : Nat
  discarded : Nat
  dropped : Nat
deriving DecidableEq, Repr, Inhabited

/-- Ethernet, time and ganging (chapter 13) and the time snapshot (R414). -/
structure Time where
  sec : Nat
  /-- Nanoseconds of the second, exact (fraction in 1/256 ns when shown). -/
  ns : Rat
  tick : Nat
  /-- Rate in 0.001 ppb. -/
  rate : Int
  integ : Rat
  steps : Nat
  eth : List EthPort
  doms : List Domain
  servoBw : Nat
  stepNs : Nat
  lockNs : Nat
  slewPpm : Nat
  blendS : Nat
  steer : Option Nat
  /-- 0 domain 0, 1 domain 1, 2 AUTO (R450). -/
  select : Nat
  blend : Int
  /-- Device time in ns at the latest change of the steering domain (R441). -/
  blendNs : Nat
  firstLock : Bool
  deferredStep : Option Int
  /-- The step that waits is that of the first lock (R437, R440). -/
  deferredFirst : Bool
  gangSize : Nat
  deviceNo : Nat
  gangPorts : Nat
  recoveredRef : Bool
  skewMax : Nat
  peers : List Peer
  gseq : Nat
  /-- The 1 ms interval of device time for which a HELLO has been sent (R27, R447). -/
  helloTurn : Nat
  /-- Frames sent, newest first: port and bytes. The model's own record. -/
  out : List (Nat × List Byte)
  snapTaken : Bool
  snapSec : Nat
  snapNs : Nat
  snapFrac : Nat
  snapTick : Nat
deriving DecidableEq, Repr, Inhabited

end Sys2Proof.Machine
end

