-- ==== Sys2Proof/Machine/State.lean ====
section
/-! DEFINITION. The whole state of the CQ3200, the reasons a step can stop, and the state right after a Full reset. -/

namespace Sys2Proof.Machine

/-- What flash holds beside the geometry, loop configuration, safety sets, firmware and plans kept elsewhere: motion,
latencies, power maps, rated powers, PD_OFFSET, LED, lamp and imaging configuration (R169, R183, R194, R235, R362,
R534, R579). -/
structure Flash where
  motion : List Motion
  lat : List Latency
  map : List (List Nat × Nat)
  power : List (Nat × Nat)
  pdOffset : List (List Nat)
  /-- Per LED channel, once configured: RSENSE, I_SET, V_SHORT. -/
  leds : List (Option (Nat × Nat × Nat))
  lamp : Option LampArg
  img : Option ImageArg
  /-- The bin of the DRAM training saved last, with the rank roles it was made for (R369, R506). -/
  training : Option (Nat × List (List Nat) × List (List Int))
deriving DecidableEq, Repr, Inhabited

/-- Everything of the device but device DRAM contents and the command queue: one record per chapter. -/
structure Dev where
  host : HostIf
  logs : Logs
  fuses : Fuses
  pins : Pins
  ump : Umpire
  mode : ModeCtl
  gov : Governor
  therm : Thermal
  clk : Clocks
  boot : Boot
  cal : Cal
  mc : MemCtl
  geo : Geo
  lib : Library
  layers : Layers
  mar : Marshal
  eng : List Engine
  loops : Loops
  melt : List Melt
  recd : Recorder
  links : Links
  slides : Slides
  img : Imaging
  time : Time
  flash : Flash
  /-- Free values drawn so far (the model's own field, DESIGN CHOICE, log 8). -/
  free : Nat
deriving DecidableEq, Repr, Inhabited

/-- The machine: commands that wait, first in first out; device DRAM contents; the device. -/
structure State where
  pending : List Instr
  dram : Dram
  dev : Dev
deriving DecidableEq, Repr

/-- No step of this device ends in a fault: errors are STATUS codes, records and trips (R417, R456, R547). -/
inductive Fault where
deriving DecidableEq, Repr

/-- Reasons for a refusal. -/
inductive Refusal where
  /-- Raised by Dispatch for a row that has no meaning yet; safe. -/
  | notModelled (mnemonic : String)
deriving DecidableEq, Repr

/-! ## The state right after a Full reset (R14, R495, R497; values the spec does not give: log 3 to 11) -/

/-- R407: FREE. -/
def Mailbox.reset : Mailbox where
  st := .free
  cmd := []
  resp := none
  seq := 0
  startTick := none
  effect := false
  logSeq := 0
  accepted := 0
  timeouts := 0
  errs := 0
  longest := 0

/-- R401: every IRQ register 0. -/
def Irq.reset : Irq where
  cause := 0
  enable := 0
  holdoff := 0
  last := []
  held := []
  table := List.replicate 64 (0, 0, false)
  pba := 0

/-- R422: the completion timeout; the rest as log 16 has it. -/
def PciConfig.reset : PciConfig := ⟨false, 30, false, 50000, true, 128, 512, false, false, 0⟩

/-- R399, R424: a DMA channel is stopped. -/
def DmaChan.reset : DmaChan where
  base := 0
  entries := 0
  pollUs := 0
  running := false
  index := 0
  phase := true
  pollTick := 0
  cur := none
  done := 0
  bytes := 0
  errs := [0, 0, 0, 0]

/-- Chapter 12 after a Full reset (R401). -/
def HostIf.reset : HostIf where
  linkUp := false
  lanes := 0
  rate := 0
  cfg := PciConfig.reset
  cfg1 := { PciConfig.reset with pf1 := true }
  link1Up := false
  aer0 := 0
  aer1 := 0
  irq0 := Irq.reset
  irq1 := Irq.reset
  msgs := []
  mbx := List.replicate 17 Mailbox.reset
  mbxErr := 0
  acceptSeq := 0
  modeReq := ⟨0, 0, 0, false⟩
  hostStop := false
  logSelect := 0
  spoilSelect := 0
  bar2Base := 0
  unfenced := []
  jobs := []
  completions := []
  nextId := 1
  cqSeq := 0
  cq := none
  hostOut := []
  dma := List.replicate 8 DmaChan.reset
  serviceOn := false
  badReads := 0
  badWrites := 0
  denials := 0
  bus := ⟨false, false, []⟩

/-- Chapter 17's logs after a Full reset: chip empty, the chain at its production start (R544, R545, DESIGN CHOICE, log 5). -/
def Logs.reset : Logs where
  chip := []
  journal := []
  nextLog := 1
  chain := List.replicate 32 0
  base := List.replicate 32 0
  restartDue := false
  waitTick := none
  spoil := []
  spoilNewest := 0
  spoilRelease := 0
  overflow := List.replicate 17 0
  health := []
  nextHealth := 1

/-- Log 3. -/
def Fuses.reset : Fuses where
  part16 := false
  rstMap := 0
  compatLock := false
  keyRevoke := 0
  keyHash := List.replicate 4 (List.replicate 48 0)
  svnMin := 0
  stepping := 0
  package := 0
  serial := 0
  caps := 3
  macA := 0
  macB := 1

/-- Log 4; outputs by R497. -/
def Pins.reset : Pins where
  compat := false
  estopA := true
  estopB := true
  intlk := true
  perst := false
  vddAon := true
  vbat := true
  railBad := List.replicate 5 false
  railTick := List.replicate 5 0
  safeToggling := false
  safeA := false
  safeB := false
  safeCntA := 0
  safeCntB := 0
  wdogOut := false
  therm := false
  pwrEn := true
  pewake := false
  gpio := 0
  forced := false
  trstLow := true
  tapInstr := 3
  rext := 10000

/-- R452. -/
def UCore.reset : UCore where
  inService := true
  live := true
  differs := 0
  outs := []
  stays := false
  vote := 0

/-- What the Umpire keeps of one oar, after a restart. -/
def OarSafe.reset : OarSafe where
  cause := 0
  lalmLow := false
  lalmSince := 0
  tapNoise := 0
  tapBadTick := 0
  frameBadTick := 0
  posCnt := 0
  monCnt := 0
  tapBad := 0
  dacLine := []
  refs := []
  lastProof := none
  rotation := 0
  gapTicks := 0
  gapSince := none

/-- R401, R451 to R477: three cores in service, every cut path open, no set loaded. -/
def Umpire.reset : Umpire where
  cores := List.replicate 3 UCore.reset
  degraded := false
  lastCore := 0
  closed := 0
  trip := 0
  oars := List.replicate 32 OarSafe.reset
  safeCause := 0
  safeOar := 0
  disagreeSince := none
  latched := false
  bothLow := false
  clockCut := false
  active := none
  staged := none
  copy1 := none
  copy2 := none
  proof := none
  proofQueue := []
  proofResults := []
  round := false
  heartbeats := [0, 0, 0, 0]
  hbWatch := false
  hbMissing := []
  events := []
  nextEvent := 0
  faultResume := true
  holdBlock := none
  recoveries := []
  timeSkew := 0
  thermalDown := false

/-- R495: after every reset level the mode is Start. -/
def ModeCtl.reset : ModeCtl where
  mode := .start
  transition := false
  urgent := false
  holdFrom := .ready
  holdCauses := []
  holdTick := 0
  entry := none
  lastFrom := .off
  lastTrigger := 0
  lastS := 0
  lastNs := 0
  ticksIn := List.replicate 8 0
  wakeArmed := 0
  resumeDue := false

/-- R533. -/
def LeaveCount.reset : LeaveCount where
  requests := 0
  grants := 0
  deferrals := 0
  refAlone := 0
  refMode := 0
  refCap := 0
  revocations := 0
  longest := 0

/-- R522: budgets at their defaults. -/
def Governor.reset : Governor where
  grants := []
  waiting := []
  nextId := 1
  chipBudget := 45000
  plantBudget := 1000
  counts := List.replicate 6 LeaveCount.reset
  power := List.replicate 32 (0, 0)
  layerPlant := 0

/-- Log 7: 25.00 C, band T1, VDD_CORE 0.85 V. -/
def Thermal.reset : Thermal where
  c100 := 2500
  broken := false
  band := 1
  minC := 2500
  maxC := 2500
  changes := 0
  fallSince := none
  guardBand := 1
  hotFiled := false
  coldFiled := false
  baseUv := 850000
  targetUv := 850000
  setUv := 850000
  readUv := 850000
  avsFails := 0
  avsFault := false
  avsTick := 0
  avsStatus := 0
  uvSince := none
  lastInterp := 2500
  power := []

/-- R485. -/
def PllPair.reset : PllPair where
  active := 0
  standby := false
  switchovers := 0
  failTick := 0
  restartTick := none
  dead := false

/-- R483 (REFCLK is the default); the plan by log 5. -/
def Clocks.reset : Clocks where
  sel := 0
  qualified := [false, false, false]
  lossTick := [0, 0, 0]
  trimTick := none
  lost := none
  mux := none
  iroPpb := 0
  lastCorrection := 0
  trimRef := 3
  locks := List.replicate 7 false
  fabric := PllPair.reset
  exposure := PllPair.reset
  coxMHz := 1600
  divisor := 2
  storedCox := 1600
  storedDiv := 2
  raw := none
  gated := []
  gateTimeouts := 0
  bypasses := 0
  abandons := 0
  ppm := [0, 0, 0]

/-- R505: an initialised record. -/
def KeepRec.reset : KeepRec where
  valid := true
  lastReset := 0
  starts := 0
  faultS := 0
  faultCode := 0
  faultFlags := 0
  lastStep := 0
  bootInfo := 0
  steps := List.replicate 15 0
  portFail := List.replicate 33 0
  portSkip := 0

/-- Log 5: the image that slot A holds, its header as R506 lays it out. -/
def FwSlot.first : FwSlot where
  header := [0x57, 0x46, 0x43, 0x51, 1, 0, 0, 0, 0, 0, 1, 0] ++ List.replicate 500 0
  fwVersion := 0x010000
  svn := 0
  keyIndex := 0
  pubHash := List.replicate 48 0
  sigOk := true
  bodyOk := true

/-- The ladder stands at S0 after a Full reset by PORn. -/
def Boot.reset : Boot where
  level := .full
  standbyExit := false
  next := 0
  stepTick := 0
  halted := false
  skipped := false
  calFailed := false
  keep := KeepRec.reset
  causeLevel := 0
  causeSource := 0
  causeBits := 0
  resetActive := none
  resetSource := 0
  delayedReset := none
  fusePulse := []
  wdogBefore := false
  thermBefore := false
  compatPin := false
  compat := false
  slotA := some FwSlot.first
  slotB := none
  running := none
  preferred := 0
  otherSlot := false
  inReset := []
  coxCores := 15
  keepSec := 0
  keepSub := 0
  keepPre := 0
  crystalStopped := false

/-- R537: factory sets are filled. -/
def CalInst.reset : CalInst where
  result := 0
  timeS := 0
  timeNs := 0
  c100 := 0
  sets := List.replicate 5 true
  failed := false
  coefs := List.replicate 5 0
  made := List.replicate 5 0
  work := 0

/-- R535 to R542. -/
def Cal.reset : Cal where
  blocks := [List.replicate 32 CalInst.reset, List.replicate 32 CalInst.reset, List.replicate 8 CalInst.reset,
    [CalInst.reset], List.replicate 12 CalInst.reset, List.replicate 24 CalInst.reset]
  run := none
  pendingInterp := 0
  wearUv := 0
  t2 := 8500
  t3 := 10500
  history := []
  buildTicks := 0
  replanSince := none
  marginLow := false
  iroSum := 0
  padBase := 0

/-- Log 15: two working x8 16 Gbit ranks and a spare on each channel. -/
def DramChan.reset : DramChan where
  chips := List.replicate 3 ⟨true, 8, 16⟩
  ranks := [.working, .working, .spare]
  roles := [0, 1]
  mapRanks := [.working, .working, .spare]
  mapRoles := [0, 1]
  mig := none
  testing := none
  ce := [0, 0, 0]
  ue := [0, 0, 0]
  ceTicks := [[], [], []]

/-- R372, R373, R377, R379, R383, R386, R387: defaults. -/
def MemCtl.reset : MemCtl where
  chans := [DramChan.reset, DramChan.reset]
  bin := 0
  order := 3
  k := 11
  scrubH := 24
  ceLimit := 1000
  migRate := 4
  qos := [4, 2, 1]
  scrubPos := 0
  scrubDue := 0
  panic0 := false
  panic1 := false
  panicCounts := [0, 0]
  lastPause := [0, 0, 0, 0]
  dueSince := [none, none, none, none]
  retrainLate := 0
  deltas := [[], [], [], []]
  timing := List.replicate 4 (List.replicate 40 0)
  margin := 10
  refresh := 1
  refreshCount := 0
  refreshDue := 0
  errs := []
  exhausted := false
  neighbourCount := 0
  neighbours := []

/-- R64: an empty geometry. -/
def Geometry.empty : Geometry where
  bed := none
  sets := List.replicate 32 (List.replicate 4 none)
  fields := List.replicate 32 []
  zones := List.replicate 64 none
  stitch := []
  masks := []
  trans := List.replicate 32 ⟨0, 0⟩
  resid := 0

/-- R45, R64. -/
def OarGeo.reset : OarGeo where
  grid := none
  ready := none
  blending := none
  invalidFiled := false

/-- R64, R65. -/
def Geo.reset : Geo where
  active := Geometry.empty
  staged := Geometry.empty
  stored := Geometry.empty
  oars := List.replicate 32 OarGeo.reset
  disabled := 0

/-- R88. -/
def Library.reset : Library where
  params := []
  profiles := []
  targets := []
  tables := []

/-- R102. -/
def Layers.reset : Layers where
  checking := []
  early := none
  queue := []
  released := none
  closed := []
  firstSinceReset := true
  recoatDone := false
  recoatStarted := false
  recoatVoid := false
  waitSince := none
  afterSafe := false

/-- An empty stroke buffer. -/
def OarQueue.reset : OarQueue where
  buf := []
  drain := 0
  lastX := 0
  lastY := 0
  run := none
  keptFor := none

/-- The reader before the first record. -/
def ParseState.start : ParseState := ⟨none, 0, 0, false, none, 0, 0⟩

/-- R108, R113, R116, R133, R134: defaults, empty maps. -/
def Marshal.reset : Marshal where
  horizon := 10000
  balance := 20
  orphanMs := 100
  inHorizon := 10000
  inBalance := 20
  inOrphan := 100
  nextRec := 0
  parse := ParseState.start
  skipped := []
  window := []
  repairs := []
  waitRepairs := []
  pending := []
  oars := List.replicate 32 OarQueue.reset
  orphanRaised := false
  rebuildDue := false
  openMarks := []
  gangMarks := []
  marksTurn := 0
  wake := []
  edge := 64000
  energyLsb := 1000
  heat := []
  lastTau := none
  overruns := 0

/-- R194: the defaults. -/
def Motion.default : Motion where
  obsBw := 20000
  rateMax := none
  accMax := none
  nSettle := 8
  settleTol := 5000
  dotTol := 2000
  dotSettleMax := 100
  predWarn := 10
  backstopPct := 5
  reapproachMin := 200
  lenSettle := 1000

/-- R169: L_laser and DAC_DELAY 0; the measured terms by log 7. -/
def Latency.reset : Latency := ⟨0, 0, 0, 0, 0, 0⟩

/-- R192: cleared statistics. -/
def PlaceStat.reset : PlaceStat where
  count := 0
  counted := 0
  sumA := 0
  sumC := 0
  sqA := 0
  sqC := 0
  maxA := 0
  maxC := 0
  flags := List.replicate 11 0

/-- R183: the linear map. -/
def linearMap : List Nat := (List.range 32).map (2048 * ·) ++ [0xFFFF]

/-- Chapter 05: idle, LEN and LGATE low, the observer at 0 (DESIGN CHOICE, log 7). -/
def Engine.reset : Engine where
  phase := .idle
  cur := none
  plan := none
  next := none
  fromObs := false
  loose := false
  t0 := 0
  traj := []
  posX := 0
  posY := 0
  prev := none
  ref := [0, 0, 0]
  refV := [0, 0, 0]
  refA := [0, 0, 0]
  obs := List.replicate 3 ⟨0, 0, 0⟩
  coast := 0
  obsPs := 0
  settle := []
  jumpEndPs := 0
  reflown := false
  holdSince := none
  settleSince := 0
  edges := []
  exposing := false
  catchPs := 0
  openEdges := []
  eflags := 0
  disagreed := false
  clampedStroke := false
  dac := 0
  power := 0
  trim := 0
  len := false
  lenTick := 0
  lenSettled := false
  lgate := false
  stepIdx := 0
  stepEnergy := 0
  scales := []
  cellShare := 0
  cellPs := 0
  tail := none
  openSlots := 0
  dacUntil := 0
  markPs := 0
  motion := Motion.default
  lat := Latency.reset
  map := linearMap
  idleCode := 0
  jumpSplit := 0
  jumpLimit := 0
  reflownCount := 0
  catchStat := PlaceStat.reset
  finishStat := PlaceStat.reset
  test := none

/-- R228: OFF. -/
def LoopSlot.reset : LoopSlot where
  desc := none
  staged := none
  st := .off
  back := .off
  integ := 0
  yf := 0
  ePrev := 0
  uPrev := 0
  eLast := 0
  preset := false
  man := 0
  outNow := 0
  outPrev := 0
  ovr := false
  overruns := 0
  consecutive := 0
  recent := []
  badPeriods := 0
  goodPeriods := 0
  cmd := 0
  phase := 0
  proc := 0
  lastRun := 0
  pulse := 0
  pulseRem := 0
  pulseCount := 0

/-- R197: the home processor of a slot. -/
def homeProc (s : Nat) : Nat :=
  if s < 96 then s / 12 else if s < 128 then (s - 96) / 4 else if s < 136 then s - 128
  else if s < 144 then s - 136 else (s - 144) / 2

/-- Chapter 06 after a reset. -/
def Loops.reset : Loops where
  slots := (List.range 160).map fun s => { LoopSlot.reset with proc := homeProc s }
  gains := []
  storedDescs := []
  storedGains := []
  inService := List.replicate 8 true
  failing := none
  gears := List.replicate 8 (1, 1)
  ain := List.replicate 8 (65536, 0)
  ainCode := List.replicate 8 0
  pwmHz := List.replicate 8 1000
  pwmDuty := List.replicate 8 0
  traces := []
  loads := []

/-- R232: the camera's defaults. -/
def CameraArg.default : CameraArg where
  en := 0
  x0 := 64
  y0 := 64
  w := 128
  h := 128
  period := 80
  exposureNs := 10000
  thresh := 512
  spatMin := 4

/-- Chapter 07 after a Full reset. -/
def Melt.reset : Melt where
  cam := CameraArg.default
  pdOffset := [0, 0, 0]
  dark := none
  samples := []
  monSamples := []
  pd := (0, 0, 0, 0)
  pdInvalid := true
  ratioInvalid := true
  pdSat := 0
  camFeat := none
  camNew := false
  starts := []
  rxTake := 0
  rxCam := CameraArg.default
  hist := []
  rx := none
  camCount := 0
  satCount := 0
  invalidCount := 0
  incompleteCount := 0
  labelOvf := 0
  corr := 0
  corrNext := none
  excursion := 0
  excDone := false
  trimCount := 0
  trimDone := false
  sinceKept := 0
  grant := none
  waiting := false
  lastDue := 0

/-- R255, R259: unconfigured. -/
def Ring.reset : Ring where
  configured := false
  base := 0
  size := 0
  overwrite := false
  cb := 0
  level := 0
  written := 0
  consumed := 0
  dropFrames := 0
  dropFeatures := 0
  dropEvents := 0
  overwritten := 0
  flags := 0
  raised := false
  dirtyTick := none
  updS := 0
  updNs := 0
  lens := []
  contour := []

/-- R259: take OFF. -/
def Recorder.reset : Recorder where
  take := 0
  decim := 1
  gated := false
  next := none
  rings := List.replicate 3 Ring.reset
  staging := []
  drops := []

/-- Chapter 08: electrical idle, the port not yet trained (R287, R307); EQ minima of R287. -/
def Port.reset : Port where
  st := .idle
  sleep := 4
  sleepReq := none
  cmdFrames := 0
  acks := 0
  attempt := 0
  phaseTick := 0
  lossTick := 0
  failPhase := 0
  eqWidth := 20
  eqHeight := 30
  outPreset := 0
  autoSleep := false
  presets := List.replicate 4 (List.range 8, none)
  setUsed := 1
  preset := 0
  fallback := false
  headFallback := false
  rseq := none
  oseq := 0
  hstate := 0
  headCmd := 1
  missed := 0
  syncBits := 0
  goodFrames := 0
  headTemp := none
  statSel := 0
  holdLow := [0, 0, 0]
  holdCur := [0, 0, 0]
  holdValid := [false, false, false]
  outErr := none
  dHead := 0
  dAlign := 0
  caps := 0
  camMax := 0
  parkTime := 0
  lLinkMeas := 0
  svc := []
  svcRx := []
  svcTag := 0
  counters := List.replicate 18 0
  probe := (0, 0)
  history := []
  everTrained := false
  lastSample := [0, 0, 0]
  sampleOk := [false, false, false]
  syncRun := 0
  blockLock := false
  dscr := 0
  fclk := true
  rtDue := false
  rtSum := 0
  rtCount := 0
  decl := 0
  burst := 0
  eqStart := List.replicate 4 0
  eq := 0
  scr := 0
  arrPs := 0
  runDue := false
  frameLock := false
  headId := 0
  linkVer := 0
  camDue := false
  midBase := none

/-- The 33 ports. -/
def Links.reset : Links where
  ports := List.replicate 33 Port.reset
  nextProbe := 0
  probeTick := 0
  probing := none
  out := List.replicate 33 []

/-- R310, R342: position 0, unhomed, DISABLED. -/
def AxisDesc.default (n : Nat) : AxisDesc where
  axis := n
  aflags := 0
  encSel := 0xFF
  loopUse := 0
  microFine := 0
  microCoarse := 0
  msMap := 0x86543210
  vMax := 0
  aMax := 0
  dMax := 0
  jMax := 0
  msUp := 500000
  msDown := 400000
  stepW := 100
  dirSetup := 200
  msSetup := 100
  elecOffset := 0
  trimMax := 0
  followMax := 0
  inPos := 0
  moveDrawW := 0
  softMin := 0
  softMax := 0

/-- A slide axis after a reset. -/
def SlideAxis.reset (n : Nat) : SlideAxis where
  desc := some (AxisDesc.default n)
  pendingDesc := none
  st := .disabled
  pos := 0
  off := 0
  vel := 0
  acc := 0
  target := 0
  toTarget := false
  vUse := none
  lims := [0, 0, 0, 0]
  pendLims := none
  segs := []
  stepPos := 0
  dirHigh := false
  micro := 0
  msCode := 0
  lastEdgeNs := 0
  dirNs := 0
  msNs := 0
  flags := 0
  pinP := true
  pinN := true
  pinH := true
  limP := false
  limN := false
  home := false
  heldStop := false
  homing := none
  inPosSince := none
  trim := 0
  loopSpeed := 0
  loopTgt := 0
  stopStatus := 0

/-- R345: an encoder input at the descriptor's defaults. -/
def Encoder.reset (n : Nat) : Encoder where
  desc := ⟨n, 0, 0, 2, 2000, 1, 1, 0, 0, 100, 50000⟩
  count := 0
  edges := 0
  rem := 0
  conv := 0
  a := false
  b := false
  i := false
  glitch := 0
  quadErr := 0
  indexErr := 0
  revCount := 0
  indexPhase := none
  pHat := 0
  vHat := 0
  still := true
  lastCountTick := 0
  stillPair := none
  obsUs := 0
  wireFault := false
  stuck := false
  iSince := 0
  wireTick := 0

/-- No recoat roles, no sequence. -/
def Recoat.reset : Recoat where
  arg := none
  step := 0
  platTarget := 0
  doseTarget := 0
  layer := 0
  speed := 0
  linePitch := 0
  imageEn := false
  waiting := []
  resting := []
  suspended := false
  faulted := false

/-- Chapter 09 after a reset. -/
def Slides.reset : Slides where
  axes := (List.range 8).map SlideAxis.reset
  encs := (List.range 8).map Encoder.reset
  recoat := Recoat.reset

/-- An LED channel that no `led.config` has set. -/
def LedChan.reset : LedChan where
  configured := false
  rsense := 0
  iSet := 0
  vShort := 0
  fault := false
  result := 0
  run := 0
  senseUv := 0
  stringMv := 0
  pulses := []
  gate := false
  sampled := false
  test := 0
  level := 0
  pattern := 0xFF
  chosen := 0xFF
  phaseMs := 0
  map := List.replicate 5 0xFF
  ms := 0

/-- Chapter 10: gates low, no configuration in force (R362, R579). -/
def Imaging.reset : Imaging where
  cfg := none
  slots := []
  run := none
  line := none
  single := none
  leds := List.replicate 12 LedChan.reset
  patterns := List.replicate 16 []
  lamp := none
  lampTemp := none
  factor := 1
  ready := false
  lineEcho := 0
  lineBusy := false
  baseTick := 0
  ledMode := .start

/-- R428, R432: down, fused addresses, default corrections in 1/256 ns. -/
def EthPort.reset (mac : Nat) : EthPort where
  up := false
  mac := mac
  vlan := none
  ipv4 := none
  txCorr := 9830
  rxCorr := -11469
  rx := [0, 0, 0, 0]
  dropped := [0, 0, 0, 0, 0]
  arp := 0

/-- R435: domain d on port d, SLAVE, Default profile; the rest by log 7. -/
def Domain.reset (d : Nat) : Domain where
  cfg := ⟨d, d, d, 0, 0, 0, 1, 0, if d = 0 then 1 else 0⟩
  locked := false
  lost := false
  seen := false
  offset := 0
  mpd := 0
  window := []
  good := 0
  lastSync := 0
  lastAnnounce := 0
  gm := none
  masters := []
  syncTurn := 0
  announceTurn := 0
  t1 := 0
  t2 := 0
  t3 := 0
  await := false
  asked := false
  lockedSince := 0
  overStep := 0

/-- R448: no peer heard. -/
def Peer.reset : Peer where
  present := false
  known := false
  helloTick := 0
  apparent := none
  gseq := []
  skew := 0
  inExcursion := false
  mismatch := false
  applied := 0
  discarded := 0
  dropped := 0

/-- R431, R437, R438, R441, R443: device time from the Keep counter, defaults. -/
def Time.reset (sec macA macB : Nat) : Time where
  sec := sec
  ns := 0
  tick := 0
  rate := 0
  integ := 0
  steps := 0
  eth := [EthPort.reset macA, EthPort.reset macB]
  doms := [Domain.reset 0, Domain.reset 1]
  servoBw := 100
  stepNs := 100000
  lockNs := 1000
  slewPpm := 100
  blendS := 10
  steer := none
  select := 2
  blend := 0
  blendNs := 0
  firstLock := false
  deferredStep := none
  deferredFirst := false
  gangSize := 1
  deviceNo := 0
  gangPorts := 2
  recoveredRef := false
  skewMax := 1000
  peers := List.replicate 4 Peer.reset
  gseq := 0
  helloTurn := 0
  out := []
  snapTaken := false
  snapSec := 0
  snapNs := 0
  snapFrac := 0
  snapTick := 0

/-- Flash with nothing stored (DESIGN CHOICE, log 5). -/
def Flash.reset : Flash where
  motion := List.replicate 32 Motion.default
  lat := List.replicate 32 Latency.reset
  map := List.replicate 32 (linearMap, 0)
  power := List.replicate 32 (0, 0)
  pdOffset := List.replicate 32 [0, 0, 0]
  leds := List.replicate 12 none
  lamp := none
  img := none
  training := none

/-- The device right after a Full reset. -/
def Dev.reset : Dev where
  host := HostIf.reset
  logs := Logs.reset
  fuses := Fuses.reset
  pins := Pins.reset
  ump := Umpire.reset
  mode := ModeCtl.reset
  gov := Governor.reset
  therm := Thermal.reset
  clk := Clocks.reset
  boot := Boot.reset
  cal := Cal.reset
  mc := MemCtl.reset
  geo := Geo.reset
  lib := Library.reset
  layers := Layers.reset
  mar := Marshal.reset
  eng := List.replicate 32 Engine.reset
  loops := Loops.reset
  melt := List.replicate 32 Melt.reset
  recd := Recorder.reset
  links := Links.reset
  slides := Slides.reset
  img := Imaging.reset
  time := Time.reset 0 0 1
  flash := Flash.reset
  free := 0

/-- The machine right after a Full reset: no command waits, DRAM lists nothing. -/
def State.reset : State where
  pending := []
  dram := ⟨[], [], []⟩
  dev := Dev.reset

end Sys2Proof.Machine
end

