-- ==== Sys2Proof/Machine/Arith.lean ====
section
/-! DEFINITION. Check codes (R271), digests and signatures (R507, R543), rounding, roots: the computations that the
chapters share, on numbers and bytes. -/

namespace Sys2Proof.Machine

/-! ## Rounding and fixed point -/

/-- The nearest integer, ties away from zero (R41, R182, R202). -/
def roundRat (q : Rat) : Int := if 0 ≤ q then (q + 1 / 2).floor else -((-q + 1 / 2).floor)

/-- A value of a recursive estimate at the resolution at which it is kept, 2^-48 (DESIGN CHOICE, log 13). -/
def fine (q : Rat) : Rat := ((q * 2 ^ 48 + 1 / 2).floor : Rat) / 2 ^ 48

/-- Rounded up. -/
def ceilRat (q : Rat) : Int := -((-q).floor)

def clampI (lo hi x : Int) : Int := max lo (min hi x)

def clampQ (lo hi x : Rat) : Rat := max lo (min hi x)

def natOf (i : Int) : Nat := i.toNat

/-- One bit of the root after the other, from the highest (DESIGN CHOICE, log 13). -/
def isqrtGo (x : Nat) : Nat → Nat → Nat
  | 0, r => r
  | n + 1, r => let c := r + 2 ^ n; isqrtGo x n (if c * c ≤ x then c else r)

/-- The whole part of the square root of a number below 2^400. -/
def isqrt (x : Nat) : Nat := isqrtGo x 200 0

/-- The square root, cut to 32 fractional bits (DESIGN CHOICE, log 13). -/
def sqrtRat (q : Rat) : Rat := (isqrt (natOf (q * 2 ^ 64).floor) : Rat) / 2 ^ 32

/-- A rational bound of π used where the spec writes π (DESIGN CHOICE, log 13). -/
def piQ : Rat := 3141592653589793238462643383279502884197 / 10 ^ 39

/-! ## Check codes (R271) -/

def crcBitsMsb (poly top width : Nat) : Nat → Nat → Nat
  | 0, c => c
  | n + 1, c =>
    crcBitsMsb poly top width n (if c &&& top ≠ 0 then ((c * 2) ^^^ poly) % width else (c * 2) % width)

/-- CRC-8, x^8 + x^2 + x + 1, initial 0xFF, most significant bit first. -/
def crc8 (bs : List Byte) : Nat := bs.foldl (fun c b => crcBitsMsb 0x07 0x80 0x100 8 (c ^^^ b.toNat)) 0xFF

/-- CRC-16, x^16 + x^12 + x^5 + 1, initial 0xFFFF, most significant bit first. -/
def crc16 (bs : List Byte) : Nat :=
  bs.foldl (fun c b => crcBitsMsb 0x1021 0x8000 0x10000 8 (c ^^^ (b.toNat * 256))) 0xFFFF

def crc32cBits : Nat → Nat → Nat
  | 0, c => c
  | n + 1, c => crc32cBits n (if c % 2 = 1 then (c / 2) ^^^ 0x82F63B78 else c / 2)

/-- CRC-32C, Castagnoli, reflected, initial and final XOR 0xFFFF_FFFF. -/
def crc32c (bs : List Byte) : Nat :=
  (bs.foldl (fun c b => crc32cBits 8 (c ^^^ b.toNat)) 0xFFFFFFFF) ^^^ 0xFFFFFFFF

/-! ## SHA-256 and SHA-384 -/

/-- The parameters in which the two hashes differ. -/
structure ShaKind where
  bits : Nat
  rounds : Nat
  s0 : Nat × Nat × Nat
  s1 : Nat × Nat × Nat
  b0 : Nat × Nat × Nat
  b1 : Nat × Nat × Nat
  k : List Nat
  iv : List Nat

def rotr (bits x n : Nat) : Nat := (x >>> n) ||| ((x <<< (bits - n)) % 2 ^ bits)

def shaSmall (bits : Nat) (p : Nat × Nat × Nat) (x : Nat) : Nat :=
  rotr bits x p.1 ^^^ rotr bits x p.2.1 ^^^ (x >>> p.2.2)

def shaBig (bits : Nat) (p : Nat × Nat × Nat) (x : Nat) : Nat :=
  rotr bits x p.1 ^^^ rotr bits x p.2.1 ^^^ rotr bits x p.2.2

/-- The message schedule, newest word first. -/
def shaSched (h : ShaKind) (w16 : List Nat) : List Nat :=
  (List.range (h.rounds - 16)).foldl (fun w _ =>
    let x := (shaSmall h.bits h.s1 (w.getD 1 0) + w.getD 6 0 + shaSmall h.bits h.s0 (w.getD 14 0) + w.getD 15 0)
      % 2 ^ h.bits
    x :: w) w16.reverse

def shaRound (h : ShaKind) (v : List Nat) (kw : Nat × Nat) : List Nat :=
  match v with
  | [a, b, c, d, e, f, g, hh] =>
    let m := 2 ^ h.bits
    let ch := (e &&& f) ^^^ ((m - 1 - e) &&& g)
    let t1 := (hh + shaBig h.bits h.b1 e + ch + kw.1 + kw.2) % m
    let mj := (a &&& b) ^^^ (a &&& c) ^^^ (b &&& c)
    let t2 := (shaBig h.bits h.b0 a + mj) % m
    [(t1 + t2) % m, a, b, c, (d + t1) % m, e, f, g]
  | v => v

def unbe (bs : List Byte) : Nat := bs.foldl (fun n b => n * 256 + b.toNat) 0

def be (k n : Nat) : List Byte := (le k n).reverse

def shaBlock (h : ShaKind) (st : List Nat) (blk : List Byte) : List Nat :=
  let wb := h.bits / 8
  let w16 := (List.range 16).map fun i => unbe ((blk.drop (wb * i)).take wb)
  let w := (shaSched h w16).reverse
  let out := (h.k.zip w).foldl (shaRound h) st
  (st.zip out).map fun p => (p.1 + p.2) % 2 ^ h.bits

def shaBlocks (h : ShaKind) : Nat → List Byte → List Nat → List Nat
  | 0, _, st => st
  | n + 1, bs, st => let bl := h.bits * 2; shaBlocks h n (bs.drop bl) (shaBlock h st (bs.take bl))

/-- The padded hash. -/
def shaOf (h : ShaKind) (msg : List Byte) : List Byte :=
  let bl := h.bits * 2
  let lenB := h.bits / 4
  let z := (2 * bl - (msg.length + 1 + lenB) % bl) % bl
  let padded := msg ++ [0x80] ++ List.replicate z 0 ++ be lenB (8 * msg.length)
  ((shaBlocks h (padded.length / bl) padded h.iv).map (be (h.bits / 8))).flatten

/-- Whether no i from 2 to n divides x. -/
def noDivisor (x : Nat) (n : Nat) : Bool := (List.range (n - 1)).all fun i => x % (i + 2) ≠ 0

/-- The first 80 primes: the round constants are the fractional parts of their cube roots. -/
def primes80 : List Nat := ((List.range 408).map (· + 2)).filter fun x => noDivisor x (min (x - 1) 20)

def icbrtGo (x : Nat) : Nat → Nat → Nat
  | 0, r => r
  | n + 1, r => let c := r + 2 ^ n; icbrtGo x n (if c * c * c ≤ x then c else r)

/-- The first `bits` fractional bits of the cube root of p. -/
def cubeFrac (bits p : Nat) : Nat := icbrtGo (p * 2 ^ (3 * bits)) (bits + 3) 0 % 2 ^ bits

/-- The first `bits` fractional bits of the square root of p. -/
def rootFrac (bits p : Nat) : Nat := isqrtGo (p * 2 ^ (2 * bits)) (bits + 5) 0 % 2 ^ bits

def sha256Kind : ShaKind where
  bits := 32
  rounds := 64
  s0 := (7, 18, 3)
  s1 := (17, 19, 10)
  b0 := (2, 13, 22)
  b1 := (6, 11, 25)
  k := (primes80.take 64).map (cubeFrac 32)
  iv := (primes80.take 8).map (rootFrac 32)

def sha384Kind : ShaKind where
  bits := 64
  rounds := 80
  s0 := (1, 8, 7)
  s1 := (19, 61, 6)
  b0 := (28, 34, 39)
  b1 := (14, 18, 41)
  k := primes80.map (cubeFrac 64)
  iv := ((primes80.drop 8).take 8).map (rootFrac 64)

/-- SHA-256 (R543, R475). -/
def sha256 (bs : List Byte) : List Byte := shaOf sha256Kind bs

/-- SHA-384 (R506, R507). -/
def sha384 (bs : List Byte) : List Byte := (shaOf sha384Kind bs).take 48

/-! ## ECDSA P-384 verification (R507) -/

def p384P : Nat := 2 ^ 384 - 2 ^ 128 - 2 ^ 96 + 2 ^ 32 - 1
def p384N : Nat := 0xffffffffffffffffffffffffffffffffffffffffffffffffc7634d81f4372ddf581a0db248b0a77aecec196accc52973
def p384B : Nat := 0xb3312fa7e23ee7e4988e056be3f82d19181d9c6efe8141120314088f5013875ac656398d8a2ed19d2a85c8edd3ec2aef
def p384G : Nat × Nat :=
  (0xaa87ca22be8b05378eb1c71ef320ad746e1d3b628ba79b9859f741e082542a385502f25dbf55296c3a545e3872760ab7,
   0x3617de4a96262c6f5d9e98bf9292dc29f8f41dbd289a147ce9da3113b5f0b8c00a60b1ce1d7e819d7a431d7c90ea0e5f)

/-- b^e mod m by square and multiply over the bits of e, highest first. -/
def powMod (b e m : Nat) : Nat :=
  (List.range 384).foldl (fun r i => let s := r * r % m; if e.testBit (383 - i) then s * b % m else s) 1

def invMod (x m : Nat) : Nat := powMod (x % m) (m - 2) m

/-- Addition on the curve; none is the point at infinity. -/
def ecAdd : Option (Nat × Nat) → Option (Nat × Nat) → Option (Nat × Nat)
  | none, q => q
  | p, none => p
  | some (x1, y1), some (x2, y2) =>
    if x1 = x2 ∧ (y1 + y2) % p384P = 0 then none
    else
      let l := if x1 = x2 then (3 * x1 * x1 + (p384P - 3)) * invMod (2 * y1) p384P % p384P
        else (y2 + p384P - y1) * invMod (x2 + p384P - x1) p384P % p384P
      let x3 := (l * l + 2 * p384P - x1 - x2) % p384P
      some (x3, (l * (x1 + p384P - x3) + p384P - y1) % p384P)

def ecMul (k : Nat) (pt : Nat × Nat) : Option (Nat × Nat) :=
  (List.range 384).foldl (fun r i =>
    let d := ecAdd r r
    if k.testBit (383 - i) then ecAdd d (some pt) else d) none

/-- Whether r, s is a signature over a 48-byte hash by an uncompressed public key of 97 bytes. -/
def ecdsaOk (pub hash r s : List Byte) : Bool :=
  let x := unbe ((pub.drop 1).take 48)
  let y := unbe ((pub.drop 49).take 48)
  let rn := unbe r
  let sn := unbe s
  if pub.length ≠ 97 ∨ pub.head? ≠ some 4 ∨ p384P ≤ x ∨ p384P ≤ y
      ∨ (y * y) % p384P ≠ (x * x * x + (p384P - 3) * x + p384B) % p384P
      ∨ rn = 0 ∨ p384N ≤ rn ∨ sn = 0 ∨ p384N ≤ sn then false
  else
    let w := invMod sn p384N
    match ecAdd (ecMul (unbe hash * w % p384N) p384G) (ecMul (rn * w % p384N) (x, y)) with
    | none => false
    | some (px, _) => px % p384N = rn

/-! ## Lists of instances -/

/-- Instance i of a bank. -/
def nth {α : Type} [Inhabited α] (l : List α) (i : Nat) : α := l.getD i default

/-- Instance i changed. -/
def upd {α : Type} (l : List α) (i : Nat) (f : α → α) : List α := l.modify i f

/-- The set bits of a mask below n, ascending. -/
def bitsOf (n mask : Nat) : List Nat := (List.range n).filter mask.testBit

/-- The mask of a list of indices. -/
def maskOf (is : List Nat) : Nat := is.foldl (fun m i => m ||| 2 ^ i) 0

def boolN (b : Bool) : Nat := if b then 1 else 0

end Sys2Proof.Machine
end

