-- ==== Sys2Proof/Machine/Memory.lean ====
section
/-! DEFINITION. Device DRAM contents: bytes in canonical form (DESIGN CHOICE, log 6), poison and injected errors (R376, R394), the
address fields of R371 and the address orders of R372. -/

namespace Sys2Proof.Machine

/-! ## Bytes -/

/-- What a byte of memory reads as; a byte that nothing has written reads zero (DESIGN CHOICE, log 6). -/
def memGet (c : Cells) (a : Nat) : Byte :=
  match c with
  | [] => 0
  | (x, v) :: t => if x = a then v else memGet t a

/-- One byte written; the form stays canonical. -/
def memSet (c : Cells) (a : Nat) (b : Byte) : Cells :=
  match c with
  | [] => if b = 0 then [] else [(a, b)]
  | (x, v) :: t =>
    if a < x then (if b = 0 then (x, v) :: t else (a, b) :: (x, v) :: t)
    else if a = x then (if b = 0 then t else (a, b) :: t)
    else (x, v) :: memSet t a b

/-- The bytes from an address on. -/
def memBytes (c : Cells) (a n : Nat) : List Byte := (List.range n).map fun i => memGet c (a + i)

/-- Bytes written from an address on. -/
def memWrite (c : Cells) (a : Nat) : List Byte → Cells
  | [] => c
  | b :: bs => memWrite (memSet c a b) (a + 1) bs

/-- The canonical form: addresses strictly rising, no entry equal to what an unlisted address reads as. -/
abbrev Memory.wf (c : Cells) : Prop := c.Pairwise (fun p q => p.1 < q.1) ∧ ∀ p ∈ c, p.2 ≠ 0

/-! ## Bursts -/

/-- The burst that holds an address (R371). -/
def burstOf (a : Nat) : Nat := a / 64

/-- The bursts that a range touches. -/
def burstsOf (a n : Nat) : List Nat :=
  if n = 0 then [] else (List.range ((a + n - 1) / 64 - a / 64 + 1)).map (a / 64 + ·)

/-- Whether a write of `n` bytes at `a` covers the whole of burst `b` (R376). -/
def wholeBurst (a n b : Nat) : Bool := a ≤ 64 * b && 64 * b + 64 ≤ a + n

/-! ## Address orders (R371 to R373) -/

/-- Bank used, COL, ROW of a rank-relative value of a[8] upward, for a number of row bits (R372). -/
def orderFields (order rowBits x : Nat) : Nat × Nat × Nat :=
  if order = 0 then (x / 2 ^ 6 % 2 ^ 5, x % 2 ^ 6, x / 2 ^ 11 % 2 ^ rowBits)
  else if order = 1 then (x % 2 ^ 5, x / 2 ^ 5 % 2 ^ 6, x / 2 ^ 11 % 2 ^ rowBits)
  else if order = 2 then (x / 2 ^ (6 + rowBits) % 2 ^ 5, x % 2 ^ 6, x / 2 ^ 6 % 2 ^ rowBits)
  else
    let row := x / 2 ^ 11 % 2 ^ rowBits
    ((x % 2 ^ 5) ^^^ (row % 2 ^ 5), x / 2 ^ 5 % 2 ^ 6, row)

/-- The value of a[8] upward that an order gives a location within its rank (R372). -/
def orderPlace (order rowBits bank col row : Nat) : Nat :=
  if order = 0 then col + 2 ^ 6 * bank + 2 ^ 11 * row
  else if order = 1 then bank + 2 ^ 5 * col + 2 ^ 11 * row
  else if order = 2 then col + 2 ^ 6 * row + 2 ^ (6 + rowBits) * bank
  else (bank ^^^ (row % 2 ^ 5)) + 2 ^ 5 * col + 2 ^ 11 * row

/-- The burst number under which a burst appears after a change of order (R373). -/
def remapBurst (fromOrder toOrder rowBits b : Nat) : Nat :=
  let x := b / 4
  let inRank := x % 2 ^ (11 + rowBits)
  let f := orderFields fromOrder rowBits inRank
  b % 4 + 4 * (x / 2 ^ (11 + rowBits) * 2 ^ (11 + rowBits) + orderPlace toOrder rowBits f.1 f.2.1 f.2.2)

def remapAddr (fromOrder toOrder rowBits a : Nat) : Nat :=
  remapBurst fromOrder toOrder rowBits (a / 64) * 64 + a % 64

/-- Where an address appears once other physical ranks serve the rank indexes; none where its rank serves no more (R370). -/
def reroleAddr (old new : List (List Nat)) (span a : Nat) : Option Nat :=
  let c := a / 128 % 2
  let was := (old.getD c []).getD (a / span) 0xFF
  let roles := new.getD c []
  if roles.contains was then some (roles.idxOf was * span + a % span) else none

def reroleBurst (old new : List (List Nat)) (span b : Nat) : Option Nat := (reroleAddr old new span (64 * b)).map (· / 64)

/-! ## Operations on device DRAM -/

/-- A number put into a rising list. -/
def insertAsc (n : Nat) : List Nat → List Nat
  | [] => [n]
  | x :: t => if n < x then n :: x :: t else if n = x then x :: t else x :: insertAsc n t

/-- One operation on device DRAM contents. -/
def DramOp.apply (m : Dram) : DramOp → Dram
  | .write a bs =>
    { mem := memWrite m.mem a bs
      poison := m.poison.filter fun b => ! wholeBurst a bs.length b
      injected := m.injected.filter fun e => ! wholeBurst a bs.length e.1 }
  | .poison b => { m with poison := insertAsc b m.poison, injected := m.injected.filter (·.1 ≠ b) }
  | .inject b u => { m with injected := (b, u) :: m.injected.filter (·.1 ≠ b) }
  | .clearInject b => { m with injected := m.injected.filter (·.1 ≠ b) }
  | .wipe => ⟨[], [], []⟩
  | .remap f t r =>
    { mem := m.mem.foldl (fun c p => memSet c (remapAddr f t r p.1) p.2) []
      poison := m.poison.foldl (fun l b => insertAsc (remapBurst f t r b) l) []
      injected := m.injected.map fun e => (remapBurst f t r e.1, e.2) }
  | .rerole o n s =>
    { mem := (m.mem.filterMap fun p => (reroleAddr o n s p.1).map fun a => (a, p.2)).foldl (fun c p => memSet c p.1 p.2) []
      poison := (m.poison.filterMap (reroleBurst o n s)).foldl (fun l b => insertAsc b l) []
      injected := m.injected.filterMap fun e => (reroleBurst o n s e.1).map fun b => (b, e.2) }
  | .renew b => { m with poison := m.poison.filter (· < b), injected := m.injected.filter (·.1 < b) }

def applyOps (m : Dram) (ops : List DramOp) : Dram := ops.foldl DramOp.apply m

end Sys2Proof.Machine
end

