-- ==== Sys2Proof/Machine/Operands.lean ====
section
/-! DEFINITION. Operand forms: how each Mbosal command's arguments lie in its payload (R577, R578), the opcode table
(R419 and the families' tables) and the version-1 map (R553). Log 12. -/

namespace Sys2Proof.Machine

def u8 (n : Nat) : List Byte := le 1 n
def u16 (n : Nat) : List Byte := le 2 n
def u32 (n : Nat) : List Byte := le 4 n
def u64 (n : Nat) : List Byte := le 8 n
def i16 (n : Int) : List Byte := le 2 (wrapTo 16 n)
def i32 (n : Int) : List Byte := le 4 (wrapTo 32 n)
def i64 (n : Int) : List Byte := le 8 (wrapTo 64 n)

/-- A list of entries: a 32-bit count, then the entries (R577). -/
def listOf {α : Type} (f : α → List Byte) (l : List α) : List Byte := u32 l.length ++ l.flatMap f

def ptBytes (p : Pt) : List Byte := i32 p.x ++ i32 p.y

/-- The fields of `oar.motion`, in the sizes of R194. -/
def motionBytes (m : MotionArg) : List Byte :=
  u16 m.obsBw ++ m.rateMax.flatMap u32 ++ m.accMax.flatMap u32 ++ u8 m.nSettle ++ u16 m.settleTol ++ u16 m.dotTol ++
  u16 m.dotSettleMax ++ u16 m.predWarn ++ u8 m.backstopPct ++ u16 m.reapproachMin ++ u32 m.lenSettle

def cameraBytes (c : CameraArg) : List Byte :=
  [c.en, c.x0, c.y0, c.w, c.h, c.period, c.exposureNs, c.thresh, c.spatMin].flatMap u32

/-- The set header of `field.grid` (R38). -/
def gridBytes (g : GridArg) : List Byte :=
  u8 g.oar ++ u8 g.set ++ i16 g.temp ++ i32 g.gx0 ++ i32 g.gy0 ++ u32 g.pitch ++ i32 g.focusGain ++ u64 g.addr ++
  u64 g.len ++ u32 g.crc

/-- A stitch pair entry (R578). -/
def stitchBytes (s : StitchArg) : List Byte := u8 s.a ++ u8 s.b ++ u8 s.w ++ u8 0 ++ ptBytes s.s

/-- The slot descriptor (R226). -/
def slotBytes (d : SlotDesc) : List Byte :=
  u8 d.slot ++ u8 d.mode ++ u8 d.spSrc ++ u8 d.spIdx ++ u8 d.pvSrc ++ u8 d.pvIdx ++ u8 d.outDst ++ u8 d.outIdx ++
  u8 d.gainTable ++ u8 d.rate ++ u16 d.lflags ++ u32 d.eNorm ++ i32 d.uMin ++ i32 d.uMax ++ i32 d.iMin ++ i32 d.iMax ++
  u32 d.slew ++ u16 d.dFilt ++ u16 d.aw ++ i32 d.kv ++ i32 d.ka ++ i32 d.manValue ++ i32 d.failValue ++ i32 d.pvLo ++
  i32 d.pvHi

/-- The slide-axis descriptor (R344). -/
def axisBytes (d : AxisDesc) : List Byte :=
  u8 d.axis ++ u8 0 ++ u16 d.aflags ++ u8 d.encSel ++ u8 d.loopUse ++ u8 d.microFine ++ u8 d.microCoarse ++
  u32 d.msMap ++ u32 d.vMax ++ u32 d.aMax ++ u32 d.dMax ++ u32 d.jMax ++ u32 d.msUp ++ u32 d.msDown ++ u16 d.stepW ++
  u16 d.dirSetup ++ u16 d.msSetup ++ u16 d.elecOffset ++ u32 d.trimMax ++ u32 d.followMax ++ u32 d.inPos ++
  u32 d.moveDrawW ++ u32 0 ++ i64 d.softMin ++ i64 d.softMax

/-- The encoder descriptor (R345). -/
def encBytes (d : EncDesc) : List Byte :=
  u8 d.enc ++ u8 d.emode ++ u16 d.eflags ++ u16 d.minEdge ++ u16 d.obsBw ++ u32 d.num ++ u32 d.den ++
  u32 d.indexPeriod ++ u16 d.indexTol ++ u16 d.idxMaxOn ++ u32 d.stillTime ++ u32 0

def recoatBytes (r : RecoatArg) : List Byte :=
  u32 r.recoater ++ u32 r.platform ++ u32 r.doser ++ i64 r.spreadStart ++ i64 r.spreadEnd ++ i64 r.park ++
  u32 r.returnSpeed ++ u32 r.recUpm ++ i32 r.platRatio ++ u32 r.doseNominal

def imageBytes (c : ImageArg) : List Byte :=
  i64 c.start ++ i64 c.stop ++ u32 c.lineW ++ u32 c.lineX0 ++ u32 c.lineExp ++ u32 c.strobeDelay ++
  listOf (fun d : DirArg => u32 d.mask ++ u32 d.current ++ u32 d.width) c.dirs ++ u32 c.dutyMax ++ u64 c.bufBase ++
  u32 c.slots ++ u32 c.nMax ++ u32 c.required

def timePortBytes (a : TimePortArg) : List Byte :=
  u32 a.port ++ u64 a.mac ++ (match a.vlan with | some v => u32 v.1 ++ u32 v.2 | none => []) ++
  (match a.ipv4 with | some p => u32 p | none => []) ++ i32 a.txCorr ++ i32 a.rxCorr

def optU32 : Option Nat → List Byte
  | some n => u32 n
  | none => []

def addrCrc (addr crc : Nat) : List Byte := u64 addr ++ u32 crc

/-- Mailbox, opcode and payload of a command row; none for an event or a register access. -/
def cmdOf : Instr → Option (Nat × Nat × List Byte)
  | .oarEnable m k => some (m, 0x0401, u32 k)
  | .oarDisable m k => some (m, 0x0402, u32 k)
  | .oarStatus m => some (m, 0x0403, [])
  | .oarMotion m k a => some (m, 0x0404, u32 k ++ motionBytes a)
  | .oarLatency m s => some (m, 0x0405, match s with | some (k, l, c) => u32 k ++ u32 l ++ u32 c | none => [])
  | .oarPowermap m k cs i => some (m, 0x0406, u32 k ++ cs.flatMap u32 ++ u32 i)
  | .oarPlacement m k c => some (m, 0x0407, u32 k ++ u32 c)
  | .oarMeasure m k => some (m, 0x0408, u32 k)
  | .oarCamera m k c => some (m, 0x0409, u32 k ++ cameraBytes c)
  | .oarDark m k => some (m, 0x040A, u32 k)
  | .oarSense m k => some (m, 0x040B, u32 k)
  | .oarLink m p w h t a => some (m, 0x040C, u64 p ++ u32 w ++ u32 h ++ u32 t ++ u32 a)
  | .oarLinkstat m p c => some (m, 0x040D, u64 p ++ u32 c)
  | .oarRetrain m p => some (m, 0x040E, u64 p)
  | .oarPower m p s => some (m, 0x040F, u64 p ++ u32 s)
  | .oarEyescan m p a b c d n ad => some (m, 0x0410, u32 p ++ i32 a ++ i32 b ++ i32 c ++ i32 d ++ u32 n ++ u64 ad)
  | .oarSvc m p o a l ds => some (m, 0x0411, u32 p ++ u32 o ++ u32 a ++ u32 l ++ ds)
  | .fieldBed m x y w h => some (m, 0x0501, i32 x ++ i32 y ++ i32 w ++ i32 h)
  | .fieldGrid m g => some (m, 0x0502, gridBytes g)
  | .fieldPolygon m k vs => some (m, 0x0503, u32 k ++ listOf ptBytes vs)
  | .fieldKeepout m z k vs => some (m, 0x0504, u32 z ++ u32 k ++ listOf ptBytes vs)
  | .fieldStitch m ps => some (m, 0x0505, listOf stitchBytes ps)
  | .fieldMasks m a n c => some (m, 0x0506, u64 a ++ u32 n ++ u32 c)
  | .fieldCommit m => some (m, 0x0507, [])
  | .fieldDiscard m => some (m, 0x0508, [])
  | .fieldQuery m w i n => some (m, 0x0509, u32 w ++ u32 i ++ u32 n)
  | .fieldEligible m p q i => some (m, 0x050A, ptBytes p ++ ptBytes q ++ optU32 i)
  | .layerParams m f n a c => some (m, 0x0301, u32 f ++ u32 n ++ addrCrc a c)
  | .layerProfiles m f n a c => some (m, 0x0302, u32 f ++ u32 n ++ addrCrc a c)
  | .layerTargets m f n a c => some (m, 0x0303, u32 f ++ u32 n ++ addrCrc a c)
  | .layerCommit m a => some (m, 0x0304, u64 a)
  | .layerCancel m l => some (m, 0x0305, u32 l)
  | .layerAbandon m l => some (m, 0x0306, u32 l)
  | .layerReload m l f n => some (m, 0x0307, u32 l ++ u32 f ++ u32 n)
  | .layerStatus m l => some (m, 0x0308, optU32 l)
  | .layerReport m l => some (m, 0x0309, u32 l)
  | .layerLibrary m k i => some (m, 0x030A, u32 k ++ u32 i)
  | .marshalConfig m h b o => some (m, 0x0601, u32 h ++ u32 b ++ u32 o)
  | .marshalThermal m s => some (m, 0x0602, match s with | some (e, l) => u32 e ++ u32 l | none => [])
  | .marshalThermtable m f n a c => some (m, 0x0603, u32 f ++ u32 n ++ addrCrc a c)
  | .marshalStatus m => some (m, 0x0604, [])
  | .marshalStats m l => some (m, 0x0605, u32 l)
  | .marshalInterrupted m l f n => some (m, 0x0606, u32 l ++ u32 f ++ u32 n)
  | .marshalWake m r =>
    some (m, 0x0607, match r with | some (a, b, c, d) => u32 a ++ u32 b ++ u32 c ++ u32 d | none => [])
  | .marshalHeat m a b c d ad w => some (m, 0x0608, u32 a ++ u32 b ++ u32 c ++ u32 d ++ u64 ad ++ u32 w)
  | .loopConfig m ds => some (m, 0x0701, listOf slotBytes ds)
  | .loopGains m f n a c => some (m, 0x0702, u32 f ++ u32 n ++ addrCrc a c)
  | .loopCommit m => some (m, 0x0703, [])
  | .loopMode m s t v => some (m, 0x0704, le 20 s ++ u32 t ++ (match v with | some x => i32 x | none => []))
  | .loopSetpoint m s v => some (m, 0x0705, u32 s ++ i32 v)
  | .loopGear m e n d => some (m, 0x0706, u32 e ++ i32 n ++ u32 d)
  | .loopIo m a p => some (m, 0x0707, a.flatMap (fun x => i32 x.1 ++ i32 x.2) ++ p.flatMap u32)
  | .loopStatus m s => some (m, 0x0708, le 20 s)
  | .loopTrace m ss n a => some (m, 0x0709, listOf u32 ss ++ u32 n ++ u64 a)
  | .loopRestore m => some (m, 0x070A, [])
  | .slideConfig m ds => some (m, 0x0801, listOf axisBytes ds)
  | .slideEncoder m ds => some (m, 0x0802, listOf encBytes ds)
  | .slideMove m a t v => some (m, 0x0803, u32 a ++ i64 t ++ optU32 v)
  | .slideStop m k => some (m, 0x0804, u32 k)
  | .slideHome m a h =>
    some (m, 0x0805, u32 a ++ u32 h.mode ++ i32 h.direction ++ u32 h.speed ++ u32 h.swFilter ++ u32 h.lockout ++
      u32 h.qualWin ++ i64 h.homePos)
  | .slideLimits m a v c d j => some (m, 0x0806, u32 a ++ u32 v ++ u32 c ++ u32 d ++ u32 j)
  | .slideSetpos m a p => some (m, 0x0807, u32 a ++ i64 p)
  | .slideRecoat m r => some (m, 0x0808, recoatBytes r)
  | .slideStatus m k => some (m, 0x0809, u32 k)
  | .slideClear m k => some (m, 0x080A, u32 k)
  | .imageConfig m c => some (m, 0x0901, imageBytes c)
  | .imageStatus m => some (m, 0x0902, [])
  | .imageLine m d a => some (m, 0x0903, u32 d ++ u64 a)
  | .ledConfig m c r i v => some (m, 0x0A01, u32 c ++ u32 r ++ u32 i ++ u32 v)
  | .ledPattern m p ss =>
    some (m, 0x0A02, u32 p ++ listOf (fun s : PatternStep => u8 s.level ++ u8 s.shape ++ u16 s.time) ss)
  | .ledSet m k p ph mp => some (m, 0x0A03, u32 k ++ u32 p ++ u32 ph ++ mp.flatMap u32)
  | .ledLamp m a =>
    some (m, 0x0A04, u32 a.ain ++ u32 a.rPu ++ u32 a.r25 ++ u32 a.beta ++ i32 a.tDerate ++ i32 a.tMax ++
      u32 a.thermLo ++ u32 a.thermHi)
  | .ledStatus m => some (m, 0x0A05, [])
  | .ledClear m k => some (m, 0x0A06, u32 k)
  | .recRing m r b s o c l => some (m, 0x0B01, u32 r ++ u64 b ++ u64 s ++ u32 o ++ u64 c ++ u64 l)
  | .recTake m t d g => some (m, 0x0B02, u32 t ++ u32 d ++ u32 g)
  | .recConsume m r t => some (m, 0x0B03, u32 r ++ u64 t)
  | .recStatus m => some (m, 0x0B04, [])
  | .recMark m v => some (m, 0x0B05, u32 v)
  | .memFence m => some (m, 0x0201, [])
  | .memConfig m o k s c r => some (m, 0x0202, u32 o ++ u32 k ++ u32 s ++ u32 c ++ u32 r)
  | .memQos m a b c => some (m, 0x0203, u32 a ++ u32 b ++ u32 c)
  | .memStatus m => some (m, 0x0204, [])
  | .memErrlog m f n c => some (m, 0x0205, u32 f ++ u32 n ++ u32 c)
  | .memMigrate m c r => some (m, 0x0206, u32 c ++ u32 r)
  | .memUnretire m c r => some (m, 0x0207, u32 c ++ u32 r)
  | .memRetrain m k => some (m, 0x0208, u32 k)
  | .memInject m a k => some (m, 0x0209, u64 a ++ u32 k)
  | .sysIdentify m => some (m, 0x0101, [])
  | .sysCq m b n => some (m, 0x0102, u64 b ++ u32 n)
  | .sysCompletions m f n => some (m, 0x0103, u32 f ++ u32 n)
  | .sysDma m c b n p r => some (m, 0x0104, u32 c ++ u64 b ++ u32 n ++ u32 p ++ u32 r)
  | .sysDmastatus m k => some (m, 0x0105, u32 k)
  | .sysAperture m b => some (m, 0x0106, u64 b)
  | .sysAbort m t g => some (m, 0x0107, u32 t ++ u32 g)
  | .sysMbxstat m c => some (m, 0x0108, u32 c)
  | .sysService m o => some (m, 0x0109, u32 o)
  | .sysClockplan m c d => some (m, 0x0110, u32 c ++ u32 d)
  | .sysClocksrc m s => some (m, 0x0111, u32 s)
  | .sysClockstat m => some (m, 0x0112, [])
  | .sysClockraw m c d f => some (m, 0x0113, u32 c ++ u32 d ++ u32 f)
  | .sysBlockreset m c i => some (m, 0x0114, u32 c ++ u32 i)
  | .sysLadder m c => some (m, 0x0115, match c with | some (a, b, w) => u32 a ++ u32 b ++ u32 w | none => [])
  | .sysFuse m f v => some (m, 0x0116, u32 f ++ u32 v)
  | .fwStage m a l c => some (m, 0x1201, u64 a ++ u64 l ++ u32 c)
  | .fwActivate m s => some (m, 0x1202, u32 s)
  | .fwStatus m => some (m, 0x1203, [])
  | .fwCommit m => some (m, 0x1204, [])
  | .modeHold m u => some (m, 0x0C01, u32 u)
  | .modeSet m t => some (m, 0x0C02, u32 t)
  | .modeStandby m w => some (m, 0x0C03, u32 w)
  | .modeStatus m => some (m, 0x0C04, [])
  | .modeBudget m c r =>
    some (m, 0x0C05, u32 c ++ (match r with
      | some (p, os) => u32 p ++ listOf (fun o : OarPowerArg => u32 o.oar ++ u32 o.rated ++ u32 o.wallPlug) os
      | none => []))
  | .modeLeave m c => some (m, 0x0C06, u32 c)
  | .modeThermal m c => some (m, 0x0C07, u32 c)
  | .timePort m a => some (m, 0x0D01, timePortBytes a)
  | .timeDomain m a =>
    some (m, 0x0D02, u32 a.domain ++ u32 a.port ++ u32 a.number ++ u32 a.profile ++ u32 a.transport ++ u32 a.role ++
      u32 a.oneStep ++ i32 a.logSync ++ u32 a.preferred)
  | .timeServo m b s l w n => some (m, 0x0D03, u32 b ++ u32 s ++ u32 l ++ u32 w ++ u32 n)
  | .timeGang m s d p r k => some (m, 0x0D04, u32 s ++ u32 d ++ u32 p ++ u32 r ++ u32 k)
  | .timeSet m s n => some (m, 0x0D05, u64 s ++ u32 n)
  | .timeSelect m s => some (m, 0x0D06, u32 s)
  | .timeStatus m c => some (m, 0x0D07, u32 c)
  | .timePeers m c => some (m, 0x0D08, u32 c)
  | .safeEnter m => some (m, 0x0E01, [])
  | .safeStop m k => some (m, 0x0E02, u32 k)
  | .safeClear m => some (m, 0x0E03, [])
  | .safeRearm m k => some (m, 0x0E04, u32 k)
  | .safeStage m a l c => some (m, 0x0E05, u64 a ++ u64 l ++ u32 c)
  | .safeCommit m g => some (m, 0x0E06, g)
  | .safeDiscard m => some (m, 0x0E07, [])
  | .safeStatus m => some (m, 0x0E08, [])
  | .safeEvents m f n => some (m, 0x0E09, u32 f ++ u32 n)
  | .safeProof m k => some (m, 0x0E0A, u32 k)
  | .safeHoldpolicy m r => some (m, 0x0E0B, u32 r)
  | .safeQuery m w => some (m, 0x0E0C, u32 w)
  | .logRead m f n => some (m, 0x0F01, u32 f ++ u32 n)
  | .logVerify m f l => some (m, 0x0F02, u32 f ++ u32 l)
  | .logSpoilstat m c => some (m, 0x0F03, u32 c)
  | .logNote m ds => some (m, 0x0F04, ds)
  | .logDescribe m s c => some (m, 0x0F05, u32 s ++ u32 c)
  | .calRun m b i => some (m, 0x1001, u32 b ++ u32 i)
  | .calStatus m => some (m, 0x1002, [])
  | .calFactory m b => some (m, 0x1003, u32 b)
  | .healthRecords m f n => some (m, 0x1101, u32 f ++ u32 n)
  | .healthReport m => some (m, 0x1102, [])
  | .healthReplan m => some (m, 0x1103, [])
  | _ => none

/-! ## The opcode table -/

/-- Which payload lengths an opcode accepts (step 4 of R409, R577). -/
inductive LenForm where
  | exact (n : Nat)
  | either (a b : Nat)
  /-- A list whose 32-bit count stands at `at_`, of entries of `size` bytes, `lo` to `hi` of them or none at all when
  `zero`, with `tail` bytes after it. -/
  | list (at_ size lo hi : Nat) (zero : Bool) (tail : Nat)
  /-- `mode.budget`: the chip budget alone, or with the plant budget and the list of oars. -/
  | budget
  /-- `time.port`: VLAN and IPv4 address may be absent. -/
  | timePort
  /-- `oar.svc`: READ without data, WRITE with LENGTH bytes. -/
  | svc
deriving DecidableEq, Repr, Inhabited

def lenListOk (p : List Byte) (at_ size lo hi : Nat) (zero : Bool) (tail : Nat) : Bool :=
  let n := unle ((p.drop at_).take 4)
  at_ + 4 + tail ≤ p.length ∧ p.length = at_ + 4 + size * n + tail ∧ ((zero ∧ n = 0) ∨ (lo ≤ n ∧ n ≤ hi))

def LenForm.ok (f : LenForm) (p : List Byte) : Bool :=
  match f with
  | .exact n => p.length = n
  | .either a b => p.length = a ∨ p.length = b
  | .list a s lo hi z t => lenListOk p a s lo hi z t
  | .budget => p.length = 4 ∨ lenListOk p 8 12 0 32 true 0
  | .timePort => p.length = 20 ∨ p.length = 28 ∨ p.length = 32
  | .svc =>
    let op := unle ((p.drop 4).take 4)
    let n := unle ((p.drop 12).take 4)
    16 ≤ p.length ∧ (if op = 1 then p.length = 16 + n else p.length = 16)

/-- One row: opcode, class code of R406 (0 Urgent, 1 Control, 2 Bulk), modes by code as bits 3 to 7, forms. -/
structure OpRow where
  op : Nat
  cls : Nat
  modes : Nat
  form : LenForm
deriving DecidableEq, Repr, Inhabited

/-- Modes as bits: bit 3 Start, 4 Ready, 5 Build, 6 Hold, 7 Safe. -/
def mR : Nat := 0x10
def mRB : Nat := 0x30
def mRH : Nat := 0x50
def mRBH : Nat := 0x70
def mRBHF : Nat := 0xF0
def mAll : Nat := 0xF8

def opsSys : List OpRow :=
  [⟨0x0101, 1, mAll, .exact 0⟩, ⟨0x0102, 1, mRBHF, .exact 12⟩, ⟨0x0103, 2, mAll, .exact 8⟩,
   ⟨0x0104, 1, mRBHF, .exact 24⟩, ⟨0x0105, 1, mRBHF, .exact 4⟩, ⟨0x0106, 1, mRBH, .exact 8⟩,
   ⟨0x0107, 1, mRBHF, .exact 8⟩, ⟨0x0108, 1, mAll, .exact 4⟩, ⟨0x0109, 1, mR, .exact 4⟩,
   ⟨0x0110, 1, mR, .exact 8⟩, ⟨0x0111, 1, mRBH, .exact 4⟩, ⟨0x0112, 1, mAll, .exact 0⟩,
   ⟨0x0113, 1, mR, .exact 12⟩, ⟨0x0114, 1, mRBH, .exact 8⟩, ⟨0x0115, 1, mAll, .either 0 12⟩,
   ⟨0x0116, 1, mR, .exact 8⟩,
   ⟨0x1201, 2, mR, .exact 20⟩, ⟨0x1202, 1, mR, .exact 4⟩, ⟨0x1203, 1, mAll, .exact 0⟩, ⟨0x1204, 1, mR, .exact 0⟩]

def opsMem : List OpRow :=
  [⟨0x0201, 1, mRBHF, .exact 0⟩, ⟨0x0202, 1, mR, .exact 20⟩, ⟨0x0203, 1, mRBH, .exact 12⟩,
   ⟨0x0204, 1, mRBHF, .exact 0⟩, ⟨0x0205, 2, mRBHF, .exact 12⟩, ⟨0x0206, 2, mRBH, .exact 8⟩,
   ⟨0x0207, 2, mR, .exact 8⟩, ⟨0x0208, 1, mR, .exact 4⟩, ⟨0x0209, 1, mR, .exact 12⟩]

def opsLayer : List OpRow :=
  [⟨0x0301, 2, mRBH, .exact 20⟩, ⟨0x0302, 2, mRBH, .exact 20⟩, ⟨0x0303, 2, mRBH, .exact 20⟩,
   ⟨0x0304, 2, mRBH, .exact 8⟩, ⟨0x0305, 1, mRBH, .exact 4⟩, ⟨0x0306, 1, mRH, .exact 4⟩,
   ⟨0x0307, 2, mRBH, .exact 12⟩, ⟨0x0308, 1, mRBHF, .either 0 4⟩, ⟨0x0309, 2, mRBHF, .exact 4⟩,
   ⟨0x030A, 1, mRBHF, .exact 8⟩]

def opsOar : List OpRow :=
  [⟨0x0401, 1, mRBH, .exact 4⟩, ⟨0x0402, 1, mRBH, .exact 4⟩, ⟨0x0403, 1, mRBHF, .exact 0⟩,
   ⟨0x0404, 1, mR, .exact 46⟩, ⟨0x0405, 1, mRBHF, .either 0 12⟩, ⟨0x0406, 1, mR, .exact 140⟩,
   ⟨0x0407, 1, mRBHF, .exact 8⟩, ⟨0x0408, 2, mR, .exact 4⟩, ⟨0x0409, 1, mR, .exact 40⟩,
   ⟨0x040A, 2, mR, .exact 4⟩, ⟨0x040B, 1, mRBHF, .exact 4⟩, ⟨0x040C, 1, mR, .exact 24⟩,
   ⟨0x040D, 1, mRBHF, .exact 12⟩, ⟨0x040E, 2, mRH, .exact 8⟩, ⟨0x040F, 1, mRH, .exact 12⟩,
   ⟨0x0410, 2, mRBH, .exact 32⟩, ⟨0x0411, 1, mRBHF, .svc⟩]

def opsField : List OpRow :=
  [⟨0x0501, 1, mR, .exact 16⟩, ⟨0x0502, 2, mR, .exact 40⟩, ⟨0x0503, 1, mR, .list 4 8 3 16 true 0⟩,
   ⟨0x0504, 1, mR, .list 8 8 3 8 true 0⟩, ⟨0x0505, 1, mR, .list 0 12 1 256 false 0⟩, ⟨0x0506, 2, mR, .exact 16⟩,
   ⟨0x0507, 2, mR, .exact 0⟩, ⟨0x0508, 1, mR, .exact 0⟩, ⟨0x0509, 1, mRBHF, .exact 12⟩,
   ⟨0x050A, 1, mRBH, .either 16 20⟩]

def opsMarshal : List OpRow :=
  [⟨0x0601, 1, mR, .exact 12⟩, ⟨0x0602, 1, mR, .either 0 8⟩, ⟨0x0603, 2, mRBH, .exact 20⟩,
   ⟨0x0604, 1, mRBHF, .exact 0⟩, ⟨0x0605, 2, mRBHF, .exact 4⟩, ⟨0x0606, 2, mRBHF, .exact 12⟩,
   ⟨0x0607, 1, mRBHF, .either 0 16⟩, ⟨0x0608, 2, mRBHF, .exact 28⟩]

def opsLoop : List OpRow :=
  [⟨0x0701, 1, mRBH, .list 0 64 1 160 false 0⟩, ⟨0x0702, 2, mRBH, .exact 20⟩, ⟨0x0703, 1, mRBH, .exact 0⟩,
   ⟨0x0704, 1, mRBH, .either 24 28⟩, ⟨0x0705, 1, mRBH, .exact 8⟩, ⟨0x0706, 1, mRBH, .exact 12⟩,
   ⟨0x0707, 1, mR, .exact 96⟩, ⟨0x0708, 1, mRBHF, .exact 20⟩, ⟨0x0709, 2, mRBH, .list 0 4 1 4 false 12⟩,
   ⟨0x070A, 2, mR, .exact 0⟩]

def opsSlide : List OpRow :=
  [⟨0x0801, 1, mR, .list 0 80 1 8 false 0⟩, ⟨0x0802, 1, mRH, .list 0 32 1 8 false 0⟩, ⟨0x0803, 1, mRBH, .either 12 16⟩,
   ⟨0x0804, 1, mRBHF, .exact 4⟩, ⟨0x0805, 1, mR, .exact 36⟩, ⟨0x0806, 1, mRBH, .exact 20⟩, ⟨0x0807, 1, mR, .exact 12⟩,
   ⟨0x0808, 1, mR, .exact 52⟩, ⟨0x0809, 1, mRBHF, .exact 4⟩, ⟨0x080A, 1, mRH, .exact 4⟩]

def opsImage : List OpRow :=
  [⟨0x0901, 1, mR, .list 32 12 1 4 false 24⟩, ⟨0x0902, 1, mRBHF, .exact 0⟩, ⟨0x0903, 1, mR, .exact 12⟩,
   ⟨0x0A01, 1, mR, .exact 16⟩, ⟨0x0A02, 1, mRBHF, .list 4 4 1 32 false 0⟩, ⟨0x0A03, 1, mRBHF, .exact 32⟩,
   ⟨0x0A04, 1, mR, .exact 32⟩, ⟨0x0A05, 1, mRBHF, .exact 0⟩, ⟨0x0A06, 1, mRH, .exact 4⟩,
   ⟨0x0B01, 1, mR, .exact 40⟩, ⟨0x0B02, 1, mRBH, .exact 12⟩, ⟨0x0B03, 1, mRBHF, .exact 12⟩,
   ⟨0x0B04, 1, mRBHF, .exact 0⟩, ⟨0x0B05, 1, mRBHF, .exact 4⟩]

def opsMode : List OpRow :=
  [⟨0x0C01, 0, 0x60, .exact 4⟩, ⟨0x0C02, 1, mRBH, .exact 4⟩, ⟨0x0C03, 1, mR, .exact 4⟩, ⟨0x0C04, 1, mAll, .exact 0⟩,
   ⟨0x0C05, 1, mRBH, .budget⟩, ⟨0x0C06, 1, mRBHF, .exact 4⟩, ⟨0x0C07, 1, mAll, .exact 4⟩,
   ⟨0x0D01, 1, mR, .timePort⟩, ⟨0x0D02, 1, mR, .exact 36⟩, ⟨0x0D03, 1, mR, .exact 20⟩, ⟨0x0D04, 1, mR, .exact 20⟩,
   ⟨0x0D05, 1, mR, .exact 12⟩, ⟨0x0D06, 1, mRBHF, .exact 4⟩, ⟨0x0D07, 1, mRBHF, .exact 4⟩, ⟨0x0D08, 1, mRBHF, .exact 4⟩]

def opsSafe : List OpRow :=
  [⟨0x0E01, 0, mAll, .exact 0⟩, ⟨0x0E02, 0, mRBH, .exact 4⟩, ⟨0x0E03, 1, 0x80, .exact 0⟩, ⟨0x0E04, 1, mRBH, .exact 4⟩,
   ⟨0x0E05, 2, mR, .exact 20⟩, ⟨0x0E06, 1, mR, .exact 32⟩, ⟨0x0E07, 1, mR, .exact 0⟩, ⟨0x0E08, 1, mAll, .exact 0⟩,
   ⟨0x0E09, 2, mAll, .exact 8⟩, ⟨0x0E0A, 1, mR, .exact 4⟩, ⟨0x0E0B, 1, mR, .exact 4⟩, ⟨0x0E0C, 2, mRBHF, .exact 4⟩,
   ⟨0x0F01, 2, mAll, .exact 8⟩, ⟨0x0F02, 2, mRBHF, .exact 8⟩, ⟨0x0F03, 1, mRBHF, .exact 4⟩, ⟨0x0F04, 1, mRBHF, .exact 32⟩,
   ⟨0x0F05, 1, mAll, .exact 8⟩, ⟨0x1001, 2, mR, .exact 8⟩, ⟨0x1002, 1, mAll, .exact 0⟩, ⟨0x1003, 1, mR, .exact 4⟩,
   ⟨0x1101, 2, mAll, .exact 8⟩, ⟨0x1102, 1, mRBHF, .exact 0⟩, ⟨0x1103, 2, mR, .exact 0⟩]

def opTable : List OpRow :=
  opsSys ++ opsMem ++ opsLayer ++ opsOar ++ opsField ++ opsMarshal ++ opsLoop ++ opsSlide ++ opsImage ++ opsMode ++ opsSafe

def opRow (op : Nat) : Option OpRow := opTable.find? (·.op = op)

/-- Version-1 opcodes and their native commands (R553); the Urgent commands keep theirs (R427). -/
def v1Map : List (Nat × Nat) :=
  [(0x0010, 0x0101), (0x0011, 0x0C02), (0x0012, 0x0C04), (0x0020, 0x0301), (0x0021, 0x0302), (0x0022, 0x0304),
   (0x0023, 0x0308), (0x0024, 0x0305), (0x0030, 0x0502), (0x0031, 0x0503), (0x0032, 0x0507), (0x0040, 0x0401),
   (0x0041, 0x0402), (0x0042, 0x0403), (0x0050, 0x0701), (0x0051, 0x0703), (0x0060, 0x0803), (0x0061, 0x0805),
   (0x0062, 0x0804), (0x0063, 0x0809), (0x0064, 0x0808), (0x0070, 0x0B01), (0x0071, 0x0B02), (0x0080, 0x0E03),
   (0x0081, 0x0E08), (0x0082, 0x0E05), (0x0083, 0x0E06), (0x0090, 0x0201), (0x00A0, 0x1001), (0x00A1, 0x1101),
   (0x00A2, 0x0F01), (0x00B0, 0x1201), (0x00B1, 0x1202), (0x0C01, 0x0C01), (0x0E01, 0x0E01), (0x0E02, 0x0E02)]

def v1Native (op : Nat) : Option Nat := (v1Map.find? (·.1 = op)).map (·.2)

/-! ## Reserved bytes of a payload

What stands in a reserved field is ignored (R15): before an operand list is compared with a payload, the reserved
bytes and bits of its descriptors are taken as zero. -/

def zeroAt (off mask : Nat) (bs : List Byte) : List Byte := bs.modify off (· &&& BitVec.ofNat 8 mask)

/-- Entry by entry, each of `size` bytes from offset 4. -/
def maskEntries (size : Nat) (f : List Byte → List Byte) (bs : List Byte) : List Byte :=
  let n := unle (bs.take 4)
  bs.take 4 ++ (List.range n).flatMap (fun i => f ((bs.drop (4 + size * i)).take size)) ++ bs.drop (4 + size * n)

def zeroRun (off n : Nat) (bs : List Byte) : List Byte := (List.range n).foldl (fun b i => zeroAt (off + i) 0 b) bs

def maskReserved (op : Nat) (p : List Byte) : List Byte :=
  if op = 0x0701 then maskEntries 64 (zeroAt 11 0 ∘ zeroAt 10 0x1F) p
  else if op = 0x0801 then maskEntries 80 (zeroRun 60 4 ∘ zeroAt 3 0 ∘ zeroAt 2 0x3F ∘ zeroAt 1 0) p
  else if op = 0x0802 then maskEntries 32 (zeroRun 28 4 ∘ zeroAt 3 0 ∘ zeroAt 2 0x07) p
  else if op = 0x0505 then maskEntries 12 (zeroAt 3 0) p
  else p

end Sys2Proof.Machine
end

