-- ==== Sys2Proof/WellFormed.lean ====
section
/-! DEFINITION. When a command is well formed: every operand fits the field that carries it (R577, R578), lists have the
length their table gives, and an event names an instance that exists (R5, R397, R421). -/

namespace Sys2Proof

/-- A mailbox, or 16 for the USB exchange (R421). -/
def wfMbx (m : Nat) : Bool := m ≤ 16

/-- Unsigned values of 32 bits. -/
def wfU32 (ns : List Nat) : Bool := ns.all (· < 2 ^ 32)

/-- Unsigned values of 64 bits: addresses, byte lengths, masks of ports. -/
def wfU64 (ns : List Nat) : Bool := ns.all (· < 2 ^ 64)

/-- Signed values of 32 bits. -/
def wfI32 (is : List Int) : Bool := is.all fun i => -2 ^ 31 ≤ i ∧ i < 2 ^ 31

/-- Signed values of 64 bits. -/
def wfI64 (is : List Int) : Bool := is.all fun i => -2 ^ 63 ≤ i ∧ i < 2 ^ 63

def wfU16 (ns : List Nat) : Bool := ns.all (· < 2 ^ 16)

def wfU8 (ns : List Nat) : Bool := ns.all (· < 2 ^ 8)

def wfPts (ps : List Pt) : Bool := ps.all fun p => wfI32 [p.x, p.y]

/-- R194. -/
def MotionArg.wf (m : MotionArg) : Bool :=
  wfU16 [m.obsBw, m.settleTol, m.dotTol, m.dotSettleMax, m.predWarn, m.reapproachMin] && wfU8 [m.nSettle, m.backstopPct] &&
  wfU32 (m.lenSettle :: m.rateMax ++ m.accMax) && m.rateMax.length == 3 && m.accMax.length == 3

def CameraArg.wf (c : CameraArg) : Bool :=
  wfU32 [c.en, c.x0, c.y0, c.w, c.h, c.period, c.exposureNs, c.thresh, c.spatMin]

/-- R38. -/
def GridArg.wf (g : GridArg) : Bool :=
  wfU8 [g.oar, g.set] && wfI32 [g.gx0, g.gy0, g.focusGain] && wfU32 [g.pitch, g.crc] && wfU64 [g.addr, g.len] &&
  (-2 ^ 15 ≤ g.temp ∧ g.temp < 2 ^ 15)

def StitchArg.wf (s : StitchArg) : Bool := wfU8 [s.a, s.b, s.w] && wfPts [s.s]

/-- R226: bits 12 to 15 of LFLAGS carry nothing. -/
def SlotDesc.wf (d : SlotDesc) : Bool :=
  wfU8 [d.slot, d.mode, d.spSrc, d.spIdx, d.pvSrc, d.pvIdx, d.outDst, d.outIdx, d.gainTable, d.rate] && d.lflags < 32 &&
  wfU32 [d.eNorm, d.slew] && wfU16 [d.dFilt, d.aw] &&
  wfI32 [d.uMin, d.uMax, d.iMin, d.iMax, d.kv, d.ka, d.manValue, d.failValue, d.pvLo, d.pvHi]

/-- R344. -/
def AxisDesc.wf (d : AxisDesc) : Bool :=
  wfU8 [d.axis, d.encSel, d.loopUse, d.microFine, d.microCoarse] && d.aflags < 64 &&
  wfU16 [d.stepW, d.dirSetup, d.msSetup, d.elecOffset] &&
  wfU32 [d.msMap, d.vMax, d.aMax, d.dMax, d.jMax, d.msUp, d.msDown, d.trimMax, d.followMax, d.inPos, d.moveDrawW] &&
  wfI64 [d.softMin, d.softMax]

/-- R345. -/
def EncDesc.wf (d : EncDesc) : Bool :=
  wfU8 [d.enc, d.emode] && d.eflags < 8 && wfU16 [d.minEdge, d.obsBw, d.indexTol, d.idxMaxOn] &&
  wfU32 [d.num, d.den, d.indexPeriod, d.stillTime]

def HomeArg.wf (h : HomeArg) : Bool :=
  wfU32 [h.mode, h.speed, h.swFilter, h.lockout, h.qualWin] && wfI32 [h.direction] && wfI64 [h.homePos]

def RecoatArg.wf (r : RecoatArg) : Bool :=
  wfU32 [r.recoater, r.platform, r.doser, r.returnSpeed, r.recUpm, r.doseNominal] && wfI32 [r.platRatio] &&
  wfI64 [r.spreadStart, r.spreadEnd, r.park]

/-- A list argument has at most as many entries as its table allows; the count field and step 4 of R409 say the rest. -/
def ImageArg.wf (c : ImageArg) : Bool :=
  wfI64 [c.start, c.stop] && wfU32 [c.lineW, c.lineX0, c.lineExp, c.strobeDelay, c.dutyMax, c.slots, c.nMax, c.required] &&
  wfU64 [c.bufBase] && c.dirs.length ≤ 4 && c.dirs.all fun d => wfU32 [d.mask, d.current, d.width]

def LampArg.wf (a : LampArg) : Bool :=
  wfU32 [a.ain, a.rPu, a.r25, a.beta, a.thermLo, a.thermHi] && wfI32 [a.tDerate, a.tMax]

def TimePortArg.wf (a : TimePortArg) : Bool :=
  wfU32 [a.port] && wfU64 [a.mac] && wfI32 [a.txCorr, a.rxCorr] &&
  (match a.vlan with | some v => wfU32 [v.1, v.2] | none => a.ipv4.isNone) &&
  (match a.ipv4 with | some p => wfU32 [p] | none => true)

def TimeDomainArg.wf (a : TimeDomainArg) : Bool :=
  wfU32 [a.domain, a.port, a.number, a.profile, a.transport, a.role, a.oneStep, a.preferred] && wfI32 [a.logSync]

def wfOpt (f : Nat → Bool) : Option Nat → Bool
  | some n => f n
  | none => true

/-- A command row or an event row whose operands fit. -/
def Instr.wf : Instr → Bool
  | .oarEnable m k => wfMbx m && wfU32 [k]
  | .oarDisable m k => wfMbx m && wfU32 [k]
  | .oarStatus m => wfMbx m
  | .oarMotion m k a => wfMbx m && wfU32 [k] && a.wf
  | .oarLatency m s => wfMbx m && (match s with | some (k, l, c) => wfU32 [k, l, c] | none => true)
  | .oarPowermap m k cs i => wfMbx m && wfU32 (k :: i :: cs) && cs.length == 33
  | .oarPlacement m k c => wfMbx m && wfU32 [k, c]
  | .oarMeasure m k => wfMbx m && wfU32 [k]
  | .oarCamera m k c => wfMbx m && wfU32 [k] && c.wf
  | .oarDark m k => wfMbx m && wfU32 [k]
  | .oarSense m k => wfMbx m && wfU32 [k]
  | .oarLink m p w h t a => wfMbx m && wfU64 [p] && wfU32 [w, h, t, a]
  | .oarLinkstat m p c => wfMbx m && wfU64 [p] && wfU32 [c]
  | .oarRetrain m p => wfMbx m && wfU64 [p]
  | .oarPower m p s => wfMbx m && wfU64 [p] && wfU32 [s]
  | .oarEyescan m p a b c d n ad => wfMbx m && wfU32 [p, n] && wfI32 [a, b, c, d] && wfU64 [ad]
  | .oarSvc m p o a l ds => wfMbx m && wfU32 [p, o, a, l] && ds.length ≤ 2000
  | .fieldBed m x y w h => wfMbx m && wfI32 [x, y, w, h]
  | .fieldGrid m g => wfMbx m && g.wf
  | .fieldPolygon m k vs => wfMbx m && wfU32 [k] && wfPts vs && vs.length ≤ 16
  | .fieldKeepout m z k vs => wfMbx m && wfU32 [z, k] && wfPts vs && vs.length ≤ 8
  | .fieldStitch m ps => wfMbx m && ps.all StitchArg.wf && ps.length ≤ 256
  | .fieldMasks m a n c => wfMbx m && wfU64 [a] && wfU32 [n, c]
  | .fieldCommit m => wfMbx m
  | .fieldDiscard m => wfMbx m
  | .fieldQuery m w i n => wfMbx m && wfU32 [w, i, n]
  | .fieldEligible m p q i => wfMbx m && wfPts [p, q] && wfOpt (fun n => wfU32 [n]) i
  | .layerParams m f n a c => wfMbx m && wfU32 [f, n, c] && wfU64 [a]
  | .layerProfiles m f n a c => wfMbx m && wfU32 [f, n, c] && wfU64 [a]
  | .layerTargets m f n a c => wfMbx m && wfU32 [f, n, c] && wfU64 [a]
  | .layerCommit m a => wfMbx m && wfU64 [a]
  | .layerChecksComplete => true
  | .layerCancel m l => wfMbx m && wfU32 [l]
  | .layerAbandon m l => wfMbx m && wfU32 [l]
  | .layerReload m l f n => wfMbx m && wfU32 [l, f, n]
  | .layerStatus m l => wfMbx m && wfOpt (fun n => wfU32 [n]) l
  | .layerReport m l => wfMbx m && wfU32 [l]
  | .layerLibrary m k i => wfMbx m && wfU32 [k, i]
  | .marshalConfig m h b o => wfMbx m && wfU32 [h, b, o]
  | .marshalThermal m s => wfMbx m && (match s with | some (e, l) => wfU32 [e, l] | none => true)
  | .marshalThermtable m f n a c => wfMbx m && wfU32 [f, n, c] && wfU64 [a]
  | .marshalStatus m => wfMbx m
  | .marshalStats m l => wfMbx m && wfU32 [l]
  | .marshalInterrupted m l f n => wfMbx m && wfU32 [l, f, n]
  | .marshalWake m r => wfMbx m && (match r with | some (a, b, c, d) => wfU32 [a, b, c, d] | none => true)
  | .marshalHeat m c r w h a wr => wfMbx m && wfU32 [c, r, w, h, wr] && wfU64 [a]
  | .loopConfig m ds => wfMbx m && ds.all SlotDesc.wf && ds.length ≤ 160
  | .loopGains m f n a c => wfMbx m && wfU32 [f, n, c] && wfU64 [a]
  | .loopCommit m => wfMbx m
  | .loopMode m ss st man =>
    wfMbx m && ss < 2 ^ 160 && wfU32 [st] && (match man with | some v => wfI32 [v] | none => true)
  | .loopSetpoint m s v => wfMbx m && wfU32 [s] && wfI32 [v]
  | .loopGear m e n d => wfMbx m && wfU32 [e, d] && wfI32 [n]
  | .loopIo m a p => wfMbx m && a.length == 8 && p.length == 8 && wfI32 (a.flatMap fun x => [x.1, x.2]) && wfU32 p
  | .loopStatus m ss => wfMbx m && ss < 2 ^ 160
  | .loopTrace m ss n a => wfMbx m && wfU32 (n :: ss) && ss.length ≤ 4 && wfU64 [a]
  | .loopRestore m => wfMbx m
  | .slideConfig m ds => wfMbx m && ds.all AxisDesc.wf && ds.length ≤ 8
  | .slideEncoder m ds => wfMbx m && ds.all EncDesc.wf && ds.length ≤ 8
  | .slideMove m a t v => wfMbx m && wfU32 [a] && wfI64 [t] && wfOpt (fun n => wfU32 [n]) v
  | .slideStop m k => wfMbx m && wfU32 [k]
  | .slideHome m a h => wfMbx m && wfU32 [a] && h.wf
  | .slideLimits m a v c d j => wfMbx m && wfU32 [a, v, c, d, j]
  | .slideSetpos m a p => wfMbx m && wfU32 [a] && wfI64 [p]
  | .slideRecoat m r => wfMbx m && r.wf
  | .slideStatus m k => wfMbx m && wfU32 [k]
  | .slideClear m k => wfMbx m && wfU32 [k]
  | .imageConfig m c => wfMbx m && c.wf
  | .imageStatus m => wfMbx m
  | .imageLine m d a => wfMbx m && wfU32 [d] && wfU64 [a]
  | .ledConfig m c r i v => wfMbx m && wfU32 [c, r, i, v]
  | .ledPattern m p ss =>
    wfMbx m && wfU32 [p] && ss.length ≤ 32 && ss.all fun s => wfU8 [s.level, s.shape] && wfU16 [s.time]
  | .ledSet m k p ph mp => wfMbx m && wfU32 (k :: p :: ph :: mp) && mp.length == 5
  | .ledLamp m a => wfMbx m && a.wf
  | .ledStatus m => wfMbx m
  | .ledClear m k => wfMbx m && wfU32 [k]
  | .recRing m r b s o c l => wfMbx m && wfU32 [r, o] && wfU64 [b, s, c, l]
  | .recTake m t d g => wfMbx m && wfU32 [t, d, g]
  | .recConsume m r t => wfMbx m && wfU32 [r] && wfU64 [t]
  | .recStatus m => wfMbx m
  | .recMark m v => wfMbx m && wfU32 [v]
  | .memFence m => wfMbx m
  | .memConfig m o k s c r => wfMbx m && wfU32 [o, k, s, c, r]
  | .memQos m a b c => wfMbx m && wfU32 [a, b, c]
  | .memStatus m => wfMbx m
  | .memErrlog m f n c => wfMbx m && wfU32 [f, n, c]
  | .memMigrate m c r => wfMbx m && wfU32 [c, r]
  | .memUnretire m c r => wfMbx m && wfU32 [c, r]
  | .memRetrain m k => wfMbx m && wfU32 [k]
  | .memInject m a k => wfMbx m && wfU64 [a] && wfU32 [k]
  | .sysIdentify m => wfMbx m
  | .sysCq m b n => wfMbx m && wfU64 [b] && wfU32 [n]
  | .sysCompletions m f n => wfMbx m && wfU32 [f, n]
  | .sysDma m c b n p r => wfMbx m && wfU32 [c, n, p, r] && wfU64 [b]
  | .sysDmastatus m k => wfMbx m && wfU32 [k]
  | .sysAperture m b => wfMbx m && wfU64 [b]
  | .sysAbort m t g => wfMbx m && wfU32 [t, g]
  | .sysMbxstat m c => wfMbx m && wfU32 [c]
  | .sysService m o => wfMbx m && wfU32 [o]
  | .sysClockplan m c d => wfMbx m && wfU32 [c, d]
  | .sysClocksrc m s => wfMbx m && wfU32 [s]
  | .sysClockstat m => wfMbx m
  | .sysClockraw m c d f => wfMbx m && wfU32 [c, d, f]
  | .sysBlockreset m c i => wfMbx m && wfU32 [c, i]
  | .sysLadder m c => wfMbx m && (match c with | some (a, b, w) => wfU32 [a, b, w] | none => true)
  | .sysFuse m f v => wfMbx m && wfU32 [f, v]
  | .fwStage m a l c => wfMbx m && wfU64 [a, l] && wfU32 [c]
  | .fwActivate m s => wfMbx m && wfU32 [s]
  | .fwStatus m => wfMbx m
  | .fwCommit m => wfMbx m
  | .modeHold m u => wfMbx m && wfU32 [u]
  | .modeSet m t => wfMbx m && wfU32 [t]
  | .modeStandby m w => wfMbx m && wfU32 [w]
  | .modeStatus m => wfMbx m
  | .modeBudget m c r =>
    wfMbx m && wfU32 [c] &&
      (match r with
        | some (p, os) => wfU32 [p] && os.length ≤ 32 && os.all fun o => wfU32 [o.oar, o.rated, o.wallPlug]
        | none => true)
  | .modeLeave m c => wfMbx m && wfU32 [c]
  | .modeThermal m c => wfMbx m && wfU32 [c]
  | .timePort m a => wfMbx m && a.wf
  | .timeDomain m a => wfMbx m && a.wf
  | .timeServo m b s l w n => wfMbx m && wfU32 [b, s, l, w, n]
  | .timeGang m s d p r k => wfMbx m && wfU32 [s, d, p, r, k]
  | .timeSet m s n => wfMbx m && wfU64 [s] && wfU32 [n]
  | .timeSelect m s => wfMbx m && wfU32 [s]
  | .timeStatus m c => wfMbx m && wfU32 [c]
  | .timePeers m c => wfMbx m && wfU32 [c]
  | .safeEnter m => wfMbx m
  | .safeStop m k => wfMbx m && wfU32 [k]
  | .safeClear m => wfMbx m
  | .safeRearm m k => wfMbx m && wfU32 [k]
  | .safeStage m a l c => wfMbx m && wfU64 [a, l] && wfU32 [c]
  | .safeCommit m d => wfMbx m && d.length == 32
  | .safeDiscard m => wfMbx m
  | .safeStatus m => wfMbx m
  | .safeEvents m f n => wfMbx m && wfU32 [f, n]
  | .safeProof m k => wfMbx m && wfU32 [k]
  | .safeHoldpolicy m r => wfMbx m && wfU32 [r]
  | .safeQuery m w => wfMbx m && wfU32 [w]
  | .logRead m f n => wfMbx m && wfU32 [f, n]
  | .logVerify m f l => wfMbx m && wfU32 [f, l]
  | .logSpoilstat m c => wfMbx m && wfU32 [c]
  | .logNote m d => wfMbx m && d.length == 32
  | .logDescribe m s c => wfMbx m && wfU32 [s, c]
  | .calRun m b i => wfMbx m && wfU32 [b, i]
  | .calStatus m => wfMbx m
  | .calFactory m b => wfMbx m && wfU32 [b]
  | .healthRecords m f n => wfMbx m && wfU32 [f, n]
  | .healthReport m => wfMbx m
  | .healthReplan m => wfMbx m
  | .modeReq v => wfU32 [v]
  | .hostStop v => wfU32 [v]
  | .doorbell m t => m < 16 && wfU32 [t]
  | .mbxAck k => wfU32 [k]
  | .irqTest _ _ v => wfU32 [v]
  | .irqEnable _ _ v => wfU32 [v]
  | .timeTake _ => true
  | .spoilRelease _ => true
  | .registerWrite _ o v => o < 2 ^ 20 && o % 4 == 0 && wfU32 [v]
  | .bar2Write o d _ => wfU64 [o] && d.length ≤ 512
  | .bar2Read o n _ => wfU64 [o] && n ≤ 4096
  | .recordApertureRead o n => wfU64 [o] && n ≤ 4096
  | .usbCommand d => d.length ≤ 2048
  | .classDeadlineExpiry m => wfMbx m
  | .coxTaskWatchdog c t => c < 4 && wfU32 [t]
  | .irqHoldoffExpiry _ v => v < 64
  | .functionLevelReset _ => true
  | .perstAssert => true
  | .pcieLinkChange l r c ms => l ≤ 8 && r ≤ 32 && ms.all (fun m => m.vector < 64 && m.addr < 2 ^ 64 && m.data < 2 ^ 32) &&
      (match c with
        | some c => 30 ≤ c.bar2Log && c.bar2Log ≤ 37 && 128 ≤ c.maxPayload && c.maxPayload ≤ 512 && 128 ≤ c.maxRead && c.maxRead ≤ 4096
        | none => true)
  | .busTimeout _ => true
  | .dmaPoll c d => c < 8 && d.length == 64
  | .dmaDescriptorComplete c d _ => c < 8 && d.length < 2 ^ 28 + 1
  | .dmaTimeout c => c < 8
  | .drainWaitExpiry c => c < 8
  | .frameTick => true
  | .lgateTransition k => k < 32
  | .finishBackstop k => k < 32
  | .dotSettleTimeout k => k < 32
  | .jumpPlanning k => k < 32
  | .jumpEnd k => k < 32
  | .catchHoldLimit k => k < 32
  | .lenRise k => k < 32
  | .lenSettleExpiry k => k < 32
  | .gridBlendComplete k => k < 32
  | .dispatchCycle => true
  | .dispatchOverrun => true
  | .leaveAnswer _ => true
  | .leaveGrant => true
  | .p5Revocation => true
  | .rt0BlockRead _ => true
  | .strokeSenior _ => true
  | .orphanTimeout _ => true
  | .wakeSweep => true
  | .thermalSweep => true
  | .repairPlaceFreed => true
  | .fenceRelease => true
  | .fenceClose => true
  | .recoatStart => true
  | .inPosition a => a < 8
  | .loopSlotExecute s a b => s < 160 && a < 4096 && b < 4096
  | .loopSlotOverrun s => s < 160
  | .loopSelfTest p v => p < 8 && (v = 0 || (3 ≤ v && v ≤ 5))
  | .loopMigration => true
  | .cameraExposureStart k => k < 32
  | .cameraFeaturesReady k => k < 32
  | .cameraFrameDeadline k => k < 32
  | .controlBlockUpdate r => r < 3
  | .frameStreamRelease k => k < 32
  | .returnFrame p t bs => p < 33 && t < 250000 && bs.length == 40 && bs.all (· < 2 ^ 66)
  | .returnFrameMissed p x => p < 33 && x < 2 ^ 58
  | .linkLockLoss p => p < 33
  | .relockComplete p => p < 33
  | .relockTimeout p => p < 33
  | .trainingPhaseEnd p _ => p < 33
  | .trainingPhaseTimeout p => p < 33
  | .trainingRetry p => p < 33
  | .lLinkMeasured p => p < 33
  | .forwardedClockLoss p _ => p < 33
  | .sleepAckTimeout p => p < 33
  | .fastExit p _ => p < 33
  | .eyeProbe => true
  | .eyeProbeComplete w h => w < 2 ^ 64 && h < 2 ^ 255
  | .serviceTimeout p _ => p < 33
  | .limitActive a _ => a < 8
  | .limitClear a _ => a < 8
  | .homeEdgeQualified a => a < 8
  | .homingQualWinEnd a => a < 8
  | .encoderEdge e w _ => e < 8 && w < 4
  | .wireFault e => e < 8
  | .wireFaultClear e => e < 8
  | .indexStuck e => e < 8
  | .speedObserver e => e < 8
  | .encoderStill e => e < 8
  | .lineStartSend => true
  | .strobePulseStart => true
  | .strobeSenseSample c _ _ _ => c < 12
  | .lineDeadline => true
  | .lampTemperature c => c < 4096
  | .ledPatternTick => true
  | .dramRefresh => true
  | .patrolScrubRead _ => true
  | .retrainingPause s d _ => s < 4 && d.length ≤ 64
  | .retrainLate s => s < 4
  | .migrationChunkCopy c f => c < 2 && f.length ≤ 16384
  | .ptpSync d _ => d < 2
  | .ptpDelayResp d _ => d < 2
  | .ptpAnnounce d _ => d < 2
  | .ptpDelayReq d _ _ => d < 2
  | .ptpMasterTx d _ => d < 2
  | .domainLost d => d < 2
  | .preferredRelockHold => true
  | .keepSecondsWrite => true
  | .ethPortChange p _ => p < 2
  | .arpRequest p _ => p < 2
  | .otherFrame p k => p < 2 && k < 5
  | .marksSend => true
  | .marksReceived p _ => p < 2
  | .helloSend => true
  | .helloReceived p _ _ => p < 2
  | .peerLost d => d < 4
  | .wakeFrame _ => true
  | .estopInputChange _ _ => true
  | .discrepancyLatch => true
  | .intlkInputChange _ => true
  | .lalmLow k _ => k < 32
  | .monitorSample k c => k < 32 && c < 2 ^ 14
  | .coxHeartbeat c => c < 4
  | .heartbeatLoss => true
  | .heartbeatAbsent1s => true
  | .voteLivenessLoss c => c < 3
  | .voteComparison _ => true
  | .proofStart k => k < 32
  | .proofStep k _ _ => k < 32
  | .holdRecovery _ => true
  | .umpireTimeResync => true
  | .temperatureSample _ => true
  | .avsStepDownHold => true
  | .avsStep _ _ _ => true
  | .coreUndervoltage => true
  | .railOutOfWindow r _ => r < 5
  | .railRecovered r => r < 5
  | .pllFailure p => p < 2
  | .pllRestart p => p < 2
  | .pllStandbyReady p => p < 2
  | .referenceLoss _ _ => true
  | .referenceQualified s => s < 3
  | .iroTrim _ => true
  | .clockGateTimeout _ _ => true
  | .muxHandshakeBypass => true
  | .muxSwitchAbandon => true
  | .resetAssert _ => true
  | .resetRelease => true
  | .fusePulseEnd => true
  | .bootStep _ => true
  | .bootStepTimeout => true
  | .blockReleaseTimeout c i => wfU32 [c, i]
  | .standbyWake _ => true
  | .vddAonLoss => true
  | .vbatChange _ => true
  | .crystalStop => true
  | .calBlockComplete _ => true
  | .logbookFlush => true
  | .blockFault _ => true
  | .pllLockLoss p => p < 7
  | .coxCoreMissing c => c < 4
  | .homingSwitchToggle a => a < 8
  | .encoderGlitch e w => e < 8 && w < 3
  | .replanComplete => true
  | .unretireTestComplete c _ => c < 2
  | .pcieCompletionTimeout c => c < 8
  | .coreVoltageRecovered => true
  | .commandAreaWrite m o d => m < 16 && o < 2048 && o + d.length ≤ 2048
  | .unsupportedRegisterAccess _ _ => true

end Sys2Proof
end

