-- ==== Sys2Proof/Machine/Ops.lean ====
section
/-! DEFINITION. The named operations that every chapter shares: free values, time, interrupts, the three logs, Umpire
event records, mailboxes and their responses, completions, and the shells in which a meaning runs. -/

namespace Sys2Proof.Machine

/-! ## Free values (DESIGN CHOICE, log 8) -/

/-- A free number below n. -/
def Dev.draw (d : Dev) (n : Nat) : Nat × Dev := (Config.freeNat d.free % n, { d with free := d.free + 1 })

/-- A free integer from lo to hi. -/
def Dev.drawInt (d : Dev) (lo hi : Int) : Int × Dev :=
  (lo + (Config.freeNat d.free % natOf (hi - lo + 1) : Nat), { d with free := d.free + 1 })

/-- A free choice. -/
def Dev.flip (d : Dev) : Bool × Dev := (Config.freeBool d.free, { d with free := d.free + 1 })

/-! ## Time (R12, R27, R28) -/

/-- Frame ticks in n µs, ms, s. -/
def usT (n : Nat) : Nat := 4 * n
def msT (n : Nat) : Nat := 4000 * n
def sT (n : Nat) : Nat := 4000000 * n

def Dev.now (d : Dev) : Nat := d.time.tick

/-- Whole nanoseconds of the second. -/
def Dev.nsNow (d : Dev) : Nat := natOf d.time.ns.floor

/-- Low 32 bits of the seconds. -/
def Dev.secLow (d : Dev) : Nat := d.time.sec % 2 ^ 32

/-- Device time in whole ns (`DEADLINE` of R408). -/
def Dev.timeNs (d : Dev) : Nat := d.time.sec * 1000000000 + d.nsNow

/-- Device time in whole µs. -/
def Dev.timeUs (d : Dev) : Nat := d.timeNs / 1000

/-! ## Part, COMPAT, modes (R5 to R9, R517) -/

/-- R500: the host interface is open once step S8 has ended. -/
def Dev.hostOpen (d : Dev) : Bool := 8 < d.boot.next

/-- Whether oar k exists for commands and work (R6, R9). -/
def Dev.oarExists (d : Dev) (k : Nat) : Bool := k < (if d.boot.compat then 12 else if d.fuses.part16 then 16 else 32)

/-- Whether port n is active (R5, R6, R9): its oar exists, or it is P32. -/
def Dev.portExists (d : Dev) (n : Nat) : Bool := n = 32 || d.oarExists n

/-- R484, R487: the Cox has its clock: its PLL is locked, or unlocked with every other only for want of a reference, which another
source selected by `sys.clocksrc` ends (DEDUCED, log 132). -/
def Dev.coxClocked (d : Dev) : Bool :=
  nth d.clk.locks 0 || (d.clk.lost.isSome && ! [1, 2, 3, 4, 6].any (nth d.clk.locks)) || d.boot.next ≤ 3

/-- R25: the Cox runs, with a core in service and, once step S3 has ended, its clock. -/
def Dev.coxRuns (d : Dev) : Bool := d.boot.coxCores ≠ 0 && d.coxClocked

def Dev.oarCount (d : Dev) : Nat := if d.boot.compat then 12 else if d.fuses.part16 then 16 else 32

/-- Whether an oar mask names an oar that is disabled by fuse or COMPAT (R6, R9). -/
def Dev.badOarMask (d : Dev) (k : Nat) : Bool := 2 ^ d.oarCount ≤ k

/-- The same for a port mask, whose bits 33 to 63 are zero (R577). -/
def Dev.badPortMask (d : Dev) (p : Nat) : Bool := (bitsOf 64 p).any fun n => ! d.portExists n

def Mode.code : Mode → Nat
  | .off => 0
  | .keep => 1
  | .standby => 2
  | .start => 3
  | .ready => 4
  | .build => 5
  | .hold => 6
  | .safe => 7

/-- The device runs: out of reset, supplied, not in Standby and not stopped by thermal shutdown. -/
def Dev.awake (d : Dev) : Bool :=
  3 ≤ d.mode.mode.code && d.boot.resetActive.isNone && ! d.ump.thermalDown

/-- A Soft reset is asserted: the ports keep running (R307), and time runs on. -/
def Dev.softHeld (d : Dev) : Bool := 3 ≤ d.mode.mode.code && d.boot.resetActive == some .soft && ! d.ump.thermalDown

/-- A block that has not been left in reset (R498). -/
def Dev.blockLive (d : Dev) (code i : Nat) : Bool := ! d.boot.inReset.contains (code, i)

/-! ## Interrupts (R413) -/

/-- The vector is masked in the MSI-X table (R396). -/
def Irq.masked (q : Irq) (v : Nat) : Bool := (q.table.getD v (0, 0, false)).2.2

/-- A message of one vector: pending while the vector is masked; sent now, or held until IRQ.HOLDOFF has passed since the latest
one. -/
def Irq.message (tick v : Nat) (q : Irq) : Irq × Bool :=
  if q.masked v then ({ q with pba := q.pba ||| BitVec.ofNat 64 (2 ^ v) }, false)
  else match q.last.find? (·.1 = v) with
  | some p =>
    if tick < p.2 + usT q.holdoff then ({ q with held := if q.held.contains v then q.held else q.held ++ [v] }, false)
    else ({ q with last := (v, tick) :: q.last.filter (·.1 ≠ v) }, true)
  | none => ({ q with last := (v, tick) :: q.last }, true)

/-- A cause bit set as by its event: a message when the bit rises and is enabled. -/
def Irq.set (tick v : Nat) (q : Irq) : Irq × Bool :=
  let rises := ! q.cause.getLsbD v
  let q' := { q with cause := q.cause ||| BitVec.ofNat 64 (2 ^ v) }
  if rises && q.enable.getLsbD v then Irq.message tick v q' else (q', false)

/-- An operation on one function's block, its message recorded. -/
def HostIf.onIrq (pf1 : Bool) (v : Nat) (f : Irq → Irq × Bool) (h : HostIf) : HostIf :=
  let r := f (if pf1 then h.irq1 else h.irq0)
  let h' := if pf1 then { h with irq1 := r.1 } else { h with irq0 := r.1 }
  if r.2 then { h' with msgs := (pf1, v) :: h'.msgs } else h'

/-- R413: the same causes in both functions' blocks. -/
def Dev.raise (d : Dev) (v : Nat) : Dev :=
  { d with host := (d.host.onIrq false v (Irq.set d.now v)).onIrq true v (Irq.set d.now v) }

/-! ## The Logbook (R543 to R545) -/

/-- Bytes 0 to 95 of a record (R543). -/
def LogRec.head (r : LogRec) : List Byte :=
  u32 r.seq ++ u64 r.timeS ++ u32 r.timeNs ++ u8 r.origin ++ u8 r.flags ++ u16 r.opcode ++ u16 r.object ++ u16 r.index ++
  u32 r.tag ++ u8 r.mailbox ++ [0, 0, 0] ++ r.oldDigest ++ r.newDigest

def LogRec.bytes (r : LogRec) : List Byte := r.head ++ r.chain

/-- What a record is made of. -/
structure LogArg where
  origin : Nat
  flags : Nat
  opcode : Nat
  object : Nat
  index : Nat
  tag : Nat
  mailbox : Nat
  oldDigest : List Byte
  newDigest : List Byte
deriving Inhabited

/-- The newest record of the flash journal, or 0. -/
def Logs.flushed (l : Logs) : Nat := (l.journal.getLast?.map (·.seq)).getD 0

/-- R545: the records not yet in flash are appended in order; the journal keeps its latest 8192. -/
def Logs.flush (l : Logs) : Logs :=
  let j := l.journal ++ l.chip.filter (fun r => l.flushed < r.seq)
  let gone := j.take (j.length - 8192)
  { l with journal := j.drop (j.length - 8192), base := (gone.getLast?.map (·.chain)).getD l.base, waitTick := none }

/-- Whether a record has waited 50 ms for flash, by local ticks (R28, R545). -/
def Logs.overdue (l : Logs) (now : Nat) : Bool :=
  match l.waitTick with
  | some t => t + msT 50 ≤ now
  | none => false

/-- A record created: LSEQ and CHAIN are assigned; the chip keeps the latest 1024 (R543, R545). -/
def Logs.append (l : Logs) (timeS timeNs now : Nat) (a : LogArg) : Logs :=
  let fl := a.flags ||| (if l.restartDue then 1 else 0)
  let r0 : LogRec := ⟨l.nextLog, timeS, timeNs, a.origin, fl, a.opcode, a.object, a.index, a.tag, a.mailbox,
    a.oldDigest, a.newDigest, []⟩
  let ch := sha256 (r0.head ++ l.chain)
  let c := l.chip ++ [{ r0 with chain := ch }]
  { l with chip := c.drop (c.length - 1024), nextLog := l.nextLog + 1, chain := ch, restartDue := false, waitTick := l.waitTick.or (some now) }

/-- Origins 1 (PF0) and 4 (USB) reach flash at once (R545). -/
def Dev.logRaw (d : Dev) (a : LogArg) : Dev :=
  let l := d.logs.append d.time.sec d.nsNow d.now a
  ({ d with logs := if a.origin = 1 ∨ a.origin = 4 then l.flush else l }).raise 37

/-- A record of a change without a command (R421, R543). -/
def Dev.logDevice (d : Dev) (origin flags object index : Nat) (old new : List Byte) : Dev :=
  d.logRaw ⟨origin, flags, 0, object, index, 0, 0xFE, sha256 old, sha256 new⟩

/-! ## The spoil queue (R547 to R549) -/

/-- Places used by general and by kept records. -/
def Logs.spoilUsed (l : Logs) (kept : Bool) : Nat := (l.spoil.filter (·.kept == kept)).length

/-- The oldest released record whose place may be reused (R548). -/
def Logs.spoilReusable (l : Logs) (kept : Bool) : Option SpoilRec :=
  l.spoil.find? fun r => r.seq < l.spoilRelease && r.kept == kept

/-- A place for a new record: free or reused, general first, the kept ones for NO_COALESCE only (R548, R549). -/
def Logs.spoilPlace (l : Logs) (noCo : Bool) : Option (Bool × List SpoilRec) :=
  if l.spoilUsed false < 4032 then some (false, l.spoil)
  else match l.spoilReusable false with
    | some r => some (false, l.spoil.filter (·.seq ≠ r.seq))
    | none =>
      if ! noCo then none
      else if l.spoilUsed true < 64 then some (true, l.spoil)
      else (l.spoilReusable true).map fun r => (true, l.spoil.filter (·.seq ≠ r.seq))

/-- The newest held record that an event merges into (R548). -/
def Logs.spoilMatch (l : Logs) (source inst code : Nat) : Option SpoilRec :=
  l.spoil.reverse.find? fun r => r.source = source ∧ r.inst = inst ∧ r.code = code ∧ l.spoilRelease ≤ r.seq

/-- One error event (R548, R549). -/
def Dev.spoil (d : Dev) (source inst code : Nat) (noCo : Bool) (info : Nat) : Dev :=
  let l := d.logs
  match (if noCo then none else l.spoilMatch source inst code) with
  | some r =>
    { d with logs := { l with spoil := l.spoil.map fun x =>
        if x.seq = r.seq then { x with count := min (x.count + 1) 0xFFFFFFFF, lastS := d.secLow, lastNs := d.nsNow }
        else x } }
  | none =>
    match l.spoilPlace noCo with
    | none => { d with logs := { l with overflow := upd l.overflow source (· + 1) } }
    | some (kept, held) =>
      let n := l.spoilNewest + 1
      let r : SpoilRec := ⟨n, source, inst, code, noCo, 1, d.secLow, d.nsNow, d.secLow, d.nsNow, info, kept⟩
      ({ d with logs := { l with spoil := held ++ [r], spoilNewest := n } }).raise 36

/-- The 32 bytes of R547. -/
def SpoilRec.bytes (r : SpoilRec) : List Byte :=
  u32 r.seq ++ u8 r.source ++ u8 r.inst ++ u16 (r.code % 0x1000 + if r.noCoalesce then 0x8000 else 0) ++ u32 r.count ++
  u32 r.firstS ++ u32 r.firstNs ++ u32 r.lastS ++ u32 r.lastNs ++ u32 r.info

/-! ## Health records (R550) -/

/-- A health record filed; the chip keeps the latest 1024. -/
def Dev.healthRec (d : Dev) (kind severity subject inst : Nat) (value limit trend plan : Int) : Dev :=
  let r : HealthRec := ⟨d.logs.nextHealth, d.secLow, d.nsNow, kind, severity, subject, inst, value, limit, trend, plan⟩
  let h := d.logs.health ++ [r]
  ({ d with logs := { d.logs with health := h.drop (h.length - 1024), nextHealth := d.logs.nextHealth + 1 } }).raise 38

/-- The 64 bytes of R550. -/
def HealthRec.bytes (r : HealthRec) : List Byte :=
  u32 r.seq ++ u32 r.timeS ++ u32 r.timeNs ++ u8 r.kind ++ u8 r.severity ++ u8 r.subject ++ u8 r.inst ++ i32 r.value ++
  i32 r.limit ++ i32 r.trend ++ i32 r.plan ++ List.replicate 32 0

/-! ## Umpire event records (R477) -/

/-- The cores in the majority: those in service that did not differ in the latest comparison (R452, R453). -/
def Umpire.votes (u : Umpire) : Nat :=
  maskOf ((List.range 3).filter fun i => let c := nth u.cores i; c.inService && c.live && c.differs = 0)

/-- Device time as the Umpire's copy has it, as seconds and ns (R477). -/
def Dev.umpTime (d : Dev) : Nat × Nat :=
  let t := natOf ((d.timeNs : Int) + d.ump.timeSkew)
  (t / 1000000000 % 2 ^ 32, t % 1000000000)

/-- An event record filed; the Umpire keeps its latest 512, and each enters the spoil queue too (R477, R547). -/
def Dev.event (d : Dev) (kind cause oar : Nat) (value limit : Int) (detail2 : Nat) : Dev :=
  let t := d.umpTime
  let e : UmpEvent := ⟨d.ump.nextEvent, kind, cause, oar, d.ump.votes, value, limit, detail2, t.1, t.2⟩
  let es := d.ump.events ++ [e]
  let d' := { d with ump := { d.ump with events := es.drop (es.length - 512), nextEvent := d.ump.nextEvent + 1 } }
  d'.spoil 0x0E oar (256 * kind + cause) true (wrapTo 32 value)

/-- The 32 bytes of R477. -/
def UmpEvent.bytes (e : UmpEvent) : List Byte :=
  u32 e.seq ++ u8 e.kind ++ u8 e.cause ++ u8 e.oar ++ u8 e.votes ++ i32 e.value ++ i32 e.limit ++ u32 e.detail2 ++
  u32 0 ++ u32 e.timeS ++ u32 e.timeNs

/-! ## Command headers (R408, R427) -/

structure Hdr where
  magic : Nat
  version : Nat
  cls : Nat
  opcode : Nat
  flags : Nat
  tag : Nat
  length : Nat
  deadline : Nat
  reserved : Nat
  payloadAt : Nat
deriving DecidableEq, Repr, Inhabited

/-- The header of a command area, in the version that the present COMPAT state accepts. -/
def hdrOf (v1 : Bool) (c : Cells) : Hdr :=
  let w := fun (a n : Nat) => unle (memBytes c a n)
  if v1 then ⟨w 0 2, w 2 1, w 3 1, w 4 2, 0, w 8 4, w 6 2, 0, w 0xC 4, 0x10⟩
  else ⟨w 0 2, w 2 1, w 3 1, w 4 2, w 6 2, w 8 4, w 0xC 4, w 0x10 8, w 0x18 8, 0x20⟩

/-- USB commands use the version-2 header (R421). -/
def Dev.hdr (d : Dev) (m : Nat) : Hdr := hdrOf (d.boot.compat && m < 16) (nth d.host.mbx m).cmd

def Dev.payload (d : Dev) (m : Nat) : List Byte :=
  let h := d.hdr m
  memBytes (nth d.host.mbx m).cmd h.payloadAt h.length

/-- The native opcode of the command a mailbox holds (R553). -/
def Dev.nativeOp (d : Dev) (m : Nat) : Option Nat :=
  let o := (d.hdr m).opcode
  if d.boot.compat && m < 16 then v1Native o else if (opRow o).isSome then some o else none

/-- The class code of a mailbox (R406). -/
def mbxClass (m : Nat) : Nat := if m = 0 then 0 else if m < 4 then 1 else 2

/-- Whether a mailbox accepts an opcode of a class (R406). -/
def classAccepted (m cls : Nat) : Bool :=
  if m = 0 then cls = 0 else if m < 4 then cls = 1 else cls = 1 || cls = 2

/-- R421: what the USB service origin may issue while `sys.service` is on. -/
def usbPermits (on : Bool) (r : OpRow) : Bool :=
  on && r.cls ≠ 0 && r.modes.testBit 4 && r.op / 256 ≠ 0x0C && r.op / 256 ≠ 0x03 &&
  (r.op / 256 ≠ 0x0E || r.op = 0x0E08)

/-- R490, R508: `sys.clockraw` is for the USB origin, `sys.fuse` for PF0. -/
def originPermits (m : Nat) (on : Bool) (r : OpRow) : Bool :=
  if m = 16 then usbPermits on r && r.op ≠ 0x0116 else r.op ≠ 0x0113

/-- Steps 1 to 7 of R409: STATUS and DETAIL of the first failure. -/
def Dev.examine (d : Dev) (m : Nat) : Option (Nat × Nat) :=
  let h := d.hdr m
  let v1 := d.boot.compat && m < 16
  let row := (d.nativeOp m).bind opRow
  if h.magic ≠ 0x4D42 then some (0x22, 0xFF01)
  else if h.version ≠ (if v1 then 1 else 2) then some (0x22, 0xFF02)
  else if (m < 16 && h.cls ≠ mbxClass m) || (m < 16 && (row.map fun r => ! classAccepted m r.cls).getD false) then
    some (0x21, 0xFF03)
  else if h.length > (if v1 then 2032 else 2016) || (row.map fun r => ! r.form.ok (d.payload m)).getD false then
    some (0x21, 0xFF04)
  else if h.reserved ≠ 0 || 8 ≤ h.flags || (m = 0 && h.flags % 4 ≠ 0) then some (0x21, 0xFF05)
  else match row with
    | none => some (0x20, 0xFF06)
    | some r => if originPermits m d.host.serviceOn r then none else some (0x10, 0xFF07)

/-! ## Order between commands (R412) -/

/-- Whether a job's command still lacks its final outcome: its response, or its completion record once ACCEPTED. -/
def Job.open (j : Job) : Bool := j.mbx < 17 && ! (j.orphaned && j.completionId = 0)

/-- A command accepted earlier, of a number below `seq`, that lacks its final outcome and meets `p` on its flags. -/
def Dev.earlierOpen (d : Dev) (seq : Nat) (p : Nat → Bool) : Bool :=
  (List.range 17).any (fun m =>
    let b := nth d.host.mbx m
    (b.st == .queued || b.st == .executing) && b.seq < seq && p (d.hdr m).flags) ||
  d.host.jobs.any fun j => j.open && j.completionId ≠ 0 && j.seq < seq && p j.flags

/-- R412: whether the fences let the command in mailbox m start. -/
def Dev.fencesOpen (d : Dev) (m : Nat) : Bool :=
  let seq := (nth d.host.mbx m).seq
  m = 0 || (! d.earlierOpen seq (·.testBit 1) &&
    (! (d.hdr m).flags.testBit 0 || ! d.earlierOpen seq fun _ => true))

/-- R410: the class deadline of a queued command runs from the moment it may start. -/
def Dev.refreshStarts (d : Dev) : Dev :=
  { d with host := { d.host with mbx := d.host.mbx.mapIdx fun i b =>
      if b.st == .queued && b.startTick.isNone && d.fencesOpen i then { b with startTick := some d.now } else b } }

/-- The class of the command a mailbox holds. -/
def Dev.classOf (d : Dev) (m : Nat) : Nat := (((d.nativeOp m).bind opRow).map (·.cls)).getD 2

/-- R410: no other command is started while an Urgent one is QUEUED, no Bulk command while a Control command that may start
waits. -/
def Dev.controlFirst (d : Dev) (m : Nat) : Bool :=
  (m = 0 || ! ((nth d.host.mbx 0).st == .queued)) &&
    (d.classOf m ≠ 2 || ! (List.range 17).any fun i =>
      i ≠ m && (nth d.host.mbx i).st == .queued && d.classOf i = 1 && d.fencesOpen i)

/-! ## Class deadlines (R406, R410) -/

def classTicks (cls : Nat) : Nat := if cls = 0 then usT 50 else if cls = 1 then msT 10 else sT 1

def Dev.deadlineOf (d : Dev) (m : Nat) : Nat := classTicks (if m < 16 then mbxClass m else d.classOf m)

/-- The class deadline of the command in mailbox m has come, its cycle included (R426). -/
def Dev.mbxLate (d : Dev) (m : Nat) : Bool :=
  match (nth d.host.mbx m).startTick with
  | some t => t + d.deadlineOf m ≤ d.now
  | none => false

/-! ## Responses and completions (R408, R415, R416) -/

/-- The response written, DONE set, then the cause raised (R407); the area holds 2016 result bytes, 2032 in version 1. -/
def Dev.respond (d : Dev) (m status detail hint completionId : Nat) (result : List Byte) : Dev :=
  let h := d.hdr m
  let b := nth d.host.mbx m
  let r : Response := ⟨status, detail, h.opcode, h.tag, hint, completionId,
    if completionId ≠ 0 ∨ status = 0 ∨ status = 1 ∨ b.effect then b.logSeq else 0, result.take (if d.boot.compat then 2032 else 2016)⟩
  let run := match b.startTick with | some t => d.now - t | none => 0
  let d' := { d with host := { d.host with mbx := upd d.host.mbx m fun b =>
    { b with st := .done, resp := some r, longest := max b.longest run } } }
  (if m < 16 then d'.raise m else d').refreshStarts

/-- R417: an internal fault files a spoil record; its code, which R576 does not list, is the firmware's own (log 140). -/
def Dev.faultRec (d : Dev) (m status : Nat) : Dev :=
  if status = 0x40 then d.spoil 0x01 (if m < 16 then m else 0xFF) Config.faultCode.toNat false 0 else d

/-- R410: TIMEOUT is written by hardware; a command past its effect point files a spoil record, its late response discarded. -/
def Dev.timeoutResp (d : Dev) (m : Nat) : Dev :=
  let b := nth d.host.mbx m
  let d1 := if b.st == .executing && b.effect then d.spoil 0x01 (if m < 16 then m else 0xFF) 0x002 true b.logSeq else d
  ({ d1 with host := { d1.host with mbx := upd d1.host.mbx m fun b => { b with timeouts := b.timeouts + 1 } } }).respond m 0x30 0xFF0A 0 0 []

/-- The bytes of the response area (R408, R427). -/
def Response.bytes (v1 : Bool) (r : Response) : List Byte :=
  if v1 then u16 0x4D42 ++ u8 1 ++ u8 r.status ++ u16 r.detail ++ u16 r.result.length ++ u32 r.tag ++ u32 r.waitHint ++ r.result
  else u16 0x4D42 ++ u8 2 ++ u8 r.status ++ u16 r.detail ++ u16 r.opcode ++ u32 r.tag ++ u32 r.result.length ++
    u32 r.waitHint ++ u32 r.completionId ++ u32 r.logSeq ++ u32 0 ++ r.result

/-- Bytes 0 to 127 of R415. -/
def Completion.bytes (c : Completion) : List Byte :=
  u16 0x4D43 ++ u8 2 ++ u8 c.status ++ u16 c.detail ++ u16 c.opcode ++ u32 c.tag ++ u32 c.id ++ u8 c.mailbox ++
  u8 c.origin ++ u16 0 ++ u32 (min c.result.length 88) ++ u32 c.timeS ++ u32 c.timeNs ++
  (c.result.take 88 ++ List.replicate (88 - c.result.length) 0) ++ u32 0 ++
  u32 (c.seq % 2 ^ 31 + if c.phase then 2 ^ 31 else 0)

/-- A write into host memory, with the relaxed-ordering attribute or without it. -/
def HostIf.toHostAs (h : HostIf) (relaxed : Bool) (addr : Nat) (bs : List Byte) : HostIf :=
  { h with hostOut := (addr, relaxed, bs) :: h.hostOut }

def HostIf.toHost (h : HostIf) (addr : Nat) (bs : List Byte) : HostIf := h.toHostAs false addr bs

/-- Whether a function takes requests: its link is up, and it is not in D3hot (R395). -/
def HostIf.answers (h : HostIf) (pf1 : Bool) : Bool := if pf1 then h.link1Up else h.linkUp

/-- An error of a function comes into its AER status, under the PCI Express family's bit (PRESUMED, log 16). -/
def HostIf.aerSet (h : HostIf) (pf1 : Bool) (bit : Nat) : HostIf :=
  if pf1 then { h with aer1 := h.aer1 ||| 2 ^ bit } else { h with aer0 := h.aer0 ||| 2 ^ bit }

/-- R416: the record into its queue entry, bytes 0 to 123 first. -/
def HostIf.postCq (h : HostIf) (c : Completion) : HostIf :=
  match h.cq with
  | none => h
  | some (base, n, _) =>
    let a := base + 128 * (c.seq % n)
    (h.toHost a (c.bytes.take 124)).toHost (a + 124) (c.bytes.drop 124)

/-- The phase bit of the next record: 1 at first, inverted at every wrap (R416). -/
def HostIf.cqPhase (h : HostIf) : Bool :=
  match h.cq with
  | none => true
  | some (_, n, s0) => (h.cqSeq / n - s0 / n) % 2 = 0

/-- The completion record of an ACCEPTED command (R415, R416). -/
def Dev.complete (d : Dev) (j : Job) (status detail : Nat) (result : List Byte) : Dev :=
  let c : Completion := ⟨status, detail, j.opcode, j.tag, j.completionId, if j.mbx < 16 then j.mbx else 0xFF,
    if j.mbx = 16 then 4 else 1, d.secLow, d.nsNow, result, d.host.cqSeq, d.host.cqPhase⟩
  let cs := d.host.completions ++ [c]
  let h := { d.host with completions := cs.drop (cs.length - 256), cqSeq := d.host.cqSeq + 1 }
  let d' := { d with host := h.postCq c }
  if j.flags.testBit 2 then d' else d'.raise 16

/-- R404: the outcome of a MODE.MODE_REQ. -/
def Dev.modeReqDone (d : Dev) (status detail : Nat) : Dev :=
  ({ d with host := { d.host with modeReq := { d.host.modeReq with status := status, detail := detail, busy := false } } }).raise 35

/-- The final outcome of a command that had none yet; a response that comes too late gives way to the hardware's TIMEOUT
(R426). -/
def Dev.finish (d : Dev) (j : Job) (status detail : Nat) (result : List Byte) : Dev :=
  let d' := { d with host := { d.host with jobs := d.host.jobs.erase j } }
  (if j.mbx = 17 then d'.modeReqDone status detail
   else if j.completionId ≠ 0 then (d'.faultRec j.mbx status).complete j status detail result
   else if j.orphaned then d'.faultRec j.mbx status
   else if d'.mbxLate j.mbx then d'.timeoutResp j.mbx
   else (d'.faultRec j.mbx status).respond j.mbx status detail 0 0 result).refreshStarts

/-- Every job of a kind that meets `p` ends. -/
def Dev.finishJobs (d : Dev) (p : JobKind → Bool) (status detail : Nat) (result : List Byte) : Dev :=
  (d.host.jobs.filter fun j => p j.kind).foldl (fun d j => d.finish j status detail result) d

def Dev.hasJob (d : Dev) (p : JobKind → Bool) : Bool := d.host.jobs.any fun j => p j.kind

/-! ## The shells -/

abbrev Out := Host.Outcome State Fault Refusal

/-- Who issued the command that a meaning runs for. -/
structure Ctx where
  /-- 0 to 15; 16 USB; 17 MODE.MODE_REQ. -/
  mbx : Nat
  opcode : Nat
  tag : Nat
  flags : Nat
deriving DecidableEq, Repr, Inhabited

def Ctx.origin (x : Ctx) : Nat := if x.mbx = 16 then 4 else 1

/-- MAILBOX of R543. -/
def Ctx.logMbx (x : Ctx) : Nat := if x.mbx < 16 then x.mbx else if x.mbx = 16 then 0xFF else 0xFE

/-- A command's record under a given origin; the response carries its number (R408, R439, R543). -/
def Dev.logAs (d : Dev) (x : Ctx) (origin flags object index : Nat) (oldD newD : List Byte) : Dev :=
  let n := d.logs.nextLog
  let d' := d.logRaw ⟨origin, flags, x.opcode, object, index, x.tag, x.logMbx, oldD, newD⟩
  if x.mbx < 17 then { d' with host := { d'.host with mbx := upd d'.host.mbx x.mbx fun b => { b with logSeq := n, effect := true } } }
  else d'

/-- The Logbook record of the change a command makes; its response carries the number (R408, R543). -/
def Dev.logDigest (d : Dev) (x : Ctx) (flags object index : Nat) (oldD newD : List Byte) : Dev :=
  d.logAs x x.origin flags object index oldD newD

/-- The same from the object's stored forms. -/
def Dev.log (d : Dev) (x : Ctx) (object index : Nat) (old new : List Byte) : Dev :=
  d.logDigest x 0 object index (sha256 old) (sha256 new)

/-- What a command's own checks and effect come to (step 10 of R409 onward). -/
inductive Res where
  /-- OK, with the device after the effect. -/
  | ok (d : Dev) (result : List Byte) (ops : List DramOp)
  /-- A refusal: the device is unchanged (R417). -/
  | refuse (status detail hint : Nat)
  /-- A refusal that leaves counts, errors met while reading, or a report. -/
  | refuseWith (d : Dev) (status detail hint : Nat) (result : List Byte) (ops : List DramOp)
  /-- ACCEPTED: the job runs on. -/
  | accepted (d : Dev) (hint : Nat) (kind : JobKind) (ops : List DramOp)
  /-- The command goes on executing; `effect` tells whether it is past its effect point (R410). -/
  | executing (d : Dev) (kind : JobKind) (effect : Bool)

abbrev Body := Ctx → Dram → Dev → Res

def Res.done (d : Dev) (result : List Byte := []) : Res := .ok d result []
def badArg (detail : Nat := 0) : Res := .refuse 0x21 detail 0
def refusedBusy (hint : Nat := 0) : Res := .refuse 0x12 0 hint
def refusedMode (detail : Nat := 0) : Res := .refuse 0x10 detail 0
def refusedSafety (detail : Nat := 0) : Res := .refuse 0x13 detail 0

/-- The job of a command without final outcome. -/
def Ctx.job (x : Ctx) (seq completionId : Nat) (kind : JobKind) : Job :=
  ⟨x.mbx, x.opcode, x.tag, x.flags, seq, completionId, false, kind⟩

/-- The outcome of a command written into its mailbox. -/
def settle (x : Ctx) (d0 : Dev) : Res → Dev × List DramOp
  | .ok d r ops => (d.respond x.mbx 0 0 0 0 r, ops)
  | .refuse st de h => ((d0.faultRec x.mbx st).respond x.mbx st de h 0 [], [])
  | .refuseWith d st de h r ops => ((d.faultRec x.mbx st).respond x.mbx st de h 0 r, ops)
  | .accepted d h k ops =>
    let id := d.host.nextId
    let d' := { d with host := { d.host with
      nextId := id % 0xFFFFFFFF + 1
      jobs := d.host.jobs ++ [x.job (nth d.host.mbx x.mbx).seq id k] } }
    (d'.respond x.mbx 1 0 h id [], ops)
  | .executing d k e =>
    ({ d with host := { d.host with
      mbx := upd d.host.mbx x.mbx fun b => { b with st := .executing, effect := b.effect || e }
      jobs := d.host.jobs ++ [x.job (nth d.host.mbx x.mbx).seq 0 k] } }, [])

/-- Whether the mailbox of a command row holds that very command and it may start: only the Cox executes commands (R25,
R407, R410, R412, DESIGN CHOICE, log 12). -/
def Dev.startOf (d : Dev) (c : Instr) : Option Ctx :=
  match cmdOf c with
  | none => none
  | some (m, op, p) =>
    if d.awake && d.coxRuns && c.wf && (nth d.host.mbx m).st == .queued && d.nativeOp m == some op &&
        maskReserved op (d.payload m) == p && d.fencesOpen m && d.controlFirst m && ! d.mbxLate m then
      some ⟨m, op, (d.hdr m).tag, (d.hdr m).flags⟩
    else none

/-- Steps 8 and 9 of R409. An urgent Hold is never refused while an entry into Build is under way, the mode shown still
Ready (R521; DEDUCED, log 126). -/
def Dev.startRefusal (d : Dev) (x : Ctx) : Option (Nat × Nat) :=
  let h := d.hdr x.mbx
  if h.deadline ≠ 0 ∧ h.deadline < d.timeNs then some (0x30, 0xFF08)
  else match opRow x.opcode with
    | some r =>
      if r.modes.testBit d.mode.mode.code || (x.opcode = 0x0C01 && d.mode.entry.isSome && d.payload x.mbx == u32 1) then none
      else some (0x10, 0xFF09)
    | none => some (0x20, 0xFF06)

/-- A command of a mailbox: started only when it stands there, examined, run, answered. -/
def runCmd (c : Instr) (body : Body) (s : State) : Out :=
  .next (match s.dev.startOf c with
    | none => s
    | some x =>
      match s.dev.startRefusal x with
      | some (st, de) => { s with dev := s.dev.respond x.mbx st de 0 0 [] }
      | none =>
        let r := settle x s.dev (body x s.dram s.dev)
        { s with dev := r.1, dram := applyOps s.dram r.2 })

/-- A state changed by a device step and what it does to DRAM contents, where a condition holds. -/
def gate (ok : Bool) (f : Dram → Dev → Dev × List DramOp) (s : State) : Out :=
  .next (if ok then
      let r := f s.dram s.dev
      { s with dev := r.1, dram := applyOps s.dram r.2 }
    else s)

/-- The same for a step that leaves DRAM contents alone. -/
def gateDev (ok : Bool) (f : Dram → Dev → Dev) (s : State) : Out :=
  .next (if ok then { s with dev := f s.dram s.dev } else s)

/-- An event of the running device that leaves DRAM contents alone. -/
def onDev (c : Instr) (f : Dram → Dev → Dev) (s : State) : Out := gateDev (c.wf && s.dev.awake) f s

/-- The same for a row whose operands take any value. -/
def onDevAny (f : Dram → Dev → Dev) (s : State) : Out := gateDev s.dev.awake f s

/-- An event of a Rigger port, which runs on while a Soft reset is asserted (R307). -/
def onLink (c : Instr) (f : Dram → Dev → Dev) (s : State) : Out := gateDev (c.wf && (s.dev.awake || s.dev.softHeld)) f s

/-- An event of the running device that acts on DRAM contents. -/
def onMem (c : Instr) (f : Dram → Dev → Dev × List DramOp) (s : State) : Out := gate (c.wf && s.dev.awake) f s

def onMemAny (f : Dram → Dev → Dev × List DramOp) (s : State) : Out := gate s.dev.awake f s

/-- An event of the always-on domain: supplies, resets, wake inputs. -/
def onAon (c : Instr) (f : Dram → Dev → Dev × List DramOp) (s : State) : Out := gate c.wf f s

def onAonAny (f : Dram → Dev → Dev × List DramOp) (s : State) : Out := gate true f s

/-- The steering domain is in LOCK (R436, R441). -/
def Time.locked (t : Time) : Bool := match t.steer with | some k => (nth t.doms k).locked | none => false

def Dev.onSafe (d : Dev) (k : Nat) (f : OarSafe → OarSafe) : Dev :=
  { d with ump := { d.ump with oars := upd d.ump.oars k f } }

/-! ## Loop slots: kinds and periods (R197) -/

inductive SlotKind where
  | scanner
  | melt
  | slide
  | heater
  | general
deriving DecidableEq, Repr, Inhabited

def slotKind (s : Nat) : SlotKind :=
  if s < 96 then .scanner else if s < 128 then .melt else if s < 136 then .slide else if s < 144 then .heater else .general

/-- The oar that a scanner or melt-pool slot serves. -/
def slotOar (s : Nat) : Option Nat := if s < 96 then some (s / 3) else if s < 128 then some (s - 96) else none

/-- Period in frames of a slot under a RATE code. -/
def slotPeriod (s rate : Nat) : Nat :=
  match slotKind s with
  | .scanner => 1
  | .melt => 4
  | .slide => 80
  | .heater => 4000
  | .general => nth [4, 16, 80, 400, 4000, 40000] rate

end Sys2Proof.Machine
end

