-- ==== Sys2Proof/Machine/GeoOps.lean ====
section
/-! DEFINITION. Geometry: eligibility (R54 to R59), the working grid and the chain from bed to axis values (R36 to R45),
stitch translations (R51, R52), validity of a staged geometry (R62), the test of R458. -/

namespace Sys2Proof.Machine

/-! ## Polygons (R46 to R49, R55) -/

def cross (ax ay bx by_ : Int) : Int := ax * by_ - ay * bx

/-- cross(B − A, p − A). -/
def turn (a b p : Pt) : Int := cross (b.x - a.x) (b.y - a.y) (p.x - a.x) (p.y - a.y)

/-- The edges of a polygon. -/
def edges (vs : List Pt) : List (Pt × Pt) := vs.zip (vs.drop 1 ++ vs.take 1)

/-- R55: closed test against a convex counter-clockwise polygon. -/
def inside (vs : List Pt) (p : Pt) : Bool := (edges vs).all fun e => 0 ≤ turn e.1 e.2 p

def sgn (i : Int) : Int := if 0 < i then 1 else if i < 0 then -1 else 0

/-- Whether p, on the line through a and b, lies within their box. -/
def onSeg (a b p : Pt) : Bool :=
  min a.x b.x ≤ p.x ∧ p.x ≤ max a.x b.x ∧ min a.y b.y ≤ p.y ∧ p.y ≤ max a.y b.y

/-- R55: two closed segments touch; touching and collinear overlap count. -/
def segmentsTouch (a b p q : Pt) : Bool :=
  let d1 := sgn (turn a b p)
  let d2 := sgn (turn a b q)
  let d3 := sgn (turn p q a)
  let d4 := sgn (turn p q b)
  (d1 ≠ d2 && d3 ≠ d4) || (d1 = 0 && onSeg a b p) || (d2 = 0 && onSeg a b q) || (d3 = 0 && onSeg p q a) ||
    (d4 = 0 && onSeg p q b)

/-- R55: a closed segment meets a closed convex zone. -/
def meets (z : List Pt) (p q : Pt) : Bool :=
  inside z p || inside z q || (edges z).any fun e => segmentsTouch e.1 e.2 p q

/-- Twice the signed area. -/
def area2 (vs : List Pt) : Int := (edges vs).foldl (fun s e => s + cross e.1.x e.1.y e.2.x e.2.y) 0

/-- R46: vertices are stored counter-clockwise. -/
def ccw (vs : List Pt) : List Pt := if area2 vs < 0 then vs.reverse else vs

/-- R46, R48: convex, with no collinear or repeated vertices. -/
def convexOk (lo hi : Nat) (vs : List Pt) : Bool :=
  lo ≤ vs.length && vs.length ≤ hi && decide vs.Nodup &&
    (edges vs).all fun e => e.1 ≠ e.2 && vs.all fun v => v = e.1 || v = e.2 || 0 < turn e.1 e.2 v

/-- R50: whether two convex polygons intersect in a region of positive area. -/
def overlapOk (a b : List Pt) : Bool :=
  a ≠ [] && b ≠ [] && ! (edges a).any (fun e => b.all fun v => turn e.1 e.2 v ≤ 0) &&
    ! (edges b).any (fun e => a.all fun v => turn e.1 e.2 v ≤ 0)

/-- R35: the closed bed rectangle. -/
def Geometry.inBed (g : Geometry) (p : Pt) : Bool :=
  match g.bed with
  | none => false
  | some (x0, y0, w, h) => x0 ≤ p.x ∧ p.x ≤ x0 + w ∧ y0 ≤ p.y ∧ p.y ≤ y0 + h

/-- R55: whether oar k's field can expose the whole segment. -/
def Geometry.reaches (g : Geometry) (p q : Pt) (k : Nat) : Bool :=
  let f := nth g.fields k
  f ≠ [] && inside f p && inside f q &&
    ! (g.zones.any fun z => match z with | some z => z.mask.testBit k && meets z.vs p q | none => false)

/-- R55: computed eligibility. -/
def Geometry.computedG (g : Geometry) (p q : Pt) : Nat :=
  if g.inBed p && g.inBed q then maskOf ((List.range 32).filter (g.reaches p q)) else 0

/-- R57: computed for index 0xFFFF, supplied otherwise; none beyond the table. -/
def Geometry.eligibility (g : Geometry) (p q : Pt) (maskIndex : Nat) : Option Nat :=
  if maskIndex = 0xFFFF then some (g.computedG p q)
  else if maskIndex < g.masks.length then some (nth g.masks maskIndex) else none

/-! ## The working grid (R41, R42) -/

/-- The sets of an oar in ascending order of TEMP (R42); in COMPAT set 0 alone. -/
def Dev.corrSets (d : Dev) (k : Nat) : List CorrSet :=
  let ss := nth d.geo.active.sets k
  if d.boot.compat then ((ss.head?.join).map fun s => [s]).getD []
  else (ss.filterMap id).insertionSort fun a b => a.temp ≤ b.temp

/-- A working grid: placement, gain and nodes. -/
structure Grid where
  gx0 : Int
  gy0 : Int
  pitch : Nat
  gain : Rat
  node : Nat → List Rat

def CorrSet.nodeAt (s : CorrSet) (n : Nat) : List Rat :=
  match s.nodes.getD n (0, 0, 0) with
  | (x, y, f) => [(x : Rat), y, f]

def CorrSet.grid (s : CorrSet) : Grid := ⟨s.gx0, s.gy0, s.pitch, (s.focusGain : Rat) / 65536, s.nodeAt⟩

/-- Node-by-node linear interpolation of two sets at H (R42). -/
def blendGrid (a b : CorrSet) (h : Int) : Grid :=
  let t : Rat := ((h - a.temp : Int) : Rat) / ((b.temp - a.temp : Int) : Rat)
  { gx0 := a.gx0, gy0 := a.gy0, pitch := a.pitch
    gain := ((a.focusGain : Rat) + t * ((b.focusGain : Rat) - a.focusGain)) / 65536
    node := fun n => List.zipWith (fun x y => x + t * (y - x)) (a.nodeAt n) (b.nodeAt n) }

/-- R42: the grid at H from sets in ascending TEMP order. -/
def gridAt : List CorrSet → Int → Option Grid
  | [], _ => none
  | [s], _ => some s.grid
  | a :: b :: r, h =>
    if h ≤ a.temp then some a.grid
    else if h < b.temp then some (blendGrid a b h)
    else gridAt (b :: r) h

def crWeights (t : Rat) : List Rat :=
  [(-t ^ 3 + 2 * t ^ 2 - t) / 2, (3 * t ^ 3 - 5 * t ^ 2 + 2) / 2, (-3 * t ^ 3 + 4 * t ^ 2 + t) / 2, (t ^ 3 - t ^ 2) / 2]

def crSlopes (t : Rat) : List Rat :=
  [(-3 * t ^ 2 + 4 * t - 1) / 2, (9 * t ^ 2 - 10 * t) / 2, (-9 * t ^ 2 + 8 * t + 1) / 2, (3 * t ^ 2 - 2 * t) / 2]

/-- A stored node's field. -/
def Grid.stored (g : Grid) (f : Nat) (i j : Int) : Rat := (g.node (natOf (65 * j + i))).getD f 0

/-- R41: linear extrapolation along j at the edges. -/
def Grid.nodeJ (g : Grid) (f : Nat) (i j : Int) : Rat :=
  if j = -1 then 2 * g.stored f i 0 - g.stored f i 1
  else if j = 65 then 2 * g.stored f i 64 - g.stored f i 63
  else g.stored f i j

/-- R41: linear extrapolation along i first. -/
def Grid.nodeIJ (g : Grid) (f : Nat) (i j : Int) : Rat :=
  if i = -1 then 2 * g.nodeJ f 0 j - g.nodeJ f 1 j
  else if i = 65 then 2 * g.nodeJ f 64 j - g.nodeJ f 63 j
  else g.nodeJ f i j

def sumQ (l : List Rat) : Rat := l.foldl (· + ·) 0

/-- Σ wu[a] wv[b] node(i − 1 + a, j − 1 + b). -/
def Grid.sum16 (g : Grid) (f : Nat) (i j : Int) (wu wv : List Rat) : Rat :=
  sumQ ((List.range 4).flatMap fun b => (List.range 4).map fun a =>
    wu.getD a 0 * wv.getD b 0 * g.nodeIJ f (i - 1 + a) (j - 1 + b))

/-- R41: one field of the grid at a translated bed point, not yet rounded. -/
def Grid.valueQ (g : Grid) (f : Nat) (x y : Rat) : Rat :=
  let u := (x - g.gx0) / g.pitch
  let v := (y - g.gy0) / g.pitch
  let uc := clampQ 0 64 u
  let vc := clampQ 0 64 v
  let i := min uc.floor 63
  let j := min vc.floor 63
  let wu := crWeights (uc - i)
  let wv := crWeights (vc - j)
  g.sum16 f i j wu wv + g.sum16 f i j (crSlopes (uc - i)) wv * (u - uc) + g.sum16 f i j wu (crSlopes (vc - j)) * (v - vc)

/-- R36, R37: X angle, Y angle and focus of a translated bed point with a focus offset in 1/65536 µm. -/
def Grid.axes (g : Grid) (x y : Rat) (focusOffset : Int) : List Int :=
  [roundRat (g.valueQ 0 x y), roundRat (g.valueQ 1 x y),
   roundRat (g.valueQ 2 x y) + roundRat ((focusOffset : Rat) / 65536 * g.gain)]

/-- The grid of oar k that was blended at a head temperature. -/
def Dev.gridOf (d : Dev) (k : Nat) (temp : Int) : Option Grid := gridAt (d.corrSets k) temp

/-- R36: the chain of oar k from a bed point, under the grid of a temperature; zero without a grid (DESIGN CHOICE, log 13). -/
def Dev.bedToAxes (d : Dev) (k : Nat) (temp : Int) (x y : Rat) (focusOffset : Int) : List Int :=
  let t := nth d.geo.active.trans k
  match d.gridOf k temp with
  | some g => g.axes (x + t.x) (y + t.y) focusOffset
  | none => [0, 0, 0]

/-! ## Stitch translations (R51, R52) -/

/-- Bits of the oars connected to oar a by pairs of non-zero weight. -/
def stitchComp (ps : List StitchArg) (a : Nat) : Nat :=
  (List.range 32).foldl (fun m _ => ps.foldl (fun m p =>
    if p.w ≠ 0 ∧ (m.testBit p.a ∨ m.testBit p.b) then m ||| 2 ^ p.a ||| 2 ^ p.b else m) m) (2 ^ a)

/-- One row of the system whose solution minimises R51 with each component summing to zero. -/
def stitchRow (ps : List StitchArg) (sel : Pt → Int) (a : Nat) : List Rat :=
  let comp := stitchComp ps a
  let coef := fun (b : Nat) =>
    let j : Rat := if comp.testBit b then 1 else 0
    ps.foldl (fun (c : Rat) p =>
      if (p.a = a ∧ p.b = b) ∨ (p.a = b ∧ p.b = a) then c - p.w
      else if a = b ∧ (p.a = a ∨ p.b = a) then c + p.w else c) j
  let rhs := ps.foldl (fun (c : Rat) p =>
    if p.b = a then c + p.w * sel p.s else if p.a = a then c - p.w * sel p.s else c) 0
  (List.range 32).map coef ++ [rhs]

/-- Gauss-Jordan elimination of column c. -/
def eliminate (m : List (List Rat)) (c : Nat) : List (List Rat) :=
  match ((List.range m.length).find? fun r => c ≤ r ∧ (nth m r).getD c 0 ≠ 0) with
  | none => m
  | some r =>
    let pr := nth m r
    let m1 := (m.set r (nth m c)).set c (pr.map (· / pr.getD c 1))
    let piv := nth m1 c
    m1.mapIdx fun i row => if i = c then row else List.zipWith (fun x y => x - row.getD c 0 * y) row piv

def solve (m : List (List Rat)) (n : Nat) : List Rat :=
  ((List.range n).foldl eliminate m).map fun r => r.getD n 0

/-- R51: the translation of every oar; zero in COMPAT. -/
def stitchTrans (compat : Bool) (ps : List StitchArg) : List Pt :=
  if compat then List.replicate 32 ⟨0, 0⟩
  else
    let xs := solve ((List.range 32).map (stitchRow ps (·.x))) 32
    let ys := solve ((List.range 32).map (stitchRow ps (·.y))) 32
    List.zipWith (fun x y => ⟨roundRat x, roundRat y⟩) xs ys

/-- The nearest whole number to the square root of n. -/
def rootRound (n : Nat) : Nat := let r := isqrt n; if r * r + r < n then r + 1 else r

/-- R52: STITCH_RESID_MAX. -/
def stitchResid (ps : List StitchArg) (ts : List Pt) : Nat :=
  (ps.filter (·.w ≠ 0)).foldl (fun m p =>
    let a := nth ts p.a
    let b := nth ts p.b
    let dx := b.x - a.x - p.s.x
    let dy := b.y - a.y - p.s.y
    max m (rootRound (natOf (dx * dx + dy * dy)))) 0

/-! ## The safety entry of an oar (R474) -/

def SafetySet.entry (s : SafetySet) (k : Nat) : List Byte := (s.image.drop (64 + 256 * k)).take 256

/-- A field of entry k: offset and size. -/
def SafetySet.field (s : SafetySet) (k off n : Nat) : Nat := unle (((s.entry k).drop off).take n)

def SafetySet.oarEn (s : SafetySet) (k : Nat) : Bool := (s.field k 1 1).testBit 0

/-- The gate-opening region of oar k, in angle space. -/
def SafetySet.region (s : SafetySet) (k : Nat) : List Pt :=
  (List.range (s.field k 2 1)).map fun v =>
    ⟨signed 32 (s.field k (64 + 8 * v) 4), signed 32 (s.field k (68 + 8 * v) 4)⟩

/-! ## The gate-region test of R458 -/

/-- Lattice lines of 0.5 mm (32 000 LSB) between two coordinates. -/
def latticeBetween (lo hi : Int) : List Int :=
  let a := -((-lo) / 32000)
  let n := natOf (hi / 32000 - a + 1)
  (List.range n).map fun (i : Nat) => (a + i) * 32000

def minOf (l : List Int) : Int := l.foldl min (l.headD 0)
def maxOf (l : List Int) : Int := l.foldl max (l.headD 0)

/-- Points where lattice lines cross an edge. -/
def edgeCrossings (a b : Pt) : List (Rat × Rat) :=
  let dx := b.x - a.x
  let dy := b.y - a.y
  (if dx = 0 then [] else (latticeBetween (min a.x b.x) (max a.x b.x)).map fun (x : Int) =>
    ((x : Rat), (a.y : Rat) + ((x - a.x : Int) : Rat) * dy / dx)) ++
  (if dy = 0 then [] else (latticeBetween (min a.y b.y) (max a.y b.y)).map fun (y : Int) =>
    ((a.x : Rat) + ((y - a.y : Int) : Rat) * dx / dy, (y : Rat)))

/-- R458: the samples of a polygon. -/
def samples (vs : List Pt) : List (Rat × Rat) :=
  let xs := latticeBetween (minOf (vs.map (·.x))) (maxOf (vs.map (·.x)))
  let ys := latticeBetween (minOf (vs.map (·.y))) (maxOf (vs.map (·.y)))
  let inner := xs.flatMap fun x => (ys.filter fun y => inside vs ⟨x, y⟩).map fun y => ((x : Rat), (y : Rat))
  inner ++ ((edges vs).flatMap fun e => edgeCrossings e.1 e.2) ++ vs.map fun v => ((v.x : Rat), (v.y : Rat))

def dist2 (p q : Rat × Rat) : Rat := (p.1 - q.1) ^ 2 + (p.2 - q.2) ^ 2

/-- The translated point under one correction set, in angle space and not rounded. -/
def mapXY (g : Grid) (t : Pt) (p : Rat × Rat) : Rat × Rat :=
  (g.valueQ 0 (p.1 + t.x) (p.2 + t.y), g.valueQ 1 (p.1 + t.x) (p.2 + t.y))

/-- R458: the square of the bend B of a set: neighbours lie at most 0.75 mm (48 000 LSB) apart. -/
def bend2 (g : Grid) (t : Pt) (ss : List (Rat × Rat)) : Rat :=
  ss.foldl (fun m p => ss.foldl (fun m q =>
    if dist2 p q ≤ 48000 ^ 2 then
      let mp := mapXY g t p
      let mq := mapXY g t q
      max m (dist2 (mapXY g t ((p.1 + q.1) / 2, (p.2 + q.2) / 2)) ((mp.1 + mq.1) / 2, (mp.2 + mq.2) / 2))
    else m) m) 0

/-- R458: a mapped sample inside the region with a clearance of at least B from every edge. -/
def clearOf (region : List Pt) (b2 : Rat) (p : Rat × Rat) : Bool :=
  (edges region).all fun e =>
    let dx : Rat := ((e.2.x - e.1.x : Int) : Rat)
    let dy : Rat := ((e.2.y - e.1.y : Int) : Rat)
    let c := dx * (p.2 - e.1.y) - dy * (p.1 - e.1.x)
    0 ≤ c && b2 * (dx ^ 2 + dy ^ 2) ≤ c ^ 2

/-- R458: the test of one oar's polygon under every correction set. -/
def gateRegionOk (region field : List Pt) (t : Pt) (sets : List CorrSet) : Bool :=
  let ss := samples field
  sets.all fun s =>
    let g := s.grid
    let b2 := bend2 g t ss
    ss.all fun p => clearOf region b2 (mapXY g t p)

/-! ## Validity of a staged geometry (R62) -/

/-- R35. A geometry in which no bed rectangle has been declared is refused like one out of range (DESIGN CHOICE, log 144). -/
def bedOk : Option (Int × Int × Int × Int) → Bool
  | none => false
  | some (x0, y0, w, h) =>
    64000 ≤ w ∧ w ≤ 65536000 ∧ 64000 ≤ h ∧ h ≤ 65536000 ∧ -32768000 ≤ x0 ∧ x0 + w ≤ 32768000 ∧ -32768000 ≤ y0 ∧
      y0 + h ≤ 32768000

def diffOk (a b : Int × Int × Int) : Bool :=
  (a.1 - b.1).natAbs < 2 ^ 30 ∧ (a.2.1 - b.2.1).natAbs < 2 ^ 30 ∧ (a.2.2 - b.2.2).natAbs < 2 ^ 30

/-- R38 to R40 for one set. Neighbouring nodes are the next in a row and the next in a column, no diagonal ones (DESIGN CHOICE,
log 149). -/
def setOk (s : CorrSet) : Bool :=
  64000 ≤ s.pitch && s.pitch ≤ 1024000 && s.nodes.length == 4225 &&
    (List.range 4225).all fun n =>
      (n % 65 = 64 || diffOk (nth s.nodes n) (nth s.nodes (n + 1))) &&
        (4160 ≤ n || diffOk (nth s.nodes n) (nth s.nodes (n + 65)))

/-- Whether set i of an oar is valid beside those before it (R40, R42). -/
def setFits (ss : List (Option CorrSet)) (i : Nat) : Bool :=
  match nth ss i with
  | none => true
  | some s => setOk s && ((List.range i).all fun j => match nth ss j with
    | none => true
    | some r => r.gx0 = s.gx0 ∧ r.gy0 = s.gy0 ∧ r.pitch = s.pitch ∧ 100 ≤ (r.temp - s.temp).natAbs)

/-- R47: the polygon lies at least 1 mm inside the grid square; an oar that holds no correction set has no square, and
its polygon is refused (DESIGN CHOICE, log 112). -/
def insideSquare (ss : List (Option CorrSet)) (vs : List Pt) : Bool :=
  match ss.filterMap id with
  | [] => false
  | s :: _ => vs.all fun v =>
    s.gx0 + 64000 ≤ v.x ∧ v.x ≤ s.gx0 + 64 * s.pitch - 64000 ∧ s.gy0 + 64000 ≤ v.y ∧ v.y ≤ s.gy0 + 64 * s.pitch - 64000

/-- R48: at most 16 zones apply to any oar, counted up to and with zone z; a bit of an oar outside E has no effect (R6, R9). -/
def Dev.zonesFit (d : Dev) (zs : List (Option Zone)) (z : Nat) : Bool :=
  match nth zs z with
  | none => true
  | some zn => (bitsOf 32 zn.mask).all fun k =>
    ! d.oarExists k || ((zs.take (z + 1)).filter fun o => match o with | some q => q.mask.testBit k | none => false).length ≤ 16

/-- R50 for the pair at index i. -/
def pairOk (g : Geometry) (i : Nat) : Bool :=
  let p := nth g.stitch i
  p.a < 32 && p.b < 32 && p.a ≠ p.b && overlapOk (nth g.fields p.a) (nth g.fields p.b) &&
    ! ((g.stitch.take i).any fun q => (q.a = p.a ∧ q.b = p.b) ∨ (q.a = p.b ∧ q.b = p.a))

/-- The first failing item of R62 among those that BAD_ARG or REFUSED_SAFETY name: status and DETAIL. The translations
tested are those that the stitch pairs give. -/
def Dev.geoFailure (d : Dev) (g : Geometry) (ts : List Pt) : Option (Nat × Nat) :=
  let first := fun (n : Nat) (bad : Nat → Bool) => (List.range n).find? bad
  if ! bedOk g.bed then some (0x21, 0x0100)
  else match first 128 fun n => ! setFits (nth g.sets (n / 4)) (n % 4) with
  | some n => some (0x21, 0x0200 + n)
  | none =>
  match (List.range 32).findSome? fun k =>
      let f := nth g.fields k
      if f = [] then none
      else if ! convexOk 3 16 f ∨ ! insideSquare (nth g.sets k) f then some (0x21, 0x0300 + k)
      else match d.ump.active with
        | none => none
        | some s =>
          if d.oarExists k && s.oarEn k && ! gateRegionOk (s.region k) f (nth ts k) ((nth g.sets k).filterMap id)
          then some (0x13, 0x0300 + k) else none with
  | some e => some e
  | none =>
  match first 64 fun z => (match nth g.zones z with | some q => ! convexOk 3 8 q.vs | none => false) || ! d.zonesFit g.zones z with
  | some z => some (0x21, 0x0400 + z)
  | none =>
  match first g.stitch.length fun i => ! pairOk g i with
  | some i => some (0x21, 0x0500 + i)
  | none =>
  match first 32 fun k => 64000 < (nth ts k).x.natAbs || 64000 < (nth ts k).y.natAbs with
  | some k => some (0x21, 0x0600 + k)
  | none => none

/-- R458 as `safe.commit` tests it: the first oar of E with `OAR_EN` whose active polygon breaks the test. -/
def Dev.regionBreak (d : Dev) (s : SafetySet) : Option Nat :=
  (List.range 32).find? fun k =>
    let f := nth d.geo.active.fields k
    d.oarExists k && s.oarEn k && f ≠ [] &&
      ! gateRegionOk (s.region k) f (nth d.geo.active.trans k) ((nth d.geo.active.sets k).filterMap id)

end Sys2Proof.Machine
end

