-- ==== Sys2Proof/Machine/Governor.lean ====
section
/-! DEFINITION. The power governor (R522 to R528): accounts, the answer to a request, release, grant, revocation. -/

namespace Sys2Proof.Machine

/-! ## Accounts (R522, R524) -/

def Requester.isStroke : Requester → Bool
  | .stroke _ _ => true
  | _ => false

def Requester.strokeOar : Requester → Option Nat
  | .stroke k _ => some k
  | _ => none

/-- The oars that hold a stroke grant. -/
def Governor.strokeOars (g : Governor) : List Nat := (List.range 32).filter fun k => g.grants.any (·.who.strokeOar = some k)

/-- The largest plant draw among an oar's stroke grants. -/
def Governor.oarDraw (g : Governor) (k : Nat) : Rat :=
  (g.grants.filter (·.who.strokeOar = some k)).foldl (fun m l => max m l.plantW) 0

/-- An oar's plant draw: the largest among the strokes held, pending or exposing on it (R121). -/
def Dev.oarDraw (d : Dev) (k : Nat) : Rat :=
  (d.mar.pending.filter (·.oar = k)).foldl (fun m p => max m p.plantW) (d.gov.oarDraw k)

/-- The sum over the oars. -/
def Dev.oarDraws (d : Dev) : Rat := ((List.range 32).map d.oarDraw).foldl (· + ·) 0

/-- The device without one pending request, whose draw a grant is to add. -/
def Dev.sansPending (d : Dev) (req : Nat) : Dev :=
  { d with mar := { d.mar with pending := d.mar.pending.filter (·.req ≠ req) } }

/-- The chip draws of the grants held, mW; a stroke counts once per oar (R524). -/
def Governor.chipGrants (g : Governor) : Nat :=
  350 * g.strokeOars.length + (g.grants.filter fun l => ! l.who.isStroke).foldl (fun s l => s + l.chipMw) 0

/-- The base draw, mW (R522): the power measured, filtered as the mean of the last 10 ms (DESIGN CHOICE, log 60), less the draws
of the grants held; the fixed values while the regulator answers no Current read (R514). -/
def Dev.chipBase (d : Dev) : Nat :=
  match d.therm.power with
  | [] =>
    match d.mode.mode with
    | .build => 26000
    | .safe => 12000
    | _ => 17000
  | ps => (ps.foldl (fun n p => n + p.2) 0) / ps.length - d.gov.chipGrants

def Dev.chipAcct (d : Dev) : Nat := d.chipBase + d.gov.chipGrants

/-- The plant account, W: per-oar stroke draws and the slide grants (R121, R522). -/
def Dev.plantAcct (d : Dev) : Rat :=
  d.oarDraws + (d.gov.grants.filter fun l => ! l.who.isStroke).foldl (fun s l => s + l.plantW) 0

/-- The chip budget for a priority: R516 caps every one at 30 W, R532 P4 and P5 above 110 °C. -/
def Dev.chipBudget (d : Dev) (prio : Nat) : Nat :=
  if d.therm.avsFault ∨ (4 ≤ prio ∧ 11000 < d.therm.c100) then min d.gov.chipBudget 30000 else d.gov.chipBudget

/-- The plant budget in force (R522). -/
def Dev.plantBudget (d : Dev) : Nat := if d.gov.layerPlant ≠ 0 then d.gov.layerPlant else d.gov.plantBudget

/-! ## Fitting and waiting (R525) -/

/-- Whether a request's chip draw fits. -/
def Dev.chipFits (d : Dev) (l : Leave) : Bool :=
  let more := match l.who.strokeOar with
    | some k => if d.gov.strokeOars.contains k then 0 else 350
    | none => l.chipMw
  d.chipAcct + more ≤ d.chipBudget l.prio

/-- Whether a request's plant draw fits: for a stroke the sum over the oars, its own oar's value updated (R121). -/
def Dev.plantFits (d : Dev) (l : Leave) : Bool :=
  let e := if l.who.isStroke then d.sansPending l.id else d
  let more := match l.who.strokeOar with
    | some k => max 0 (l.plantW - e.oarDraw k)
    | none => l.plantW
  e.plantAcct + more ≤ e.plantBudget

/-- Strokes deferred for LEAVE that still wait, by budget (R107). -/
def Marshal.leaveWaits (m : Marshal) (plant : Bool) : Bool :=
  (m.window ++ m.repairs ++ m.pending.map (·.item)).any fun i => if plant then i.leavePlant else i.leaveChip

/-- Whether a request of higher priority waits on a budget that this one draws on (R525). -/
def Dev.outranked (d : Dev) (l : Leave) : Bool :=
  3 ≤ l.prio && ((0 < l.chipMw && d.mar.leaveWaits false) || (0 < l.plantW && d.mar.leaveWaits true) ||
    d.gov.waiting.any fun w => w.prio < l.prio &&
      ((0 < l.chipMw && ! d.chipFits w) || (0 < l.plantW && ! d.plantFits w)))

/-- R384: while a port is in panic, requests at P5 wait. -/
def Dev.panicHolds (d : Dev) (l : Leave) : Bool := l.prio = 5 && (d.mc.panic0 || d.mc.panic1)

/-- Whether a request may be granted now (R525). -/
def Dev.mayGrant (d : Dev) (l : Leave) : Bool :=
  l.prio = 0 || (d.chipFits l && d.plantFits l && ! d.outranked l && ! d.panicHolds l)

/-- R528: the reason for which a request other than a stroke is refused, or 0. -/
def Dev.refusal (d : Dev) (l : Leave) : Nat :=
  if l.who.isStroke ∨ l.prio = 0 then 0
  else if (0 < l.plantW ∧ d.plantBudget < l.plantW) ∨ d.chipBudget l.prio < l.chipMw + l.baseMw then 1
  else if d.mode.mode = .safe ∧ (l.prio = 3 ∨ l.prio = 5) then 2
  else if (d.therm.avsFault ∨ (4 ≤ l.prio ∧ 11000 < d.therm.c100)) ∧ 30000 < d.chipAcct then 3
  else 0

/-! ## Requests, grants, releases -/

inductive Answer where
  | granted
  | deferred
  | refused (reason : Nat)
deriving DecidableEq, Repr, Inhabited

def Governor.count (g : Governor) (prio : Nat) (f : LeaveCount → LeaveCount) : Governor :=
  { g with counts := upd g.counts prio f }

/-- A grant entered; the wait it ended is counted. -/
def Dev.grantLeave (d : Dev) (l : Leave) : Dev :=
  let g := d.gov.count l.prio fun c => { c with grants := c.grants + 1, longest := max c.longest (d.now - l.since) }
  { d with gov := { g with
      grants := g.grants ++ [{ l with since := d.now }]
      waiting := g.waiting.filter (·.id ≠ l.id) } }

/-- A request of leave and the governor's first answer (R523, R525, R528). -/
def Dev.request (d : Dev) (who : Requester) (prio chipMw : Nat) (plantW : Rat) : Answer × Dev :=
  let l : Leave := ⟨d.gov.nextId, who, prio, chipMw, plantW, d.now, d.chipBase⟩
  let g := (d.gov.count prio fun c => { c with requests := c.requests + 1 })
  let d1 := { d with gov := { g with nextId := g.nextId + 1 } }
  match d.refusal l with
  | 0 =>
    if d.mayGrant l then (.granted, d1.grantLeave l)
    else
      (.deferred, { d1 with gov := { (d1.gov.count prio fun c => { c with deferrals := c.deferrals + 1 }) with
        waiting := if who.isStroke then d1.gov.waiting else d1.gov.waiting ++ [l] } })
  | r + 1 =>
    (.refused (r + 1), { d1 with gov := d1.gov.count prio fun c =>
      if r = 0 then { c with refAlone := c.refAlone + 1 } else if r = 1 then { c with refMode := c.refMode + 1 }
      else { c with refCap := c.refCap + 1 } })

/-- The grants and requests of a requester end (R525). -/
def Dev.release (d : Dev) (p : Requester → Bool) : Dev :=
  { d with gov := { d.gov with
      grants := d.gov.grants.filter fun l => ! p l.who
      waiting := d.gov.waiting.filter fun l => ! p l.who } }

def Dev.holdsLeave (d : Dev) (p : Requester → Bool) : Bool := d.gov.grants.any fun l => p l.who

def Dev.waitsLeave (d : Dev) (p : Requester → Bool) : Bool := d.gov.waiting.any fun l => p l.who

/-- R523: a proof, PARK, a stop or a forced safe level asks at P0. It draws nothing (R524), and its grant ends at once (DESIGN
CHOICE, log 152). -/
def Dev.safetyLeave (d : Dev) : Dev := (d.request .safety 0 0 0).2.release (· = .safety)

/-- The waiting request that is served next: the highest priority first, the oldest within it (R525). -/
def Dev.nextGrant (d : Dev) : Option Leave :=
  (List.range 6).findSome? fun p => d.gov.waiting.find? fun l => l.prio = p && d.mayGrant l

/-! ## Revocation (R526) -/

/-- P5 grants in the order in which they are revoked: latest grant first, then the highest oar. -/
def Governor.revocable (g : Governor) : List Leave :=
  let oar := fun (l : Leave) => match l.who with | .stream k => k | _ => 32
  (g.grants.filter (·.prio = 5)).insertionSort fun a b => b.since < a.since ∨ (a.since = b.since ∧ oar b ≤ oar a)

/-- One P5 grant revoked; its requester asks afresh. -/
def Dev.revoke (d : Dev) (l : Leave) : Dev :=
  let g := d.gov.count 5 fun c =>
    { c with revocations := c.revocations + 1, requests := c.requests + 1, deferrals := c.deferrals + 1 }
  { d with gov := { g with
      grants := g.grants.filter (·.id ≠ l.id)
      waiting := g.waiting ++ [{ l with id := g.nextId, since := d.now, baseMw := d.chipBase }]
      nextId := g.nextId + 1 } }

/-- Whether a request fits its budgets when the given grants are gone. -/
def Dev.fitsWithout (d : Dev) (l : Leave) (gone : List Leave) : Bool :=
  let d' := { d with gov := { d.gov with grants := d.gov.grants.filter fun g => ! gone.any (·.id = g.id) } }
  d'.chipFits l && d'.plantFits l

/-- The shortest run of revocable grants whose end lets the request fit; none when even all of them do not. -/
def Dev.revokeFor (d : Dev) (l : Leave) : Option (List Leave) :=
  let r := d.gov.revocable
  ((List.range (r.length + 1)).find? fun n => d.fitsWithout l (r.take n)).map r.take

/-- How long a block runs, ms (R535). -/
def calMs (b : Nat) : Nat := ([300, 300, 2700, 110, 100, 100] : List Nat).getD (b - 1) 0

/-- Ticks between the starts of two chunks at MIG_RATE. -/
def MemCtl.chunkTicks (m : MemCtl) : Rat := 2 ^ 22 / (1000 * max 1 m.migRate : Nat)

/-- Ticks that a trace still takes: its periods left, each that of its last slot. -/
def Loops.traceTicks (l : Loops) (t : Trace) : Nat :=
  let n := t.slots.getLastD 0
  t.left * slotPeriod n (((nth l.slots n).desc.map (·.rate)).getD 0)

/-- The time in µs to the predicted release of a grant: a move by its profile, a stroke by its predicted finish, a migration by its
chunks at MIG_RATE, a calibration block by its duration, a trace by its periods; the rest is not predicted. -/
def Dev.predictedEnd (d : Dev) (g : Leave) : Option Nat :=
  match g.who with
  | .move a =>
    let gs := (nth d.slides.axes a).segs
    if gs = [] then none else some (natOf (ceilRat ((gs.foldl (fun t (x : Seg) => t + x.dur) 0) * 1000000)))
  | .stroke k seq =>
    let e := nth d.eng k
    let bs := e.cur.toList ++ (e.next.map (·.1)).toList ++ (nth d.mar.oars k).buf
    (bs.find? (·.item.stroke.seq = seq)).map fun b => natOf (ceilRat ((b.finishPs - 250000 * (d.now : Rat)) / 1000000))
  | .migration c => (nth d.mc.chans c).mig.map fun m => natOf (ceilRat ((m.total - m.copied : Nat) * d.mc.chunkTicks / 4))
  | .cal b => d.cal.run.map fun r => (r.startTick + msT (calMs b) - d.now) / 4
  | .trace => d.loops.traces.head?.map fun t => d.loops.traceTicks t / 4
  | _ => none

/-- WAIT_HINT_US of a deferred request (R420, R527): the earliest predicted release that lets it fit, for P4 at most 100 ms
where revocation can make room; 0 where nothing is predicted. -/
def Dev.leaveHint (d : Dev) (l : Leave) : Nat :=
  let ends := (d.gov.grants.filter fun g => d.fitsWithout l [g]).filterMap d.predictedEnd
  let t := match ends with | [] => 0 | x :: xs => max 1 (xs.foldl min x)
  if l.prio = 4 ∧ (d.revokeFor l).isSome then (if t = 0 then 100000 else min t 100000) else t

end Sys2Proof.Machine
end

