-- ==== Sys2Proof/Machine/RecOps.lean ====
section
/-! DEFINITION. The recorder's shared operations: admission to the staging buffer and to the rings (R255 to R262),
RT1 panic (R384), event records (R250, R253). -/

namespace Sys2Proof.Machine

/-! ## Instants -/

/-- A device time shifted by ns that may be negative: low 32 bits of seconds, ns. -/
def splitNs (t : Int) : Nat × Nat := (natOf (t / 1000000000) % 2 ^ 32, natOf (t % 1000000000))

/-- Frame-clock instant of the present tick, ps. -/
def Dev.psNow (d : Dev) : Rat := 250000 * (d.now : Rat)

/-- Device time of an instant of the frame clock in ps (R231). -/
def Dev.timeOfPs (d : Dev) (ps : Rat) : Nat × Nat := splitNs (((d.timeNs : Rat) + (ps - d.psNow) / 1000).floor)

/-! ## The records' span and frame (R250) -/

/-- The stroke whose span from lead-in start to finish contains the present. -/
def Engine.span (e : Engine) : Option Stroke :=
  match e.phase with
  | .leadIn | .reapproach | .settle | .mark => e.cur.map (·.item.stroke)
  | _ => if e.exposing then e.cur.map (·.item.stroke) else none

def Engine.spanSeq (e : Engine) : Nat := ((e.span).map (·.seq)).getD 0xFFFFFFFF

/-- A run of bytes cut or filled with zeros to a length. -/
def fitTo (n : Nat) (bs : List Byte) : List Byte := bs.take n ++ List.replicate (n - bs.length) 0

/-- A 32-byte record (R250): bytes 6 to 23 are the body. -/
def recBytes (seq oar kind : Nat) (body : List Byte) (t : Nat × Nat) : List Byte :=
  u32 seq ++ u8 oar ++ u8 kind ++ fitTo 18 body ++ u32 t.1 ++ u32 t.2

/-! ## Rings and staging (R255 to R260) -/

/-- What a record is: the ring it goes to and its staging threshold. -/
inductive RecClass where
  | event
  | feature
  | frame
deriving DecidableEq, Repr, Inhabited

def RecClass.ring : RecClass → Nat
  | .event => 0
  | .feature => 1
  | .frame => 2

/-- R260. -/
def RecClass.limit : RecClass → Nat
  | .event => 1048576
  | .feature => 917504
  | .frame => 524288

/-- R247: the lowest take that keeps the class. -/
def RecClass.take : RecClass → Nat
  | .event => 1
  | .feature => 2
  | .frame => 3

def Recorder.level (r : Recorder) : Nat := r.staging.foldl (fun n s => n + s.2.2.length) 0

/-- R384: RT1 enters panic above 768 KiB and leaves it at 512 KiB. -/
def Dev.panicCheck (d : Dev) : Dev :=
  let l := d.recd.level
  if 786432 < l ∧ ! d.mc.panic1 then
    { d with
      mc := { d.mc with panic1 := true, panicCounts := upd d.mc.panicCounts 1 (· + 1) }
      recd := { d.recd with rings := d.recd.rings.map fun g => { g with flags := g.flags ||| 2 } } }
  else if l ≤ 524288 ∧ d.mc.panic1 then { d with mc := { d.mc with panic1 := false } }
  else d

/-- Bytes a record takes in its ring, with the pad before it where it would wrap (R256). -/
def Ring.need (g : Ring) (n : Nat) : Nat :=
  let rest := g.size - g.written % g.size
  if rest < n then rest + n else n

def Ring.room (g : Ring) : Nat := g.size - (g.written - g.consumed)

/-- R258: `CONSUMED` advances to a total. -/
def Ring.consumeTo (g : Ring) (total : Nat) : Ring :=
  let cut := (g.lens.foldl (fun (p : List Nat × Nat) n =>
    if n ≤ p.2 then (p.1, p.2 - n) else (p.1 ++ [n - p.2], 0)) ([], total - g.consumed)).1
  { g with consumed := total, lens := cut, contour := g.contour.filter (total ≤ ·), raised := g.raised && g.level < g.written - total }

/-- OVERWRITE mode: the oldest records give way until there is room (R255, R258). -/
def Ring.makeRoom (n : Nat) : Nat → Ring → Ring
  | 0, g => g
  | k + 1, g =>
    if n ≤ g.room then g
    else match g.lens with
      | [] => g
      | l :: _ => Ring.makeRoom n k { g.consumeTo (g.consumed + l) with overwritten := g.overwritten + 1 }

/-- The header of a pad record (R254, R256). -/
def padHead (rest : Nat) : List Byte := u32 0xFFFFFFFF ++ u8 0xFF ++ u8 0x4F ++ List.replicate 42 0 ++ u32 rest ++ List.replicate 12 0

/-- A record laid into its ring: the ring after it and what is staged, with addresses. -/
def Ring.lay (g : Ring) (r : Nat) (bs : List Byte) : Ring × List (Nat × Nat × List Byte) :=
  let off := g.written % g.size
  let rest := g.size - off
  if rest < bs.length then
    ({ g with written := g.written + rest + bs.length, lens := g.lens ++ [rest, bs.length] },
      [(r, g.base + off, padHead rest), (r, g.base, bs)])
  else ({ g with written := g.written + bs.length, lens := g.lens ++ [bs.length] }, [(r, g.base + off, bs)])

/-- `SEQ` of a record of an oar at the present instant; outside spans, and for records of no oar, 0xFFFF_FFFF (R250). -/
def Dev.seqNow (d : Dev) (oar : Nat) : Nat := if oar < 32 then (nth d.eng oar).spanSeq else 0xFFFFFFFF

/-- R262: a record of an oar (0xFF for none) is dropped for a cause: 1 RING, 2 STAGING, 4 LEAVE. -/
def Dev.dropRec (d : Dev) (c : RecClass) (oar cause : Nat) : Dev :=
  let one := fun (x : RecClass) => boolN (c = x)
  let old := (d.recd.drops.find? (·.oar = oar)).getD ⟨oar, 0, 0, 0, 0, d.secLow, d.nsNow, d.seqNow oar⟩
  let new : DropAcc := { old with
    frames := old.frames + one .frame, features := old.features + one .feature, events := old.events + one .event,
    cause := old.cause ||| cause }
  let sat := fun n => min n 0xFFFFFFFF
  { d with recd := { d.recd with
      drops := d.recd.drops.filter (·.oar ≠ oar) ++ [new]
      rings := upd d.recd.rings c.ring fun g => { g with
        dropFrames := sat (g.dropFrames + one .frame), dropFeatures := sat (g.dropFeatures + one .feature),
        dropEvents := sat (g.dropEvents + one .event) } } }

/-- Bytes that a record brings into staging: the header of a pad record before it among them (R256). -/
def Ring.staged (g : Ring) (n : Nat) : Nat := if g.size - g.written % g.size < n then 64 + n else n

/-- Why a record of a length cannot be taken: 0 it can, 1 RING, 2 STAGING (R260). -/
def Dev.blocked (d : Dev) (c : RecClass) (n : Nat) : Nat :=
  let g := nth d.recd.rings c.ring
  if c.limit < d.recd.level + g.staged n then 2 else if ! g.overwrite ∧ g.room < g.need n then 1 else 0

/-- A record goes into staging and takes its place in the ring; the ring interrupt (R258). -/
def Dev.stage (d : Dev) (c : RecClass) (bs : List Byte) : Dev :=
  let g0 := nth d.recd.rings c.ring
  let p := (Ring.makeRoom (g0.need bs.length) (g0.lens.length + 1) g0).lay c.ring bs
  let beyond : Bool := p.1.level < p.1.written - p.1.consumed
  let g := { p.1 with dirtyTick := some (p.1.dirtyTick.getD d.now), raised := p.1.raised || beyond }
  let d1 := ({ d with recd := { d.recd with
    rings := d.recd.rings.set c.ring g, staging := d.recd.staging ++ p.2 } }).panicCheck
  if beyond && ! g0.raised then d1.raise (20 + c.ring) else d1

/-- Staged records reach DRAM (DESIGN CHOICE, log 17). -/
def Dev.flushStaging (d : Dev) : Dev × List DramOp :=
  (({ d with recd := { d.recd with staging := [] } }).panicCheck, d.recd.staging.map fun s => .write s.2.1 s.2.2)

/-- R262: the DROP events that wait are written before the next event record, while the event ring takes them. -/
def Dev.emitDrops (d : Dev) : Dev :=
  d.recd.drops.foldl (fun d a =>
    if d.blocked .event 32 ≠ 0 then d
    else
      let bs := recBytes a.seq a.oar 0x16
        ([0, 0] ++ u32 a.frames ++ u32 a.features ++ u32 a.events ++ u8 a.cause) (a.timeS, a.timeNs)
      ({ d with recd := { d.recd with drops := d.recd.drops.filter (·.oar ≠ a.oar) } }).stage .event bs) d

/-- R75: a record just staged whose SEQ is a CONTOUR stroke's, of an oar. -/
def Dev.tagContour (d : Dev) (c : RecClass) (oar : Nat) (bs : List Byte) : Dev :=
  let e := nth d.eng oar
  let ss := ((e.cur.map (·.item.stroke)).toList ++ e.prev.toList).filter fun s => s.flags.testBit 4
  if oar < 32 && ss.any (fun s => s.seq = unle (bs.take 4)) then
    { d with recd := { d.recd with rings := upd d.recd.rings c.ring fun g =>
        { g with contour := g.contour ++ [g.written - bs.length] } } }
  else d

/-- R260: a record that the take keeps is admitted or dropped. -/
def Dev.intake (d : Dev) (c : RecClass) (oar : Nat) (bs : List Byte) : Dev :=
  if ! (nth d.recd.rings c.ring).configured || ! d.blockLive 4 0 then d
  else
    let d1 := if c = .event then d.emitDrops else d
    match d1.blocked c bs.length with
    | 0 => (d1.stage c bs).tagContour c oar bs
    | n => d1.dropRec c oar n

/-- An event record (R253) of a device time and of the span that holds it, when the take keeps events. -/
def Dev.eventRec (d : Dev) (oar seq kind : Nat) (body : List Byte) (t : Nat × Nat) : Dev :=
  if d.recd.take = 0 then d else d.intake .event oar (recBytes seq oar kind ([0, 0] ++ body) t)

/-- The same at the present time. -/
def Dev.eventNow (d : Dev) (oar kind : Nat) (body : List Byte) : Dev :=
  d.eventRec oar (d.seqNow oar) kind body (d.secLow, d.nsNow)

/-- R257: the control block of a ring. -/
def Ring.block (g : Ring) : List Byte :=
  u64 g.written ++ u64 g.consumed ++ u32 g.dropFrames ++ u32 g.dropFeatures ++ u32 g.dropEvents ++ u32 g.overwritten ++
  u32 g.updS ++ u32 g.updNs ++ u32 g.flags ++ List.replicate 20 0

end Sys2Proof.Machine
end

