-- ==== Sys2Proof/Machine/EngOps.lean ====
section
/-! DEFINITION. The geometry of exposure: the Jacobian of the working grid and states of motion (R161), quintics and
jump planning (R162, R163), the reference along a stroke (R158, R159, R166), the observer's view of the beam (R167,
R172), edge records (R191, R192). -/

namespace Sys2Proof.Machine

/-! ## Strokes (R73, R75) -/

def Stroke.keepOrder (s : Stroke) : Bool := s.flags.testBit 0
def Stroke.noHandover (s : Stroke) : Bool := s.flags.testBit 1
def Stroke.closedLoop (s : Stroke) : Bool := s.flags.testBit 2
def Stroke.recFull (s : Stroke) : Bool := s.flags.testBit 3
def Stroke.contour (s : Stroke) : Bool := s.flags.testBit 4
def Stroke.repairOk (s : Stroke) : Bool := s.flags.testBit 5

/-- Length of a stroke in bed LSB; 0 for a DOT. -/
def Stroke.len (s : Stroke) : Rat :=
  if s.dot then 0 else sqrtRat (((s.x1 - s.x0) ^ 2 + (s.y1 - s.y0) ^ 2 : Int) : Rat)

/-- The end of the exposed segment: Q, or P for a DOT (R54). -/
def Stroke.qx (s : Stroke) : Int := if s.dot then s.x0 else s.x1
def Stroke.qy (s : Stroke) : Int := if s.dot then s.y0 else s.y1

/-- A parameter set with its VALID bit, or an empty one. -/
def Library.pset (l : Library) (i : Nat) : ParamSet := ((l.params.find? (·.1 = i)).map (·.2)).getD default

def Library.profile (l : Library) (i : Nat) : List Nat :=
  ((l.profiles.find? (·.1 = i)).map (·.2)).getD (List.replicate 64 0)

/-- The unit direction u of a stroke; X for a DOT and for a point. -/
def Stroke.dir (s : Stroke) : Rat × Rat :=
  let l := s.len
  if l = 0 then (1, 0) else (((s.x1 - s.x0 : Int) : Rat) / l, ((s.y1 - s.y0 : Int) : Rat) / l)

/-- A bed point at a signed distance from P along the stroke's line. -/
def Stroke.along (s : Stroke) (dist : Rat) : Rat × Rat :=
  ((s.x0 : Rat) + dist * s.dir.1, (s.y0 : Rat) + dist * s.dir.2)

/-- A speed of µm/s in bed LSB per frame. -/
def perFrame (um : Nat) : Rat := (um : Rat) * 16 / 1000000

/-! ## Derivatives of the interpolant (R161) -/

def crCurves (t : Rat) : List Rat := [(-6 * t + 4) / 2, (18 * t - 10) / 2, (-18 * t + 8) / 2, (6 * t - 2) / 2]

/-- Cell indices and in-cell weights of a point, clamped to the square. -/
structure CellPos where
  u : Rat
  v : Rat
  uc : Rat
  vc : Rat
  i : Int
  j : Int

def Grid.pos (g : Grid) (x y : Rat) : CellPos :=
  let u := (x - g.gx0) / g.pitch
  let v := (y - g.gy0) / g.pitch
  let uc := clampQ 0 64 u
  let vc := clampQ 0 64 v
  ⟨u, v, uc, vc, min uc.floor 63, min vc.floor 63⟩

/-- Derivatives of field f by x and by y, per bed LSB. -/
def Grid.slopes (g : Grid) (f : Nat) (x y : Rat) : Rat × Rat :=
  let p := g.pos x y
  let wu := crWeights (p.uc - p.i)
  let wv := crWeights (p.vc - p.j)
  let su := crSlopes (p.uc - p.i)
  let sv := crSlopes (p.vc - p.j)
  let mixed := g.sum16 f p.i p.j su sv
  let du := g.sum16 f p.i p.j su wv + (if p.u = p.uc then mixed * (p.v - p.vc) else 0)
  let dv := g.sum16 f p.i p.j wu sv + (if p.v = p.vc then mixed * (p.u - p.uc) else 0)
  (du / g.pitch, dv / g.pitch)

/-- The cell of a coordinate on the side where the beam travels; none outside the square. -/
def sideCell (u dir : Rat) (after : Bool) : Option Int :=
  let c : Int := if u.den = 1 && ((after && dir < 0) || (! after && 0 < dir)) then u.floor - 1 else u.floor
  let c' := if u = 64 && dir = 0 then 63 else c
  if 0 ≤ c' ∧ c' < 64 then some c' else none

/-- The one-sided second derivative of field f along a unit direction; zero outside the square. -/
def Grid.curve (g : Grid) (f : Nat) (x y ux uy : Rat) (after : Bool) : Rat :=
  let p := g.pos x y
  match sideCell p.u ux after, sideCell p.v uy after with
  | some i, some j =>
    if p.u ≠ p.uc ∨ p.v ≠ p.vc then 0
    else
      let a := p.u - i
      let b := p.v - j
      (g.sum16 f i j (crCurves a) (crWeights b) * ux ^ 2 + 2 * g.sum16 f i j (crSlopes a) (crSlopes b) * ux * uy +
        g.sum16 f i j (crWeights a) (crCurves b) * uy ^ 2) / (g.pitch : Rat) ^ 2
  | _, _ => 0

/-- ∂X/∂x, ∂X/∂y, ∂Y/∂x, ∂Y/∂y. -/
structure Jac where
  a : Rat
  b : Rat
  c : Rat
  d : Rat

def Jac.det (j : Jac) : Rat := j.a * j.d - j.b * j.c

/-- J⁻¹ of a vector of angles; none where J is singular. -/
def Jac.inv (j : Jac) (v : Rat × Rat) : Option (Rat × Rat) :=
  if j.det = 0 then none else some ((j.d * v.1 - j.b * v.2) / j.det, (j.a * v.2 - j.c * v.1) / j.det)

/-- The working grid of oar k at a temperature, with the oar's translation. -/
structure View where
  grid : Option Grid
  t : Pt

def Dev.view (d : Dev) (k : Nat) (temp : Int) : View := ⟨d.gridOf k temp, nth d.geo.active.trans k⟩

/-- R36 with a FOCUS_OFFSET. -/
def View.chain (w : View) (x y : Rat) (focus : Int) : List Int :=
  match w.grid with
  | some g => g.axes (x + w.t.x) (y + w.t.y) focus
  | none => [0, 0, 0]

def View.jac (w : View) (x y : Rat) : Jac :=
  match w.grid with
  | some g =>
    let p := g.slopes 0 (x + w.t.x) (y + w.t.y)
    let q := g.slopes 1 (x + w.t.x) (y + w.t.y)
    ⟨p.1, p.2, q.1, q.2⟩
  | none => ⟨0, 0, 0, 0⟩

/-- R161: angle, rate per frame and acceleration per frame squared of the three axes at a point of a line flown at a
speed in bed LSB per frame. -/
def View.moving (w : View) (x y : Rat) (focus : Int) (u : Rat × Rat) (v : Rat) (after : Bool) : List AxisState :=
  (List.range 3).map fun f =>
    let th : Rat := ((w.chain x y focus).getD f 0 : Int)
    match w.grid with
    | some g =>
      let s := g.slopes f (x + w.t.x) (y + w.t.y)
      ⟨th, (s.1 * u.1 + s.2 * u.2) * v, g.curve f (x + w.t.x) (y + w.t.y) u.1 u.2 after * v ^ 2⟩
    | none => ⟨th, 0, 0⟩

/-- A state at rest. -/
def View.resting (w : View) (x y : Rat) (focus : Int) : List AxisState :=
  (w.chain x y focus).map fun (th : Int) => ⟨th, 0, 0⟩

/-! ## Quintics and jump planning (R162, R163) -/

/-- Angles are carried modulo 2^32: the signed difference of least magnitude of two of them (R11, R162). -/
def angleGap (a b : Rat) : Rat := (diff32 a.floor b.floor : Int) + ((a - a.floor) - (b - b.floor))

/-- R162, in frames. -/
def quintic (a b : AxisState) (frames : Nat) : List Rat :=
  let t : Rat := frames
  let h := angleGap b.th a.th
  [a.th, a.om, a.al / 2,
   (20 * h - (8 * b.om + 12 * a.om) * t - (3 * a.al - b.al) * t ^ 2) / (2 * t ^ 3),
   (-30 * h + (14 * b.om + 16 * a.om) * t + (3 * a.al - 2 * b.al) * t ^ 2) / (2 * t ^ 4),
   (12 * h - 6 * (b.om + a.om) * t + (b.al - a.al) * t ^ 2) / (2 * t ^ 5)]

/-- θ, ω, α and jerk of a quintic at τ. -/
def polyAt (c : List Rat) (t : Rat) : AxisState × Rat :=
  let g := fun (i : Nat) => c.getD i 0
  (⟨g 0 + g 1 * t + g 2 * t ^ 2 + g 3 * t ^ 3 + g 4 * t ^ 4 + g 5 * t ^ 5,
    g 1 + 2 * g 2 * t + 3 * g 3 * t ^ 2 + 4 * g 4 * t ^ 3 + 5 * g 5 * t ^ 4,
    2 * g 2 + 6 * g 3 * t + 12 * g 4 * t ^ 2 + 20 * g 5 * t ^ 3⟩,
    6 * g 3 + 24 * g 4 * t + 60 * g 5 * t ^ 2)

/-- An end of a jump: its bed point and the axes' states. -/
structure JumpEnd where
  x : Rat
  y : Rat
  axes : List AxisState

/-- The limits a jump is planned under: Vb in bed LSB per frame, RATE_MAX, ACC_MAX in LSB per frame squared. -/
structure JumpLims where
  vb : Rat
  rate : List Nat
  acc : List Rat

def Motion.lims (m : Motion) (vb : Rat) : JumpLims :=
  ⟨vb, m.rateMax.getD [0, 0, 0], (m.accMax.getD [0, 0, 0]).map fun (n : Nat) => (n : Rat) / 65536⟩

/-- T0 of R163. -/
def jumpT0 (l : JumpLims) (a b : JumpEnd) : Nat :=
  let dist := sqrtRat ((b.x - a.x) ^ 2 + (b.y - a.y) ^ 2)
  let ax := (List.range 3).map fun f =>
    let h : Rat := ((diff32 ((nth b.axes f).th.floor) ((nth a.axes f).th.floor)).natAbs : Nat)
    sqrtRat (57735 / 10000 * h / l.acc.getD f 0)
  natOf (ceilRat ((15 / 8 * dist / l.vb :: 1 :: ax).foldl max 1))

/-- check(T) of R163. -/
def jumpCheck (w : View) (l : JumpLims) (a b : JumpEnd) (frames : Nat) : Bool :=
  let cs := (List.range 3).map fun f => quintic (nth a.axes f) (nth b.axes f) frames
  let jm := w.jac ((a.x + b.x) / 2) ((a.y + b.y) / 2)
  (List.range 33).all fun i =>
    let t : Rat := (i : Rat) * frames / 32
    let ss := cs.map fun c => (polyAt c t).1
    ((List.range 3).all fun f =>
      |(nth ss f).om| ≤ (l.rate.getD f 0 : Rat) && |(nth ss f).al| ≤ l.acc.getD f 0) &&
    (match jm.inv ((nth ss 0).om, (nth ss 1).om) with
      | some v => decide (v.1 ^ 2 + v.2 ^ 2 ≤ l.vb ^ 2)
      | none => false)

/-- plan_T of R163; none stands for SPLIT. -/
def planT (w : View) (l : JumpLims) (a b : JumpEnd) : Option Nat :=
  let t0 := jumpT0 l a b
  ((List.range 49).map fun k => natOf (ceilRat ((t0 : Rat) * (1 + (k : Rat) / 16)))).find? (jumpCheck w l a b)

def flight (a b : JumpEnd) (frames : Nat) : Quintic :=
  ⟨(List.range 3).map fun f => quintic (nth a.axes f) (nth b.axes f) frames, frames⟩

/-- R163: the parts of a jump, whether it was split, and how many parts are flown at 4 × T0. -/
def planJump (w : View) (l : JumpLims) (focus : Int) (a b : JumpEnd) : List Quintic × Bool × Nat :=
  match planT w l a b with
  | some t => ([flight a b t], false, 0)
  | none =>
    let mx := (a.x + b.x) / 2
    let my := (a.y + b.y) / 2
    let m : JumpEnd := ⟨mx, my, w.resting mx my focus⟩
    let part := fun (p q : JumpEnd) => match planT w l p q with
      | some t => (flight p q t, 0)
      | none => (flight p q (4 * jumpT0 l p q), 1)
    let p := part a m
    let q := part m b
    ([p.1, q.1], true, p.2 + q.2)

/-! ## The present view of an engine -/

/-- The grid temperature and latency set in force for the stroke in hand (R44, R160). -/
def Dev.engTemp (d : Dev) (k : Nat) : Int :=
  match (nth d.eng k).plan with
  | some p => p.gridTemp
  | none => ((nth d.geo.oars k).grid.map (·.temp)).getD 0

def Engine.latNow (e : Engine) : Latency := match e.plan with | some p => p.lat | none => e.lat

/-- An exposure-clock slot in ps (R169, R173). -/
def slotPs : Rat := 625 / 2

/-- L_enc and L_gate in ps (R169); D_rx is 125 ns. -/
def Latency.enc (l : Latency) : Rat := l.dHead + slotPs * l.lLink + 125000
def Latency.pad (l : Latency) : Rat := slotPs * l.lPad
def Latency.gate (l : Latency) : Rat := l.pad + l.lLaser

/-- L_enc + L_gate in whole ns, as a spoil record reports it. -/
def Latency.sumNs (l : Latency) : Nat := natOf ((l.enc + l.gate) / 1000).floor

/-- R170. -/
def Latency.tooLong (l : Latency) : Bool := 3500000 < l.enc + l.gate

def AxisState.at (a : AxisState) (t : Rat) : Rat := a.th + a.om * t + a.al * t ^ 2 / 2

/-- J_T⁻¹ · (θ̂(ps) − chain(T)): the estimated offset of the beam from T in bed LSB (R172, R180). -/
def Dev.beamOff (d : Dev) (k : Nat) (temp : Int) (tx ty : Int) (ps : Rat) : Option (Rat × Rat) :=
  let e := nth d.eng k
  let w := d.view k temp
  let c := w.chain tx ty 0
  let t := (ps - e.obsPs) / 250000
  (w.jac tx ty).inv (angleGap ((nth e.obs 0).at t) (c.getD 0 0 : Int), angleGap ((nth e.obs 1).at t) (c.getD 1 0 : Int))

/-- The bed position of the beam as the observers have it: the point at which the chain gives their angles, found from the
engine's last known point in four steps. -/
def Dev.beamBed (d : Dev) (k : Nat) (temp : Int) : Int × Int :=
  let e := nth d.eng k
  (List.range 4).foldl (fun p _ => match d.beamOff k temp p.1 p.2 d.psNow with
    | some o => (roundRat (p.1 + o.1), roundRat (p.2 + o.2))
    | none => p) (e.posX, e.posY)

/-- d0, v0, a0 of R172 for a target on a stroke, in bed LSB and frames. -/
def Dev.crossState (d : Dev) (k : Nat) (s : Stroke) (tx ty : Int) : Option (Rat × Rat × Rat) :=
  let e := nth d.eng k
  let w := d.view k (d.engTemp k)
  let j := w.jac tx ty
  let u := s.dir
  let dot := fun (v : Rat × Rat) => u.1 * v.1 + u.2 * v.2
  match d.beamOff k (d.engTemp k) tx ty e.obsPs, j.inv ((nth e.obs 0).om, (nth e.obs 1).om),
      j.inv ((nth e.obs 0).al, (nth e.obs 1).al) with
  | some o, some v, some a => some (dot o, dot v, dot a)
  | _, _, _ => none

/-- Observed along-track speed in µm/s, at P of the stroke. -/
def Dev.speedNow (d : Dev) (k : Nat) (s : Stroke) : Nat :=
  match d.crossState k s s.x0 s.y0 with
  | some c => natOf (roundRat (c.2.1 * 1000000 / 16))
  | none => 0

/-- The smallest positive root of d0 + v0 τ + a0 τ²/2 (R172). -/
def crossRoot (d0 v0 a0 : Rat) : Option Rat :=
  let cands : List Rat :=
    if a0 = 0 then [-d0 / v0]
    else
      let disc := v0 ^ 2 - 2 * a0 * d0
      if disc < 0 then [] else [(-v0 - sqrtRat disc) / a0, (-v0 + sqrtRat disc) / a0]
  if v0 ≤ 0 then none
  else (cands.filter (0 < ·)).foldl (fun m t => some (match m with | none => t | some x => min x t)) none

/-- R172: the predicted optical time of the crossing of a target, in ps. -/
def Dev.crossing (d : Dev) (k : Nat) (s : Stroke) (tx ty : Int) : Option Rat :=
  ((d.crossState k s tx ty).bind fun c => crossRoot c.1 c.2.1 c.2.2).map fun t => (nth d.eng k).obsPs + 250000 * t

/-- Predicted along-track distance of the beam from P at an instant (R144, R181). -/
def Dev.distAt (d : Dev) (k : Nat) (s : Stroke) (ps : Rat) : Rat :=
  match d.crossState k s s.x0 s.y0 with
  | some c => let t := (ps - (nth d.eng k).obsPs) / 250000; c.1 + c.2.1 * t + c.2.2 * t ^ 2 / 2
  | none => 0

/-- The normalised distance of the stroke in hand at an instant, 0 to 1; the elapsed share of the dwell for a DOT. -/
def Dev.shareAt (d : Dev) (k : Nat) (s : Stroke) (ps : Rat) : Rat :=
  let e := nth d.eng k
  if s.dot then (if s.dwell = 0 then 1 else clampQ 0 1 ((ps - e.catchPs) / (10000 * (s.dwell : Rat))))
  else if s.len = 0 then 1
  else clampQ 0 1 (d.distAt k s ps / s.len)

/-! ## Edge records and placement statistics (R191, R192) -/

/-- REFLOWN, DISAGREE, REPAIR, DOT, COMPAT of a stroke's edges. CONTOUR has no bit in any record's layout, whose
reserved fields read as zero (R15): the ring carries it beside its records (R75; DESIGN CHOICE, log 113). -/
def Dev.edgeFlags (d : Dev) (k : Nat) (s : Stroke) : Nat :=
  let e := nth d.eng k
  8 * boolN e.reflown + 32 * boolN e.disagreed + 128 * boolN s.repair.isSome + 256 * boolN s.dot + 512 * boolN d.boot.compat

/-- The 32 bytes of R191. -/
def edgeBytes (seq oar kind flags : Nat) (a c : Int) (horizon slot frame speed : Nat) (t : Nat × Nat) : List Byte :=
  u32 seq ++ u8 oar ++ u8 kind ++ u16 flags ++ i16 a ++ i16 c ++ u16 (min horizon 65535) ++ u16 slot ++ u32 frame ++
  u32 speed ++ u32 t.1 ++ u32 t.2

/-- An edge record handed to the recorder, kept from take EVENTS on (R191, R247). -/
def Dev.edgeRec (d : Dev) (k : Nat) (bs : List Byte) : Dev := if d.recd.take = 0 then d else d.intake .event k bs

/-- KIND forced low: LGATE was forced low at the pad in a slot of the present frame, and the light ends L_laser later (R188,
R191). -/
def Dev.forcedLow (d : Dev) (k : Nat) (s : Stroke) (slot : Nat) : Dev :=
  d.edgeRec k (edgeBytes s.seq k 3 (d.edgeFlags k s) 0 0 0 slot (d.now % 2 ^ 32) (d.speedNow k s)
    (d.timeOfPs (d.psNow + slotPs * slot + (nth d.eng k).latNow.lLaser)))

/-- Energy in µJ of a share of a frame at a power command (R137, R185). -/
def Dev.frameEnergy (d : Dev) (k power : Nat) (slots : Rat) : Rat :=
  (power : Rat) / 65535 * (nth d.gov.power k).1 * (1 / 4) * slots / 800

/-- R192: one edge counted; errors of 0x8000 stay out of the means. -/
def PlaceStat.add (p : PlaceStat) (flags : Nat) (err : Option (Int × Int)) : PlaceStat :=
  let q := { p with count := p.count + 1, flags := p.flags.mapIdx fun i n => if flags.testBit i then n + 1 else n }
  match err with
  | none => q
  | some (a, c) => { q with
      counted := q.counted + 1
      sumA := q.sumA + a
      sumC := q.sumC + c
      sqA := q.sqA + a.natAbs ^ 2
      sqC := q.sqC + c.natAbs ^ 2
      maxA := max q.maxA a.natAbs
      maxC := max q.maxC c.natAbs }

/-- An edge whose placement error is known, or was not found in time: record and statistics (R180, R191, R192). -/
def Dev.closeEdge (d : Dev) (k : Nat) (o : OpenEdge) (err : Option (Int × Int)) : Dev :=
  let flags := if err.isNone then o.flags ||| 64 else o.flags
  let ac := err.getD (-0x8000, -0x8000)
  let d1 := { d with eng := upd d.eng k fun e =>
    if o.finish then { e with finishStat := e.finishStat.add flags err } else { e with catchStat := e.catchStat.add flags err } }
  d1.edgeRec k (edgeBytes o.seq k (if o.finish then 2 else 1) flags ac.1 ac.2 (if d.boot.compat then 0 else o.horizonNs)
    o.slot (o.frame % 2 ^ 32) o.speed (o.timeS, o.timeNs))

end Sys2Proof.Machine
end

