-- ==== Sys2Proof/Machine/MarshalOps.lean ====
section
/-! DEFINITION. The Marshal's shared operations: fences and runs (R79 to R83), settled strokes (R80, R31), return and
withdrawal (R142, R143), interruption and repair (R144 to R151), the wake grid (R123 to R132), the thermal map
(R133 to R141). -/

namespace Sys2Proof.Machine

/-! ## Strokes -/

/-- A pool item for a stroke that has just been read or created. -/
def poolItem (s : Stroke) (p : PoolPlace) : PoolItem := ⟨s, p, none, false, 0, 0, none, none, false, false, none, none, 0⟩

/-- Every stroke of the released layer that has been read and is not settled (R80). -/
def Dev.unsettled (d : Dev) : List Stroke :=
  ((d.mar.window ++ d.mar.repairs ++ d.mar.waitRepairs).map (·.stroke)) ++ d.mar.pending.map (·.item.stroke) ++
  d.mar.oars.flatMap (fun o => o.buf.map (·.item.stroke)) ++ d.eng.flatMap (fun e => (e.cur.toList ++ (e.next.map (·.1)).toList).map (·.item.stroke))

def Dev.onLayer (d : Dev) (f : LayerRec → LayerRec) : Dev :=
  { d with layers := { d.layers with released := d.layers.released.map f } }

def Dev.onMar (d : Dev) (f : Marshal → Marshal) : Dev := { d with mar := f d.mar }

def Dev.onEng (d : Dev) (k : Nat) (f : Engine → Engine) : Dev := { d with eng := upd d.eng k f }

/-- Statistics of oar k in the released layer (R154). -/
def Dev.stat (d : Dev) (k : Nat) (f : OarStat → OarStat) : Dev := d.onLayer fun l => { l with stats := upd l.stats k f }

def Dev.layerStat (d : Dev) (f : LayerStat → LayerStat) : Dev := d.onLayer fun l => { l with total := f l.total }

/-- A field of the released layer's descriptor. -/
def Dev.relDesc (d : Dev) : Desc := (d.layers.released.map (·.desc)).getD default

/-! ## Fences and runs (R79, R82, R83) -/

/-- The members of a run with their G. -/
def Dev.runMembers (d : Dev) (r : Nat) : List (Nat × Nat) :=
  ((d.layers.released.bind fun l => l.runs.find? (·.1 = r)).map (·.2)).getD []

def Stroke.ordinal (s : Stroke) : Ordinal := ⟨s.seq, s.layerFences, s.group, s.groupFences⟩

/-- A stroke that must be settled before another: a layer fence or a fence of their group lies between them (R79). -/
def Ordinal.before (t s : Ordinal) : Bool :=
  t.layerFences < s.layerFences || (s.group ≠ 0 && t.group = s.group && t.groupFences < s.groupFences)

/-- The strokes of the blocks left damaged that have not been read (R100). -/
def Dev.skippedStrokes (d : Dev) : List Ordinal :=
  match d.layers.released with
  | none => []
  | some l => d.mar.skipped.flatMap fun p => (nth l.blocks p.1).strokes.filter fun t => p.2.1 ≤ t.seq

/-- R79: whether a stroke lies behind an unopened layer fence or group fence. -/
def Dev.fenced (d : Dev) (s : Stroke) : Bool :=
  (d.unsettled.map Stroke.ordinal ++ d.skippedStrokes).any fun t => t.before s.ordinal

/-- Whether record n lies in a block that has not been read yet (R100). -/
def Marshal.unread (m : Marshal) (n : Nat) : Bool :=
  m.nextRec ≤ n || m.skipped.any fun p => n / 2048 = p.1 && p.2.1 ≤ n

/-- R112: whether a stroke of a run is not its next member. -/
def Dev.runHeld (d : Dev) (s : Stroke) : Bool :=
  match s.run with
  | none => false
  | some r =>
    d.unsettled.any (fun t => t.run = some r && t.seq < s.seq) ||
      (d.runMembers r).any fun m => m.1 < s.seq && d.mar.unread m.1

/-- The oar that a run is bound to. -/
def Dev.runOar (d : Dev) (r : Nat) : Option Nat := (List.range 32).find? fun k => (nth d.mar.oars k).run = some r

/-- The intersection of G over the members of a run from a sequence number on (R83). -/
def Dev.runG (d : Dev) (r seq : Nat) : Nat :=
  ((d.runMembers r).filter (seq ≤ ·.1)).foldl (fun g m => g &&& m.2) (2 ^ 32 - 1)

/-- R147: some other stroke of the group (ungrouped: between the same layer fences) is still undispatched. -/
def Dev.lateHeld (d : Dev) (s : Stroke) : Bool :=
  let same := fun (t : Ordinal) => t.group = s.group && (s.group ≠ 0 || t.layerFences = s.layerFences)
  d.mar.window.any (fun i => same i.stroke.ordinal) ||
  d.mar.pending.any (fun p => same p.item.stroke.ordinal && p.item.stroke.repair.isNone) ||
  (match d.layers.released with
    | none => false
    | some l => (l.blocks.flatMap (·.strokes)).any fun t => same t && d.mar.unread t.seq)

/-! ## Settled strokes (R80, R31) -/

/-- A stroke leaves the unsettled ones: it is counted, and a run whose last member it is frees its oar (R112). -/
def Dev.settleStroke (d : Dev) (s : Stroke) : Dev :=
  let d1 := d.onLayer fun l => { l with settled := l.settled + 1 }
  match s.run with
  | none => d1
  | some r =>
    if (((d.runMembers r).getLast?).map (·.1)).getD s.seq ≤ s.seq then
      d1.onMar fun m => { m with oars := m.oars.map fun o => if o.run = some r then { o with run := none } else o }
    else d1

/-- The record of an interrupted stroke gets its outcome (R150). -/
def Dev.setOutcome (d : Dev) (seq outcome oar : Nat) : Dev :=
  d.onLayer fun l => { l with ints := l.ints.map fun r =>
    if r.seq = seq ∧ r.outcome = 0 then { r with outcome := outcome, repairOar := oar } else r }

/-- The stroke grant of an oar ends (R121). -/
def Dev.releaseStroke (d : Dev) (k seq : Nat) : Dev :=
  d.release fun w => match w with | .stroke a b => a = k && b = seq | _ => false

/-- A stroke exposed by oar k: counted and settled. -/
def Dev.exposed (d : Dev) (k : Nat) (s : Stroke) : Dev :=
  let d1 := d.stat k fun t => { t with
    exposed := t.exposed + 1, contour := t.contour + boolN s.contour, repairs := t.repairs + boolN s.repair.isSome }
  let d2 := if s.repair.isSome then d1.setOutcome s.seq 2 k else d1
  (d2.releaseStroke k s.seq).settleStroke s

/-- A stroke reported not exposed (R75, R99). -/
def Dev.notExposed (d : Dev) (s : Stroke) : Dev :=
  let d1 := (d.layerStat fun t => { t with notExposed := t.notExposed + 1 }).onLayer fun l =>
    { l with notExposed := l.notExposed ++ [s.seq] }
  (if s.repair.isSome then d1.setOutcome s.seq 6 0xFF else d1).settleStroke s

/-- A stroke reported UNEXPOSABLE (R113). -/
def Dev.unexposable (d : Dev) (s : Stroke) : Dev :=
  let d1 := (d.layerStat fun t => { t with unexposable := t.unexposable + 1 }).onLayer fun l =>
    { l with unexposable := l.unexposable ++ [s.seq] }
  (if s.repair.isSome then d1.setOutcome s.seq 3 0xFF else d1).settleStroke s

/-! ## Return and withdrawal (R142, R143) -/

/-- An item that waits for leave no longer (R107). -/
def PoolItem.unwait (i : PoolItem) : PoolItem := { i with leaveChip := false, leavePlant := false, leaveOar := none, leaveSince := none }

/-- An item enters the pool in the place it names. -/
def Marshal.enterPool (m : Marshal) (i : PoolItem) : Marshal :=
  if i.stroke.repair.isSome then { m with repairs := m.repairs ++ [i] } else { m with window := m.window ++ [i] }

/-- An item put back into the pool in the place it names. A repair stroke that returns from an oar's buffer stands with the
returned strokes of R105, for R104 reads those buffers as part of the pool (DEDUCED, log 114). -/
def Marshal.putBack (m : Marshal) (i : PoolItem) : Marshal := m.enterPool i.unwait

/-- Places of a part of the pool that are taken: its items, and those whose request for leave is pending, which may come
back to it (R104, R107). -/
def Marshal.places (m : Marshal) (p : PoolPlace) : Nat :=
  ((m.window ++ m.repairs ++ m.pending.map (·.item)).filter fun i => i.place = p).length

/-- Whether the repair list has a place (R104, R145). -/
def Marshal.repairRoom (m : Marshal) : Bool := m.places .repair < 64

/-- An unstarted stroke of oar k returns. Where `bind` is set a NO_HANDOVER stroke stays bound to the oar (R143), where
not it is reported not exposed (R142). -/
def Dev.returnStroke (d : Dev) (k : Nat) (bind : Bool) (b : BufStroke) : Dev :=
  let s := b.item.stroke
  let d1 := d.releaseStroke k s.seq
  if s.noHandover && ! bind then d1.notExposed s
  else
    (d1.stat k fun t => { t with returned := t.returned + 1 }).onMar fun m =>
      m.putBack { b.item with place := .returned k, bound := if s.noHandover then some k else b.item.bound }

/-- The engine gives up a stroke that has not reached its catch. -/
def Engine.drop (e : Engine) : Engine :=
  { e with cur := none, plan := none, next := none, edges := [], phase := .idle, holdSince := none, settle := [],
           fromObs := true, loose := true }

/-- The unstarted strokes of an oar: the one in hand unless it exposes, then its buffer. -/
def Dev.unstarted (d : Dev) (k : Nat) : List BufStroke :=
  let e := nth d.eng k
  (if e.exposing then [] else e.cur.toList) ++ (e.next.map (·.1)).toList ++ (nth d.mar.oars k).buf

/-- The pending strokes of oar k return to the pool and their requests end (R142). -/
def Dev.withdrawPending (d : Dev) (k : Nat) : Dev :=
  (d.mar.pending.filter (·.oar = k)).foldl (fun d p =>
      (d.releaseStroke k p.item.stroke.seq).onMar (·.putBack p.item))
    (d.onMar fun m => { m with pending := m.pending.filter (·.oar ≠ k) })

/-- R115: what is predicted of an oar that is left with nothing but a stroke that exposes. -/
def OarQueue.onlyHeld (o : OarQueue) (now : Rat) (held : Option BufStroke) : OarQueue :=
  match held with
  | some b => { o with drain := b.finishPs, lastX := b.item.stroke.qx, lastY := b.item.stroke.qy }
  | none => { o with drain := now }

/-- R142, R143: an oar is withdrawn: pending and unstarted strokes return, its buffer becomes empty; without `bind` its
run moves on and the strokes bound to it are reported not exposed. -/
def Dev.withdraw (d : Dev) (k : Nat) (bind : Bool) : Dev :=
  let d0 := d.withdrawPending k
  let us := d0.unstarted k
  let held := if (nth d.eng k).exposing then (nth d.eng k).cur else none
  let d1 := (d0.onMar fun m => { m with oars := upd m.oars k fun o =>
      { o.onlyHeld d.psNow held with buf := [], keptFor := none, run := if bind then o.run else none } }).onEng k fun e =>
    if e.exposing then { e with next := none } else e.drop
  let d2 := us.foldl (fun d b => d.returnStroke k bind b) d1
  if bind then d2
  else
    let bs := d2.mar.window.filter (·.bound = some k)
    bs.foldl (fun d i => d.notExposed i.stroke) (d2.onMar fun m => { m with window := m.window.filter (·.bound ≠ some k) })

/-! ## Cells (R123, R133) -/

/-- An interval of the parameter of a segment, its ends open or closed. -/
structure TIv where
  lo : Rat
  loC : Bool
  hi : Rat
  hiC : Bool
  ok : Bool

def TIv.meet (a b : TIv) : TIv where
  lo := max a.lo b.lo
  loC := (a.lo < b.lo || a.loC) && (b.lo < a.lo || b.loC)
  hi := min a.hi b.hi
  hiC := (b.hi < a.hi || a.hiC) && (a.hi < b.hi || b.hiC)
  ok := a.ok && b.ok

def TIv.nonempty (a : TIv) : Bool := a.ok && (a.lo < a.hi || (a.lo = a.hi && a.loC && a.hiC))

/-- Where p + t·dir lies in the half-open range from lo to hi. -/
def axisIv (p dir lo hi : Int) : TIv :=
  if dir = 0 then ⟨0, true, 1, true, lo ≤ p ∧ p < hi⟩
  else
    let a : Rat := ((lo - p : Int) : Rat) / dir
    let b : Rat := ((hi - p : Int) : Rat) / dir
    if 0 < dir then ⟨a, true, b, false, true⟩ else ⟨b, false, a, true, true⟩

/-- The cells of a grid that a closed segment touches, with the share of the segment inside each. -/
def touched (x0 y0 edge : Int) (nx ny : Nat) (px py qx qy : Int) : List (Nat × Rat) :=
  let c0 := (min px qx - x0) / edge
  let c1 := (max px qx - x0) / edge
  let r0 := (min py qy - y0) / edge
  let r1 := (max py qy - y0) / edge
  (List.range (natOf (r1 - r0 + 1))).flatMap fun j => (List.range (natOf (c1 - c0 + 1))).filterMap fun i =>
    let c := c0 + i
    let r := r0 + j
    let iv := ((axisIv px (qx - px) (x0 + c * edge) (x0 + (c + 1) * edge)).meet
      (axisIv py (qy - py) (y0 + r * edge) (y0 + (r + 1) * edge))).meet ⟨0, true, 1, true, true⟩
    if 0 ≤ c ∧ c < nx ∧ 0 ≤ r ∧ r < ny ∧ iv.nonempty then some (natOf c + nx * natOf r, iv.hi - iv.lo) else none

/-- The corner of the bed rectangle, as both maps take it (R123, R133). -/
def Dev.bedCorner (d : Dev) : Int × Int := match d.geo.active.bed with | some (x, y, _, _) => (x, y) | none => (0, 0)

/-! ## The wake grid -/

/-- Cells of the wake grid that a segment touches. -/
def Dev.wakeCells (d : Dev) (px py qx qy : Int) : List Nat :=
  (touched d.bedCorner.1 d.bedCorner.2 256000 256 256 px py qx qy).map (·.1)

/-- The wake cell of a bed point (R123). -/
def Dev.wakeCellOf (d : Dev) (x y : Int) : Option Nat := (d.wakeCells x y x y).head?

/-- TIME, OAR, SRC of a wake cell; SRC 0 empty. -/
def Marshal.wakeAt (m : Marshal) (c : Nat) : Nat × Nat × Nat := ((m.wake.find? (·.1 = c)).map (·.2)).getD (0, 0, 0)

/-- Present time in µs modulo 2^32 (R124). -/
def Dev.us32 (d : Dev) : Nat := d.timeUs % 2 ^ 32

/-- Age of a time in µs modulo 2^32. A mark is placed up to some µs ahead of its instant, and has no age until then (DESIGN
CHOICE, log 150): a time less than 1 ms ahead is the present. -/
def wakeAge (now time : Nat) : Nat :=
  let a := (now + 2 ^ 32 - time % 2 ^ 32) % 2 ^ 32
  if 2 ^ 32 - 1000 < a then 0 else a

/-- R124: a cell is live for oar k. -/
def Dev.wakeLive (d : Dev) (k c : Nat) : Bool :=
  let w := d.mar.wakeAt c
  (w.2.2 = 2 || (w.2.2 = 1 && w.2.1 ≠ k)) && wakeAge d.us32 w.1 < d.relDesc.wakeLife

/-- R132: the layer marks and checks; never in COMPAT. -/
def Dev.wakeOn (d : Dev) : Bool := d.relDesc.wakeLen ≠ 0 && ! d.boot.compat

/-- R129: the wake check of a stroke for oar k. -/
def Dev.wakeClear (d : Dev) (s : Stroke) (k : Nat) : Bool :=
  ! d.wakeOn || (d.wakeCells s.x0 s.y0 s.qx s.qy).all fun c => ! d.wakeLive k c

/-- The largest remaining lifetime among the blocking cells, µs (R129). -/
def Dev.wakeWait (d : Dev) (s : Stroke) (k : Nat) : Nat :=
  ((d.wakeCells s.x0 s.y0 s.qx s.qy).filter (d.wakeLive k)).foldl (fun m c =>
    max m (d.relDesc.wakeLife - wakeAge d.us32 (d.mar.wakeAt c).1)) 0

/-- x ≤ b · √n for b not negative. -/
def leRoot (x b n : Int) : Bool := x ≤ 0 ∨ x * x ≤ b * b * n

/-- R126: the cells that a marking point marks. -/
def Dev.markCells (d : Dev) (qx qy : Int) : List Nat :=
  let ds := d.relDesc
  let g2 := ds.gasX * ds.gasX + ds.gasY * ds.gasY
  let len : Int := 64 * ds.wakeLen + 192000
  let half : Int := 64 * ds.wakeHalf + 192000
  let span := (len + half) / 256000 + 2
  let c0 := (qx - d.bedCorner.1) / 256000
  let r0 := (qy - d.bedCorner.2) / 256000
  (List.range (natOf (2 * span + 1))).flatMap fun j => (List.range (natOf (2 * span + 1))).filterMap fun i =>
    let c := c0 - span + i
    let r := r0 - span + j
    let dx := d.bedCorner.1 + c * 256000 + 128000 - qx
    let dy := d.bedCorner.2 + r * 256000 + 128000 - qy
    let along := dx * ds.gasX + dy * ds.gasY
    let across := dx * ds.gasY - dy * ds.gasX
    if 0 ≤ c ∧ c < 256 ∧ 0 ≤ r ∧ r < 256 ∧ leRoot along len g2 ∧ leRoot (-along) 192000 g2 ∧ leRoot across half g2 ∧
        leRoot (-across) half g2 then some (natOf c + 256 * natOf r) else none

/-- Device time in µs modulo 2^32 at an instant of the frame clock in ps. -/
def Dev.us32At (d : Dev) (ps : Rat) : Nat := let t := d.timeOfPs ps; (t.1 * 1000000 + t.2 / 1000) % 2 ^ 32

/-- R126: oar k marks at a point at an instant in ps; the marks land at the end of the cycle (R127) and are offered to
peers, for each cell marked (R128, R445). -/
def Dev.markWake (d : Dev) (k : Nat) (x y : Int) (ps : Rat) : Dev :=
  if ! d.wakeOn then d
  else
    let us := d.us32At ps
    d.onMar fun m => { m with
      openMarks := m.openMarks ++ (d.markCells x y).map fun c => (c, us, k, 1)
      gangMarks := m.gangMarks ++ (d.markCells x y).map fun c => (c, k, x, y, us) }

/-- R127: one mark lands where the cell is empty, has aged out or carries a time not later, times compared modulo 2^32. -/
def landMark (now : Nat) (w : List (Nat × Nat × Nat × Nat)) (e : Nat × Nat × Nat × Nat) : List (Nat × Nat × Nat × Nat) :=
  match w.find? (·.1 = e.1) with
  | some o =>
    if o.2.2.2 = 0 ∨ 100000 ≤ wakeAge now o.2.1 ∨ (e.2.1 + 2 ^ 32 - o.2.1) % 2 ^ 32 < 2 ^ 31 then e :: w.filter (·.1 ≠ e.1) else w
  | none => e :: w

/-- R127: the marks of the cycle land at its end. -/
def Dev.landMarks (d : Dev) : Dev :=
  d.onMar fun m => { m with wake := m.openMarks.foldl (landMark d.us32) m.wake, openMarks := [] }

/-! ## The thermal map -/

/-- NX and NY (R133). -/
def Dev.heatSize (d : Dev) : Nat × Nat :=
  match d.geo.active.bed with
  | some (_, _, w, h) =>
    let e : Int := d.mar.edge
    (natOf ((w + e - 1) / e), natOf ((h + e - 1) / e))
  | none => (0, 0)

/-- Device time in 100 µs units modulo 2^16. -/
def Dev.stamp (d : Dev) : Nat := d.timeUs / 100 % 2 ^ 16

/-- e^−x by its series at x/32, to the 32nd power (DESIGN CHOICE, log 14). -/
def expNeg (x : Rat) : Rat :=
  let y := x / 32
  let s := (List.range 20).foldl (fun (a : Rat × Rat) n => (a.1 + a.2, a.2 * (-y) / ((n + 1 : Nat) : Rat))) (0, 1)
  s.1 ^ 32

/-- R135: the decay factor; its error is free within 2^−16. -/
def decayFactor (age : Nat) (tau : Option Nat) : Rat :=
  match tau with
  | none => 1
  | some t =>
    let x : Rat := ((age * 100 : Nat) : Rat) / t
    if 16 ≤ x then 0
    else if age = 0 then 1
    else
      let e : Rat := (((Config.decayError age t % (2 ^ 17 + 1) : Nat) : Rat) - 2 ^ 16) / 2 ^ 32
      expNeg x * (1 + e)

def Marshal.heatAt (m : Marshal) (c : Nat) : Nat × Nat := ((m.heat.find? (·.1 = c)).map (·.2)).getD (0, 0)

/-- R135: the decayed value of a cell now. -/
def Dev.heatNow (d : Dev) (c : Nat) : Nat :=
  let h := d.mar.heatAt c
  natOf ((h.1 : Rat) * decayFactor ((d.stamp + 2 ^ 16 - h.2) % 2 ^ 16) d.mar.lastTau).floor

/-- Cells of the thermal map that a segment touches, with shares. -/
def Dev.heatCells (d : Dev) (px py qx qy : Int) : List (Nat × Rat) :=
  touched d.bedCorner.1 d.bedCorner.2 d.mar.edge d.heatSize.1 d.heatSize.2 px py qx qy

def setHeat (h : List (Nat × Nat × Nat)) (c e st : Nat) : List (Nat × Nat × Nat) :=
  let r := h.filter (·.1 ≠ c)
  if e = 0 then r else (c, e, st) :: r

/-- R137: a step's energy in µJ, spread over the cells it crosses by length; a point gives all to its cell. -/
def Dev.deposit (d : Dev) (px py qx qy : Int) (energy : Rat) : Dev :=
  if d.boot.compat then d
  else
    let cs := d.heatCells px py qx qy
    let pt : Bool := px = qx ∧ py = qy
    cs.foldl (fun d c =>
      let v := d.heatNow c.1
      let add := roundRat (energy * (if pt then 1 else c.2) / d.mar.energyLsb)
      d.onMar fun m => { m with heat := setHeat m.heat c.1 (min 0xFFFF (natOf (v + add))) d.stamp }) d

/-- A thermal-correction table, loaded or not (R138). -/
def Library.table (l : Library) (i : Nat) : Option (List Nat) := (l.tables.find? (·.1 = i)).map (·.2)

/-- R139: the scale for a value, 0x8000 for 1.0. -/
def tableScale (t : List Nat) (v : Nat) : Nat :=
  let i := v / 256
  let r := v % 256
  if i < 255 then natOf (roundRat ((nth t i : Rat) + ((nth t (i + 1) : Rat) - nth t i) * r / 256)) else nth t 255

/-- The scale of the cell that holds a bed point; 1.0 in COMPAT or without a table (R139). -/
def Dev.scaleAt (d : Dev) (table : Nat) (x y : Int) : Nat :=
  match d.boot.compat, d.lib.table table, (d.heatCells x y x y).head? with
  | false, some t, some c => tableScale t (d.heatNow c.1)
  | _, _, _ => 0x8000

/-- R140: the thermal check of a stroke. -/
def Dev.thermalClear (d : Dev) (s : Stroke) : Bool :=
  d.boot.compat || d.relDesc.thermCeil = 0xFFFF ||
    (d.heatCells s.x0 s.y0 s.qx s.qy).all fun c => d.heatNow c.1 < d.relDesc.thermCeil

/-- ln x for x ≥ 1 by 2·artanh((x−1)/(x+1)), x halved to below 2 first (DESIGN CHOICE, log 14). -/
def lnQ (x : Rat) : Rat :=
  let art := fun (z : Rat) => 2 * sumQ ((List.range 30).map fun n => z ^ (2 * n + 1) / ((2 * n + 1 : Nat) : Rat))
  let k := (List.range 64).foldl (fun (p : Rat × Nat) _ => if 2 ≤ p.1 then (p.1 / 2, p.2 + 1) else p) (x, 0)
  (k.2 : Rat) * art (1 / 3) + art ((k.1 - 1) / (k.1 + 1))

/-- R140: the expected wait, µs. -/
def Dev.thermalWait (d : Dev) (s : Stroke) : Nat :=
  let v := (d.heatCells s.x0 s.y0 s.qx s.qy).foldl (fun m c => max m (d.heatNow c.1)) 1
  max 1 (natOf (ceilRat ((d.relDesc.thermTau : Rat) * lnQ ((v : Rat) / max 1 d.relDesc.thermCeil))))

/-! ## Interruption and repair (R144 to R151) -/

/-- The point at normalised distance s along a stroke, rounded to the nearest LSB. -/
def Stroke.at (s : Stroke) (f : Rat) : Int × Int :=
  if s.dot then (s.x0, s.y0)
  else (roundRat ((s.x0 : Rat) + f * ((s.x1 - s.x0 : Int) : Rat)), roundRat ((s.y0 : Rat) + f * ((s.y1 - s.y0 : Int) : Rat)))

/-- R146: the repair of a stroke interrupted at s_F by oar k. -/
def Stroke.repaired (s : Stroke) (k : Nat) (f : Rat) : Stroke :=
  let p := s.at f
  { s with flags := s.flags - s.flags % 2, x0 := p.1, y0 := p.2, repair := some (k, f)
           dwell := if s.dot then natOf (ceilRat ((1 - f) * s.dwell)) else s.dwell }

/-- R145: less than 64 LSB, or less than 10 ns of dwell, remain. -/
def Stroke.doneAtCut (s : Stroke) (f : Rat) : Bool :=
  if s.dot then (1 - f) * s.dwell < 1
  else (1 - f) ^ 2 * (((s.x1 - s.x0) ^ 2 + (s.y1 - s.y0) ^ 2 : Int) : Rat) < 4096

/-- R150, R151: a record of a stroke interrupted at an instant in ps, up to 4096 a layer. -/
def Dev.intRecord (d : Dev) (k cause outcome : Nat) (s : Stroke) (f ps : Rat) : Dev :=
  let p := s.at f
  let t := d.timeOfPs ps
  let r : IntRec := ⟨s.seq, s.group, k, cause, boolN s.contour + 2 * boolN s.dot + 4 * boolN s.repairOk, outcome, p.1, p.2,
    natOf (roundRat (f * 65535)), 0xFF, t.1, t.2⟩
  d.onLayer fun l => if l.ints.length < 4096 then { l with ints := l.ints ++ [r] } else { l with intOverflow := true }

/-- A repair enters the repair list, or waits for a place (R145). -/
def Dev.addRepair (d : Dev) (i : PoolItem) : Dev :=
  d.onMar fun m =>
    if m.repairRoom ∧ m.waitRepairs = [] then { m with repairs := m.repairs ++ [i] }
    else { m with waitRepairs := m.waitRepairs ++ [i] }

/-- R144, R145, R148: the stroke that oar k exposes is interrupted at s_F of its present flight, at an instant in ps. -/
def Dev.interruptStroke (d : Dev) (k cause : Nat) (b : BufStroke) (f ps : Rat) : Dev :=
  let s := b.item.stroke
  let p := s.at f
  let d1 := (d.markWake k p.1 p.2 ps).releaseStroke k s.seq
  if s.repair.isSome then
    ((d1.setOutcome s.seq 4 0xFF).stat k fun t => { t with interrupted := t.interrupted + 1 }).settleStroke s
  else
    let d2 := d1.stat k fun t => { t with interrupted := t.interrupted + 1 }
    if s.doneAtCut f then
      ((d2.intRecord k cause 5 s f ps).stat k fun t =>
        { t with exposed := t.exposed + 1, contour := t.contour + boolN s.contour }).settleStroke s
    else if ! s.repairOk ∨ s.noHandover ∨ d.relDesc.repairPolicy = 0 then (d2.intRecord k cause 1 s f ps).settleStroke s
    else (d2.intRecord k cause 0 s f ps).addRepair (poolItem (s.repaired k f) .repair)

/-- The energy of the step in hand reported at a point, or at the step's start where the beam has not come so far (R137). -/
def Dev.depositStep (d : Dev) (k : Nat) (s : Stroke) (f : Rat) : Dev :=
  let e := nth d.eng k
  let len := s.len
  let f0 := if s.dot ∨ len = 0 then 0 else min 1 ((e.stepIdx : Rat) * 64000 / len)
  let p := s.at f0
  let q := s.at (max f0 f)
  if e.stepEnergy = 0 then d
  else (d.deposit p.1 p.2 q.1 q.2 e.stepEnergy).onEng k fun e => { e with stepEnergy := 0 }

/-! ## Crossings of wake cells (R126, R131) -/

/-- Parameters of a segment, from p over a span, at which it crosses a cell boundary between two of its points. A boundary
belongs to the cell above it, so a beam that runs upward enters at the boundary and one that runs downward just after. -/
def crossings (p span : Int) (a b : Rat) : List Rat :=
  if span = 0 then []
  else
    let at' := fun (t : Rat) => ((p : Rat) + t * span) / 256000
    let lo := (min (at' a) (at' b)).floor
    let n := natOf ((max (at' a) (at' b)).floor - lo + 2)
    ((List.range n).map fun i => (((lo + i) * 256000 - p : Int) : Rat) / span).filter fun t =>
      if 0 < span then decide (a < t) && decide (t ≤ b) else decide (a ≤ t) && decide (t < b)

/-- The cell index of a coordinate as a beam on a segment comes to it, or as it goes on. -/
def cellOn (x : Rat) (span : Int) (after : Bool) : Int :=
  if x.den = 1 && ((after && span < 0) || (! after && 0 < span)) then x.floor - 1 else x.floor

/-- The wake cell before or after a point of a stroke, in the beam's direction. -/
def Dev.wakeCellAlong (d : Dev) (s : Stroke) (t : Rat) (after : Bool) : Option Nat :=
  let dx := s.x1 - s.x0
  let dy := s.y1 - s.y0
  let c := cellOn (((s.x0 - d.bedCorner.1 : Int) + t * dx) / 256000) dx after
  let r := cellOn (((s.y0 - d.bedCorner.2 : Int) + t * dy) / 256000) dy after
  if 0 ≤ c ∧ c < 256 ∧ 0 ≤ r ∧ r < 256 then some (natOf c + 256 * natOf r) else none

/-- The cell being entered is checked: a live one is a breach, counted and recorded (R131). -/
def Dev.breachCheck (d : Dev) (k c : Nat) (ps : Rat) : Dev :=
  if ! d.wakeLive k c then d
  else
    let w := d.mar.wakeAt c
    (d.stat k fun t => { t with wakeBreach := t.wakeBreach + 1 }).eventRec k (d.seqNow k) 0x11
      (u16 (c % 256) ++ u16 (c / 256) ++ u8 w.2.1 ++ u8 w.2.2) (d.timeOfPs ps)

/-- One crossing at a point of the stroke and an instant: the oar marks, and the cell entered is checked. -/
def Dev.crossCell (d : Dev) (k : Nat) (s : Stroke) (t ps : Rat) : Dev :=
  let p := s.at t
  match d.wakeCellAlong s t true with
  | some c => (d.breachCheck k c ps).markWake k p.1 p.2 ps
  | none => if (d.wakeCellAlong s t false).isSome then d.markWake k p.1 p.2 ps else d

/-- Every crossing up to a normalised distance, reached at an instant; the instants between follow the distance. -/
def Dev.cellsTo (d : Dev) (k : Nat) (s : Stroke) (f ps : Rat) : Dev :=
  let e := nth d.eng k
  if s.dot || ! d.wakeOn || decide (f ≤ e.cellShare) then d
  else
    let a := e.cellShare
    let ts := (crossings (s.x0 - d.bedCorner.1) (s.x1 - s.x0) a f ++ crossings (s.y0 - d.bedCorner.2) (s.y1 - s.y0) a f).dedup
    let when' := fun (t : Rat) => e.cellPs + (t - a) / (f - a) * (ps - e.cellPs)
    let d1 := (ts.insertionSort fun a b => a ≤ b).foldl (fun d t => d.crossCell k s t (when' t)) d
    d1.onEng k fun e => { e with cellShare := f, cellPs := ps }

/-! ## An oar's LGATE forced low (R144, R188) -/

/-- What the DAC goes on with until the light of a finish at an instant has ended (R184). -/
def Engine.tailOf (e : Engine) (b : BufStroke) : PowerTail := ⟨b, e.plan, e.catchPs, e.markPs, e.scales, e.clampedStroke⟩

/-- R144, R188: LGATE of oar k is forced low; a stroke that exposes is interrupted and recorded, and a jump planned
after it is planned anew. A catch that has not fired is discarded. The slot of the present frame in which the pad falls, not before a catch of the same frame, is a
free value (log 116). -/
def Dev.interrupt (d : Dev) (k cause : Nat) : Dev :=
  let e := nth d.eng k
  match e.exposing, e.cur with
  | true, some b =>
    let s := b.item.stroke
    let a := d.draw 800
    let slot := max a.1 (800 - e.openSlots)
    let ps := d.psNow + slotPs * slot
    let f := d.shareAt k s ps
    let last := d.frameEnergy k e.power ((e.openSlots : Rat) - (800 - slot))
    let d0 := (a.2.onEng k fun e => { e with stepEnergy := e.stepEnergy + last }).cellsTo k s f ps
    let d1 := (((d0.depositStep k s f).forcedLow k s slot).onMar fun m => { m with oars := upd m.oars k fun o =>
      { o with buf := (e.next.map (·.1)).toList ++ o.buf } }).onEng k fun e =>
        { e.drop with lgate := false, exposing := false, openSlots := 0, tail := some (e.tailOf b), dacUntil := ps + e.latNow.lLaser }
    d1.interruptStroke k cause b f ps
  | _, _ => d.onEng k fun e => { e with lgate := false, edges := [] }

end Sys2Proof.Machine
end

