-- ==== Sys2Proof/Machine/LoopOps.lean ====
section
/-! DEFINITION. The loop array's shared operations: kinds, periods and phases (R197), schedules and loads (R199, R200),
the control law (R201, R202), sources and destinations (R211 to R214), states of a slot (R207 to R209, R218). -/

namespace Sys2Proof.Machine

/-! ## Cycles, phases (R197, R199) -/

/-- Cycles per execution (R199). -/
def slotCycles (s : Nat) : Nat :=
  match slotKind s with
  | .scanner => 12
  | .melt => 30
  | _ => 24

/-- The phase of a slot: by R197, and as assigned at commit (DESIGN CHOICE, log 30). -/
def slotPhase (s : Nat) : Nat :=
  match slotKind s with
  | .scanner => 0
  | .melt => (s - 96) % 4
  | .slide => (homeProc s + 3) % 4
  | .heater => 4 + (homeProc s + 3) % 4
  | .general => (homeProc s + 1 + s % 2) % 4

/-! ## Migration plans and loads (R199, R200, R223) -/

/-- The survivors that take processor p's melt-pool slots, by phase. -/
def meltHosts (p : Nat) : List Nat :=
  (List.range 4).map fun f => if f = p then f + 4 else f

/-- The three survivors that take no melt-pool slot of p: that for i, of 1 to 3, runs its own slots in no frame of
phase p + i. -/
def otherHost (p i : Nat) : Nat := 4 + (p + i) % 4

/-- The processor to which a slot of p migrates (DESIGN CHOICE, log 30). -/
def migrateTo (p s : Nat) : Nat :=
  let m := meltHosts p
  let o := otherHost p
  match slotKind s with
  | .scanner =>
    let i := s % 12
    nth [nth m 0, nth m 0, nth m 1, nth m 1, nth m 2, nth m 2, nth m 3, nth m 3, o 1, o 1, o 2, o 3] i
  | .melt => nth m ((s - 96) % 4)
  | .general => o (1 + s % 2)
  | _ => o 3

/-- The processor of a slot in the home schedule, or in the plan for the loss of processor p. -/
def planProc (p : Option Nat) (s : Nat) : Nat :=
  match p with
  | none => homeProc s
  | some p => if homeProc s = p then migrateTo p s else homeProc s

/-- The cycles that a processor spends in frame n under a schedule, over the slots in use. -/
def frameLoad (used : List (Nat × Nat)) (p : Option Nat) (q n : Nat) : Nat :=
  used.foldl (fun c u => if planProc p u.1 = q ∧ n % slotPeriod u.1 u.2 = slotPhase u.1 % slotPeriod u.1 u.2
    then c + slotCycles u.1 else c) 0

/-- The worst load of a schedule: processor, frame offset, cycles. -/
def worstLoad (used : List (Nat × Nat)) (p : Option Nat) : Nat × Nat × Nat :=
  (List.range 8).foldl (fun w q =>
    if p = some q then w
    else (List.range 40000).foldl (fun w n =>
      let c := frameLoad used p q n
      if w.2.2 < c then (q, n, c) else w) w) (0, 0, 0)

/-- The home schedule and the eight migration plans. -/
def allLoads (used : List (Nat × Nat)) : List (Nat × Nat × Nat) :=
  (none :: (List.range 8).map some).map (worstLoad used)

/-! ## The control law (R201 to R204) -/

/-- Division by 2^16, to the nearest, ties away from zero. -/
def q16 (x : Int) : Int := roundRat ((x : Rat) / 65536)

/-- A product as the law forms it, in 64 bits (R202): the spec states no result for one that does not fit, which is a
free value (DESIGN CHOICE, log 118). -/
def prod64 (a b : Int) : Int :=
  if -2 ^ 63 ≤ a * b ∧ a * b < 2 ^ 63 then a * b else (Config.product64 a b).toInt

/-- KP, KI, KD of a table at a normalised error. -/
def gainLookup (t : GainTable) (en : Nat) : Int × Int × Int :=
  let i := ((t.pts.zipIdx.filter fun p => p.1.1 ≤ en).map (·.2)).foldl max 0
  let a := nth t.pts i
  if i + 1 ≥ t.pts.length then a.2
  else
    let b := nth t.pts (i + 1)
    let f : Int := ((en - a.1) * 65536 / (b.1 - a.1) : Nat)
    (a.2.1 + q16 ((b.2.1 - a.2.1) * f), a.2.2.1 + q16 ((b.2.2.1 - a.2.2.1) * f), a.2.2.2 + q16 ((b.2.2.2 - a.2.2.2) * f))

/-- What an execution of the law reads. -/
structure LawIn where
  e : Int
  y : Int
  /-- Feed-forward with 16 fractional bits. -/
  ff : Int
  uMin : Int
  uMax : Int
  gains : GainTable
  /-- The integrator is frozen (R215, R216). -/
  freeze : Bool

def lflag (d : SlotDesc) (n : Nat) : Bool := d.lflags.testBit n

/-- First-order filter of the measurement. -/
def LoopSlot.filter (s : LoopSlot) (d : SlotDesc) (y : Int) : LoopSlot :=
  let yf := s.yf + q16 (prod64 d.dFilt (y * 65536 - s.yf))
  { s with yf := yf }

/-- The terms of the latest execution: e, p, I, d, u, for `loop.trace`. -/
structure LawTerms where
  e : Int
  p : Int
  i : Int
  d : Int
  u : Int

/-- R201. -/
def LoopSlot.law (s0 : LoopSlot) (ds : SlotDesc) (x : LawIn) : LoopSlot × LawTerms :=
  let s := s0.filter ds x.y
  let e := if lflag ds 0 then -x.e else x.e
  let en := min 0xFFFF (e.natAbs * 4096 / max 1 ds.eNorm)
  let k := gainLookup x.gains en
  let d := if lflag ds 1 then prod64 k.2.2 (e - s0.ePrev) else q16 (prod64 k.2.2 (s0.yf - s.yf)) * (if lflag ds 0 then -1 else 1)
  let p := prod64 k.1 e
  let i := if s.preset then clampI (ds.iMin * 65536) (ds.iMax * 65536) (s.uPrev * 65536 - x.ff - p - d) else s.integ
  let raw := x.ff + p + i + d
  let u1 := clampI (x.uMin * 65536) (x.uMax * 65536) raw
  let u := if ds.slew = 0 then u1 else clampI ((s.uPrev - ds.slew) * 65536) ((s.uPrev + ds.slew) * 65536) u1
  let i2 := if x.freeze then i else clampI (ds.iMin * 65536) (ds.iMax * 65536) (i + prod64 k.2.1 e + q16 (prod64 ds.aw (u - raw)))
  let out := roundRat ((u : Rat) / 65536)
  ({ s with integ := i2, preset := false, outNow := out, uPrev := out, ePrev := e, eLast := e }, ⟨e, p, i, d, u⟩)

/-- MAN: the manual value under limits and slew (R207, R209). -/
def LoopSlot.manual (s0 : LoopSlot) (ds : SlotDesc) (y : Int) : LoopSlot :=
  let s := s0.filter ds y
  let u1 := clampI ds.uMin ds.uMax s.man
  let u := if ds.slew = 0 then u1 else clampI (s.uPrev - ds.slew) (s.uPrev + ds.slew) u1
  { s with outNow := u, uPrev := u }

/-- Entry into AUTO (R208): a preset, or an integrator of 0 from OFF. The filtered measurement and the previous error are those that
the slot holds: 0 under a new descriptor, the last ones after a time in OFF (DESIGN CHOICE, log 146). -/
def LoopSlot.toAuto (s : LoopSlot) : LoopSlot :=
  match s.st with
  | .auto => s
  | .off => { s with st := .auto, integ := 0, preset := false }
  | _ => { s with st := .auto, preset := true }

/-- Entry into MAN (R209). -/
def LoopSlot.toMan (s : LoopSlot) (v : Option Int) : LoopSlot :=
  { s with st := .man, man := match v with
    | some x => x
    | none => if s.st == .auto then s.uPrev else s.man }

/-- OFF: the destination is released and the integrator cleared (R207, R213). Overruns before and after a time in OFF count as
consecutive, for no period of the slot lies between them (DESIGN CHOICE, log 146). -/
def LoopSlot.toOff (s : LoopSlot) : LoopSlot :=
  { s with st := .off, integ := 0, preset := false, outNow := 0, outPrev := 0, uPrev := 0 }

/-- TRACK: the measurement or the destination is gone, and the slot remembers where it came from (R207). -/
def LoopSlot.toTrack (s : LoopSlot) : LoopSlot :=
  match s.st with
  | .auto | .man => { s with back := s.st, st := .track, outNow := s.uPrev }
  | _ => s

/-- The end of TRACK: back to AUTO with the preset of R208, or to MAN, from the output u (R208, R215). -/
def LoopSlot.fromTrack (s : LoopSlot) (u : Int) : LoopSlot :=
  match s.st, s.back with
  | .track, .man => { s with st := .man, uPrev := u, outNow := u }
  | .track, _ => { s with st := .auto, preset := true, uPrev := u, outNow := u }
  | _, _ => s

/-- What a period reports in which the law did not run: the output stands, and so does the integrator (R229). -/
def LoopSlot.idleTerms (s : LoopSlot) : LawTerms := ⟨s.eLast, 0, s.integ, 0, s.outNow * 65536⟩

/-- FAULT (R207, R218). -/
def LoopSlot.toFault (s : LoopSlot) (ds : SlotDesc) : LoopSlot :=
  let u := if lflag ds 3 then s.outNow else ds.failValue
  { s with st := .fault, outNow := u, uPrev := u }

/-- A slot of the array changed. -/
def Dev.onSlot (d : Dev) (s : Nat) (f : LoopSlot → LoopSlot) : Dev :=
  { d with loops := { d.loops with slots := upd d.loops.slots s f } }

def Dev.slot (d : Dev) (s : Nat) : LoopSlot := nth d.loops.slots s

def Loops.table (l : Loops) (t : Nat) : GainTable := ((l.gains.find? (·.1 = t)).map (·.2)).getD ⟨[]⟩

/-- R221: an execution in time ends a run of overruns; OVR clears with it (DESIGN CHOICE, log 146). -/
def LoopSlot.ran (s : LoopSlot) (n : Nat) : LoopSlot :=
  { s with lastRun := n + 1, ovr := false, consecutive := 0, recent := (false :: s.recent).take 256 }

/-! ## Sources (R211, R212, R214, R222) -/

/-- The slot that writes the set-point (0x05) or the feed-forward (0x06) of slot s. -/
def Loops.writer (l : Loops) (dst s : Nat) : Option Nat :=
  (List.range 160).find? fun w =>
    let x := nth l.slots w
    x.st != .off && (match x.desc with | some d => d.outDst = dst && d.outIdx = s | none => false)

/-- Analogue input m scaled by `loop.io`: its mean code times gain, plus offset. -/
def Loops.ainValue (l : Loops) (m code : Nat) : Int := q16 ((nth l.ain m).1 * code) + (nth l.ain m).2

/-- Commanded position of a slide axis in 1/256-step units. -/
def SlideAxis.units (a : SlideAxis) : Int := (a.pos + a.off).floor

/-- ENC_SPEED: the observer's speed times the encoder ratio, in 1/256-step units per second (R211, R335). -/
def Encoder.speed (e : Encoder) : Int := if e.still then 0 else roundRat (e.vHat * e.desc.num / max 1 e.desc.den)

/-- A source that is not the slot's own; `code` is the mean code of an analogue input. -/
def Dev.source (d : Dev) (s : LoopSlot) (src idx code : Nat) : Int :=
  if src = 0x01 then s.cmd
  else if src = 0x06 then d.loops.ainValue idx code
  else if src = 0x07 then (nth d.slides.encs idx).conv
  else if src = 0x08 then (nth d.slides.encs idx).speed
  else if src = 0x09 then (nth d.slides.axes idx).units
  else if src = 0x0A then s.pulse
  else if src = 0x0B then (d.slot idx).outPrev
  else 0

/-- R332: a source is lost while its encoder input is flagged WIRE_FAULT. -/
def Dev.sourceLost (d : Dev) (src idx : Nat) : Bool := (src = 7 || src = 8) && (nth d.slides.encs idx).wireFault

/-- The set-point of a slide, heater or general slot; a SLOT_SP writer replaces it. -/
def Dev.setpoint (d : Dev) (n : Nat) (code : Nat) : Int :=
  let s := d.slot n
  match d.loops.writer 5 n, s.desc with
  | some w, _ => (d.slot w).outPrev
  | none, some ds => d.source s ds.spSrc ds.spIdx code
  | none, none => 0

/-- Its feed-forward, with 16 fractional bits. -/
def Dev.feedForward (d : Dev) (n : Nat) : Int :=
  match d.loops.writer 6 n with
  | some w => (d.slot w).outPrev * 65536
  | none => 0

/-- R222: the pulse position moves on by the edges since the last reading, and the remainder is carried. -/
def Dev.readPulse (d : Dev) (n : Nat) : Dev :=
  match (d.slot n).desc with
  | some ds =>
    if ds.spSrc ≠ 0x0A then d
    else
      let g := nth d.loops.gears ds.spIdx
      let c := (nth d.slides.encs ds.spIdx).edges
      d.onSlot n fun s =>
        let x := (c - s.pulseCount) * g.1 + s.pulseRem
        { s with pulse := s.pulse + x / g.2, pulseRem := x % g.2, pulseCount := c }
  | none => d

/-! ## Destinations (R212, R213) -/

/-- What a slot's output drives besides what reads it directly: slide speed and heater duty. A writer of a slide speed
in FAULT or OFF gives no correction (R213, R321). -/
def Dev.drive (d : Dev) (n : Nat) : Dev :=
  let s := d.slot n
  match s.desc with
  | some ds =>
    if ds.outDst = 3 then { d with slides := { d.slides with axes := upd d.slides.axes ds.outIdx fun a =>
      { a with loopSpeed := if s.st == .off || s.st == .fault then 0 else s.outNow } } }
    else if ds.outDst = 4 then { d with loops := { d.loops with pwmDuty := d.loops.pwmDuty.set ds.outIdx (natOf (clampI 0 65535 s.outNow)) } }
    else d
  | none => d

/-- Whether a slot has its turn in frame n: its phase, and a processor in service that has adopted its schedule. -/
def Dev.slotTurn (d : Dev) (n : Nat) : Bool :=
  let s := d.slot n
  match s.desc with
  | none => false
  | some ds =>
    d.now % slotPeriod n ds.rate = slotPhase n % slotPeriod n ds.rate && s.lastRun ≠ d.now + 1 && nth d.loops.inService s.proc

/-- Whether a slot runs in frame n: its turn, and a state other than OFF. -/
def Dev.slotDue (d : Dev) (n : Nat) : Bool := (d.slot n).st != .off && d.slotTurn n

/-! ## Melt-pool slots between strokes (R216) -/

/-- Whether `CLOSED_LOOP` applies to a stroke (R75). -/
def Dev.loopApplies (d : Dev) (s : Stroke) : Bool := s.closedLoop && (d.lib.pset s.pset).loopMode ≠ 0

/-- At the catch of such a stroke the slot enters AUTO with a preset, so that the first trim is 0. -/
def Dev.meltOn (d : Dev) (k : Nat) : Dev :=
  let d1 := d.onSlot (96 + k) fun s =>
    if s.desc.isNone ∨ s.st == .off then s
    else { s with st := .auto, preset := true, uPrev := 0, outNow := 0, man := 0 }
  { d1 with melt := upd d1.melt k fun m => { m with
      corr := 0, corrNext := none, camNew := false, excursion := 0, excDone := false, trimCount := 0, trimDone := false } }

/-- At the finish, or when the stroke is interrupted, it returns to MAN at 0. -/
def Dev.meltOff (d : Dev) (k : Nat) : Dev :=
  let d1 := d.onSlot (96 + k) fun s =>
    if s.desc.isNone ∨ s.st == .off then s else { s with st := .man, man := 0, outNow := 0, uPrev := 0, preset := false }
  { d1 with melt := upd d1.melt k fun m => { m with corr := 0, corrNext := none, camNew := false } }

/-- R144, R216: an oar's exposure is cut, and its melt-pool slot with it. -/
def Dev.cutStroke (d : Dev) (k cause : Nat) : Dev := (d.interrupt k cause).meltOff k

/-! ## Outputs in Safe (R219) -/

/-- What a slot puts out while the device is in Safe, when Safe rules it. -/
def LoopSlot.safeOut (n : Nat) (s : LoopSlot) : Option Int :=
  match slotKind n, s.desc with
  | .slide, some _ => some 0
  | .heater, some d | .general, some d => if lflag d 4 then none else some d.failValue
  | _, _ => none

/-- R219 at the entry into Safe. -/
def Dev.loopsSafe (d : Dev) : Dev :=
  (List.range 160).foldl (fun d n =>
    let s := d.slot n
    match s.st, s.safeOut n with
    | .off, _ => d
    | _, some u => (d.onSlot n fun s => { s with outNow := u, uPrev := u }).drive n
    | _, none => d) d

end Sys2Proof.Machine
end

