-- ==== Sys2Proof/Machine/SlideOps.lean ====
section
/-! DEFINITION. Slide axes' shared operations: jerk-limited profiles (R316 to R319), step edges and microsteps (R312 to
R315), stops, homing (R327, R328), loop-driven speed (R320 to R322), leave (R341), the recoat moves (R338 to R340). -/

namespace Sys2Proof.Machine

/-! ## Profiles (R316 to R318) -/

/-- Position, speed and acceleration. -/
structure Kin where
  p : Rat
  v : Rat
  a : Rat

def Kin.go (k : Kin) (jerk t : Rat) : Kin :=
  ⟨k.p + k.v * t + k.a * t ^ 2 / 2 + jerk * t ^ 3 / 6, k.v + k.a * t + jerk * t ^ 2 / 2, k.a + jerk * t⟩

/-- The state after a run of segments. -/
def Kin.runAll (k : Kin) (ss : List Seg) : Kin := ss.foldl (fun k s => k.go s.jerk s.dur) k

/-- A profile flown for a time: what is left of it, and the state. -/
def flySegs : List Seg → Rat → Kin → List Seg × Kin
  | [], t, k => ([], k.go 0 t)
  | s :: r, t, k =>
    if t < s.dur then ({ s with dur := s.dur - t } :: r, k.go s.jerk t) else flySegs r (t - s.dur) (k.go s.jerk s.dur)

/-- Limits of a profile. -/
structure SLims where
  v : Rat
  a : Rat
  d : Rat
  j : Rat

def SlideAxis.limsOf (x : SlideAxis) : SLims :=
  let n := fun (i : Nat) => (nth x.lims i : Rat)
  ⟨match x.vUse with | some u => min (u : Rat) (n 0) | none => n 0, n 1, n 2, max 1 (n 3)⟩

/-- The jerk-limited change of speed from v at acceleration a to vt at acceleration 0, of the same sense as v. What the first
segment adds to the speed is negative as long as the acceleration has the opposite sense. -/
def velSegs (l : SLims) (v a vt : Rat) : List Seg :=
  let vz := v + a * |a| / (2 * l.j)
  let null : List Seg := if a = 0 then [] else [⟨|a| / l.j, if 0 < a then -l.j else l.j⟩]
  if vt = vz then null
  else
    let s : Rat := if vz < vt then 1 else -1
    let cap := if s * v < 0 then l.d else l.a
    let b := s * a
    let dv := s * (vt - v)
    let ap := min cap (sqrtRat (l.j * dv + b ^ 2 / 2))
    if ap ≤ 0 then null
    else
      let up : Seg := if b ≤ ap then ⟨(ap - b) / l.j, s * l.j⟩ else ⟨(b - ap) / l.j, -s * l.j⟩
      let first := (if b ≤ ap then ap ^ 2 - b ^ 2 else b ^ 2 - ap ^ 2) / (2 * l.j)
      [up, ⟨max 0 ((dv - first - ap ^ 2 / (2 * l.j)) / ap), 0⟩, ⟨ap / l.j, -s * l.j⟩]

/-- R318: the ramp to rest. -/
def stopSegs (l : SLims) (k : Kin) : List Seg := if k.v = 0 ∧ k.a = 0 then [] else velSegs l k.v k.a 0

/-- The move with a given peak speed, without its cruise. -/
def peakSegs (l : SLims) (k : Kin) (vp : Rat) : List Seg × List Seg := (velSegs l k.v k.a vp, velSegs l vp 0 0)

def peakDist (l : SLims) (k : Kin) (vp : Rat) : Rat :=
  let s := peakSegs l k vp
  |(k.runAll (s.1 ++ s.2)).p - k.p|

/-- The largest peak speed whose move is not longer than a distance, by bisection (DESIGN CHOICE, log 13). -/
def peakFor (l : SLims) (k : Kin) (dir dist : Rat) : Nat → Rat → Rat → Rat
  | 0, lo, _ => lo
  | n + 1, lo, hi =>
    let m := (lo + hi) / 2
    if peakDist l k (dir * m) ≤ dist then peakFor l k dir dist n m hi else peakFor l k dir dist n lo m

/-- R316 from a state whose stopping point does not lie beyond the target. -/
def planAhead (l : SLims) (k : Kin) (target : Rat) : List Seg :=
  let dir : Rat := if k.p ≤ target then 1 else -1
  let dist := |target - k.p|
  let vp := if peakDist l k (dir * l.v) ≤ dist then l.v else peakFor l k dir dist 60 0 l.v
  let s := peakSegs l k (dir * vp)
  let rest := dist - peakDist l k (dir * vp)
  s.1 ++ (if 0 < vp ∧ 0 < rest then [⟨rest / vp, 0⟩] else []) ++ s.2

/-- R316, R317: from the present state to rest at a target; back after a stop when it lies behind. -/
def planTo (l : SLims) (k : Kin) (target : Rat) : List Seg :=
  let stop := stopSegs l k
  let z := k.runAll stop
  if z.p = target then stop
  else if (target - z.p) * k.v < 0 ∨ (k.v = 0 ∧ (target - z.p) * k.a < 0) then stop ++ planAhead l ⟨z.p, 0, 0⟩ target
  else planAhead l k target

/-- R319: a D_MAX raised in a move's deceleration: the deceleration rises to it along J_MAX, down to a lower speed from which the
move goes on to its target without overshoot; where there is no room left for that, the ramp to the target is planned anew
(DEDUCED, log 142). -/
def brakeTo (l : SLims) (k : Kin) (target : Rat) : List Seg :=
  let dir : Rat := if 0 ≤ k.v then 1 else -1
  let low := |k.v| - (2 * l.d ^ 2 - k.a ^ 2) / (2 * l.j)
  let first := velSegs l k.v k.a (dir * low)
  let z := k.runAll first
  if |k.a| < l.d ∧ 0 < low ∧ 0 ≤ dir * (target - (z.runAll (stopSegs l z)).p) then first ++ planAhead { l with v := low } z target
  else planTo l k target

/-! ## An axis -/

def SlideAxis.kin (x : SlideAxis) : Kin := ⟨x.pos, x.vel, x.acc⟩

/-- Commanded position in units, exact. -/
def SlideAxis.cmd (x : SlideAxis) : Rat := x.pos + x.off

def SlideAxis.enabled (x : SlideAxis) : Bool := match x.desc with | some d => d.aflags.testBit 0 | none => false

def SlideAxis.loopUse (x : SlideAxis) : Nat := (x.desc.map (·.loopUse)).getD 0

def SlideAxis.homed (x : SlideAxis) : Bool := x.flags.testBit 0

/-- Flags that put an axis into FAULT (R343): bits 3 to 8. -/
def SlideAxis.faulted (x : SlideAxis) : Bool := x.flags &&& 0x1F8 ≠ 0

/-- No profile left, no speed of it. -/
def SlideAxis.profileEnded (x : SlideAxis) : Bool := x.segs.isEmpty && x.vel = 0 && x.acc = 0

/-- At rest: nothing of a profile, no trim. -/
def SlideAxis.atRest (x : SlideAxis) : Bool := x.profileEnded && x.trim = 0

/-- In motion, or about to be. -/
def SlideAxis.busy (x : SlideAxis) : Bool :=
  x.st == .moving || x.st == .homing || x.st == .stopping || x.st == .pending

/-- In motion: an axis whose move awaits leave is at rest, unless the trim of the loop array moves it (R320, R341). -/
def SlideAxis.inMotion (x : SlideAxis) : Bool := (x.busy && x.st ≠ .pending) || ! x.atRest

def flagSet (f bit : Nat) : Nat := f ||| 2 ^ bit
def flagClear (f bit : Nat) : Nat := if f.testBit bit then f - 2 ^ bit else f

def Dev.onAxis (d : Dev) (a : Nat) (f : SlideAxis → SlideAxis) : Dev :=
  { d with slides := { d.slides with axes := upd d.slides.axes a f } }

def Dev.axis (d : Dev) (a : Nat) : SlideAxis := nth d.slides.axes a

def Dev.onRecoat (d : Dev) (f : Recoat → Recoat) : Dev := { d with slides := { d.slides with recoat := f d.slides.recoat } }

def Dev.onEnc (d : Dev) (e : Nat) (f : Encoder → Encoder) : Dev :=
  { d with slides := { d.slides with encs := upd d.slides.encs e f } }

/-- The encoder input of an axis, if it has one. -/
def SlideAxis.enc (x : SlideAxis) : Option Nat := x.desc.bind fun c => if c.encSel < 8 then some c.encSel else none

/-- Whether an axis has a recoat role (R337). -/
def Recoat.hasRole (r : Recoat) (a : Nat) : Bool :=
  match r.arg with | some g => g.recoater = a || g.platform = a || g.doser = a | none => false

/-- The flags of an axis with those of its encoder input (R343). -/
def Dev.axisFlags (d : Dev) (a : Nat) : Nat :=
  let x := d.axis a
  match x.enc with
  | some n =>
    let e := nth d.slides.encs n
    (x.flags &&& 0x9FF) + 512 * boolN e.still + (x.flags &&& 1024) + 4096 * boolN e.wireFault + 8192 * boolN e.stuck
  | none => x.flags &&& 0x9FF

/-! ## Motion, leave, rest (R341, R342) -/

def isMove (a : Nat) : Requester → Bool
  | .move b => a = b
  | _ => false

/-- Jobs of a move or a search of axis a. -/
def axisJob (a : Nat) : JobKind → Bool
  | .move b => a = b
  | .home b => a = b
  | _ => false

/-- Result of a move: final position and flags; of a search: latched position and count, toggles (R346). -/
def Dev.axisResult (d : Dev) (a : Nat) : JobKind → List Byte
  | .home _ =>
    match (d.axis a).homing with
    | some h => i64 ((h.latch.map (·.1)).getD 0) ++ i64 ((h.latch.map (·.2)).getD 0) ++ u32 h.toggles
    | none => i64 0 ++ i64 0 ++ u32 0
  | _ => i64 (d.axis a).units ++ u32 (d.axisFlags a)

/-- The commands that started motion of an axis get their outcome. -/
def Dev.axisDone (d : Dev) (a status : Nat) : Dev :=
  (d.host.jobs.filter fun j => axisJob a j.kind).foldl (fun e j => e.finish j status 0 (d.axisResult a j.kind)) d

/-- The INV flag of a switch input: 2 LIMP, 3 LIMN, 4 HOME (R311, R344). -/
def SlideAxis.inv (x : SlideAxis) (bit : Nat) : Bool := match x.desc with | some c => c.aflags.testBit bit | none => false

/-- A limit input is active or not, with the level that its pin then has: low, or high under INV (R311). -/
def SlideAxis.setLimit (positive level : Bool) (x : SlideAxis) : SlideAxis :=
  if positive then { x with limP := level, pinP := level == x.inv 2 } else { x with limN := level, pinN := level == x.inv 3 }

def SlideAxis.setHome (level : Bool) (x : SlideAxis) : SlideAxis := { x with home := level, pinH := level == x.inv 4 }

/-- The flags of limits that are active (R323, R324). -/
def SlideAxis.flagLimits (x : SlideAxis) : SlideAxis :=
  let f := if x.limP then flagSet x.flags 1 else x.flags
  let g := if x.limN then flagSet f 2 else f
  { x with flags := if x.limP && x.limN then flagSet g 3 else g }

/-- The switches as a new descriptor reads their pins (R311). -/
def SlideAxis.repin (x : SlideAxis) : SlideAxis :=
  let y := { x with
    limP := x.pinP == x.inv 2, limN := x.pinN == x.inv 3, home := x.pinH == x.inv 4
    flags := flagClear (flagClear x.flags 1) 2 }
  y.flagLimits

/-- Limits, and a descriptor, that waited for the end of the motion (R319, R344); the resolution follows at the next step
boundary that allows it (R314, R315). -/
def SlideAxis.adopt (x : SlideAxis) : SlideAxis :=
  let y := { x with lims := x.pendLims.getD x.lims, pendLims := none }
  match x.pendingDesc with
  | some c => { y with desc := some c, pendingDesc := none, lims := [c.vMax, c.aMax, c.dMax, c.jMax] }.repin
  | none => y

/-- 40-bit signed wrap (R310). -/
def wrap40 (i : Int) : Int := signed 40 (wrapTo 40 i)

/-- Positions kept to 40 bits: profile, target and steps issued move together (R310). -/
def SlideAxis.wrap (x : SlideAxis) : SlideAxis :=
  let by_ := wrap40 x.units - x.units
  if by_ = 0 then x else { x with pos := x.pos + by_, target := x.target + by_, stepPos := x.stepPos + by_ }

/-- The trim of the loop array becomes part of the profile, which then brings the axis to rest along one ramp (R318). -/
def SlideAxis.foldTrim (x : SlideAxis) : SlideAxis :=
  if x.trim = 0 then x else { x with pos := x.cmd, off := 0, vel := x.vel + x.trim, trim := 0 }

/-- The state of an axis that has come to rest (R342). -/
def SlideAxis.restState (x : SlideAxis) : AxisMode :=
  if ! x.enabled then .disabled else if x.faulted then .fault else .idle

/-- The profile becomes the position issued in steps: no step is owed (R340). -/
def SlideAxis.atSteps (x : SlideAxis) : SlideAxis := { x with pos := x.stepPos, off := 0, lastEdgeNs := 0 }

/-- An axis reaches rest: grant and completions end (R341, R346); a search goes on until its window has ended. -/
def Dev.axisRest (d : Dev) (a : Nat) : Dev :=
  let x := d.axis a
  let searching := match x.homing with | some h => ! h.failed && ! h.windowDone | none => false
  if searching then (d.onAxis a fun x => { x with vel := 0, acc := 0, segs := [], st := .homing }).release (isMove a)
  else
    let d1 := (d.onAxis a fun x =>
      let y := { x with vel := 0, acc := 0, segs := [], vUse := none }.adopt
      { y with st := if y.trim ≠ 0 && y.enabled && ! y.faulted then .moving else y.restState }).release (isMove a)
    (d1.axisDone a x.stopStatus).onAxis a fun x => { x with homing := none, stopStatus := 0 }

/-- A search before its latch ends with the stop of its axis (R342, R346). -/
def Homing.stopped (h : Homing) (status : Nat) : Homing := if status ≠ 0 && h.latch.isNone then { h with failed := true } else h

/-- R318: a stop, with the STATUS that the motion it ends completes with; a request that waits for leave is withdrawn. -/
def Dev.axisStop (d0 : Dev) (a status : Nat) : Dev :=
  let x := d0.axis a
  let e := if x.busy && x.st != .stopping then d0.safetyLeave else d0
  let d := if x.st == .pending then e.release (isMove a) else e
  match x.st with
  | .pending | .moving | .homing | .stopping =>
    let z := x.foldTrim
    let y := { z with segs := stopSegs z.limsOf z.kin, toTarget := false, st := .stopping, loopTgt := 0,
                      homing := if x.st == .pending then none else x.homing.map (·.stopped status),
                      stopStatus := if x.st == .pending || x.stopStatus = 0 then status else x.stopStatus }
    let d1 := d.onAxis a fun _ => y
    if y.segs.isEmpty && y.vel = 0 then d1.axisRest a else d1
  | .idle => d.onAxis a fun x => { x with st := x.restState }
  | _ => d

/-- R340: a fault flag or limit stop on a recoat axis ends the step. -/
def Dev.recoatFault (d : Dev) (a : Nat) : Dev :=
  if d.slides.recoat.step ≠ 0 && d.slides.recoat.hasRole a && ! d.slides.recoat.faulted then
    (d.onRecoat fun r => { r with faulted := true }).spoil 0x0A a 0x001 true (d.axisFlags a)
  else d

/-- A flag of R343 that puts the axis into FAULT: it stops and is flagged. -/
def Dev.axisFault (d : Dev) (a bit : Nat) : Dev :=
  let d1 := d.onAxis a fun x =>
    let f := flagSet x.flags bit
    { x with flags := if bit = 4 ∨ bit = 8 then flagClear f 0 else f
             homing := x.homing.map fun h => { h with failed := true } }
  (d1.axisStop a 0x40).recoatFault a

/-- R327, R328: the search ends with HOMING_FAULT, and R323 and R324 apply to the limits that are active. -/
def Dev.homingFault (d : Dev) (a : Nat) : Dev :=
  ((d.onAxis a fun x => { x with homing := x.homing.map fun h => { h with latch := none } }).axisFault a 4).onAxis a
    SlideAxis.flagLimits

/-- The speed of a search under the limits in force (R319, R326). -/
def Homing.searchSpeed (h : Homing) (l : SLims) : Rat := (h.arg.direction : Rat) * min (h.arg.speed : Rat) l.v

/-- The motion that leave was granted for begins (R316, R326, R341). -/
def Dev.axisBegin (d : Dev) (a : Nat) : Dev :=
  d.onAxis a fun x =>
    let l := x.limsOf
    match x.homing with
    | some h => { x with st := .homing, toTarget := false
                         segs := velSegs l x.vel x.acc (h.searchSpeed l) }
    | none => { x with st := .moving, toTarget := true, pos := x.cmd, off := 0, segs := planTo l { x.kin with p := x.cmd } x.target }

/-- Leave for the motion of an axis is asked for (R341); a request that waits already serves for the new target (R317). -/
def Dev.axisRequest (d : Dev) (a : Nat) : Answer × Dev :=
  let w := ((d.axis a).desc.map (·.moveDrawW)).getD 0
  if d.holdsLeave (isMove a) then (.granted, d.axisBegin a)
  else if d.waitsLeave (isMove a) then (.deferred, d.onAxis a fun x => { x with st := .pending })
  else
    let r := d.request (.move a) 3 20 w
    match r.1 with
    | .granted => (.granted, r.2.axisBegin a)
    | .deferred => (.deferred, r.2.onAxis a fun x => { x with st := .pending })
    | .refused n => (.refused n, r.2)

/-- R316: a target given to an axis. -/
def SlideAxis.aim (x : SlideAxis) (target : Int) (v : Option Nat) : SlideAxis :=
  { x with target := target, vUse := v, toTarget := true, homing := none, inPosSince := none, stopStatus := 0 }

/-! ## Speed from the loop array (R320 to R322, R325) -/

/-- A loop-driven speed clamped at active limits and at the soft limits: `reach` is where the axis would come to rest if
it braked one tick later. -/
def SlideAxis.clampSpeed (x : SlideAxis) (cap : Nat) (reach : Rat) : Int :=
  let v := clampI (-(cap : Int)) cap x.loopSpeed
  let v1 := if (x.limP && 0 < v) || (x.limN && v < 0) then 0 else v
  match x.desc with
  | some c =>
    if ! x.homed then v1
    else if 0 < v1 ∧ (c.softMax : Rat) ≤ reach then 0
    else if v1 < 0 ∧ reach ≤ (c.softMin : Rat) then 0 else v1
  | none => 0

/-- One tick in seconds. -/
def tickS : Rat := 1 / 4000000

/-- REPLACE: the profile follows the loop's speed. -/
def SlideAxis.replaceTick (x : SlideAxis) : SlideAxis :=
  if x.loopUse ≠ 2 ∨ x.heldStop ∨ ! (x.st == .idle || x.st == .moving) then x
  else
    let l := x.limsOf
    let k := (flySegs x.segs tickS x.kin).2
    let want := x.clampSpeed (nth x.lims 0) ((k.runAll (stopSegs l k)).p + x.off)
    let tgt : Int := if (want : Rat) * x.vel < 0 then 0 else want
    if tgt = x.loopTgt ∧ (x.segs ≠ [] ∨ x.vel = tgt) then x
    else { x with loopTgt := tgt, segs := velSegs l x.vel x.acc tgt, st := .moving, toTarget := false }

/-- ADD: the trim follows the loop's output at the rate A_MAX allows, to 0 once ADD is over; it comes to rest inside the soft limits together with
the profile, wherever that ends (R325). -/
def SlideAxis.trimTick (x : SlideAxis) : SlideAxis :=
  if x.loopUse ≠ 1 && x.trim = 0 then x
  else
    let a : Rat := nth x.lims 1
    let t1 := if 0 ≤ x.loopSpeed then x.trim + a * tickS else x.trim - a * tickS
    let reach := (x.kin.runAll x.segs).p + x.off + t1 * tickS + (if a = 0 then 0 else t1 * |t1| / (2 * a))
    let want : Rat := if x.loopUse = 1 && (x.st == .idle || x.st == .moving) then x.clampSpeed ((x.desc.map (·.trimMax)).getD 0) reach else 0
    let t := clampQ (x.trim - a * tickS) (x.trim + a * tickS) want
    { x with trim := t, off := x.off + t * tickS, st := if x.st == .idle && t ≠ 0 then .moving else x.st }

/-- R321: the slot that writes an axis's speed enters FAULT or OFF. -/
def Dev.loopLost (d : Dev) (n : Nat) : Dev :=
  match (d.slot n).desc with
  | some ds =>
    if ds.outDst ≠ 3 then d
    else
      let d1 := d.onAxis ds.outIdx fun x => { x with loopSpeed := 0 }
      if (d.axis ds.outIdx).loopUse = 2 then d1.axisFault ds.outIdx 7 else d1
  | none => d

/-! ## Step edges and microsteps (R312 to R315) -/

/-- The resolutions an axis may use, ascending: between MICRO_COARSE and MICRO_FINE and offered by MS_MAP. -/
def axisRes (c : AxisDesc) : List Nat :=
  (List.range 9).filter fun r => c.microCoarse ≤ r ∧ r ≤ c.microFine ∧ (List.range 8).any fun k => c.msMap / 16 ^ k % 16 = r

/-- The resolution that the pulse rate asks for, from one that the axis may use (R315). -/
def SlideAxis.wantMicro (x : SlideAxis) (c : AxisDesc) : Nat :=
  let rate := fun (r : Nat) => |x.vel + x.trim| * 2 ^ r / 256
  let rs := axisRes c
  let m := (rs.find? (x.micro ≤ ·)).getD c.microFine
  if ! c.aflags.testBit 5 then c.microFine
  else if (c.msUp : Rat) < rate m then ((rs.filter (· < m)).getLast?).getD m
  else match rs.find? (m < ·) with
    | some r => if rate r < c.msDown then r else m
    | none => m

/-- R315: the resolution for the next step; a change takes effect where the electrical position is aligned to it. With
AUTO_MICRO clear, or from one that the axis may not use, it takes effect at once. -/
def SlideAxis.pickMicro (x : SlideAxis) (c : AxisDesc) : Nat :=
  let want := x.wantMicro c
  if ! c.aflags.testBit 5 || ! (axisRes c).contains x.micro || (x.stepPos + c.elecOffset) % 1024 % (2 ^ (8 - want) : Nat) = 0 then want else x.micro

/-- The MS[2:0] code that MS_MAP gives a resolution, the lowest where several do (R313). -/
def msCodeOf (map micro : Nat) : Option Nat := (List.range 8).find? fun k => map / 16 ^ k % 16 = micro

/-- MS_MAP in force, the default until a descriptor gives one (R313, R344). -/
def SlideAxis.msMap (x : SlideAxis) : Nat := (x.desc.map (·.msMap)).getD 0x86543210

/-- The level of STEP at an instant in ns of the tick count: high for STEP_W from the rising edge on (R312), low in DISABLED
(R342). -/
def SlideAxis.stepHigh (x : SlideAxis) (ns : Nat) : Bool :=
  match x.desc with
  | some c => x.enabled && x.lastEdgeNs ≤ ns && ns < x.lastEdgeNs + c.stepW && x.lastEdgeNs ≠ 0
  | none => false

/-- R312, R314: the step edge of the tick that ends at `now + 1`, the profile having come from p0. MS[2:0] shows the code that
MS_MAP gives the resolution; in DISABLED STEP stays low, DIR and MS[2:0] as they are (R342). -/
def SlideAxis.stepTick (x0 : SlideAxis) (now : Nat) (p0 : Rat) : SlideAxis :=
  match x0.desc with
  | none => x0
  | some c =>
    if ! x0.enabled then x0
    else
      let ns := 250 * now
      let low : Bool := ! x0.stepHigh ns
      let m := x0.pickMicro c
      let code := (msCodeOf c.msMap m).getD x0.msCode
      let x := if low && (m ≠ x0.micro || code ≠ x0.msCode) then { x0 with micro := m, msCode := code, msNs := ns } else x0
      let size : Nat := 2 ^ (8 - x.micro)
      let diff := x.cmd - x.stepPos
      let up : Bool := (size : Rat) ≤ diff
      let down : Bool := diff ≤ -(size : Rat)
      if ! up && ! down then x
      else
        let want : Bool := up != c.aflags.testBit 1
        let y := if x.dirHigh ≠ want && low then { x with dirHigh := want, dirNs := ns } else x
        if y.dirHigh ≠ want then y
        else
          let mark : Rat := x.stepPos + (if up then (size : Rat) else -(size : Rat))
          let frac := if x.cmd = p0 then 0 else clampI 0 249 (ceilRat ((mark - p0) / (x.cmd - p0) * 250))
          let edge := max (max (ns + natOf frac) (y.lastEdgeNs + 2 * c.stepW)) (max (y.dirNs + c.dirSetup) (y.msNs + 10 * c.msSetup))
          if edge < ns + 250 then { y with stepPos := y.stepPos + (if up then (size : Int) else -(size : Int)), lastEdgeNs := edge }
          else y

/-! ## The tick of an axis -/

/-- The profile moves on by one tick. -/
def SlideAxis.fly (x : SlideAxis) : SlideAxis :=
  let r := flySegs x.segs tickS x.kin
  if x.segs.isEmpty then { x with pos := r.2.p }
  else if r.1.isEmpty then
    let v : Rat := if x.toTarget ∨ x.loopUse ≠ 2 ∨ x.st == .stopping then 0 else x.loopTgt
    let v' : Rat := if x.st == .homing && x.homing.isSome && ! x.toTarget then r.2.v else v
    { x with segs := [], pos := if x.toTarget then x.target else r.2.p, vel := v', acc := 0 }
  else { x with segs := r.1, pos := r.2.p, vel := r.2.v, acc := r.2.a }

/-- The profile ahead, planned anew from the present state. -/
def SlideAxis.replan (x : SlideAxis) : SlideAxis :=
  let l := x.limsOf
  if x.st == .stopping then { x with segs := stopSegs l x.kin }
  else if x.st == .homing then
    (match x.homing with
      | some h => if h.latch.isSome then x else { x with segs := velSegs l x.vel x.acc (h.searchSpeed l) }
      | none => x)
  else if x.st == .moving && x.toTarget then { x with segs := planTo l x.kin x.target }
  else if x.st == .moving && x.loopUse = 2 then { x with segs := velSegs l x.vel x.acc x.loopTgt }
  else x

/-- The axis decelerates, in a stop or to a lower speed. -/
def SlideAxis.slowing (x : SlideAxis) : Bool := x.st == .stopping || decide (x.vel * x.acc < 0)

/-- R319: limits that waited for the end of a ramp come into force where it ends at a speed other than 0. -/
def SlideAxis.rampEnd (x : SlideAxis) : SlideAxis :=
  match x.pendLims with
  | some l => if x.slowing || x.vel = 0 then x else ({ x with lims := l, pendLims := none }).replan
  | none => x

/-- R332: an axis checked by an encoder input, or spreading powder by its lines (Touching events). -/
def Dev.wireChecked (d : Dev) (a : Nat) : Bool :=
  (match (d.axis a).desc with | some c => decide (c.followMax ≠ 0) | none => false) ||
    (d.slides.recoat.step = 2 && match d.slides.recoat.arg with | some g => decide (g.recoater = a) | none => false)

/-- R332: an axis that uses an encoder input whose WIRE_FAULT stands stops with ENC_FAULT. -/
def Dev.wireCheck (d : Dev) (a : Nat) : Dev :=
  match (d.axis a).enc with
  | some n => if (nth d.slides.encs n).wireFault && ! (d.axis a).flags.testBit 6 && d.wireChecked a then d.axisFault a 6 else d
  | none => d

/-- R334. -/
def Dev.followCheck (d : Dev) (a : Nat) : Dev :=
  let x := d.axis a
  match x.desc, x.enc with
  | some c, some n =>
    let e := nth d.slides.encs n
    if c.followMax ≠ 0 ∧ ! x.flags.testBit 5 ∧ (c.followMax : Rat) < |x.cmd - e.conv| then d.axisFault a 5 else d
  | _, _ => d

/-- R339: how long the encoder has stayed within IN_POS of the target since the profile ended. -/
def Dev.inPosTick (d : Dev) (a : Nat) : Dev :=
  let x := d.axis a
  let near := match x.desc, x.enc with
    | some c, some n => ((nth d.slides.encs n).conv - x.target).natAbs ≤ c.inPos
    | _, _ => true
  d.onAxis a fun x => { x with inPosSince :=
    if x.profileEnded && x.toTarget && near then some (x.inPosSince.getD d.now) else none }

/-- R328: a search whose switch is not a limit finds the limit in DIRECTION active. -/
def SlideAxis.blockedSearch (x : SlideAxis) : Bool :=
  match x.homing with
  | some h => x.st == .homing && ! h.failed && ! h.windowDone && h.arg.mode ≠ 1 && (if 0 < h.arg.direction then x.limP else x.limN)
  | none => false

/-- An axis at a frame tick (R312). Its motion ends once neither profile nor trim moves it (R341, R346). -/
def Dev.axisTick (d0 : Dev) (a : Nat) : Dev :=
  let d := if (d0.axis a).blockedSearch then d0.homingFault a else d0
  let x := d.axis a
  match x.desc with
  | none => d
  | some _ =>
    let y := x.replaceTick
    let z := (((y.fly.trimTick).stepTick d.now x.cmd).rampEnd).wrap
    let ended := z.segs.isEmpty && (! y.segs.isEmpty || (z.st == .moving && z.toTarget))
    let d1 := d.onAxis a fun _ => z
    let d2 := if ended && z.vel = 0 && z.trim = 0 then d1.axisRest a
      else if z.st == .moving && ! z.toTarget && z.segs.isEmpty && z.vel = 0 && z.trim = 0 && z.homing.isNone then
        d1.onAxis a fun x => let y := x.adopt; { y with st := y.restState }
      else d1
    ((d2.wireCheck a).followCheck a).inPosTick a

/-! ## Every axis at once -/

/-- R318, R340: every moving axis stops along its ramp. -/
def Dev.stopAllAxes (d : Dev) (p : Nat → Bool) : Dev :=
  (List.range 8).foldl (fun d a => if p a && (d.axis a).busy then d.axisStop a 0x31 else d) d

/-- STEP of every axis is low, whatever was left of its last pulse (R340). -/
def Dev.stepsLow (d : Dev) : Dev :=
  { d with slides := { d.slides with axes := d.slides.axes.map fun x => { x with lastEdgeNs := 0 } } }

/-- R340: STEP is forced low at once; every axis in motion loses its position, and no step is owed any more. -/
def Dev.stepAbort (d0 : Dev) : Dev :=
  (List.range 8).foldl (fun d a =>
    if (d.axis a).inMotion then
      let d1 := d.onAxis a fun x => { x.atSteps with
        segs := [], vel := 0, acc := 0, trim := 0, toTarget := false, homing := none, stopStatus := 0x40,
        flags := flagSet (flagClear x.flags 0) 8 }
      (d1.recoatFault a).axisRest a
    else d) d0.stepsLow

/-! ## The recoat sequence (R338 to R340) -/

/-- The axes and targets of a step, and the recoater's speed. -/
def Recoat.moves (r : Recoat) : List (Nat × Int × Option Nat) :=
  match r.arg with
  | none => []
  | some g =>
    if r.step = 1 then
      [(g.platform, r.platTarget, none)] ++ (if g.doser < 8 then [(g.doser, r.doseTarget, none)] else []) ++
        [(g.recoater, g.spreadStart, none)]
    else if r.step = 2 then [(g.recoater, g.spreadEnd, some (r.speed * g.recUpm / 1000))]
    else if r.step = 3 then [(g.recoater, g.park, some g.returnSpeed)]
    else []

/-- DETAIL of a target that limits forbid, or 0 (R323 to R325). -/
def SlideAxis.targetDetail (x : SlideAxis) (target : Int) : Nat :=
  if x.limP && x.limN then 3
  else if x.limP ∧ x.cmd < target then 1
  else if x.limN ∧ (target : Rat) < x.cmd then 2
  else match x.desc with
    | some c => if ! x.homed then 0 else if target < c.softMin then 4 else if c.softMax < target then 5 else 0
    | none => 0

/-- One recoat move requested under leave, from rest (R340); one refused, on an axis in FAULT, or to a target that R323 to R325 forbid,
ends the step as a fault does (DEDUCED, log 122). -/
def Dev.recoatMove (d : Dev) (m : Nat × Int × Option Nat) : Dev :=
  if (d.axis m.1).st == .stopping then d.onRecoat fun r => { r with resting := insertAsc m.1 r.resting }
  else if (d.axis m.1).faulted || ! (d.axis m.1).enabled || (d.axis m.1).targetDetail m.2.1 ≠ 0 then d.recoatFault m.1
  else
    let r := (d.onAxis m.1 fun x => x.aim m.2.1 m.2.2).axisRequest m.1
    match r.1 with
    | .refused _ => r.2.recoatFault m.1
    | _ => r.2

/-- The axes with a recoat role (R337). -/
def Recoat.axes (r : Recoat) : List Nat := (List.range 8).filter r.hasRole

/-- R340: a recoat axis is unhomed. -/
def Dev.recoatUnhomed (d : Dev) : Bool := d.slides.recoat.axes.any fun a => ! (d.axis a).homed

/-- The unfinished moves of the step in hand start. -/
def Dev.recoatStep (d : Dev) : Dev :=
  let ms := d.slides.recoat.moves.filter fun m => d.slides.recoat.waiting.contains m.1
  ms.foldl Dev.recoatMove (d.onRecoat fun r => { r with resting := [], suspended := false, faulted := false })

/-- R340: the moves of axes that have come to rest since resume start. -/
def Dev.recoatRested (d : Dev) : Dev :=
  let r := d.slides.recoat
  if r.suspended || r.faulted then d
  else
    let go := r.resting.filter fun a => ! ((d.axis a).st == .stopping)
    (r.moves.filter fun m => go.contains m.1).foldl Dev.recoatMove
      (d.onRecoat fun r => { r with resting := r.resting.filter fun a => ! go.contains a })

/-- A step begins with all of its moves to be made. -/
def Dev.recoatBegin (d : Dev) (step : Nat) : Dev :=
  let d1 := d.onRecoat fun r => { r with step := step }
  (d1.onRecoat fun r => { r with waiting := r.moves.map (·.1) }).recoatStep

/-- R340: entry into Hold or Safe stops the recoat axes; the step in progress goes on later. -/
def Dev.recoatSuspend (d : Dev) : Dev :=
  (d.onRecoat fun r => { r with resting := [], suspended := r.suspended || r.step ≠ 0 }).stopAllAxes d.slides.recoat.hasRole

end Sys2Proof.Machine
end

