-- ==== Sys2Proof/Machine/LinkOps.lean ====
section
/-! DEFINITION. Rigger ports' shared operations: scrambling (R267), training (R286 to R289), relock (R290), sleep (R295 to R298), head
commands (R284, R285), the service channel (R301 to R303), the outbound frame (R277 to R279). -/

namespace Sys2Proof.Machine

def Dev.onPort (d : Dev) (n : Nat) (f : Port → Port) : Dev :=
  { d with links := { d.links with ports := upd d.links.ports n f } }

def Dev.port (d : Dev) (n : Nat) : Port := nth d.links.ports n

/-- Counter i of R306, in the order of its table; 32 bits, saturating. -/
def Port.count (p : Port) (i n : Nat) : Port := { p with counters := upd p.counters i fun c => min (c + n) 0xFFFFFFFF }

/-- The head delivers its return lane: trained, and the return direction awake. -/
def Port.hearing (p : Port) : Bool := p.st == .trained && (p.sleep = 0 || p.sleep = 2)

/-- A port that is trained, relocks included. -/
def Port.linked (p : Port) : Bool := p.st == .trained || p.st == .relock

/-- A sleeping direction is to wake (R297). -/
def Port.waking (p : Port) : Bool := p.st == .trained && p.sleep ≠ 0 && p.sleepReq.isSome && p.sleepReq ≠ some p.sleep

/-- The receiver looks for lock: during training, a relock, or a fast exit of the return direction (R268). -/
def Port.locking (p : Port) : Bool :=
  match p.st with
  | .training k => 1 ≤ k
  | .relock => true
  | _ => p.waking && p.sleep = 1

/-! ## Scrambling (R267) -/

/-- R267: a payload through the scrambler 1 + x^39 + x^58; the state holds the latest 58 bits sent, newest in bit 0. -/
def scramble (st w : Nat) : Nat × Nat :=
  (List.range 64).foldl (fun (a : Nat × Nat) i =>
    let b := boolN (w.testBit i ^^ a.1.testBit 38 ^^ a.1.testBit 57)
    ((2 * a.1 + b) % 2 ^ 58, a.2 + 2 ^ i * b)) (st, 0)

/-- The blocks of a frame scrambled one after the other: state after them, payloads. -/
def scrambleAll (st : Nat) (bs : List Nat) : Nat × List Nat :=
  bs.foldl (fun (a : Nat × List Nat) w => let r := scramble a.1 w; (r.1, a.2 ++ [r.2])) (st, [])

/-- R267: a scrambled payload back: each bit is added to those 39 and 58 before it on the lane. -/
def descramble (st w : Nat) : Nat × Nat :=
  (List.range 64).foldl (fun (a : Nat × Nat) i =>
    ((2 * a.1 + boolN (w.testBit i)) % 2 ^ 58, a.2 + 2 ^ i * boolN (w.testBit i ^^ a.1.testBit 38 ^^ a.1.testBit 57))) (st, 0)

/-- The 66-bit blocks of a frame with their payloads descrambled: state after them, blocks. -/
def descrambleAll (st : Nat) (bs : List Nat) : Nat × List Nat :=
  bs.foldl (fun (a : Nat × List Nat) b =>
    let r := descramble a.1 (b % 2 ^ 64)
    (r.1, a.2 ++ [2 ^ 64 * (b / 2 ^ 64) + r.2])) (st, [])

/-! ## Round trips (R288, R293) -/

/-- A measurement of L_link starts anew. -/
def Port.measure (p : Port) : Port := { p with rtDue := true, rtSum := 0, rtCount := 0 }

/-- A round trip: the return header that echoes an outbound frame arrives some ps into the present tick. -/
def Port.roundTrip (echo ps : Nat) (p : Port) : Port :=
  if p.rtDue && p.rtCount < 256 then
    { p with rtSum := p.rtSum + 250000 * ((p.oseq + 256 - echo) % 256) + ps, rtCount := p.rtCount + 1 }
  else p

def Port.trainingPhase (p : Port) : Option Nat := match p.st with | .training k => some k | _ => none

/-- R170 for the oar of a port. -/
def Dev.latTooLong (d : Dev) (k : Nat) : Bool := (nth d.eng k).lat.tooLong

/-- A latency of an oar changes; a stroke planned takes the set then in force with it (R160). -/
def Dev.setLat (d : Dev) (k : Nat) (f : Latency → Latency) : Dev :=
  if k < 32 then d.onEng k fun e => { e with lat := f e.lat } else d

/-- R45: the head's temperature is invalid or its port delivers no frames; one spoil record per episode. -/
def Dev.headSilent (d : Dev) (k : Nat) : Dev :=
  if (nth d.geo.oars k).invalidFiled then d
  else
    let last := match (d.port k).headTemp with | some x => wrapTo 16 x | none => 0x8000
    ({ d with geo := { d.geo with oars := upd d.geo.oars k fun o => { o with invalidFiled := true } } }).spoil 0x03 k 1 false last

/-! ## Training (R286 to R289) -/

/-- The command that waits for a service answer ends. -/
def Dev.svcDone (d : Dev) (n tag status : Nat) (result : List Byte) : Dev :=
  d.finishJobs (fun k => match k with | .service p t => p = n && t = tag | _ => false) status 0 result

/-- A port without lock: no run of headers, no sequence. -/
def Port.unlocked (p : Port) : Port :=
  { p with syncRun := 0, syncBits := 0, blockLock := false, frameLock := false, goodFrames := 0, rseq := none }

/-- An attempt begins at T0 with the preset set of the present band; a request still outstanding has failed (DESIGN
CHOICE, log 120). -/
def Dev.trainAttempt (d : Dev) (n : Nat) : Dev :=
  let band := d.therm.band
  let d1 := (d.port n).svc.foldl (fun d r => (d.onPort n fun p => p.count 16 1).svcDone n r.tag 0x30 []) d
  d1.onPort n fun p =>
    let s := nth p.presets band
    { p.unlocked with
        st := .training 0, phaseTick := d.now, setUsed := band, preset := s.2.getD (s.1.headD 0), sleep := 0,
        sleepReq := none, acks := 0, burst := 0, svc := [], svcRx := [], decl := 0, rtDue := false, fclk := true,
        fallback := false, headFallback := false, eq := nth p.eqStart band, midBase := none, camDue := false }

/-- Training from T0, with three attempts (R289); the head of an oar's port that was trained is silent from now on (R45). A port left in reset does not train (R498). -/
def Dev.trainStart (d : Dev) (n : Nat) : Dev :=
  if ! d.blockLive 2 n then d else
  let d0 := if n < 32 && ((d.port n).hearing || (d.port n).st == .relock) then d.headSilent n else d
  let d1 := d0.trainAttempt n
  d1.onPort n fun p =>
    let q := if p.everTrained then p.count 13 1 else p
    { q with attempt := 0, everTrained := true, runDue := (d.port n).runDue || (d.port n).headCmd = 2 }

/-- Result of `oar.retrain`: per port of the mask, trained (0) or failed (1), and the phase that failed (R309, R577). -/
def Dev.trainResult (d : Dev) (ports : Nat) : List Byte :=
  (bitsOf 33 ports).flatMap fun n => u32 (boolN (! ((d.port n).st == .trained))) ++ u32 (d.port n).failPhase

def Port.settled (p : Port) : Bool := p.st == .trained || p.st == .failed

/-- Trainings that a command waits for and that have ended. -/
def Dev.trainJobs (d : Dev) : Dev :=
  (d.host.jobs.filter fun j => match j.kind with
      | .train ports => (bitsOf 33 ports).all fun n => (d.port n).settled
      | _ => false).foldl (fun e j => match j.kind with
        | .train ports => e.finish j 0 0 (e.trainResult ports)
        | _ => e) d

def ModeCtl.onEntry (m : ModeCtl) (f : BuildEntry → BuildEntry) : ModeCtl := { m with entry := m.entry.map f }

/-- A port's training ends: Build entry waits for it no longer (R518). -/
def Dev.trainEnded (d : Dev) (n : Nat) : Dev :=
  Dev.trainJobs { d with mode := d.mode.onEntry fun e => { e with trains := e.trains.filter (· ≠ n) } }

/-- A port is declared FAILED (R289). -/
def Dev.portFailed (d : Dev) (n phase : Nat) : Dev :=
  let d1 := d.onPort n fun p => { p with st := .failed, failPhase := phase, sleep := 4 }
  let d2 := if n < 32 then d1.headSilent n else d1
  (((d2.spoil 0x05 n 0x002 true phase).raise 41).trainEnded n)

/-- A failed attempt: another after 1 ms, or FAILED at the end of the third (R289). -/
def Dev.attemptFailed (d : Dev) (n phase : Nat) : Dev :=
  if 2 ≤ (d.port n).attempt then d.portFailed n phase
  else d.onPort n fun p => { p with st := .retryWait, attempt := p.attempt + 1, phaseTick := d.now }

/-- A success clears the port's count and skip in the Keep record (R502, R504). -/
def KeepRec.portOk (n : Nat) (k : KeepRec) : KeepRec :=
  { k with portFail := k.portFail.set n 0, portSkip := if k.portSkip.testBit n then k.portSkip - 2 ^ n else k.portSkip }

/-- A port is trained: R170 is checked, PARK is sent (R287); a head that was in RUN before is sent RUN again (R285). -/
def Dev.portTrained (d : Dev) (n : Nat) : Dev :=
  let d1 := d.onPort n fun p => { p with
    st := .trained, fallback := false, headFallback := false, failPhase := 0, headCmd := if p.runDue then 2 else 1, runDue := false }
  let e := nth d1.eng n
  let d2 := if n < 32 then
      let l := e.lat
      if l.tooLong then d1.spoil 0x05 n 0x001 false l.sumNs else d1
    else d1
  let d3 := d2.onSafe n fun o => { o with frameBadTick := d.now }
  ((({ d3 with boot := { d3.boot with keep := d3.boot.keep.portOk n } }).raise 41).trainEnded n)

/-- The ports that take part at step S10 and after: active, not skipped. -/
def Dev.activePorts (d : Dev) : List Nat := (List.range 33).filter d.portExists

/-! ## Relock (R290) -/

/-- Lock is lost on a trained port. -/
def Dev.portLost (d : Dev) (n : Nat) : Dev :=
  d.onPort n fun p => { p.count 2 1 with st := .relock, lossTick := d.now, goodFrames := 0, frameLock := false }

/-- A port whose return lane has gone without a loss of lock to count: one asleep, or one that relocks already (R306). -/
def Dev.lockGone (d : Dev) (n : Nat) : Dev :=
  if (d.port n).hearing then d.portLost n
  else if (d.port n).st == .trained then d.onPort n fun p => { p with st := .relock, lossTick := d.now, goodFrames := 0 }
  else d

/-- Block lock goes with it. -/
def Port.blockLost (p : Port) : Port := { (p.count 1 1).unlocked with rseq := p.rseq }

/-! ## Sleep (R295 to R298) -/

/-- The command that asks for a sleep state, as HEAD_CMD. -/
def sleepCmd : Nat → Nat
  | 1 => 4
  | 2 => 6
  | 3 => 4
  | 4 => 7
  | _ => 5

/-- A port wakes or stays ACTIVE, a request to sleep withdrawn; one that is IDLE trains from T0 (R297, R298). -/
def Dev.wakePort (d : Dev) (n : Nat) : Dev :=
  let p := d.port n
  if p.st == .trained && p.sleep ≠ 4 then
    d.onPort n fun p => { p with
      sleepReq := if p.sleep = 0 then none else some 0, cmdFrames := 0, acks := 0, burst := 0
      goodFrames := if p.sleep = 0 then p.goodFrames else 0 }
  else if p.st == .relock then d.onPort n fun p => { p with sleepReq := none, cmdFrames := 0, acks := 0 }
  else if p.sleep = 4 && (p.st == .idle || p.st == .trained) then d.trainStart n
  else d

/-! ## Head commands (R284, R285) -/

/-- Whether one of the oar's scanner slots is MAN or AUTO. A head that is sent RUN and stands in PARK of its own, or whose
frames fail, goes on being sent RUN, while its slots are in TRACK, until they resume (DEDUCED, log 121). -/
def Dev.scannerOn (d : Dev) (k : Nat) : Bool :=
  (List.range 3).any fun a =>
    let s := (d.slot (3 * k + a)).st
    s == .man || s == .auto || (s == .track && (d.port k).headCmd = 2)

/-- Test jumps of oar k are still to be flown (R171). -/
def Engine.testing (e : Engine) : Bool := match e.test with | some t => t.left ≠ 0 | none => false

/-- RUN or PARK as R285 has it, PARK under an asserted Soft reset (R307); a stroke that still exposes in a standard Hold runs to
its finish (R519), and a head that flies test jumps is in RUN (R171, DEDUCED, log 143). -/
def Dev.headCmdFor (d : Dev) (n : Nat) : Nat :=
  match (d.port n).st with
  | .training k => if k = 5 then 1 else 3
  | _ =>
    if n = 32 || d.softHeld then 1
    else if ((d.mode.mode == .ready || d.mode.mode == .build || (d.mode.mode == .hold && (nth d.eng n).exposing)) && d.scannerOn n) ||
        (nth d.eng n).testing then 2 else 1

/-- Every head is sent PARK, or RUN, as the present mode has it; PARK asks leave at P0 (R523). -/
def Dev.commandHeads (d0 : Dev) : Dev :=
  let run : Bool := d0.mode.mode == .ready || d0.mode.mode == .build
  let d := ((List.range 32).filter fun n => (d0.port n).headCmd ≠ 1 && d0.headCmdFor n = 1).foldl (fun d _ => d.safetyLeave) d0
  { d with links := { d.links with ports := d.links.ports.mapIdx fun n p => { p with
      headCmd := d.headCmdFor n, runDue := run && p.runDue } } }

/-- The sample instant of the present return frame: its arrival minus L_enc (R167, R231); a missed one's stands where the
latest that came had it. -/
def Dev.samplePs (d : Dev) (k : Nat) (l : Latency) : Rat := d.psNow + (d.port k).arrPs - l.enc

/-- A delay in steps of 312.5 ps in whole ps, as results give it. -/
def linkPs (steps : Nat) : Nat := natOf (roundRat (slotPs * steps))

/-- The head is in PARK or READY. -/
def Port.parked (p : Port) : Bool := p.hstate = 2 || p.hstate = 3

/-- R215: whether the port takes current commands of a scanner slot: it delivers frames, three missed in a row at most whatever
they are missed for (R168, R281, R282), and its head is out of PARK (R284). -/
def Dev.scannerDelivers (d : Dev) (k : Nat) : Bool :=
  let p := d.port k
  p.linked && p.sleep = 0 && (p.hstate = 4 || p.hstate = 5) && p.missed < 4 &&
    (d.mode.mode == .ready || d.mode.mode == .build || (d.mode.mode == .hold && (nth d.eng k).exposing) ||
      (nth d.eng k).testing)

/-! ## The service channel (R301 to R303) -/

/-- A request enters the list of those outstanding. -/
def Dev.svcSend (d : Dev) (n op addr len : Nat) (data : List Byte) : Dev :=
  d.onPort n fun p => { p with
    svc := p.svc ++ [⟨p.svcTag, op, addr, len, data, d.now, 0, true⟩], svcTag := (p.svcTag + 1) % 256 }

/-- Payloads of outbound blocks 4 to 9 for a request, or for none (R301). -/
def svcBlocks : Option SvcReq → List Nat
  | none => List.replicate 5 0 ++ [crc32c (List.replicate 40 0)]
  | some r =>
    let b4 := r.op + 256 * r.tag + 65536 * r.len + 2 ^ 32 * r.addr
    let ds := (List.range 4).map fun i => unle (((r.data ++ List.replicate 32 0).drop (8 * i)).take 8)
    let bs := (b4 :: ds).flatMap u64
    b4 :: ds ++ [crc32c bs]

/-- The camera registers of the head as `oar.camera` gives them (R304, R305). -/
def cameraWrites (c : CameraArg) : List (Nat × List Byte) :=
  [(0x20, u16 c.x0 ++ u16 c.y0), (0x24, u16 c.w ++ u16 c.h), (0x28, u32 c.exposureNs), (0x2C, u32 c.en)]

/-- What T4 writes there: those of the oar's camera, or of the image lines on P32 once they are configured (R305, R353). -/
def Dev.cameraBlock (d : Dev) (n : Nat) : Option (List Byte) :=
  if n < 32 then some ((cameraWrites (nth d.melt n).cam).flatMap (·.2))
  else (d.img.cfg.orElse fun _ => d.flash.img).map fun c => u16 c.lineX0 ++ u16 0 ++ u16 c.lineW ++ u16 1

/-- The head's camera registers are written over the service channel in one request (DESIGN CHOICE, log 120). -/
def Dev.sendCamera (d : Dev) (n : Nat) : Dev :=
  match d.cameraBlock n with
  | some bs => d.svcSend n 2 0x20 bs.length bs
  | none => d

/-- T4 begins: the registers from HEAD_ID to PARK_TIME are read, the camera registers written, and L_link measured (R287). -/
def Dev.declareStart (d : Dev) (n : Nat) : Dev :=
  let d1 := (d.onPort n fun p => { p.measure with decl := if (d.cameraBlock n).isSome then 0 else 2 }).svcSend n 1 0x00 28 []
  d1.sendCamera n

/-- A good answer to a request of T4. -/
def Port.declare (op addr : Nat) (data : List Byte) (p : Port) : Port :=
  let v := fun i => unle ((data.drop (4 * i)).take 4)
  if p.trainingPhase ≠ some 4 then p
  else if op = 1 ∧ addr = 0x00 then
    { p with
      headId := v 0, linkVer := v 1, dHead := v 2, dAlign := v 3, caps := v 4, camMax := v 5, parkTime := v 6, decl := p.decl ||| 1 }
  else if op = 2 ∧ addr = 0x20 then { p with decl := p.decl ||| 2 }
  else p

/-- The declarations lie in their ranges (R304, R305, R353). -/
def Port.declaredOk (n : Nat) (p : Port) : Bool :=
  50000 ≤ p.dAlign && p.dAlign ≤ 1000000 && 1 ≤ p.parkTime && p.parkTime ≤ 100000 &&
  (n < 32 || (p.dHead ≤ 1000000 && p.caps % 8 = 1 && p.camMax / 65536 = 1))

/-! ## The outbound frame (R277, R278) -/

/-- The presets of T3 in the order in which they are tried: the set's last accepted one first (R287). -/
def Port.trials (p : Port) : List Nat := p.preset :: (nth p.presets p.setUsed).1.filter (· ≠ p.preset)

/-- Ticks that the trial of a preset takes: 64 frames of waiting, 2^22 bits of measurement (R287, R299). -/
def trialTicks : Nat := 1653

/-- Presets of T3 whose measurement is over at a tick. -/
def Port.trialsDone (p : Port) (now : Nat) : Nat := (now - p.phaseTick) / trialTicks

/-- TX_PRESET: in T3 that on trial. -/
def Port.txPreset (p : Port) (now : Nat) : Nat :=
  if p.trainingPhase = some 3 then p.trials.getD (p.trialsDone now) (p.trials.getLastD 0) else p.preset

/-- The header payload. -/
def outHeader (p : Port) (ftick : Nat) : Nat :=
  let b := 0x87 + 256 * p.oseq + 65536 * p.headCmd + 2 ^ 20 * p.txPreset ftick + 2 ^ 24 * (ftick % 65536)
  b + 2 ^ 56 * crc8 ((u64 b).take 7)

/-- Currents, valid bits and head control: blocks 1 to 3. -/
def outCurrents (cs : List Int) (valid : List Bool) (camStart len : Bool) : List Nat :=
  let c := fun (i : Nat) => wrapTo 32 (cs.getD i 0)
  let b1 := c 0 + 2 ^ 32 * c 1
  let b2 := c 2
  let b3 := maskOf ((List.range 3).filter fun i => valid.getD i false) + 8 * boolN camStart + 16 * boolN len
  [b1, b2, b3 + 2 ^ 48 * crc16 (u64 b1 ++ u64 b2 ++ (u64 b3).take 6)]

end Sys2Proof.Machine
end

