-- ==== Sys2Proof/Machine/ImgOps.lean ====
section
/-! DEFINITION. Bed imaging's shared operations: triggers (R347 to R350), line records and slot headers (R355 to R357),
the start of an image (R358), strobes forced low (R362). -/

namespace Sys2Proof.Machine

/-! ## The buffer (R355, R356) -/

/-- Bytes of a line record and of an image slot. -/
def imgRecBytes (c : ImageArg) : Nat := 64 + 64 * ((c.lineW * 10 + 511) / 512)
def imgSlotBytes (c : ImageArg) : Nat := 64 + c.nMax * imgRecBytes c

def imgSlotBase (c : ImageArg) (layer : Nat) : Nat := c.bufBase + layer % max 1 c.slots * imgSlotBytes c

/-- R347: the lines of an image. -/
def imgLines (c : ImageArg) (pitch : Nat) : Nat := ((c.stop - c.start).natAbs + pitch - 1) / max 1 pitch

/-- R351: T_LINE_MIN in ns, LINE_DELAY rounded up. -/
def Dev.lineMin (d : Dev) (c : ImageArg) : Nat :=
  ((d.port 32).dHead + 999) / 1000 + c.lineExp + 250 * ((c.lineW * 10 + 2047) / 2048) + 2000

/-- The slot header. -/
def ImageRun.header (r : ImageRun) : List Byte :=
  u32 r.layer ++ u32 r.n ++ u32 r.written ++ u8 r.state ++ [0, 0, 0] ++ u32 r.incomplete ++ u32 r.notTaken ++
  u32 r.strobeFault ++ List.replicate 36 0

/-- The pixel bytes of a line, words that are missing as 0. -/
def linePixels (c : ImageArg) (ws : List (Nat × Nat)) : List Byte :=
  ((List.range ((c.lineW * 10 + 63) / 64)).flatMap fun i => u64 (((ws.find? (·.1 = i)).map (·.2)).getD 0)).take (c.lineW * 10 / 8)

/-- A line record: the line header, then the pixels. -/
def lineRecord (c : ImageArg) (layer : Nat) (l : LineRx) (lamp : Option Int) (t : Nat × Nat) : List Byte :=
  let px := linePixels c l.words
  fitTo (imgRecBytes c)
    (fitTo 64 (u32 layer ++ u32 l.k ++ u8 l.dir ++ u8 l.strings ++ u16 l.flags ++ u32 (wrapTo 32 l.encCount) ++
      u16 l.current ++ i16 (lamp.getD (-32768)) ++ u16 c.lineW ++ u16 c.lineX0 ++ u32 t.1 ++ u32 t.2 ++ u32 (crc32c px) ++
      u32 (imgRecBytes c)) ++ px)

/-- Image data enters staging; what is not admitted waits until the buffer has drained (R357, DESIGN CHOICE, log 17). -/
def Dev.stageImg (d : Dev) (addr : Nat) (bs : List Byte) : Dev × List DramOp :=
  let r := if 1048576 < d.recd.level + bs.length then d.flushStaging else (d, [])
  (({ r.1 with recd := { r.1.recd with staging := r.1.recd.staging ++ [(3, addr, bs)] } }).panicCheck, r.2)

def Dev.onImg (d : Dev) (f : Imaging → Imaging) : Dev := { d with img := f d.img }

def flagBit (f : Nat) (i : Nat) : Nat := boolN (f.testBit i)

/-- The image after one more record. -/
def ImageRun.count (r : ImageRun) (flags : Nat) : ImageRun :=
  { r with
    written := r.written + 1
    incomplete := r.incomplete + flagBit flags 0
    notTaken := r.notTaken + flagBit flags 1
    strobeFault := r.strobeFault + flagBit flags 2
    state := if r.written + 1 = r.n then 2 else r.state }

/-- The image as `image.status` shows it. -/
def Imaging.setSlot (m : Imaging) (c : ImageArg) (r : ImageRun) : Imaging :=
  { m with run := some r, slots := m.slots.set (r.layer % max 1 c.slots) r }

/-- A line of the image is written; with the last one the image is complete (R356, R357). -/
def Dev.writeRun (d : Dev) (c : ImageArg) (r : ImageRun) (l : LineRx) (t : Nat × Nat) : Dev × List DramOp :=
  let q := r.count l.flags
  let base := imgSlotBase c r.layer
  let a := (d.onImg fun m => m.setSlot c q).stageImg (base + 64 + l.k * imgRecBytes c) (lineRecord c r.layer l d.img.lampTemp t)
  if q.state = 2 then
    let f := a.1.flushStaging
    ((f.1.onImg fun m => { m with ready := true }).raise 23, a.2 ++ f.2 ++ [.write base q.header])
  else
    let b := a.1.stageImg base q.header
    (b.1, a.2 ++ b.2)

/-- The line of `image.line` is written and answered (R366). -/
def Dev.writeSingle (d : Dev) (c : ImageArg) (addr : Nat) (l : LineRx) (t : Nat × Nat) : Dev × List DramOp :=
  let f := d.flushStaging
  ((f.1.onImg fun m => { m with single := none }).finishJobs (· = .imageLine) 0 0 [],
    f.2 ++ [.write addr (lineRecord c 0xFFFFFFFF l d.img.lampTemp t)])

/-- A gate forced low: a pulse in progress counts up to that instant only (R359). -/
def LedChan.cut (now : Nat) (c : LedChan) : LedChan :=
  { c with
    gate := false
    pulses := match c.gate, c.pulses with
      | true, p :: r => (p.1, min p.2 (250 * now - p.1)) :: r
      | _, ps => ps }

/-- The strings, every gate low. -/
def cutStrobes (now : Nat) (cs : List LedChan) : List LedChan := cs.mapIdx fun i c => if i < 8 then c.cut now else c

/-- The line in progress ends: pixel words that are missing make it INCOMPLETE (R354). -/
def Dev.lineEnd (d : Dev) : Dev × List DramOp :=
  match d.img.line, d.img.cfg with
  | some l, some c =>
    let whole := (List.range ((c.lineW * 10 + 63) / 64)).all fun i => l.words.any (·.1 = i)
    let l' := { l with flags := if whole then l.flags else l.flags ||| 1 }
    let d1 := d.onImg fun m => { m with line := none, leds := cutStrobes d.now m.leds }
    let t := d.timeOfPs l.midPs
    match d.img.single, d.img.run with
    | some s, _ => d1.writeSingle c s.2 l' t
    | none, some r => d1.writeRun c r l' t
    | none, none => (d1, [])
  | _, _ => (d, [])

/-- R362: every strobe gate goes low. A line whose exposure has begun is completed dark; one whose LINE_START has not left
is not taken yet, and that of `image.line`, whose command goes on (R409), is taken dark (DEDUCED, log 123). -/
def Imaging.dark (now : Nat) (m : Imaging) : Imaging :=
  let lit := (m.leds.take 8).any (·.gate)
  let m1 := { m with leds := cutStrobes now m.leds }
  match m.line with
  | none => m1
  | some l =>
    if l.sent then
      { m1 with line := some { l with pulsed := true, flags := if lit || ! l.pulsed then l.flags ||| 1 else l.flags } }
    else if m.single.isSome then { m1 with line := some { l with pulsed := true } }
    else { m1 with line := none, run := m.run.map fun r => { r with next := l.k, backlog := max r.backlog (l.k + 1) } }

/-! ## Triggers (R347 to R350) -/

/-- The encoder input of the recoater axis. -/
def Dev.recoatEnc (d : Dev) : Option Nat :=
  match d.slides.recoat.arg with
  | some g => (d.axis g.recoater).enc
  | none => none

/-- Triggers are armed in step B alone, for a layer that is being imaged. -/
def Dev.armed (d : Dev) : Bool :=
  d.mode.mode == .build && d.slides.recoat.step = 2 && ! d.slides.recoat.suspended &&
  match d.img.run with | some r => r.armed && r.state = 1 | none => false

/-- A line whose trigger edge is the present instant. -/
def Dev.newLine (d : Dev) (k dir flags : Nat) (count : Int) : LineRx :=
  ⟨k, dir, flags, count, false, d.now, 0, 0, [], false, 0, false, d.now, (d.secLow, d.nsNow)⟩

/-- The pulse time of a channel within the 10 ms before an instant, ns. -/
def LedChan.pulseNs (c : LedChan) (start : Nat) : Nat :=
  c.pulses.foldl (fun n p => n + (p.1 + p.2 - max p.1 (start - 10000000))) 0

/-- The strings of a direction that would pulse, and whether the duty rule forbids a pulse of theirs at an instant (R359). -/
def Dev.strings (d : Dev) (a : DirArg) : List Nat :=
  (bitsOf 8 a.mask).filter fun i => (nth d.img.leds i).configured && ! (nth d.img.leds i).fault

def Dev.dutyForbids (d : Dev) (c : ImageArg) (a : DirArg) (start : Nat) : Bool :=
  (d.strings a).any fun i => c.dutyMax * 100000 < (nth d.img.leds i).pulseNs start + a.width

/-- R350: a line falls due while the imager is busy, unheard, or kept from its pulse by the duty rule, which is judged for the
first outbound frame after the edge (DEDUCED, log 123). -/
def Dev.lineBusy (d : Dev) (c : ImageArg) (dir : Nat) : Bool :=
  d.img.line.isSome || ! (d.port 32).hearing ||
    (decide (0 < d.img.factor) && d.dutyForbids c (nth c.dirs dir) (250 * (d.now + 1) + c.strobeDelay))

/-- A line that is due: taken, or written as NOT_TAKEN. -/
def Dev.lineTrigger (d : Dev) (c : ImageArg) (r : ImageRun) (count : Int) : Dev × List DramOp :=
  let l := d.newLine r.next (r.next % max 1 c.dirs.length) (if r.resumed then 32 else 0) count
  let q := { r with next := r.next + 1 }
  if d.lineBusy c l.dir then d.writeRun c q { l with flags := l.flags ||| 2 } l.edge
  else (d.onImg fun m => { m with run := some q, line := some l }, [])

/-- R350: line k falls due while one that passed under Hold still waits for the line in progress: it is not taken. -/
def Dev.lineMissed (d : Dev) (c : ImageArg) (r : ImageRun) (k : Nat) (count : Int) : Dev × List DramOp :=
  let l := d.newLine k (k % max 1 c.dirs.length) ((if r.resumed then 32 else 0) ||| 2) count
  d.writeRun c { r with missed := k :: r.missed } l l.edge

/-- A count less IMG_START, towards IMG_END. -/
def imgAlong (c : ImageArg) (count : Int) : Int := if c.start < c.stop then count - c.start else c.start - count

/-- R347, R348: the lines, in order, whose points the count reaches as it moves towards IMG_END from one value to another. -/
def ImageRun.reach (c : ImageArg) (before after : Int) (r : ImageRun) : ImageRun :=
  let p : Int := (max r.next r.backlog * r.pitch : Nat)
  if imgAlong c before < p ∧ p ≤ imgAlong c after then
    { r with backlog := min r.n (natOf (imgAlong c after / (max 1 r.pitch : Nat)) + 1) }
  else r

/-- R347, R33, R348: as the count of the recoater's encoder moves on from a value, the lines whose points it reaches are due, in
order. Lines whose points it reached while the recoater stopped under Hold are taken as it moves on after resume, each once
the imager is free; a line that falls due meanwhile finds the imager busy (R350). -/
def Dev.linesDue (d0 : Dev) (before : Int) : Dev × List DramOp :=
  match d0.img.cfg, d0.recoatEnc, d0.img.run with
  | some c, some n, some r0 =>
    let count := (nth d0.slides.encs n).count
    if r0.state ≠ 1 || imgAlong c count ≤ imgAlong c before || ! (d0.armed || r0.resumed) then (d0, [])
    else
      let d := d0.onImg fun m => { m with run := some (r0.reach c before count) }
      (List.range (2 * (r0.reach c before count).backlog)).foldl (fun (q : Dev × List DramOp) _ =>
        match q.1.img.run with
        | some r =>
          if ! q.1.armed || r.backlog ≤ r.next then q
          else if r.missed.contains r.next then (q.1.onImg fun m => { m with run := some { r with next := r.next + 1 } }, q.2)
          else if r.next < r0.backlog && q.1.img.line.isSome then
            match (List.range r.backlog).find? fun k => r0.backlog ≤ k && ! r.missed.contains k with
            | some k => let x := q.1.lineMissed c r k count; (x.1, q.2 ++ x.2)
            | none => q
          else
            let x := q.1.lineTrigger c r count
            (x.1, q.2 ++ x.2)
        | none => q) (d, [])
  | _, _, _ => (d0, [])

/-- R348, R362: the capture halts outside step B, and goes on when the step does. -/
def Dev.imageHalt (d : Dev) : Dev :=
  d.onImg fun m => let q := m.dark d.now; { q with run := q.run.map fun r => { r with resumed := true } }

/-- R350, R362: at the end of step B the strobes end, and every line not yet taken is written. -/
def Dev.linesLeft (d0 : Dev) : Dev × List DramOp :=
  let d := d0.onImg (Imaging.dark d0.now)
  match d.img.cfg, d.img.run with
  | some c, some r0 =>
    if r0.state ≠ 1 then (d, [])
    else
      (List.range (r0.n - r0.next)).foldl (fun (q : Dev × List DramOp) _ =>
        match q.1.img.run with
        | some r =>
          let k := r.next
          if r.missed.contains k then (q.1.onImg fun m => { m with run := some { r with next := k + 1, armed := false } }, q.2)
          else
          let l := d.newLine k (k % max 1 c.dirs.length) ((if r.resumed then 32 else 0) ||| 2)
            (c.start + (if c.start < c.stop then 1 else -1) * (k : Int) * d.slides.recoat.linePitch)
          let x := q.1.writeRun c { r with next := k + 1, armed := false } l l.edge
          (x.1, q.2 ++ x.2)
        | none => q) (d, [])
  | _, _ => (d, [])

/-! ## The start of an image (R347, R358) -/

/-- The image of the layer begins with step B; the second part tells whether the device enters Hold. -/
def Dev.imageStart (d : Dev) : Dev × Bool :=
  let r := d.slides.recoat
  match d.img.cfg with
  | some c =>
    if ! r.imageEn then (d.onImg fun m => { m with ready := true }, false)
    else
      let there := (d.port 32).linked
      let run : ImageRun := ⟨r.layer, imgLines c r.linePitch, r.linePitch, 0, 0, 0, 0, 0,
        if there then 1 else 3, false, there, 0, []⟩
      let d1 := d.onImg fun m => { m.setSlot c run with ready := ! there && c.required = 0 }
      let d2 := { d1 with recd := { d1.recd with staging := d1.recd.staging ++ [(3, imgSlotBase c r.layer, run.header)] } }.panicCheck
      if there then (d2, false) else (d2.spoil 0x0B 0xFF 0x001 true r.layer, c.required ≠ 0)
  | none => (d.onImg fun m => { m with ready := true }, false)

/-- The image of the layer in hand is ABSENT (R358). -/
def Dev.imageAbsent (d : Dev) : Bool := match d.img.run with | some r => r.state = 3 | none => false

/-- The image of the step in hand was ABSENT and is REQUIRED: the start of step B is judged afresh (R358). -/
def Dev.imageHeld (d : Dev) : Bool := d.slides.recoat.step = 2 && ! d.img.ready && d.imageAbsent


end Sys2Proof.Machine
end

