-- ==== Sys2Proof/Machine/ModeOps.lean ====
section
/-! DEFINITION. Modes and cut paths as shared operations: who may work (R60, R186, R534), trips (R142, R463), Safe (R465),
Hold (R519), Ready, entry into Build (R518), proofs (R470, R471). -/

namespace Sys2Proof.Machine

/-! ## Oars that may work (R60, R186, R534) -/

/-- R538: instance i of calibration block b (1 to 6) is marked FAIL. -/
def Cal.failed (c : Cal) (b i : Nat) : Bool := (nth (nth c.blocks (b - 1)) i).failed

/-- R534: the first cause for which an oar is unconfigured, 1 to 4, or 0. -/
def Dev.unconfigured (d : Dev) (k : Nat) : Nat :=
  let p := nth d.gov.power k
  let e := nth d.eng k
  if p.1 = 0 ∨ p.2 = 0 then 1
  else if e.motion.rateMax.isNone ∨ e.motion.accMax.isNone then 2
  else if d.cal.failed 1 k ∨ d.cal.failed 2 k then 3
  else if 1 < (d.corrSets k).length ∧ (nth d.geo.oars k).grid.isNone then 4
  else 0

/-- D of R60, unconfigured oars among them. -/
def Dev.inD (d : Dev) (k : Nat) : Bool := d.geo.disabled.getLsbD k || d.unconfigured k ≠ 0

def Dev.inT (d : Dev) (k : Nat) : Bool := d.ump.trip.getLsbD k

/-- E AND NOT D AND NOT T, and within the latency bound that R170 sets for an oar to be made available. -/
def Dev.mayWork (d : Dev) (k : Nat) : Bool := d.oarExists k && ! d.inD k && ! d.inT k && ! (nth d.eng k).lat.tooLong

/-- R186. -/
def Dev.lenWanted (d : Dev) (k : Nat) : Bool :=
  d.mode.mode == .build && d.mayWork k && d.layers.released.isSome && (d.port k).linked &&
    d.ump.closed.getLsbD k

/-! ## Cut paths (R454, R471) -/

def Dev.oarEn (d : Dev) (k : Nat) : Bool :=
  d.oarExists k && match d.ump.active with | some s => s.oarEn k | none => false

/-- Umpire cores whose votes count. -/
def Umpire.liveVotes (u : Umpire) : Nat := (u.cores.filter fun c => c.inService && c.live).length

/-- R452: at least two live votes say closed for oar k. -/
def Umpire.votesClosed (u : Umpire) (k : Nat) : Bool :=
  2 ≤ (u.cores.filter fun c => c.inService && c.live && c.vote.getLsbD k).length

/-- R471: the last proof is more than 50 s old. -/
def Dev.proofOld (d : Dev) (k : Nat) : Bool :=
  match (nth d.ump.oars k).lastProof with
  | some t => t + sT 50 < d.now
  | none => true

/-- An all-oar cause holds every cut path open. -/
def Dev.allOpen (d : Dev) : Bool :=
  ! d.pins.estopA || ! d.pins.estopB || ! d.pins.intlk || d.ump.clockCut || d.mode.mode == .safe || d.ump.liveVotes < 2

/-- R452, R454: what every sound core votes for oar k: closed or open. -/
def Dev.voteFor (d : Dev) (k : Nat) : Bool :=
  ! d.inT k && ! d.allOpen && d.oarEn k && ! (match d.ump.proof with | some p => p.oar = k | none => false)

/-- R452: every core in service votes anew; one that differs from the others votes open (DESIGN CHOICE, log 133). -/
def Dev.castVotes (d : Dev) : Dev :=
  let v := BitVec.ofNat 32 (maskOf ((List.range 32).filter d.voteFor))
  { d with ump := { d.ump with cores := d.ump.cores.map fun (c : UCore) =>
      { c with vote := if c.inService && c.live && c.differs = 0 then v else 0 } } }

/-- R454, R471, R495: the conditions under which the latch of oar k closes, its votes cast; none does before S11 has ended. -/
def Dev.mayClose (d : Dev) (k : Nat) : Bool :=
  11 < d.boot.next && d.voteFor k && d.ump.votesClosed k && ! d.proofOld k

/-- Whether the cut path of oar k can be proved at all. -/
def Dev.provable (d : Dev) (k : Nat) : Bool := d.oarEn k && ! d.inT k

/-- A proof of oar k in progress is abandoned without counting: a cut has come up in it (R454). -/
def Umpire.abandon (k : Nat) (u : Umpire) : Umpire :=
  { u with
    proof := u.proof.filter (·.oar ≠ k)
    oars := if u.proof.any (·.oar = k) then upd u.oars k fun o => { o with gapSince := none } else u.oars }

/-- R23: LEN, LGATE and the DAC of oar k at their safe levels at the pads, its cut path open. -/
def Dev.openCut (d : Dev) (k cause : Nat) : Dev :=
  let e := if d.ump.closed.getLsbD k then d.safetyLeave else d
  let d1 := { e with ump := { e.ump.abandon k with closed := e.ump.closed &&& ~~~ (BitVec.ofNat 32 (2 ^ k)) } }
  (d1.cutStroke k cause).onEng k fun e => { e with len := false, lenTick := d.now, lenSettled := false, dac := 0 }

def oars32 : List Nat := List.range 32

/-- Every cut path opens. -/
def Dev.openAll (d : Dev) (cause : Nat) : Dev := oars32.foldl (fun d k => d.openCut k cause) d

/-! ## The pads of an oar (R19, R23, R470): gated by its cut path, but for the steps of a proof -/

/-- Step n of the proof of oar k runs. -/
def Dev.proofAt (d : Dev) (k n : Nat) : Bool := d.ump.proof == some ⟨k, n⟩

/-- PROOF_CODE of the set in force (R474). -/
def Umpire.proofCode (u : Umpire) : Nat := match u.active with | some s => unle ((s.image.drop 8).take 2) | none => 0x100

/-- LGATE at the pad: the engine opens it, or step P2 of a proof. -/
def Dev.lgatePad (d : Dev) (k : Nat) : Bool := if d.proofAt k 2 then true else d.ump.closed.getLsbD k && (nth d.eng k).lgate

/-- LEN at the pad: the engine raises it, or step P4 of a proof. -/
def Dev.lenPad (d : Dev) (k : Nat) : Bool := if d.proofAt k 4 then true else d.ump.closed.getLsbD k && (nth d.eng k).len

/-- The power DAC of oar k: the engine's code, or PROOF_CODE in step P3 of a proof. -/
def Dev.dacPad (d : Dev) (k : Nat) : Nat := if d.proofAt k 3 then d.ump.proofCode else if d.ump.closed.getLsbD k then (nth d.eng k).dac else 0

/-! ## Trips (R142, R463) -/

/-- R463: oar k enters T; a tripped oar is not tripped again. -/
def Dev.trip (d : Dev) (k cause : Nat) (value limit : Int) : Dev :=
  if d.inT k then d
  else
    let d1 := (d.openCut k 1).onSafe k fun o => { o with cause := cause, gapSince := none }
    let d2 := { d1 with ump := { d1.ump with trip := d1.ump.trip ||| BitVec.ofNat 32 (2 ^ k) } }
    (((d2.raise 33).event 1 cause k value limit 0).logDevice 6 2 0x12 k (u32 d.ump.trip.toNat) (u32 d2.ump.trip.toNat)).withdraw k false

/-! ## Commands aborted or begun again before their effect point (R410, R423) -/

def Dev.onMelt (d : Dev) (k : Nat) (f : Melt → Melt) : Dev := { d with melt := upd d.melt k f }

/-- The device averages the coming samples of an oar (R235). -/
def Dev.darkBegin (d : Dev) (k : Nat) : Dev := d.onMelt k fun m => { m with dark := some (0, 0, 0, 0) }

/-- R171: 16 test jumps of oar k are due. Its scanner slots are in AUTO for them (DEDUCED, log 143). -/
def Dev.testBegin (d : Dev) (k : Nat) : Dev :=
  let slots := (List.range 3).map fun f => (d.slot (3 * k + f)).st
  let d1 := (List.range 3).foldl (fun d f =>
    if (d.slot (3 * k + f)).desc.isSome then d.onSlot (3 * k + f) LoopSlot.toAuto else d) d
  d1.onEng k fun e => { e with fromObs := true, test := some ⟨16, 0, 0, 0, slots, true⟩ }

/-- The state of a slot from before the test jumps. -/
def LoopSlot.backTo (st : SlotState) (s : LoopSlot) : LoopSlot :=
  match st with
  | .off => s.toOff
  | .man => s.toMan none
  | .track => s.toTrack
  | _ => s

/-- The test jumps of oar k are over, all flown or given up. -/
def Dev.testEnd (d : Dev) (k : Nat) (ok : Bool) : Dev :=
  match (nth d.eng k).test with
  | none => d
  | some t =>
    let d1 := (List.range 3).foldl (fun d f => d.onSlot (3 * k + f) (LoopSlot.backTo (nth t.slots f))) d
    d1.onEng k fun e => { e with
      phase := if e.phase == .test then .idle else e.phase, fromObs := e.fromObs || ! ok
      test := some { t with left := 0, ok := ok } }

/-- What a command in execution has begun comes to nothing: the test jumps of `oar.measure`, the averages of `oar.dark`. -/
def Dev.undo (d : Dev) (k : JobKind) : Dev :=
  match k with
  | .measure mask => (bitsOf 32 mask).foldl (fun d k => (d.testEnd k false).onEng k fun e => { e with test := none }) d
  | .dark mask => (bitsOf 32 mask).foldl (fun d k => d.onMelt k fun m => { m with dark := none }) d
  | .ledClear mask =>
    { d with img := { d.img with leds := d.img.leds.mapIdx fun i c => if mask.testBit i then { c with test := 0 } else c } }
  | _ => d

/-- A command in execution is run again from its beginning. -/
def Dev.rerun (d : Dev) (k : JobKind) : Dev :=
  match k with
  | .measure mask => (bitsOf 32 mask).foldl Dev.testBegin (d.undo k)
  | .dark mask => (bitsOf 32 mask).foldl Dev.darkBegin (d.undo k)
  | .ledClear mask =>
    { d with img := { d.img with leds := d.img.leds.mapIdx fun i c => if mask.testBit i then { c with test := boolN c.fault } else c } }
  | _ => d

/-- What mailbox m still executes. -/
def Dev.running (d : Dev) (m : Nat) : List JobKind := (d.host.jobs.filter fun j => j.mbx = m && j.completionId = 0).map (·.kind)

/-! ## Mode changes (R517) -/

/-- `sys.service` goes off: USB commands that execute end ABORTED, unless past their effect point (R424, R426). -/
def Dev.endService (d : Dev) : Dev :=
  let d1 := { d with host := { d.host with serviceOn := false } }
  let b := nth d.host.mbx 16
  if ! d.host.serviceOn then d
  else if (b.st == .queued) || (b.st == .executing && ! b.effect) then
    match d.host.jobs.find? fun j => j.mbx = 16 && j.completionId = 0 with
    | some j => (d1.undo j.kind).finish j 0x31 0xFF0C []
    | none => d1.respond 16 0x31 0xFF0C 0 0 []
  else d1

/-- R107: a stroke deferred for LEAVE no longer waits once the device leaves Build. -/
def Marshal.endWaits (m : Marshal) : Marshal :=
  { m with window := m.window.map PoolItem.unwait, repairs := m.repairs.map PoolItem.unwait }

/-- The mode changes; what brought it about is kept for `mode.status` (DESIGN CHOICE, log 12). A change that no command makes has a
Logbook record: origin 6 for Safe, 5 for the Cox (R421, R543). -/
def Dev.setMode (d0 : Dev) (m : Mode) (trigger : Nat) : Dev :=
  let d1 := if m == .ready then d0 else d0.endService
  let d := if trigger = 1 ∨ trigger = 2 then d1
    else d1.logDevice (if trigger = 5 then 6 else 5) (if trigger = 5 then 2 else 0) 0x07 0 (u8 d0.mode.mode.code) (u8 m.code)
  let e := if d0.mode.mode == .build then d.onMar Marshal.endWaits else d
  ({ e with mode := { e.mode with
      mode := m, resumeDue := false, lastFrom := d.mode.mode, lastTrigger := trigger, lastS := d.secLow, lastNs := d.nsNow } }).raise 35

/-- Commands that wait for a mode change that will not come. -/
def Dev.abortModeJobs (d : Dev) : Dev :=
  d.finishJobs (fun k => match k with | .modeSet _ => true | _ => false) 0x31 0 []

/-- The Keep record at a fault (R504). -/
def Dev.keepFault (d : Dev) (f : KeepRec → KeepRec) : Dev :=
  { d with boot := { d.boot with keep := f { d.boot.keep with faultS := d.boot.keepSec % 2 ^ 32 } } }

/-- R467. -/
def Dev.assertWdog (d : Dev) (cause : Nat) : Dev :=
  if d.pins.wdogOut then d
  else (({ d with pins := { d.pins with wdogOut := true } }).event 0xC cause 0xFF 0 0 0).keepFault fun k =>
    { k with faultFlags := k.faultFlags ||| 2 }

/-- What stands in a proof ends without counting. -/
def Dev.dropProofs (d : Dev) : Dev :=
  let d1 := { d with ump := { d.ump with proof := none, proofQueue := [], round := false } }
  d1.finishJobs (fun k => match k with | .proof _ => true | _ => false) 0x31 0 []

/-- R466: SAFE_A and SAFE_B stop, both low. -/
def Pins.safeStop (p : Pins) : Pins := { p with safeToggling := false, safeA := false, safeB := false, safeCntA := 0, safeCntB := 0 }

/-- R465: entry into Safe; a further condition while in Safe is recorded only. -/
def Dev.enterSafe (d : Dev) (cause oar : Nat) : Dev :=
  match d.mode.mode with
  | .safe => d.event 3 cause oar 0 0 0
  | .start | .ready | .build | .hold =>
    let d1 := d.openAll 3
    let d2 := { d1 with
      pins := d1.pins.safeStop
      ump := { d1.ump with safeCause := cause, safeOar := if oar < 32 then oar else 0 }
      mode := { d1.mode with transition := false, urgent := false, holdCauses := [], entry := none } }
    let d3 := ((d2.setMode .safe 5).raise 34).event 2 cause oar 0 0 0
    let d4 := oars32.foldl (fun d k => d.withdraw k true) d3
    let d5 := (((d4.abortModeJobs.dropProofs.imageHalt.recoatSuspend).stopAllAxes fun _ => true).loopsSafe).commandHeads
    ({ d5 with layers := { d5.layers with afterSafe := d5.layers.released.isSome } }).keepFault fun k => { k with faultCode := cause }
  | _ => d

/-- R456, R460: INTLK_N low in Build or Hold enters Safe. -/
def Dev.intlkWatch (d : Dev) : Dev :=
  if ! d.pins.intlk && (d.mode.mode == .hold || d.mode.mode == .build) then d.enterSafe 0x03 0xFF else d

/-- R413: bit 4 or 5 of MODE.MODE has changed since a state of the device. -/
def Dev.showMode (d was : Dev) : Dev :=
  if d.mode.transition = was.mode.transition ∧ d.mode.urgent = was.mode.urgent then d else d.raise 35

/-- R519: entry into Hold from Build or Ready; in Hold a further cause is added, and an urgent one cuts at once. -/
def Dev.enterHold (d : Dev) (cause : HoldCause) (urgent : Bool) (cut : Option Nat) (trigger : Nat) : Dev :=
  let go := d.mode.mode == .build || d.mode.mode == .ready
  if ! go && ! (d.mode.mode == .hold) then d
  else
    let d0 := match cut with
      | some c => d.openAll c
      | none => if urgent then oars32.foldl (fun d k => d.cutStroke k 2) d else d
    let d1 := { d0 with mode := { d0.mode with
      urgent := d0.mode.urgent || urgent
      holdTick := if d0.mode.holdCauses.contains cause then d0.mode.holdTick else d.now
      holdCauses := if d0.mode.holdCauses.contains cause then d0.mode.holdCauses else d0.mode.holdCauses ++ [cause] } }
    if ! go then
      (if d1.mode.entry.isNone then d1
       else { d1 with mode := { d1.mode with entry := none, transition := true } }.abortModeJobs).showMode d
    else
      let d2 := ({ d1 with mode := { d1.mode with
        transition := true, urgent := urgent, holdFrom := d.mode.mode, entry := none, holdCauses := [cause], holdTick := d.now } }).setMode .hold trigger
      (oars32.foldl (fun d k => d.withdraw k true) d2).abortModeJobs.imageHalt.recoatSuspend.commandHeads.intlkWatch

/-- R519: the transition into Hold is complete. -/
def Dev.holdSettled (d : Dev) : Bool :=
  oars32.all fun k => ! (nth d.eng k).exposing && (! d.oarExists k || ! (d.port k).linked || (d.port k).parked)

/-- A fault outside the covered classes in a block of R499 (R472); after one of the Marshal's the pool is rebuilt (R153). -/
def Dev.blockHold (d : Dev) (code index : Nat) : Dev :=
  (if code = 7 then d.onMar fun m => { m with rebuildDue := true } else d).enterHold (.block code index) false none 4

/-- R340: a fault that ended a recoat step brings the device into Hold. -/
def Dev.recoatWatch (d : Dev) : Dev :=
  if d.slides.recoat.faulted && ! d.slides.recoat.suspended then
    (d.enterHold (.axis ((d.slides.recoat.arg.map (·.recoater)).getD 0)) false none 4).onRecoat fun r => { r with suspended := true }
  else d.recoatRested

/-! ## Entry into Ready (R453, R517, R520) -/

/-- R453: cores out of service are self-tested and resynchronised; one that left twice within 24 h stays out. -/
def Dev.resyncCores (d : Dev) : Dev :=
  (List.range 3).foldl (fun d i =>
    let c := nth d.ump.cores i
    if c.inService || c.stays then d
    else
      let r := d.flip
      if ! r.1 then r.2
      else
        let cs := upd r.2.ump.cores i fun c => { c with inService := true, live := true, differs := 0 }
        let d1 := { r.2 with ump := { r.2.ump with cores := cs, degraded := cs.any (! ·.inService) } }
        d1.event 5 0 0xFF 0 0 i) d

/-- R562: a rail that is out of its window when the device comes into Ready brings Hold. -/
def Dev.railWatch (d : Dev) : Dev := if d.pins.railBad.any id then d.enterHold .rail false none 4 else d

/-- Entry into Ready from Build, Hold or Safe. -/
def Dev.toReady (d : Dev) (trigger : Nat) : Dev :=
  let leave := d.mode.mode == .build
  let d1 := ({ d with mode := { d.mode with transition := false, urgent := false, holdCauses := [], entry := none } }).setMode .ready trigger
  (if leave then d1.imageHalt.recoatSuspend.stopAllAxes fun _ => true else d1).resyncCores.commandHeads.railWatch

/-! ## Entry into Build (R518) -/

/-- R482: 0 REFCLK, 1 the steering domain, 2 USB start-of-frame in service, 3 none. -/
def Dev.trimReference (d : Dev) : Nat :=
  if nth d.clk.qualified 0 then 0 else if d.time.locked then 1 else if d.host.serviceOn then 2 else 3

/-- R483: the selected source is fit for Build; the IRO is while REFCLK or a locked domain trims it. -/
def Dev.sourceFit (d : Dev) : Bool := nth d.clk.qualified d.clk.sel && (d.clk.sel ≠ 2 || d.trimReference ≤ 1)

/-- The first condition of R518 that fails. -/
def Dev.buildRefusal (d : Dev) : Option Nat :=
  if ! d.pins.intlk then some 0x13
  else if d.ump.active.isNone then some 0x13
  else if ! d.sourceFit then some 0x10
  else if 11000 ≤ d.therm.c100 ∨ d.therm.broken then some 0x10
  else if d.mode.transition then some 0x12
  else none

/-- R215: the scanner slots of trained ports enter AUTO, with the preset of R208. -/
def Dev.scannersAuto (d : Dev) : Dev :=
  (List.range 96).foldl (fun d n =>
    if ! d.oarExists (n / 3) ∨ (d.slot n).desc.isNone ∨ ! (d.port (n / 3)).hearing then d else d.onSlot n LoopSlot.toAuto) d

/-- Step B begins with its image; a required image that is ABSENT holds it at its start (R358). -/
def Dev.spreadBegin (d : Dev) : Dev :=
  let r := d.imageStart
  if r.2 then
    let d1 := r.1.onRecoat fun q => { q with step := 2, suspended := true }
    (d1.onRecoat fun q => { q with waiting := q.moves.map (·.1) }).enterHold .image false none 4
  else r.1.recoatBegin 2

/-- R153: the pool as the list gives it: what is unsettled stands undispatched in the order of the list, without deferrals. -/
def Marshal.rebuild (m : Marshal) : Marshal :=
  let fresh := fun (i : PoolItem) =>
    { poolItem i.stroke (if i.stroke.repair.isSome then .repair else .window) with bound := i.bound }
  let held := m.pending.map (·.item) ++ m.oars.flatMap fun o => o.buf.map (·.item)
  { m with
    rebuildDue := false
    window := ((m.window ++ held.filter fun i => i.stroke.repair.isNone).map fresh).insertionSort fun a b => a.stroke.seq ≤ b.stroke.seq
    repairs := (m.repairs ++ held.filter fun i => i.stroke.repair.isSome).map fresh
    pending := []
    oars := m.oars.map fun o => { o with buf := [], keptFor := none } }

/-- R153: the pool rebuilt from the list, its strokes' leaves given back. -/
def Dev.rebuildPool (d : Dev) : Dev :=
  { d.onMar Marshal.rebuild with gov := { d.gov with
    waiting := d.gov.waiting.filter fun l => ! l.who.isStroke, grants := d.gov.grants.filter fun l => ! l.who.isStroke } }

/-- The stages before Build are over: MODE.MODE shows Build, scanner slots enter AUTO, and what was interrupted goes on, after
a failure of the Marshal from a pool built anew (R153). -/
def Dev.finishBuild (d0 : Dev) : Dev :=
  let d := if d0.mar.rebuildDue then d0.rebuildPool else d0
  let trig := (d.mode.entry.map (·.trigger)).getD 1
  let d1 := ({ d with mode := { d.mode with transition := false, urgent := false, holdCauses := [], entry := none } }).setMode .build trig
  let d2 := d1.scannersAuto.commandHeads
  let d3 := { d2 with layers := { d2.layers with
    afterSafe := false
    waitSince := if d2.layers.released.isNone && d2.layers.queue.isEmpty then some d2.now else d2.layers.waitSince } }
  let d4 := d3.finishJobs (fun k => match k with | .modeSet 5 => true | _ => false) 0 0 (u32 5)
  let r := d4.slides.recoat
  if r.step = 0 || ! (r.suspended || r.faulted) then d4
  else if d4.recoatUnhomed then d4.enterHold .unhomed false none 4
  else if d4.imageHeld then d4.spreadBegin
  else d4.recoatStep

/-- R298, R518: the proofs are over; the ports of the oars in E are woken, those from IDLE retrained. -/
def Dev.entryWake (d : Dev) (e : BuildEntry) : Dev :=
  let ports := oars32.filter d.oarExists
  let cold := ports.filter fun n => (d.port n).sleep = 4 && ! ((d.port n).st == .failed)
  let d1 := ports.foldl (fun d n => d.wakePort n) d
  { d1 with mode := { d1.mode with entry := some { e with trains := cold, woken := true } } }

/-- The stages before Build in their order (R518): the proofs due, then ports woken and trained, then Build. -/
def Dev.entryCheck (d : Dev) : Dev :=
  match d.mode.entry with
  | some e =>
    if e.proofs.any fun k => d.provable k && d.proofOld k then d
    else
      let d1 := if e.woken then d else d.entryWake e
      let trains := match d1.mode.entry with | some f => f.trains | none => []
      let asleep := fun (n : Nat) => let p := d1.port n; p.st == .trained && (p.sleep ≠ 0 || p.sleepReq.isSome)
      if trains.any (fun n => ! (d1.port n).settled) || (oars32.filter d.oarExists).any asleep then d1 else d1.finishBuild
  | none => d

/-- An accepted entry into Build begins with the proofs due. -/
def Dev.beginBuild (d : Dev) (trigger : Nat) : Dev :=
  let due := oars32.filter fun k => d.provable k && d.proofOld k
  let d2 := { d with
    mode := { d.mode with transition := true, entry := some ⟨due, [], false, trigger, d.now⟩ }
    ump := { d.ump with proofQueue := d.ump.proofQueue ++ due.filter fun k => ! d.ump.proofQueue.contains k } }
  (d2.showMode d).entryCheck

/-! ## The end of a cause of Hold (R473, R487, R516, R517, R562) -/

/-- Whether the automatic resume of R473 and R487 goes on from this cause. -/
def HoldCause.resumes : HoldCause → Bool
  | .clockLoss | .block _ _ => true
  | _ => false

/-- A cause of the Hold ends: back to Ready where it was entered from there, or into Build where FAULT_RESUME lets it. -/
def Dev.holdCauseEnds (d : Dev) (p : HoldCause → Bool) : Dev :=
  if ! (d.mode.mode == .hold) || ! d.mode.holdCauses.any p then d
  else
    let left := d.mode.holdCauses.filter fun c => ! p c
    let d1 := { d with mode := { d.mode with holdCauses := left } }
    if left ≠ [] then d1
    else if d.mode.holdFrom == .ready then (if oars32.any fun k => (nth d1.eng k).exposing then d1 else d1.toReady 3)
    else if d1.ump.faultResume && d.mode.holdCauses.any (fun c => p c && c.resumes) then
      (match d1.buildRefusal with
        | none => d1.beginBuild 3
        | some _ => { d1 with mode := { d1.mode with resumeDue := d1.mode.transition } })
    else d1

/-! ## Loss of the step clock (R340), thermal shutdown (R462) -/

/-- R462: Safe, THERM_N, and every clock but AON stops. -/
def Dev.thermalShutdown (d : Dev) (cause : Nat) : Dev :=
  let d1 := (d.enterSafe cause 0xFF).stepAbort.keepFault fun k => { k with faultFlags := k.faultFlags ||| 1 }
  { d1 with
    pins := { d1.pins.safeStop with therm := true }
    ump := { d1.ump with thermalDown := true } }

end Sys2Proof.Machine
end

