-- ==== Sys2Proof/Machine/DramFx.lean ====
section
/-! DEFINITION. What reading and writing device DRAM brings about beside the data: where an address lies (R371, R372),
error records (R391), retirement (R386 to R388), reads of host-supplied data (R376). -/

namespace Sys2Proof.Machine

/-! ## Population and addresses -/

/-- The present rank whose width and density all share: width, density in Gbit. -/
def MemCtl.device (m : MemCtl) : Nat × Nat :=
  match (m.chans.flatMap (·.chips)).find? (·.present) with
  | some r => (r.width, r.gbit)
  | none => (8, 16)

/-- ROW bits (R371). -/
def MemCtl.rowBits (m : MemCtl) : Nat := if m.device = (8, 16) then 16 else 17

/-- Bytes of one rank index across both channels. -/
def MemCtl.rankSpan (m : MemCtl) : Nat := 2 ^ (19 + m.rowBits)

/-- Working capacity (R367). -/
def MemCtl.capacity (m : MemCtl) : Nat := (m.chans.headD default).roles.length * m.rankSpan

/-- HOST_LIMIT (R374). -/
def MemCtl.hostLimit (m : MemCtl) : Nat := m.capacity - 2 ^ 30

/-- Whether a command may name a range (R374). -/
def Dev.rangeOk (d : Dev) (addr len : Nat) : Bool := addr + len ≤ d.mc.hostLimit

/-- A place in DRAM: subchannel, physical rank of its channel, bank used, column, row. -/
structure Loc where
  subch : Nat
  rank : Nat
  bank : Nat
  col : Nat
  row : Nat
deriving Inhabited

/-- The 1 MiB chunk of rank storage that holds a place. -/
def Dev.chunkOf (d : Dev) (l : Loc) : Nat := (l.col + 64 * l.bank + 2048 * l.row) * 128 / 2 ^ 20 % (d.mc.rankSpan / 2 ^ 21)

/-- The chunk that a migration copies as its n-th (R387). -/
def Migration.chunk (m : Migration) (n : Nat) : Nat :=
  match m.first with
  | none => n
  | some f => if n = 0 then f else if n ≤ f then n - 1 else n

/-- Whether a chunk has been copied to the spare. -/
def Migration.has (m : Migration) (c : Nat) : Bool := (List.range m.copied).any fun n => m.chunk n = c

/-- Where an address lies: a copied chunk of a migrating rank lies in the spare (R387). -/
def Dev.locOf (d : Dev) (addr : Nat) : Loc :=
  let sub := addr / 64 % 4
  let x := addr / 256
  let per := 2 ^ (11 + d.mc.rowBits)
  let f := orderFields d.mc.order d.mc.rowBits (x % per)
  let ch := nth d.mc.chans (sub / 2)
  let l : Loc := ⟨sub, ch.roles.getD (x / per) 0, f.1, f.2.1, f.2.2⟩
  match ch.mig with
  | some m => if m.rank = l.rank && m.has (d.chunkOf l) then { l with rank := ch.ranks.idxOf .spare } else l
  | none => l

/-! ## Error records (R391) -/

/-- A record filed; corrected errors of the same rank, bank and row within 1 s count in one record. -/
def Dev.errRec (d : Dev) (kind src addr symbol : Nat) (l : Loc) : Dev :=
  let same := fun (r : ErrRec) => kind = 1 ∧ r.kind = 1 ∧ r.subch / 2 = l.subch / 2 ∧ r.rank = l.rank ∧ r.bank = l.bank ∧
    r.row = l.row ∧ d.now ≤ r.tick + sT 1
  if d.mc.errs.any fun r => same r then
    { d with mc := { d.mc with errs := d.mc.errs.map fun r => if same r then { r with count := min 65535 (r.count + 1) } else r } }
  else
    let r : ErrRec := ⟨d.secLow, d.nsNow, if addr = 2 ^ 64 - 1 then addr else addr / 64 * 64, kind, src, l.subch, l.rank, l.bank, symbol, 1, l.row, l.col, d.now⟩
    let es := d.mc.errs ++ [r]
    { d with mc := { d.mc with errs := es.drop (es.length - 1024) } }

/-- The 32 bytes of R391. -/
def ErrRec.bytes (r : ErrRec) : List Byte :=
  u32 r.timeS ++ u32 r.timeNs ++ u64 r.addr ++ u8 r.kind ++ u8 r.source ++ u8 r.subch ++ u8 r.rank ++ u8 r.bank ++
  u8 r.symbol ++ u16 r.count ++ u32 r.row ++ u16 r.col ++ u16 0

def Dev.onChan (d : Dev) (c : Nat) (f : DramChan → DramChan) : Dev := { d with mc := { d.mc with chans := upd d.mc.chans c f } }

/-! ## Retirement (R386 to R389) -/

/-- The rank map as a Logbook record digests it. -/
def MemCtl.mapBytes (m : MemCtl) : List Byte :=
  let code : RankState → Nat := fun s => match s with
    | .absent => 0
    | .working => 1
    | .migrating => 2
    | .retired => 3
    | .spare => 4
    | .active => 5
  m.chans.flatMap fun c => c.ranks.flatMap (fun s => u32 (code s)) ++ listOf u32 c.roles

/-- A change of the rank map, as it is in force and as flash holds it (R389). -/
def DramChan.change (rank : Nat) (st : RankState) (roles : List Nat → List Nat) (c : DramChan) : DramChan :=
  { c with
    ranks := c.ranks.set rank st, mapRanks := c.mapRanks.set rank st, roles := roles c.roles, mapRoles := roles c.mapRoles }

/-- A change of the rank map, with its Logbook record (R389): origin 5, the device itself. -/
def Dev.changeMap (d : Dev) (c : Nat) (f : DramChan → DramChan) : Dev :=
  let d1 := d.onChan c f
  d1.logDevice 5 0 0x09 c d.mc.mapBytes d1.mc.mapBytes

def DramChan.hasSpare (c : DramChan) : Bool := c.ranks.contains .spare && c.mig.isNone && c.testing.isNone

/-- Leave that a migration reserves, mW (R524). -/
def MemCtl.migDraw (m : MemCtl) : Nat := 2500 * m.migRate / 4

/-- Leave of device-initiated maintenance: what is refused files a health record (R527). -/
def Dev.askLeave (d : Dev) (who : Requester) (prio chipMw : Nat) : Answer × Dev :=
  let r := d.request who prio chipMw 0
  match r.1 with
  | .refused n => (.refused n, if prio = 4 then r.2.healthRec 0x0C 1 0x0F 0xFF n 0 0 0 else r.2)
  | a => (a, r.2)

/-- A rank becomes MIGRATING to its channel's spare (R387, R391). -/
def Dev.markMigration (d : Dev) (c rank : Nat) (first : Option Nat) (granted : Bool) : Dev :=
  let d1 := d.onChan c fun ch => { ch.change rank .migrating id with
    mig := some ⟨rank, first, 0, d.mc.rankSpan / 2 ^ 21, granted, (d.now : Rat)⟩ }
  (d1.errRec 4 6 (2 ^ 64 - 1) 0xFF ⟨2 * c, rank, 0, 0, 0⟩).spoil 0x07 c 0x002 true rank

/-- R387: the copy of a rank begins by the device's own decision. -/
def Dev.startMigration (d : Dev) (c rank : Nat) (first : Option Nat) : Dev :=
  let r := d.askLeave (.migration c) 4 d.mc.migDraw
  let d1 := r.2.markMigration c rank first (r.1 = .granted)
  d1.logDevice 5 0 0x09 c d.mc.mapBytes d1.mc.mapBytes

/-- R390: what tells of a retirement that is complete. -/
def Dev.retireDone (d : Dev) (c rank : Nat) : Dev :=
  ((d.errRec 5 6 (2 ^ 64 - 1) 0xFF ⟨2 * c, rank, 0, 0, 0⟩).spoil 0x07 c 0x003 true rank).healthRec 0x08 0 0x07 c
    (nth d.mc.chans c).roles.length 0 0 0

/-- R386: an unused spare is retired; there is nothing to copy (DESIGN CHOICE, log 137). -/
def Dev.spareRetired (d : Dev) (c rank : Nat) : Dev :=
  let d1 := d.changeMap c (DramChan.change rank .retired id)
  ((d1.errRec 4 6 (2 ^ 64 - 1) 0xFF ⟨2 * c, rank, 0, 0, 0⟩).spoil 0x07 c 0x002 true rank).retireDone c rank

/-- R386, R388: a trigger in a physical rank. -/
def Dev.rankTrigger (d : Dev) (c rank : Nat) (uncorrectable : Bool) (first : Option Nat) : Dev :=
  let ch := nth d.mc.chans c
  let own : Bool := match ch.mig with | some m => decide (m.rank = rank) | none => false
  if own then d
  else if nth ch.ranks rank == .spare && ch.mig.isNone then d.spareRetired c rank
  else if ch.hasSpare && ch.roles.contains rank then d.startMigration c rank first
  else
    let d1 := { d with mc := { d.mc with exhausted := true } }
    let d2 := ((d1.healthRec 0x08 2 0x07 c 0 0 0 0).errRec 8 4 (2 ^ 64 - 1) 0xFF ⟨2 * c, rank, 0, 0, 0⟩).spoil 0x07 c 0x004 true rank
    if uncorrectable then d2.enterHold .dram false none 4 else d2

/-- R376, R386: a corrected error counts against its rank; more than CE_LIMIT within 1 h are a trigger. -/
def Dev.rankCorrected (d : Dev) (c rank : Nat) (first : Option Nat) : Dev :=
  let d1 := d.onChan c fun ch => { ch with
    ce := upd ch.ce rank (· + 1)
    ceTicks := upd ch.ceTicks rank fun ts => d.now :: ts.filter fun t => d.now < t + sT 3600 }
  let n := ((nth d1.mc.chans c).ceTicks.getD rank []).length
  if d1.mc.ceLimit ≠ 0 ∧ d1.mc.ceLimit < n then
    (d1.onChan c fun ch => { ch with ceTicks := upd ch.ceTicks rank fun _ => [] }).rankTrigger c rank false first
  else d1

/-- R376: a corrected error that a read of a burst met. -/
def Dev.corrected (d : Dev) (src addr symbol : Nat) : Dev :=
  let l := d.locOf addr
  (d.errRec 1 src addr symbol l).rankCorrected (l.subch / 2) l.rank (some (d.chunkOf l))

/-- R262: a burst of a recording ring is uncorrectable; the event has the low 32 bits of its offset (DESIGN CHOICE, log 151). -/
def Dev.ringDamage (d : Dev) (addr : Nat) : Dev :=
  match (List.range 3).find? fun r =>
      let g := nth d.recd.rings r
      g.configured && g.base ≤ addr && addr < g.base + g.size with
  | none => d
  | some r =>
    let off := addr / 64 * 64 - (nth d.recd.rings r).base
    let rs := upd d.recd.rings r fun g => { g with flags := g.flags ||| 1 }
    ({ d with recd := { d.recd with rings := rs } }).eventNow 0xFF 0x19 (u8 r ++ [0, 0, 0] ++ u32 off ++ u32 64)

/-- R376: what becomes of a burst of the Cox's own data that it finds poisoned as it uses it: the Cox rewrites it whole from flash
or its own copies, or cannot, and the device enters Hold; which of the two is free (log 138). -/
def Dev.coxData (d : Dev) (m : Dram) (addr : Nat) : Dev × List DramOp :=
  let r := d.flip
  let a := addr / 64 * 64
  if r.1 then (r.2, [.write a (memBytes m.mem a 64)]) else (r.2.enterHold .dram false none 4, [])

/-- R376, R386: an uncorrectable error that a read of a burst met: the burst is poisoned. -/
def Dev.uncorrectable (d : Dev) (src addr : Nat) : Dev × List DramOp :=
  let l := d.locOf addr
  let c := l.subch / 2
  let d1 := ((d.errRec 2 src addr 0xFF l).spoil 0x07 l.subch 0x001 true (addr / 64 * 64 % 2 ^ 32)).onChan c fun ch =>
    { ch with ue := upd ch.ue l.rank (· + 1) }
  ((d1.ringDamage addr).rankTrigger c l.rank true (some (d.chunkOf l)), [.poison (burstOf addr)])

/-- One burst read: what it meets of its own and of what was injected; whether the data is sound. -/
def Dev.readBurst (d : Dev) (m : Dram) (src addr : Nat) (o : EccOutcome) : Dev × List DramOp × Bool :=
  let b := burstOf addr
  let inj := (m.injected.find? (·.1 = b)).map (·.2)
  if m.poison.contains b then
    let d1 := d.errRec 3 src addr 0xFF (d.locOf addr)
    (if src = 5 ∨ src = 6 then d1 else d1.ringDamage addr, [], false)
  else if o = .uncorrectable ∨ inj = some true then
    let r := d.uncorrectable src addr
    (r.1, r.2, false)
  else match o, inj with
    | .corrected s, _ => (d.corrected src addr s, [.clearInject b], true)
    | _, some false => (d.corrected src addr 0xFF, [.clearInject b], true)
    | _, _ => (d, [], true)

/-- The Cox reads a burst of its own data, above HOST_LIMIT (R374, R376). -/
def Dev.coxReads (d : Dev) (m : Dram) (b : Nat) : Dev × List DramOp :=
  if 64 * b < d.mc.hostLimit ∨ d.mc.capacity ≤ 64 * b then (d, [])
  else
    let r := d.readBurst m 4 (64 * b) .clean
    if r.2.2 then (r.1, r.2.1)
    else
      let x := r.1.coxData m (64 * b)
      (x.1, r.2.1 ++ x.2)

/-- R379: a row of a bank is opened; with probability 2^-k its neighbours are refreshed (log 139). -/
def Dev.openRow (d : Dev) (p : Nat × Nat × Nat × Nat) : Dev :=
  let r := d.draw (2 ^ d.mc.k)
  let row := p.2.2.2
  let rows := (if row = 0 then [] else [row - 1]) ++ (if row + 1 < 2 ^ d.mc.rowBits then [row + 1] else [])
  { r.2 with mc := { r.2.mc with
    neighbourCount := r.2.mc.neighbourCount + (if r.1 = 0 then 1 else 0)
    neighbours := if r.1 = 0 then [p.1, p.2.1, p.2.2.1] ++ rows else r.2.mc.neighbours } }

/-- Subchannel, physical rank, bank and row of a place. -/
def Loc.place (l : Loc) : Nat × Nat × Nat × Nat := (l.subch, l.rank, l.bank, l.row)

/-- R379: an access to a range opens each of the rows that it lies in once (log 139). -/
def Dev.activate (d : Dev) (addr len : Nat) : Dev :=
  (((burstsOf addr len).map fun b => (d.locOf (64 * b)).place).dedup).foldl Dev.openRow d

/-- The bursts of a range of which something is known beside their data. -/
def Dram.marked (m : Dram) (addr len : Nat) : List Nat :=
  ((m.poison ++ m.injected.map (·.1)).dedup).filter fun b => addr < 64 * b + 64 ∧ 64 * b < addr + len

/-- A range read by a requester, its rows opened (R379), an ECC outcome at its first burst: the device after it, the effects,
whether the data is sound. -/
def Dev.readRange (d0 : Dev) (m : Dram) (src addr len : Nat) (o : EccOutcome) : Dev × List DramOp × Bool :=
  let d := d0.activate addr len
  let b0 := burstOf addr
  let bs := (if o = .clean then [] else [b0]) ++ (m.marked addr len).filter fun b => o = .clean ∨ b ≠ b0
  bs.foldl (fun r b =>
    let x := r.1.readBurst m src (64 * b) (if b = b0 then o else .clean)
    (x.1, r.2.1 ++ x.2.1, r.2.2 && x.2.2)) (d, [], true)

/-! ## Damaged list blocks (R100, R377) -/

/-- The 64 KiB block of a list that holds an address. -/
def LayerRec.blockAt (l : LayerRec) (addr : Nat) : Option Nat :=
  if l.desc.listAddr ≤ addr ∧ addr < l.desc.listAddr + 32 * l.desc.listCount then some ((addr - l.desc.listAddr) / 65536) else none

def LayerRec.damage (b : Nat) (l : LayerRec) : LayerRec := { l with damaged := insertAsc b l.damaged }

/-- The spoil record and the reload interrupt of a damaged block. -/
def Dev.damageReport (d : Dev) (b : Nat) : Dev := (d.spoil 0x02 0xFF 0x001 true b).raise 18

/-- A block is marked damaged as R100 has it, in every queued or released list that holds an address. -/
def Dev.damageAt (d : Dev) (addr : Nat) : Dev :=
  let mark := fun (l : LayerRec) => match l.blockAt addr with | some b => l.damage b | none => l
  let fresh := (d.layers.released.toList ++ d.layers.queue).filterMap fun (l : LayerRec) =>
    (l.blockAt addr).bind fun b => if l.damaged.contains b then none else some b
  fresh.foldl Dev.damageReport
    { d with layers := { d.layers with released := d.layers.released.map mark, queue := d.layers.queue.map mark } }

/-- R376: host-supplied data that a command reads: none when a burst is uncorrectable, which counts as a failed check
code. -/
def Dev.hostData (d : Dev) (m : Dram) (addr len : Nat) : Dev × List DramOp × Option (List Byte) :=
  let r := d.readRange m 4 addr len .clean
  (r.1, r.2.1, if r.2.2 then some (memBytes m.mem addr len) else none)

/-- R376: a write of part of a poisoned burst is recorded. -/
def Dev.partialPoison (d : Dev) (m : Dram) (src addr len : Nat) : Dev :=
  ((burstsOf addr len).filter fun b => m.poison.contains b && ! wholeBurst addr len b).foldl
    (fun d b => d.errRec 7 src (64 * b) 0xFF (d.locOf (64 * b))) d

/-- The writes of a requester, one after the other, as rows are opened (R379) and parts of poisoned bursts are recorded (R376). -/
def Dev.countPartials (d : Dev) (m : Dram) (src : Nat) (ops : List DramOp) : Dev :=
  (ops.foldl (fun (r : Dev × Dram) o =>
    (match o with
      | .write a bs => (r.1.activate a bs.length).partialPoison r.2 src a bs.length
      | _ => r.1, o.apply r.2)) (d, m)).1

/-- A write by the Cox for a command, with what it brings about (R376, R379). -/
def Dev.coxWrite (d : Dev) (m : Dram) (addr : Nat) (bs : List Byte) : Dev × List DramOp :=
  (d.countPartials m 4 [.write addr bs], [.write addr bs])

/-- The recorder's writes, with the error records that they give (R376). -/
def recWrites (m : Dram) (r : Dev × List DramOp) : Dev × List DramOp := (r.1.countPartials m 1 r.2, r.2)

/-- A command that installs data from DRAM under a CRC-32C: refused as BAD_ARG when the data fails it. -/
def withData (m : Dram) (d : Dev) (addr len crc detail : Nat) (f : Dev → List Byte → List DramOp → Res) : Res :=
  let r := d.hostData m addr len
  match r.2.2 with
  | some bs => if crc32c bs = crc then f r.1 bs r.2.1 else .refuseWith r.1 0x21 detail 0 [] r.2.1
  | none => .refuseWith r.1 0x21 detail 0 [] r.2.1

end Sys2Proof.Machine
end

