-- ==== Sys2Proof/Machine/Flags.lean ====
section
/-! DEFINITION. The status and flag words of the register map and what a read of BAR0 returns (R401, R397, R398, R552). -/

namespace Sys2Proof.Machine

def bitAt (n : Nat) (b : Bool) : Nat := if b then 2 ^ n else 0

/-- ID.PART (R401, R552). -/
def Dev.idPart (d : Dev) : Nat :=
  if d.boot.compat then 0x000C1200 else 0x3200 + 0x10000 * (if d.fuses.part16 then 16 else 32)

/-- ID.FW: the running firmware, valid from step S6. -/
def Dev.idFw (d : Dev) : Nat :=
  match d.boot.running with
  | some 0 => (d.boot.slotA.map (·.fwVersion)).getD 0 % 2 ^ 24
  | some _ => (d.boot.slotB.map (·.fwVersion)).getD 0 % 2 ^ 24 + 2 ^ 24
  | none => 0

/-- MODE.MODE. -/
def Dev.modeWord (d : Dev) : Nat := d.mode.mode.code + bitAt 4 d.mode.transition + bitAt 5 d.mode.urgent

/-- MODE.RESET_CAUSE, native and in COMPAT (R401, R552). -/
def Dev.resetCause (d : Dev) : Nat :=
  if d.boot.compat then
    bitAt 0 (d.boot.causeSource ≠ 2) + bitAt 1 (d.boot.causeSource = 2) + bitAt 2 (d.boot.causeBits.testBit 0) +
      bitAt 3 (d.boot.causeBits.testBit 1)
  else d.boot.causeLevel + 4 * d.boot.causeSource + 16 * d.boot.causeBits

/-- R400: the PCIe link runs below its full width or rate. -/
def HostIf.degraded (h : HostIf) : Bool := h.linkUp && (h.lanes < 8 || h.rate < 32)

/-- What MODE.HEALTH_SUMMARY sums up (R401). -/
def Dev.healthLive (d : Dev) : Nat :=
  bitAt 0 (d.links.ports.any (·.st == .failed)) + bitAt 1 (d.links.ports.any fun p => p.fallback || p.headFallback) +
  bitAt 2 (d.mc.chans.any fun c => c.ranks.any fun r => r == .retired || r == .migrating) + bitAt 3 d.mc.exhausted +
  bitAt 4 (d.loops.inService.any (! ·)) + bitAt 5 (d.boot.coxCores ≠ 15) +
  bitAt 6 (d.ump.cores.any (! ·.inService)) +
  bitAt 7 (d.clk.fabric.restartTick.isSome || d.clk.fabric.dead || d.clk.exposure.restartTick.isSome || d.clk.exposure.dead) +
  bitAt 8 (d.time.doms.any (·.lost)) + bitAt 9 d.host.degraded + bitAt 10 (d.time.eth.any (! ·.up)) +
  2048 * (d.therm.band % 8) + bitAt 14 d.cal.marginLow + bitAt 15 d.boot.skipped + bitAt 16 (d.boot.calFailed || d.cal.blocks.any fun l => l.any (·.failed))

/-- MODE.HEALTH_SUMMARY (R401): 0 after a Full reset (R14), updated within 1 ms of frame ticks (DESIGN CHOICE, log 107). -/
def Dev.healthSummary (d : Dev) : Nat := if d.now < msT 1 then 0 else d.healthLive

/-- MODE.COMPAT_STATE. -/
def Dev.compatState (d : Dev) : Nat := bitAt 0 d.boot.compatPin + bitAt 1 d.fuses.compatLock + bitAt 2 d.boot.compat

/-- SAFETY.INPUTS. -/
def Dev.safetyInputs (d : Dev) : Nat :=
  bitAt 0 d.pins.estopA + bitAt 1 d.pins.estopB + bitAt 2 d.pins.intlk +
  bitAt 3 d.ump.latched + bitAt 4 d.pins.safeToggling + bitAt 5 d.pins.safeToggling +
  bitAt 6 d.pins.therm + bitAt 7 d.pins.wdogOut

/-- SAFETY.VOTE. -/
def Dev.voteWord (d : Dev) : Nat := d.ump.votes + bitAt 3 d.ump.degraded + 16 * (d.ump.lastCore % 4)

def MbxState.code : MbxState → Nat
  | .free => 0
  | .queued => 1
  | .executing => 2
  | .done => 3

/-- DOORBELL.MBX_STATUS. -/
def Dev.mbxStatus (d : Dev) : Nat := (List.range 16).foldl (fun w n => w + (nth d.host.mbx n).st.code * 4 ^ n) 0

/-- TIME.STATUS. -/
def Dev.timeStatus (d : Dev) : Nat :=
  bitAt 0 d.time.snapTaken + bitAt 1 d.time.locked + 4 * (match d.time.steer with | some k => k + 1 | none => 0)

def Logs.newest (l : Logs) : Nat := (l.chip.getLast?.map (·.seq)).getD 0
def Logs.oldest (l : Logs) : Nat := (l.chip.head?.map (·.seq)).getD 0
def Logs.spoilOldest (l : Logs) : Nat := (l.spoil.head?.map (·.seq)).getD 0

/-- A window of records from a sequence number on, zero where no record is held (R401). -/
def windowBytes (recs : List (Nat × List Byte)) (size first count : Nat) : List Byte :=
  (List.range count).flatMap fun i =>
    ((recs.find? (·.1 = first + i)).map (·.2)).getD (List.replicate size 0)

def Dev.logWindow (d : Dev) : List Byte :=
  windowBytes (d.logs.chip.map fun r => (r.seq, r.bytes)) 128 d.host.logSelect 254

def Dev.spoilWindow (d : Dev) : List Byte :=
  windowBytes (d.logs.spoil.map fun r => (r.seq, r.bytes)) 32 d.host.spoilSelect 1016

/-- The 4096 bytes of MBX.n: the command area, then the response area (R408). -/
def Dev.mbxArea (d : Dev) (n : Nat) : List Byte :=
  let b := nth d.host.mbx n
  let r := (b.resp.map (Response.bytes d.boot.compat)).getD []
  memBytes b.cmd 0 0x800 ++ (r ++ List.replicate (0x800 - r.length) 0)

/-- A register of R401 of 32 bits, by its offset, as the function reads it. IRQ.TEST reads as the cause bits it sets, its
current value as a W1S register (R16; DEDUCED, log 108). -/
def Dev.reg (d : Dev) (pf1 : Bool) (o : Nat) : Nat :=
  let q := if pf1 then d.host.irq1 else d.host.irq0
  if o = 0x0 then d.idPart
  else if o = 0x4 then d.fuses.stepping % 256 + 256 * (d.fuses.package % 256)
  else if o = 0x8 then d.oarCount
  else if o = 0xC then d.idFw
  else if o = 0x10 then d.fuses.serial % 2 ^ 32
  else if o = 0x14 then d.fuses.serial / 2 ^ 32 % 2 ^ 32
  else if o = 0x18 then d.fuses.caps % 8 + bitAt 3 d.fuses.compatLock
  else if o = 0x1000 then d.modeWord
  else if o = 0x1008 then d.host.modeReq.last % 16 + 256 * d.host.modeReq.status + 65536 * d.host.modeReq.detail
  else if o = 0x100C then d.resetCause
  else if o = 0x1010 then d.healthSummary
  else if o = 0x1014 then d.compatState
  else if o = 0x2000 then d.ump.trip.toNat
  else if o = 0x2004 then d.ump.safeCause + 256 * d.ump.safeOar
  else if o = 0x2008 then d.safetyInputs
  else if o = 0x200C then d.voteWord
  else if o = 0x2010 then boolN d.host.hostStop
  else if o = 0x3040 then d.mbxStatus
  else if o = 0x3048 then d.host.mbxErr.toNat
  else if o = 0x304C then d.host.acceptSeq % 2 ^ 32
  else if o = 0x4000 then q.cause.toNat % 2 ^ 32
  else if o = 0x4004 then q.cause.toNat / 2 ^ 32
  else if o = 0x4008 then q.enable.toNat % 2 ^ 32
  else if o = 0x400C then q.enable.toNat / 2 ^ 32
  else if o = 0x4010 then q.holdoff
  else if o = 0x4014 then q.cause.toNat % 2 ^ 32
  else if o = 0x4018 then q.cause.toNat / 2 ^ 32
  else if o = 0x20004 then d.time.snapSec % 2 ^ 32
  else if o = 0x20008 then d.time.snapSec / 2 ^ 32 % 2 ^ 32
  else if o = 0x2000C then d.time.snapNs
  else if o = 0x20010 then d.time.snapFrac
  else if o = 0x20014 then d.time.snapTick % 2 ^ 32
  else if o = 0x20018 then d.time.snapTick / 2 ^ 32 % 2 ^ 32
  else if o = 0x2001C then d.timeStatus
  else if o = 0x20020 then d.time.steps
  else if o = 0x30000 then d.logs.newest
  else if o = 0x30004 then d.logs.oldest
  else if o = 0x30008 then d.host.logSelect
  else if o = 0x3000C then 128
  else if o = 0x38000 then d.logs.spoilNewest
  else if o = 0x38004 then d.logs.spoilOldest
  else if o = 0x38008 then d.host.spoilSelect
  else if o = 0x3800C then d.logs.spoilRelease
  else if o = 0x38010 then d.logs.overflow.foldl (· + ·) 0
  else 0

/-- What an aligned 4-byte read of BAR0 returns: a register, a window, a mailbox area, or zero in a gap (R15, R401). -/
def Dev.bar0 (d : Dev) (pf1 : Bool) (o : Nat) : Nat :=
  if 0x10000 ≤ o ∧ o < 0x20000 then unle (((d.mbxArea ((o - 0x10000) / 0x1000)).drop (o % 0x1000)).take 4)
  else if 0x30100 ≤ o ∧ o < 0x38000 then unle ((d.logWindow.drop (o - 0x30100)).take 4)
  else if 0x38100 ≤ o ∧ o < 0x40000 then unle ((d.spoilWindow.drop (o - 0x38100)).take 4)
  else d.reg pf1 o % 2 ^ 32

end Sys2Proof.Machine
end

