-- ==== Sys2Proof/Machine/HostOps.lean ====
section
/-! DEFINITION. The host interface's shared operations: mailboxes (R407), register writes (R401, R413, R414, R548),
apertures (R402, R403), DMA (R425), class deadlines (R410), resets of the interface (R399). -/

namespace Sys2Proof.Machine

/-! ## Mailboxes (R407) -/

def Dev.onMbx (d : Dev) (m : Nat) (f : Mailbox → Mailbox) : Dev :=
  { d with host := { d.host with mbx := upd d.host.mbx m f } }

/-- A doorbell or command-area write for mailbox n is rejected. -/
def Dev.mbxError (d : Dev) (n : Nat) : Dev :=
  let rises := ! d.host.mbxErr.getLsbD n
  let d1 := ({ d with host := { d.host with mbxErr := d.host.mbxErr ||| BitVec.ofNat 16 (2 ^ n) } }).onMbx n fun b =>
    { b with errs := b.errs + 1 }
  if rises then d1.raise 43 else d1

/-- A command is accepted: it takes its place in the acceptance order and is examined (R407, R409). -/
def Dev.acceptCmd (d : Dev) (m : Nat) : Dev :=
  let seq := d.host.acceptSeq + 1
  let d1 := ({ d with host := { d.host with acceptSeq := seq } }).onMbx m fun b =>
    { b with st := .queued, resp := none, seq := seq, startTick := none, effect := false, logSeq := 0, accepted := b.accepted + 1 }
  match d1.examine m with
  | some e => d1.respond m e.1 e.2 0 0 []
  | none => d1.refreshStarts

/-- `safe.stop` as the Umpire acts on it (R456). -/
def Dev.stopOars (d : Dev) (mask : Nat) : Dev :=
  (bitsOf 32 mask).foldl (fun d k => if d.oarExists k then d.trip k 0x25 0 0 else d) d

/-- R411: the Umpire acts on a mirrored command at its doorbell, when steps 1 to 6 pass and the mode accepts it. -/
def Dev.mirror (d : Dev) : Dev :=
  let mask := unle ((d.payload 0).take 4)
  let inMode := fun (op : Nat) => ((opRow op).map fun r => r.modes.testBit d.mode.mode.code).getD false
  if (d.examine 0).isSome then d
  else if d.nativeOp 0 = some 0x0E01 then d.enterSafe 0x05 0xFF
  else if d.nativeOp 0 = some 0x0E02 ∧ inMode 0x0E02 ∧ ! d.badOarMask mask then d.stopOars mask
  else d

/-- R407: a doorbell. -/
def Dev.ring (d : Dev) (m tag : Nat) : Dev :=
  if ! d.host.linkUp then d
  else if d.hostOpen && (nth d.host.mbx m).st == .free && (d.hdr m).tag = tag then
    (if m = 0 then d.acceptCmd 0 |>.mirror else d.acceptCmd m)
  else d.mbxError m

/-- R397: an aligned access of up to 128 bytes: one byte, an aligned pair, or whole aligned words. -/
def areaAligned (offset n : Nat) : Bool :=
  n = 1 || (n = 2 && offset % 2 = 0) || (4 ≤ n && n ≤ 128 && n % 4 = 0 && offset % 4 = 0)

/-- R407: a write to a command area. -/
def Dev.areaWrite (d : Dev) (m offset : Nat) (data : List Byte) : Dev :=
  if ! d.host.linkUp then d
  else if ! areaAligned offset data.length then
    { d with host := { d.host with badWrites := d.host.badWrites + 1 } }
  else if (nth d.host.mbx m).st == .free then d.onMbx m fun b => { b with cmd := memWrite b.cmd offset data }
  else d.mbxError m

/-- Mailbox i under a write of a mask to MBX_ACK. -/
def Mailbox.acked (mask i : Nat) (b : Mailbox) : Mailbox :=
  if i < 16 && Nat.testBit mask i && b.st == .done then { b with st := .free } else b

/-- R407: DONE mailboxes of a mask become FREE. -/
def Dev.ackMbx (d : Dev) (mask : Nat) : Dev :=
  { d with host := { d.host with mbx := d.host.mbx.mapIdx (Mailbox.acked mask) } }

/-! ## Interrupt registers (R413) -/

/-- The bits of one half that name a cause: 44 to 63 are reserved and ignore writes (R15, R413). -/
def irqBits (hi : Bool) : Nat := if hi then 12 else 32

/-- Cause bits of one half, as if their events had occurred. -/
def Dev.irqTestWrite (d : Dev) (pf1 hi : Bool) (value : Nat) : Dev :=
  (bitsOf (irqBits hi) value).foldl (fun d i =>
    { d with host := d.host.onIrq pf1 (if hi then i + 32 else i) (Irq.set d.now (if hi then i + 32 else i)) }) d

/-- Enable bits of one half; a bit that rises over a set cause sends a message. -/
def Irq.enableBit (tick v : Nat) (en : Bool) (q : Irq) : Irq × Bool :=
  let bit := BitVec.ofNat 64 (2 ^ v)
  let q' := { q with enable := if en then q.enable ||| bit else q.enable &&& ~~~ bit }
  if en && ! q.enable.getLsbD v && q.cause.getLsbD v then Irq.message tick v q' else (q', false)

def Dev.irqEnableWrite (d : Dev) (pf1 hi : Bool) (value : Nat) : Dev :=
  (List.range (irqBits hi)).foldl (fun d i =>
    let v := if hi then i + 32 else i
    { d with host := d.host.onIrq pf1 v (Irq.enableBit d.now v (value.testBit i)) }) d

/-- W1C: a bit whose event comes in the same cycle stays set, since that event's row stands behind the write's in the
queue (R17; DESIGN CHOICE, log 109). -/
def Irq.clear (hi : Bool) (value : Nat) (q : Irq) : Irq :=
  { q with cause := q.cause &&& ~~~ (BitVec.ofNat 64 (if hi then value * 2 ^ 32 else value)) }

def Dev.onIrqRegs (d : Dev) (pf1 : Bool) (f : Irq → Irq) : Dev :=
  { d with host := if pf1 then { d.host with irq1 := f d.host.irq1 } else { d.host with irq0 := f d.host.irq0 } }

/-! ## Time snapshot and spoil release (R414, R548) -/

def Dev.takeTime (d : Dev) : Dev :=
  { d with time := { d.time with
      snapTaken := true, snapSec := d.time.sec, snapNs := d.nsNow,
      snapFrac := natOf ((d.time.ns - d.nsNow) * 256).floor, snapTick := d.now } }

/-- R401: a write outside SPOIL.OLDEST to SPOIL.NEWEST + 1 is ignored. -/
def Dev.spoilReleaseTo (d : Dev) (n : Nat) : Dev :=
  if d.logs.spoilOldest ≤ n ∧ n ≤ d.logs.spoilNewest + 1 then { d with logs := { d.logs with spoilRelease := n } } else d

/-- R405. -/
def Dev.hostStopWrite (d : Dev) (pf1 : Bool) (value : Nat) : Dev :=
  if pf1 || value % 2 = 0 || ! d.host.linkUp then d
  else ({ d with host := { d.host with hostStop := true } }).enterSafe 0x04 0xFF

/-! ## Apertures (R402, R403) -/

/-- The BAR2 size that the platform has chosen (R396). -/
def HostIf.bar2Size (h : HostIf) : Nat := 2 ^ h.cfg.bar2Log

/-- A value of n bytes that the spec leaves open. -/
def Dev.freeBytes (d : Dev) (n : Nat) : List Byte × Dev :=
  ((List.range n).map fun i => BitVec.ofNat 8 (Config.freeNat (d.free + i)), { d with free := d.free + n })

/-- A write reaches DRAM: a burst written in part is read first, and stays poisoned when it was (R376, R379). -/
def Dev.landWrite (d0 : Dev) (m : Dram) (src addr : Nat) (data : List Byte) (o : EccOutcome) : Dev × List DramOp :=
  let d := d0.activate addr data.length
  match (burstsOf addr data.length).find? fun b => ! wholeBurst addr data.length b with
  | none => (d, [.write addr data])
  | some b =>
    let r := if m.poison.contains b then (d, [], false) else d.readBurst m src (64 * b) o
    ((r.1.partialPoison { m with poison := if r.2.2 then m.poison else insertAsc b m.poison } src addr data.length),
      r.2.1 ++ [.write addr data])

/-- Whether two ranges of bytes share one. -/
def overlap (a n b k : Nat) : Bool := a < b + k && b < a + n

/-- R402: a posted write; when it reaches DRAM before `mem.fence` is free. -/
def Dev.postWrite (d : Dev) (m : Dram) (offset : Nat) (data : List Byte) (o : EccOutcome) : Dev × List DramOp :=
  if ! d.host.linkUp ∨ ! d.hostOpen ∨ d.host.bar2Size < offset + data.length then (d, [])
  else
    let a := d.host.bar2Base + offset
    let bs := data.take (d.mc.hostLimit - a)
    if bs.isEmpty then (d, [])
    else
      let r := d.flip
      if ! r.1 || (d.host.unfenced.any fun u => overlap a bs.length u.1 u.2.length) then
        ({ r.2 with host := { r.2.host with unfenced := r.2.host.unfenced ++ [(a, bs)] } }, [])
      else r.2.landWrite m 3 a bs o

/-- R392: every BAR2 write that reached the device is in DRAM. -/
def Dev.applyUnfenced (d : Dev) (m : Dram) : Dev × List DramOp :=
  let r := d.host.unfenced.foldl (fun (r : Dev × List DramOp) u =>
    let x := r.1.landWrite (applyOps m r.2) 3 u.1 u.2 .clean
    (x.1, r.2 ++ x.2)) (d, [])
  ({ r.1 with host := { r.1.host with unfenced := [] } }, r.2)

/-- DRAM as a read of the host finds it: with every posted write (R402). -/
def Dev.posted (d : Dev) (m : Dram) : Dram := d.host.unfenced.foldl (fun m u => (DramOp.write u.1 u.2).apply m) m

/-- What a read at a DRAM address returns to the host: posted writes first, zero from HOST_LIMIT on. -/
def Dev.hostView (d : Dev) (m : Dram) (a n : Nat) : List Byte :=
  let c := (d.posted m).mem
  (List.range n).map fun i => if a + i < d.mc.hostLimit then memGet c (a + i) else 0

/-- R402: a read through BAR2 of a function. A burst that a posted write covers whole is that write's data, whatever DRAM holds
there. -/
def Dev.apertureRead (d : Dev) (m : Dram) (pf1 : Bool) (offset len : Nat) (o0 : EccOutcome) : Dev × List DramOp :=
  let a := d.host.bar2Base + offset
  let n := min len (d.mc.hostLimit - a)
  if ! d.host.answers pf1 ∨ ! d.hostOpen ∨ d.host.bar2Size < offset + len then (d, [])
  else
    let o := if d.host.unfenced.any fun u => wholeBurst u.1 u.2.length (burstOf a) then .clean else o0
    let r := if n = 0 then (d, [], true) else d.readRange (d.posted m) 3 a n o
    if r.2.2 then ({ r.1 with host := { r.1.host with bus := ⟨false, false, d.hostView m a len⟩ } }, r.2.1)
    else
      let f := r.1.freeBytes len
      ({ f.2 with host := { f.2.host with bus := ⟨false, true, f.1⟩ } }, r.2.1)

/-- The regions that PF1 may read (R403). -/
def Dev.recordRegions (d : Dev) : List (Nat × Nat) :=
  (d.recd.rings.filter (·.configured)).flatMap (fun g => [(g.base, g.size), (g.cb, 64)]) ++
  match d.img.cfg with
  | some c => [(c.bufBase, c.slots * imgSlotBytes c)]
  | none => []

/-- R403: bytes outside the readable regions are zero; a read that touches one is denied once. -/
def Dev.recordRead (d : Dev) (m : Dram) (offset len : Nat) : Dev × List DramOp :=
  let a := d.host.bar2Base + offset
  let inside := fun (i : Nat) => d.recordRegions.any fun r => r.1 ≤ a + i && a + i < r.1 + r.2
  if (List.range len).all inside then d.apertureRead m true offset len .clean
  else if (List.range len).any inside then
    let x := d.apertureRead m true offset len .clean
    let bs := x.1.host.bus.data.mapIdx fun i b => if inside i then b else 0
    ({ x.1 with host := { x.1.host with denials := x.1.host.denials + 1, bus := { x.1.host.bus with data := bs } } }, x.2)
  else ({ d with host := { d.host with denials := d.host.denials + 1, bus := ⟨false, false, List.replicate len 0⟩ } }, [])

/-! ## DMA (R425) -/

def Dev.onDma (d : Dev) (ch : Nat) (f : DmaChan → DmaChan) : Dev := { d with host := { d.host with dma := upd d.host.dma ch f } }

/-- Place of a DSTATUS among the error counts. -/
def dmaErr (status : Nat) : Nat := if status = 0x21 then 0 else if status = 0x30 then 1 else if status = 0x31 then 2 else 3

/-- A descriptor completes: write-back of bytes 32 to 63, then of byte 0 with DONE; the ring moves on. -/
def Dev.dmaFinish (d : Dev) (ch status moved : Nat) : Dev :=
  let c := nth d.host.dma ch
  match c.cur with
  | none => d
  | some e =>
    let a := c.base + 64 * c.index
    let consumed := if e.op = 3 then (nth d.recd.rings e.ring).consumed else 0
    let h := (d.host.toHost (a + 32) (u32 status ++ u32 moved ++ u64 consumed ++ u32 d.secLow ++ u32 d.nsNow ++ u64 0)).toHost a
      (u8 (boolN c.phase + 2))
    let wrap : Bool := decide (c.entries ≤ c.index + 1)
    let d1 := ({ d with host := h }).onDma ch fun c => { c with
      cur := none, index := if wrap then 0 else c.index + 1, phase := c.phase != wrap, pollTick := d.now,
      done := c.done + 1, bytes := c.bytes + moved,
      errs := if status = 0 then c.errs else upd c.errs (dmaErr status) (· + 1) }
    let d2 := if e.irq then d1.raise (24 + ch) else d1
    if status ≠ 0 then d2.raise 32 else d2

/-- The fields of a descriptor (R425); relaxed ordering where it is enabled (R395). -/
def dmaParse (bs : List Byte) (relaxed : Bool) (now : Nat) : DmaDesc :=
  let w := fun (a n : Nat) => unle ((bs.drop a).take n)
  ⟨w 1 1, (w 2 2).testBit 0, w 4 4, w 8 8, w 16 8, w 24 1, w 26 2, w 28 4, relaxed && (w 2 2).testBit 1, now⟩

/-- Whether a descriptor's fields are in range. -/
def Dev.dmaOk (d : Dev) (e : DmaDesc) : Bool :=
  (e.op = 1 || e.op = 2 || e.op = 3) && e.length % 64 = 0 && 64 ≤ e.length && e.length ≤ 2 ^ 28 && e.hostAddr % 64 = 0 &&
    (if e.op = 3 then
      decide (e.devAddr = 0 ∧ e.ring < 3 ∧ (nth d.recd.rings e.ring).configured ∧ e.waitUs ≤ 50000 ∧ (e.ring ≠ 2 ∨ 131072 ≤ e.length))
     else decide (e.devAddr % 64 = 0) && d.rangeOk e.devAddr e.length)

/-- A channel reads its next ring entry. -/
def Dev.dmaRead (d : Dev) (ch : Nat) (bs : List Byte) : Dev :=
  let c := nth d.host.dma ch
  if ! c.running || c.cur.isSome || ! d.host.linkUp || d.now < c.pollTick || ! d.blockLive 5 ch then d
  else if ((bs.headD 0).getLsbD 0) != c.phase then d.onDma ch fun c => { c with pollTick := d.now + usT c.pollUs }
  else
    let e := dmaParse bs d.host.cfg.relaxed d.now
    let d1 := d.onDma ch fun c => { c with cur := some e }
    if d.dmaOk e then d1 else d1.dmaFinish ch 0x21 0

/-- How many bytes of whole records at the front fit into a length. -/
def wholeRecords (len : Nat) : List Nat → Nat
  | [] => 0
  | n :: r => if n ≤ len then n + wholeRecords (len - n) r else 0

/-- The addresses of n bytes of a ring from `CONSUMED` on. -/
def Ring.span (g : Ring) (n : Nat) : List (Nat × Nat) :=
  let off := g.consumed % g.size
  if off + n ≤ g.size then [(g.base + off, n)] else [(g.base + off, g.size - off), (g.base, n - (g.size - off))]

/-- The sound bytes at the front of a range read for the host. -/
def Dev.soundBytes (d : Dev) (m : Dram) (addr len : Nat) (o : EccOutcome) : Dev × List DramOp × Nat :=
  let r := d.readRange m 2 addr len o
  let bad := (m.marked addr len).filter fun b => m.poison.contains b || (m.injected.any fun e => e.1 = b && e.2)
  let bad' := if o = .uncorrectable then burstOf addr :: bad else bad
  (r.1, r.2.1, bad'.foldl (fun n b => min n (64 * b - addr)) len)

/-- A DRAIN moves `n` bytes of whole records and completes; at a poisoned burst it stops with the bytes before it (R258, R425). -/
def Dev.drain (d : Dev) (m : Dram) (ch : Nat) (e : DmaDesc) (n status : Nat) (o : EccOutcome) : Dev × List DramOp :=
  let f := recWrites m d.flushStaging
  let m1 := applyOps m f.2
  let g := nth d.recd.rings e.ring
  let spans := g.span n
  let r := spans.foldl (fun (r : Dev × List DramOp × Nat × Bool) s =>
    if r.2.2.2 then r
    else
      let x := r.1.soundBytes m1 s.1 s.2 o
      (x.1, r.2.1 ++ x.2.1, r.2.2.1 + x.2.2, x.2.2 < s.2)) (f.1, f.2, 0, false)
  let moved := r.2.2.1
  let data := (spans.flatMap fun s => memBytes m1.mem s.1 s.2).take moved
  let d1 := { r.1 with
    host := r.1.host.toHostAs e.relaxed e.hostAddr data
    recd := { r.1.recd with rings := upd r.1.recd.rings e.ring fun g =>
      { g.consumeTo (g.consumed + moved) with dirtyTick := some (g.dirtyTick.getD d.now) } } }
  (d1.dmaFinish ch (if r.2.2.2 then 0x40 else status) moved, r.2.1)

/-- Whether a ring is drained by an earlier descriptor of another channel. -/
def Dev.drainWaits (d : Dev) (ch : Nat) (e : DmaDesc) : Bool :=
  (List.range 8).any fun i => i ≠ ch && match (nth d.host.dma i).cur with
    | some x => x.op = 3 && x.ring = e.ring && (x.startTick < e.startTick || (x.startTick = e.startTick && i < ch))
    | none => false

/-- The least length of a record that may come next in a ring: a pad record's, 64 bytes in ring 2 (R254). -/
def leastRecord (ring : Nat) : Nat := if ring = 2 then 64 else 32

/-- A descriptor's data has been moved in full. -/
def Dev.dmaData (d : Dev) (m : Dram) (ch : Nat) (data : List Byte) (o : EccOutcome) : Dev × List DramOp :=
  match (nth d.host.dma ch).cur with
  | none => (d, [])
  | some e =>
    if ! d.host.linkUp then (d, [])
    else if e.op = 1 then
      if data.length = e.length then ((d.activate e.devAddr e.length).dmaFinish ch 0 e.length, [.write e.devAddr data]) else (d, [])
    else if e.op = 2 then
      let r := d.soundBytes m e.devAddr e.length o
      let d1 := { r.1 with host := r.1.host.toHostAs e.relaxed e.hostAddr (memBytes m.mem e.devAddr r.2.2) }
      (d1.dmaFinish ch (if r.2.2 < e.length then 0x40 else 0) r.2.2, r.2.1)
    else
      let g := nth d.recd.rings e.ring
      let n := wholeRecords e.length g.lens
      if d.drainWaits ch e ∨ (n = g.lens.foldl (· + ·) 0 ∧ n + leastRecord e.ring ≤ e.length) then (d, []) else d.drain m ch e n 0 o

/-- A descriptor ends before its data has been moved in full; how much has been moved is free. -/
def Dev.dmaCut (d : Dev) (m : Dram) (ch status : Nat) : Dev × List DramOp :=
  match (nth d.host.dma ch).cur with
  | none => (d, [])
  | some e =>
    if e.op = 3 then
      let g := nth d.recd.rings e.ring
      let r := d.draw (e.length + 1)
      r.2.drain m ch e (if d.drainWaits ch e then 0 else wholeRecords r.1 g.lens) status .clean
    else
      let r := d.draw (e.length / 64 + 1)
      let n := 64 * r.1
      if e.op = 1 then
        let f := r.2.freeBytes n
        ((f.2.activate e.devAddr n).dmaFinish ch status n, if n = 0 then [] else [.write e.devAddr f.1])
      else
        let s := r.2.soundBytes m e.devAddr n .clean
        (({ s.1 with host := s.1.host.toHostAs e.relaxed e.hostAddr (memBytes m.mem e.devAddr s.2.2) }).dmaFinish ch status s.2.2, s.2.1)

/-- Every channel stops, its descriptor ABORTED (R399, R425). -/
def Dev.dmaStopAll (d : Dev) (m : Dram) : Dev × List DramOp :=
  (List.range 8).foldl (fun (r : Dev × List DramOp) ch =>
    let x := r.1.dmaCut (applyOps m r.2) ch 0x31
    (x.1.onDma ch fun _ => DmaChan.reset, r.2 ++ x.2)) (d, [])

/-! ## Resets of the interface (R399) -/

/-- The response of a command in execution is discarded. -/
def Job.orphan (p : Nat → Bool) (j : Job) : Job := if p j.mbx && j.completionId = 0 then { j with orphaned := true } else j

/-- A mailbox of the host becomes FREE. -/
def Mailbox.freed (b : Mailbox) : Mailbox :=
  { b with st := .free, cmd := [], resp := none, startTick := none, effect := false, logSeq := 0 }

/-- FLR of PF0 and PERST#: mailboxes, DMA, the IRQ block, the completion queue. -/
def Dev.resetInterface (d : Dev) (m : Dram) : Dev × List DramOp :=
  let r := d.dmaStopAll m
  let h := r.1.host
  ({ r.1 with host := { h with
      mbx := h.mbx.mapIdx fun (i : Nat) (b : Mailbox) => if i < 16 then b.freed else b
      jobs := h.jobs.map (Job.orphan (· < 16))
      irq0 := Irq.reset
      cq := none } }.refreshStarts, r.2)

/-- The class deadline has passed: TIMEOUT is written by hardware; what is past its effect point runs on. -/
def Dev.deadline (d : Dev) (m : Nat) : Dev :=
  let b := nth d.host.mbx m
  if ! (b.st == .queued || b.st == .executing) || ! d.mbxLate m then d
  else
    let past : Bool := b.st == .executing && b.effect
    let js := if past then d.host.jobs.map (Job.orphan (· = m)) else d.host.jobs.filter fun j => ! (j.mbx = m && j.completionId = 0)
    let e := if past then d else (d.running m).foldl Dev.undo d
    { e with host := { e.host with jobs := js } }.timeoutResp m

end Sys2Proof.Machine
end

