-- ==== Sys2Proof/Machine/ModeRows.lean ====
section
/-! DEFINITION. The mode commands (R512, R517 to R521, R533) and MODE.MODE_REQ (R404). -/

namespace Sys2Proof.Machine

/-! ## Hold (R519) -/

/-- A standard Hold, or an entry into Build from Hold, becomes an urgent Hold. -/
def Dev.urgentHold (d : Dev) : Dev :=
  let d1 := oars32.foldl (fun d k => d.cutStroke k 2) d
  (({ d1 with mode := { d1.mode with urgent := true, entry := none } }).showMode d).abortModeJobs.commandHeads

/-- What a mode change comes to in the Logbook. -/
def Dev.logMode (d : Dev) (x : Ctx) (was : Mode) : Dev := d.log x 0x07 0 (u8 was.code) (u8 d.mode.mode.code)

def modeHoldBody (urgent : Nat) : Body := fun x _ d =>
  if 1 < urgent then badArg
  else if d.mode.mode == .hold then
    .done (if urgent = 1 ∧ (d.mode.transition ∨ ! d.mode.urgent) then d.urgentHold else d)
  else .done ((d.enterHold .command (urgent = 1) none 1).logMode x d.mode.mode)

/-- `mode.hold`. -/
def execModeHold (mbx urgent : Nat) (s : State) : Out := runCmd (.modeHold mbx urgent) (modeHoldBody urgent) s

/-! ## `mode.set` and MODE.MODE_REQ (R404, R517, R518, R521) -/

/-- The mode-change command: 4 Ready, 5 Build, 6 Hold. Hold is not left while a rail is out of its window (R562). -/
def modeSetBody (target : Nat) (x : Ctx) (d : Dev) : Res :=
  let m := d.mode.mode
  let trig := if x.mbx = 17 then 2 else 1
  if target ≠ 4 ∧ target ≠ 5 ∧ target ≠ 6 then badArg
  else if d.mode.transition then refusedBusy
  else if target = m.code ∨ (m == .hold ∧ d.pins.railBad.any id) then refusedMode
  else if target = 6 then
    if m == .build then .done ((d.enterHold .command false none trig).logMode x m) (u32 6) else refusedMode
  else if target = 4 then
    if (m == .hold && ! oars32.any fun k => (nth d.eng k).exposing) || (m == .build && d.layers.released.isNone) then
      .done ((d.toReady trig).logMode x m) (u32 4)
    else refusedMode
  else match d.buildRefusal with
    | some st => .refuse st 0 0
    | none => .executing ((d.log x 0x07 0 (u8 m.code) (u8 5))) (.modeSet 5) true

/-- The entry into Build of an accepted command begins once the command stands as executing. -/
def Dev.startBuild (d : Dev) : Dev :=
  match d.host.jobs.find? fun j => j.kind == .modeSet 5 with
  | some j => if d.mode.entry.isNone && ! d.mode.transition then d.beginBuild (if j.mbx = 17 then 2 else 1) else d
  | none => d

/-- A `mode.set` that runs on starts its entry into Build after its mailbox shows EXECUTING. -/
def execModeSet (mbx target : Nat) (s : State) : Out :=
  match runCmd (.modeSet mbx target) (fun x _ d => modeSetBody target x d) s with
  | .next t => .next { t with dev := t.dev.startBuild }
  | o => o

/-- A write to MODE.MODE_REQ. -/
def Dev.modeReqWrite (d : Dev) (value : Nat) : Dev :=
  let t := value % 16
  if ! d.host.linkUp then d
  else if d.host.modeReq.busy then
    { d with host := { d.host with modeReq := { d.host.modeReq with status := 0x12, detail := 0 } } }
  else
    let d1 := { d with host := { d.host with modeReq := ⟨t, 0, 0, true⟩ } }
    let x : Ctx := ⟨17, 0x0C02, 0, 0⟩
    let row := ((opRow 0x0C02).map fun r => r.modes.testBit d.mode.mode.code).getD false
    if t ≠ 4 ∧ t ≠ 5 ∧ t ≠ 6 then d1.modeReqDone 0x21 0
    else if ! row then d1.modeReqDone 0x10 0xFF09
    else match modeSetBody t x d1 with
      | .ok d2 _ _ => d2.modeReqDone 0 0
      | .refuse st de _ => d1.modeReqDone st de
      | .refuseWith d2 st de _ _ _ => d2.modeReqDone st de
      | .accepted d2 _ _ _ => d2.modeReqDone 0 0
      | .executing d2 k _ =>
        ({ d2 with host := { d2.host with jobs := d2.host.jobs ++ [x.job d2.host.acceptSeq 0 k] } }).startBuild

/-- A write to MODE.MODE_REQ. -/
def execModeReq (value : Nat) (s : State) : Out := onDev (.modeReq value) (fun _ d => d.modeReqWrite value) s

/-! ## Standby (R510 to R512) -/

/-- A LED channel with its gate low. -/
def LedChan.off (c : LedChan) : LedChan := { c with gate := false, level := 0 }

/-- A port that goes IDLE. Requests outstanding stay, and run into their repeats (R302). -/
def Port.goIdle (p : Port) : Port := { p with st := .idle, sleep := 4, sleepReq := none, headCmd := 7, runDue := false }

/-- Every laser, STEP and LED output at its reset level (R497). -/
def Dev.outputsLow (d : Dev) : Dev :=
  let e := d.eng.map fun (e : Engine) => { e with len := false, lenSettled := false, lgate := false, dac := 0 }
  { d with
    eng := e
    img := { d.img with leds := d.img.leds.map LedChan.off }
    loops := { d.loops with pwmDuty := List.replicate 8 0 }
    ump := { d.ump with closed := 0, proof := none }
    pins := { d.pins.safeStop with forced := true } }

/-- R512: the entry into Standby, complete (DEDUCED, log 10). -/
def Dev.enterStandby (d : Dev) (m : Dram) (wake : Nat) : Dev × List DramOp :=
  let r := (d.stopAllAxes fun _ => true).dmaStopAll m
  let d1 := (r.1.setMode .standby 1).outputsLow
  ({ d1 with
    host := { d1.host with linkUp := false, link1Up := false }
    links := { d1.links with ports := d1.links.ports.map Port.goIdle }
    mode := { d1.mode with wakeArmed := wake }
    pins := { d1.pins with pwrEn := false } }, r.2 ++ [.wipe])

/-- `mode.standby`: 1 PERST, 2 WAKE_N, 4 ETH. -/
def modeStandbyBody (wake : Nat) : Body := fun x m d =>
  if 8 ≤ wake then badArg
  else if d.layers.released.isSome ∨ d.layers.queue ≠ [] ∨ d.host.serviceOn ∨ d.mode.transition then refusedBusy
  else
    let r := d.enterStandby m wake
    .ok (r.1.logMode x d.mode.mode) [] r.2

def execModeStandby (mbx wake : Nat) (s : State) : Out := runCmd (.modeStandby mbx wake) (modeStandbyBody wake) s

/-! ## Reports and budgets (R522, R533, R534) -/

/-- Mode, transition flag, last transition, ms in each mode from Start to Safe. -/
def Dev.modeReport (d : Dev) : List Byte :=
  u32 d.mode.mode.code ++ u32 (boolN d.mode.transition) ++ u32 d.mode.lastFrom.code ++ u32 d.mode.mode.code ++
  u32 d.mode.lastTrigger ++ u32 d.mode.lastS ++ u32 d.mode.lastNs ++
  (List.range 5).flatMap fun i => u32 (nth d.mode.ticksIn (i + 3) / 4000)

def modeStatusBody : Body := fun _ _ d => .done d d.modeReport

def execModeStatus (mbx : Nat) (s : State) : Out := runCmd (.modeStatus mbx) modeStatusBody s

def Governor.budgetBytes (g : Governor) (plant : Nat) : List Byte :=
  u32 g.chipBudget ++ u32 plant ++ g.power.flatMap fun p => u32 p.1 ++ u32 p.2

/-- The plant budget and the factors of `mode.budget` take force; a released layer keeps its budget (R533). -/
def Dev.setPlant (d : Dev) (plant : Nat) (os : List OarPowerArg) : Dev :=
  let pw := os.foldl (fun (l : List (Nat × Nat)) o => l.set o.oar (o.rated, o.wallPlug)) d.gov.power
  { d with
    gov := { d.gov with
      plantBudget := plant
      layerPlant := if d.layers.released.isSome ∧ d.gov.layerPlant = 0 then d.gov.plantBudget else d.gov.layerPlant
      power := pw }
    flash := { d.flash with power := pw } }

def OarPowerArg.ok (d : Dev) (o : OarPowerArg) : Bool :=
  d.oarExists o.oar && 1 ≤ o.rated && o.rated ≤ 100000 && 1 ≤ o.wallPlug && o.wallPlug ≤ 65535

def modeBudgetBody (chip : Nat) (rest : Option (Nat × List OarPowerArg)) : Body := fun x _ d =>
  let d1 := { d with gov := { d.gov with chipBudget := chip } }
  let fin := fun (e : Dev) => Res.done
    (e.log x 0x07 1 (d.gov.budgetBytes d.gov.plantBudget) (e.gov.budgetBytes e.gov.plantBudget)) (e.gov.budgetBytes e.plantBudget)
  if rest.isSome ∧ d.mode.mode != .ready then refusedMode 0xFF09
  else if chip < 30000 ∨ 55000 < chip then badArg
  else match rest with
    | none => fin d1
    | some (plant, os) =>
      if plant < 1000 ∨ 200000 < plant ∨ ! os.all (OarPowerArg.ok d) then badArg
      else if d.layers.queue ≠ [] then refusedBusy
      else fin (d1.setPlant plant os)

def execModeBudget (mbx chip : Nat) (rest : Option (Nat × List OarPowerArg)) (s : State) : Out :=
  runCmd (.modeBudget mbx chip rest) (modeBudgetBody chip rest) s

def LeaveCount.bytes (c : LeaveCount) : List Byte :=
  u32 c.requests ++ u32 c.grants ++ u32 c.deferrals ++ u32 c.refAlone ++ u32 c.refMode ++ u32 c.refCap ++ u32 c.revocations ++
  u32 (c.longest / 4)

def modeLeaveBody (clear : Nat) : Body := fun _ _ d =>
  if 1 < clear then badArg
  else .done (if clear = 1 then { d with gov := { d.gov with counts := List.replicate 6 LeaveCount.reset } } else d)
    (u32 d.chipAcct ++ u32 (natOf (ceilRat d.plantAcct)) ++ u32 d.gov.chipBudget ++ u32 d.plantBudget ++ d.gov.counts.flatMap LeaveCount.bytes)

def execModeLeave (mbx clear : Nat) (s : State) : Out := runCmd (.modeLeave mbx clear) (modeLeaveBody clear) s

/-- Reading in 0.01 C, band, broken, extremes, band changes, AVS target and read-back in mV. -/
def Thermal.report (t : Thermal) : List Byte :=
  i32 t.c100 ++ u32 t.band ++ u32 (boolN t.broken) ++ i32 t.minC ++ i32 t.maxC ++ u32 t.changes ++ u32 (t.targetUv / 1000) ++
  u32 (t.readUv / 1000)

def modeThermalBody (clear : Nat) : Body := fun _ _ d =>
  if 1 < clear then badArg
  else .done (if clear = 1 then { d with therm := { d.therm with minC := d.therm.c100, maxC := d.therm.c100, changes := 0 } } else d)
    d.therm.report

def execModeThermal (mbx clear : Nat) (s : State) : Out := runCmd (.modeThermal mbx clear) (modeThermalBody clear) s

end Sys2Proof.Machine
end

