-- ==== Sys2Proof/Machine/HostRows.lean ====
section
/-! DEFINITION. The rows of the host interface: registers and apertures, interrupts, DMA, resets of the interface
(R396 to R426), and the `sys` commands of R424. -/

namespace Sys2Proof.Machine

/-! ## Register writes (R401) -/

def execHostStop (value : Nat) (s : State) : Out := onDev (.hostStop value) (fun _ d => d.hostStopWrite false value) s

def execDoorbell (mbx tag : Nat) (s : State) : Out := onDev (.doorbell mbx tag) (fun _ d => d.ring mbx tag) s

def execMbxAck (mask : Nat) (s : State) : Out :=
  onDev (.mbxAck mask) (fun _ d => if d.host.linkUp then d.ackMbx mask else d) s

def execIrqTest (pf1 hi : Bool) (value : Nat) (s : State) : Out :=
  onDev (.irqTest pf1 hi value) (fun _ d => if d.host.answers pf1 then d.irqTestWrite pf1 hi value else d) s

def execIrqEnable (pf1 hi : Bool) (value : Nat) (s : State) : Out :=
  onDev (.irqEnable pf1 hi value) (fun _ d => if d.host.answers pf1 then d.irqEnableWrite pf1 hi value else d) s

def execTimeTake (value : Nat) (s : State) : Out :=
  onDevAny (fun _ d => if d.host.linkUp ∧ value % 2 = 1 then d.takeTime else d) s

def execSpoilRelease (value : Nat) (s : State) : Out :=
  onDevAny (fun _ d => if d.host.linkUp then d.spoilReleaseTo value else d) s

/-- A write to the IRQ block of a function. -/
def Dev.irqWrite (d : Dev) (pf1 : Bool) (o v : Nat) : Dev :=
  if o = 0x4000 then d.onIrqRegs pf1 (Irq.clear false v)
  else if o = 0x4004 then d.onIrqRegs pf1 (Irq.clear true v)
  else if o = 0x4008 then d.irqEnableWrite pf1 false v
  else if o = 0x400C then d.irqEnableWrite pf1 true v
  else if o = 0x4010 then d.onIrqRegs pf1 fun q => { q with holdoff := v % 1024 }
  else if o = 0x4014 then d.irqTestWrite pf1 false v
  else if o = 0x4018 then d.irqTestWrite pf1 true v
  else d

/-- R16, R398, R401: an aligned 4-byte write to BAR0, by the access code of what stands there. -/
def Dev.regWrite (d : Dev) (pf1 : Bool) (o v : Nat) : Dev :=
  if ! d.host.answers pf1 then d
  else if pf1 then d.irqWrite true o v
  else if o = 0x1004 then d.modeReqWrite v
  else if o = 0x2010 then d.hostStopWrite false v
  else if 0x3000 ≤ o ∧ o < 0x3040 then d.ring ((o - 0x3000) / 4) v
  else if o = 0x3044 then d.ackMbx v
  else if o = 0x3048 then { d with host := { d.host with mbxErr := d.host.mbxErr &&& ~~~ (BitVec.ofNat 16 v) } }
  else if 0x4000 ≤ o ∧ o < 0x401C then d.irqWrite false o v
  else if 0x10000 ≤ o ∧ o < 0x20000 then
    (if o % 0x1000 < 0x800 then d.areaWrite ((o - 0x10000) / 0x1000) (o % 0x1000) (u32 v) else d)
  else if o = 0x20000 then (if v % 2 = 1 then d.takeTime else d)
  else if o = 0x30008 then { d with host := { d.host with logSelect := v } }
  else if o = 0x38008 then { d with host := { d.host with spoilSelect := v } }
  else if o = 0x3800C then d.spoilReleaseTo v
  else d

def execRegisterWrite (pf1 : Bool) (offset value : Nat) (s : State) : Out :=
  onDev (.registerWrite pf1 offset value) (fun _ d => d.regWrite pf1 offset value) s

/-- R407. -/
def execCommandAreaWrite (mbx offset : Nat) (data : List Byte) (s : State) : Out :=
  onDev (.commandAreaWrite mbx offset data) (fun _ d => d.areaWrite mbx offset data) s

/-- R397: a read gets Unsupported Request, a write is dropped; both are counted. -/
def Dev.badAccess (d : Dev) (pf1 read : Bool) : Dev :=
  if ! d.host.answers pf1 then d
  else if read then { d with host := ({ d.host with badReads := d.host.badReads + 1, bus := ⟨true, false, []⟩ } : HostIf).aerSet pf1 20 }
  else { d with host := { d.host with badWrites := d.host.badWrites + 1 } }

def execUnsupportedRegisterAccess (pf1 read : Bool) (s : State) : Out :=
  onDevAny (fun _ d => d.badAccess pf1 read) s

/-- R413: the message held for IRQ.HOLDOFF is sent. -/
def Irq.release (tick v : Nat) (q : Irq) : Irq × Bool :=
  let due := match q.last.find? (·.1 = v) with | some p => decide (p.2 + usT q.holdoff ≤ tick) | none => true
  if q.held.contains v && due && q.masked v then
    ({ q with held := q.held.filter (· ≠ v), pba := q.pba ||| BitVec.ofNat 64 (2 ^ v) }, false)
  else if q.held.contains v && due then
    ({ q with held := q.held.filter (· ≠ v), last := (v, tick) :: q.last.filter (·.1 ≠ v) }, true)
  else (q, false)

def execIrqHoldoffExpiry (pf1 : Bool) (vector : Nat) (s : State) : Out :=
  onDev (.irqHoldoffExpiry pf1 vector) (fun _ d =>
    { d with host := d.host.onIrq pf1 vector (Irq.release d.now vector) }) s

/-! ## Apertures (R402, R403) -/

def execBar2Write (offset : Nat) (data : List Byte) (ecc : EccOutcome) (s : State) : Out :=
  onMem (.bar2Write offset data ecc) (fun m d => d.postWrite m offset data ecc) s

def execBar2Read (offset len : Nat) (ecc : EccOutcome) (s : State) : Out :=
  onMem (.bar2Read offset len ecc) (fun m d => d.apertureRead m false offset len ecc) s

def execRecordApertureRead (offset len : Nat) (s : State) : Out :=
  onMem (.recordApertureRead offset len) (fun m d => if d.host.link1Up then d.recordRead m offset len else (d, [])) s

/-! ## The USB service exchange (R421) -/

/-- A command laid into the exchange; it exists where the capability is fused in. -/
def Dev.usb (d : Dev) (data : List Byte) : Dev :=
  let b := nth d.host.mbx 16
  if d.fuses.caps.testBit 1 && d.hostOpen && (b.st == .free || b.st == .done) then
    (d.onMbx 16 fun b => { b with cmd := memWrite [] 0 data }).acceptCmd 16
  else d

def execUsbCommand (data : List Byte) (s : State) : Out := onDev (.usbCommand data) (fun _ d => d.usb data) s

/-! ## Deadlines, watchdog, link (R399, R400, R410, R422, R423) -/

def execClassDeadlineExpiry (mbx : Nat) (s : State) : Out :=
  onDev (.classDeadlineExpiry mbx) (fun _ d => d.deadline mbx) s

/-- R423: the task is restarted. A number below 17 names the mailbox whose commands it executes (DESIGN CHOICE, log 153): a command
before its effect point is run again, the response of one past it comes as it would have. -/
def Dev.taskRestart (d : Dev) (core task : Nat) : Dev :=
  ((if (nth d.host.mbx task).effect then [] else d.running task).foldl Dev.rerun d).spoil 0x01 core 0x001 false task

def execCoxTaskWatchdog (core task : Nat) (s : State) : Out :=
  onDev (.coxTaskWatchdog core task) (fun _ d => d.taskRestart core task) s

/-- R399: FLR of PF0 resets the interface, FLR of PF1 its IRQ block (DEDUCED, log 18). -/
def Dev.flr (d : Dev) (m : Dram) (pf1 : Bool) : Dev × List DramOp :=
  if ! d.host.answers pf1 then (d, [])
  else if pf1 then (d.onIrqRegs true fun _ => Irq.reset, [])
  else d.resetInterface m

def execFunctionLevelReset (pf1 : Bool) (s : State) : Out :=
  onMemAny (fun m d => d.flr m pf1) s

/-- R399: PERST# outside Standby. -/
def Dev.perst (d : Dev) (m : Dram) : Dev × List DramOp :=
  let d0 := { d with pins := { d.pins with perst := true } }
  if d.awake then
    let r := d0.resetInterface m
    ({ r.1 with host := { r.1.host with irq1 := Irq.reset, linkUp := false, link1Up := false } }, r.2)
  else (d0, [])

def execPerstAssert (s : State) : Out := onAon .perstAssert (fun m d => d.perst m) s

/-- R400. -/
def Dev.linkChange (d : Dev) (lanes rate : Nat) : Dev :=
  let h := { d.host with
    linkUp := lanes ≠ 0 && ! d.host.cfg.d3hot, link1Up := lanes ≠ 0 && ! d.host.cfg1.d3hot, lanes := lanes, rate := rate }
  let d1 := ({ d with host := h, pins := { d.pins with perst := d.pins.perst && lanes = 0, pewake := d.pins.pewake && lanes = 0 } }).raise 42
  if lanes < 8 || rate < 32 then d1.spoil 0x08 0xFF 0x001 false (lanes + 256 * rate) else d1

/-- A write to an MSI-X entry; a message that was pending is sent when the vector is unmasked (R396). -/
def Irq.entryWrite (tick : Nat) (w : MsixWrite) (q : Irq) : Irq × Bool :=
  let q1 := { q with table := q.table.set w.vector (w.addr, w.data, w.masked) }
  if ! w.masked && q.pba.getLsbD w.vector then
    Irq.message tick w.vector { q1 with pba := q1.pba &&& ~~~ BitVec.ofNat 64 (2 ^ w.vector) }
  else (q1, false)

/-- What the platform sets in configuration space and in BAR4; in D3hot the device neither takes nor makes a request (R395, R396,
DESIGN CHOICE, log 16). -/
def Dev.pciSetup (d : Dev) (cfg : Option PciConfig) (msix : List MsixWrite) : Dev :=
  let d1 := match cfg with
    | some c =>
      let up : Bool := d.host.lanes ≠ 0 && ! c.d3hot
      if c.pf1 then { d with host := { d.host with cfg1 := c, link1Up := up, aer1 := d.host.aer1 - (d.host.aer1 &&& c.aerClear) } }
      else { d with host := { d.host with cfg := c, linkUp := up, aer0 := d.host.aer0 - (d.host.aer0 &&& c.aerClear) } }
    | none => d
  msix.foldl (fun d w => { d with host := d.host.onIrq w.pf1 w.vector (Irq.entryWrite d.now w) }) d1

/-- The link as it was before: no change to tell of. -/
def Dev.sameLink (d : Dev) (lanes rate : Nat) : Bool :=
  lanes = d.host.lanes && rate = d.host.rate && (d.host.linkUp || d.host.cfg.d3hot || lanes = 0)

def execPcieLinkChange (lanes rate : Nat) (cfg : Option PciConfig) (msix : List MsixWrite) (s : State) : Out :=
  onDev (.pcieLinkChange lanes rate cfg msix) (fun _ d =>
    (if d.sameLink lanes rate then d else d.linkChange lanes rate).pciSetup cfg msix) s

/-- R422: the error response goes to the master; nothing else changes. -/
def execBusTimeout (_master : Nat) (s : State) : Out := onDevAny (fun _ d => d) s

/-! ## DMA (R425) -/

def execDmaPoll (ch : Nat) (desc : List Byte) (s : State) : Out :=
  onDev (.dmaPoll ch desc) (fun _ d => d.dmaRead ch desc) s

def execDmaDescriptorComplete (ch : Nat) (data : List Byte) (ecc : EccOutcome) (s : State) : Out :=
  onMem (.dmaDescriptorComplete ch data ecc) (fun m d => d.dmaData m ch data ecc) s

/-- A descriptor that has not completed 100 ms after its start. -/
def Dev.dmaLate (d : Dev) (m : Dram) (ch : Nat) : Dev × List DramOp :=
  match (nth d.host.dma ch).cur with
  | some e => if e.startTick + msT 100 ≤ d.now then d.dmaCut m ch 0x30 else (d, [])
  | none => (d, [])

def execDmaTimeout (ch : Nat) (s : State) : Out := onMem (.dmaTimeout ch) (fun m d => d.dmaLate m ch) s

/-- `WAIT_US` has passed since the start of a DRAIN. -/
def Dev.drainExpiry (d : Dev) (m : Dram) (ch : Nat) : Dev × List DramOp :=
  match (nth d.host.dma ch).cur with
  | some e =>
    if e.op = 3 ∧ d.host.linkUp ∧ e.startTick + usT e.waitUs ≤ d.now then
      d.drain m ch e (if d.drainWaits ch e then 0 else wholeRecords e.length (nth d.recd.rings e.ring).lens) 0 .clean
    else (d, [])
  | none => (d, [])

def execDrainWaitExpiry (ch : Nat) (s : State) : Out := onMem (.drainWaitExpiry ch) (fun m d => d.drainExpiry m ch) s

/-- R422: a read of host memory gets no completion within the timeout of Device Control 2. -/
def Dev.noCompletion (d : Dev) (m : Dram) (ch : Nat) : Dev × List DramOp :=
  match (nth d.host.dma ch).cur with
  | some e => if e.op = 1 ∧ e.startTick + usT d.host.cfg.completionUs ≤ d.now then
      ({ d with host := d.host.aerSet false 14 } : Dev).dmaCut m ch 0x40 else (d, [])
  | none => (d, [])

def execPcieCompletionTimeout (ch : Nat) (s : State) : Out :=
  onMem (.pcieCompletionTimeout ch) (fun m d => d.noCompletion m ch) s

/-! ## The `sys` commands of R424 -/

/-- RST_MAP, COMPAT_LOCK, KEY_REVOKE and the part as `sys.identify` sums them up (DESIGN CHOICE, log 12). -/
def Fuses.summary (f : Fuses) : Nat := f.rstMap % 16 + bitAt 4 f.compatLock + bitAt 5 f.part16 + 256 * (f.keyRevoke % 16) + 65536 * (f.svnMin % 65536)

def slotVersion (o : Option FwSlot) : Nat := (o.map (·.fwVersion)).getD 0

def Dev.identity (d : Dev) : List Byte :=
  u32 d.idPart ++ u32 d.fuses.summary ++ u32 (slotVersion d.boot.slotA) ++ u32 (slotVersion d.boot.slotB) ++
  u32 (d.boot.running.getD 0xFFFFFFFF) ++ u64 d.fuses.serial ++ u32 (d.reg false 0x18)

def sysIdentifyBody : Body := fun _ _ d => .done d d.identity

def execSysIdentify (mbx : Nat) (s : State) : Out := runCmd (.sysIdentify mbx) sysIdentifyBody s

/-- A power of two from 2^lo to 2^hi. -/
def isPow2 (lo hi n : Nat) : Bool := (List.range (hi - lo + 1)).any fun i => n = 2 ^ (lo + i)

def sysCqBody (base entries : Nat) : Body := fun _ _ d =>
  if entries = 0 then .done { d with host := { d.host with cq := none } }
  else if base % 4096 ≠ 0 ∨ ! isPow2 6 16 entries then badArg
  else .done { d with host := { d.host with cq := some (base, entries, d.host.cqSeq) } }

def execSysCq (mbx base entries : Nat) (s : State) : Out := runCmd (.sysCq mbx base entries) (sysCqBody base entries) s

def sysCompletionsBody (first count : Nat) : Body := fun _ _ d =>
  if count = 0 ∨ 15 < count then badArg
  else .done d (listOf Completion.bytes (d.host.completions.filter fun c => first ≤ c.id ∧ c.id < first + count))

def execSysCompletions (mbx first count : Nat) (s : State) : Out :=
  runCmd (.sysCompletions mbx first count) (sysCompletionsBody first count) s

/-- 0 stopped, 1 idle, 2 busy. -/
def DmaChan.state (c : DmaChan) : Nat := if c.cur.isSome then 2 else if c.running then 1 else 0

/-- A channel set up and running: its ring from the start, phase 1. -/
def DmaChan.start (base entries pollUs : Nat) (c : DmaChan) : DmaChan :=
  { c with base := base, entries := entries, pollUs := pollUs, running := true, index := 0, phase := true, pollTick := 0 }

def sysDmaBody (ch base entries pollUs run : Nat) : Body := fun _ _ d =>
  let c := nth d.host.dma ch
  let fin := fun (e : Dev) => Res.done e (u32 (nth e.host.dma ch).state)
  if 8 ≤ ch ∨ 1 < run ∨ base % 4096 ≠ 0 ∨ ! isPow2 4 16 entries ∨ pollUs = 0 ∨ 1000 < pollUs then badArg
  else if run = 1 then fin (d.onDma ch fun c => { c with running := false })
  else if c.running ∨ c.cur.isSome then refusedBusy
  else fin (d.onDma ch (DmaChan.start base entries pollUs))

def execSysDma (mbx ch base entries pollUs run : Nat) (s : State) : Out :=
  runCmd (.sysDma mbx ch base entries pollUs run) (sysDmaBody ch base entries pollUs run) s

def DmaChan.report (c : DmaChan) : List Byte :=
  u32 c.state ++ u32 c.index ++ u32 (boolN c.phase) ++ u32 c.done ++ u64 c.bytes ++ c.errs.flatMap u32

def sysDmastatusBody (mask : Nat) : Body := fun _ _ d =>
  if 256 ≤ mask then badArg else .done d ((bitsOf 8 mask).flatMap fun ch => (nth d.host.dma ch).report)

def execSysDmastatus (mbx mask : Nat) (s : State) : Out := runCmd (.sysDmastatus mbx mask) (sysDmastatusBody mask) s

def sysApertureBody (base : Nat) : Body := fun _ _ d =>
  if base % d.host.bar2Size ≠ 0 ∨ d.mc.hostLimit ≤ base then badArg
  else .done { d with host := { d.host with bar2Base := base } } (u64 base)

def execSysAperture (mbx base : Nat) (s : State) : Out := runCmd (.sysAperture mbx base) (sysApertureBody base) s

/-- R424: a command is aborted before its effect point. -/
def sysAbortBody (target tag : Nat) : Body := fun x _ d =>
  let b := nth d.host.mbx target
  let job := d.host.jobs.find? fun j => j.mbx = target && j.completionId = 0 && ! j.orphaned
  let accepted := d.host.jobs.any fun j => j.mbx = target && j.completionId ≠ 0 && j.tag = tag
  if 16 ≤ target then badArg
  else if (b.st == .queued || b.st == .executing) && (d.hdr target).tag = tag then
    if target = x.mbx ∨ b.effect then refusedBusy
    else match job with
      | some j => .done ((d.undo j.kind).finish j 0x31 0 []) (u32 0x31)
      | none => .done (d.respond target 0x31 0 0 0 []) (u32 0x31)
  else if accepted then refusedBusy
  else badArg

def execSysAbort (mbx target tag : Nat) (s : State) : Out := runCmd (.sysAbort mbx target tag) (sysAbortBody target tag) s

def Mailbox.report (b : Mailbox) : List Byte := u32 b.accepted ++ u32 b.timeouts ++ u32 b.errs ++ u32 (b.longest / 4)

def Mailbox.cleared (b : Mailbox) : Mailbox := { b with accepted := 0, timeouts := 0, errs := 0, longest := 0 }

def sysMbxstatBody (clear : Nat) : Body := fun _ _ d =>
  let h := d.host
  if 1 < clear then badArg
  else .done (if clear = 1 then { d with host := { h with mbx := h.mbx.map Mailbox.cleared, badReads := 0, badWrites := 0, denials := 0 } } else d)
    ((h.mbx.take 16).flatMap Mailbox.report ++ u32 h.badReads ++ u32 h.badWrites ++ u32 h.denials)

def execSysMbxstat (mbx clear : Nat) (s : State) : Out := runCmd (.sysMbxstat mbx clear) (sysMbxstatBody clear) s

/-- ON is 0, OFF is 1 (R577). -/
def sysServiceBody (sel : Nat) : Body := fun _ _ d =>
  if 1 < sel then badArg
  else if sel = 0 then .done { d with host := { d.host with serviceOn := true } } (u32 0)
  else .done d.endService (u32 1)

def execSysService (mbx sel : Nat) (s : State) : Out := runCmd (.sysService mbx sel) (sysServiceBody sel) s

end Sys2Proof.Machine
end

