-- ==== Sys2Proof/Machine/MemRows.lean ====
section
/-! DEFINITION. DRAM: refresh, scrub, retraining, migration (R377 to R389) and the `mem` commands (R392 to R394). -/

namespace Sys2Proof.Machine

/-- No layer is queued or released: the queue with the released layer in it (R63, R102; DEDUCED, log 19). -/
def Dev.queueEmpty (d : Dev) : Bool := d.layers.queue.isEmpty && d.layers.released.isNone

/-- The change that a command makes when it ends; a response still to be written carries its number (R408, R543). -/
def Dev.logJob (d : Dev) (j : Job) (object index : Nat) (old new : List Byte) : Dev :=
  let x : Ctx := ⟨j.mbx, j.opcode, j.tag, j.flags⟩
  if j.completionId = 0 ∧ ! j.orphaned then d.log x object index old new
  else d.logRaw ⟨x.origin, 0, x.opcode, object, index, x.tag, x.logMbx, sha256 old, sha256 new⟩

/-! ## Refresh and scrub (R377, R378) -/

/-- What comes at an even rate is due a step after it was last due; what is more than 1 s late goes on from now. -/
def pace (due : Rat) (now : Nat) (step : Rat) : Rat := (if due + sT 1 < (now : Rat) then (now : Rat) else due) + step

/-- R378: multiple of 1× in a band. -/
def refreshRate (band : Nat) : Nat := if band < 2 then 1 else if band = 2 then 2 else 4

/-- A refresh that is due; the next one follows after 3.9 µs, 15.6 ticks, at 1×. -/
def Dev.refresh (d : Dev) : Dev :=
  let r := refreshRate d.therm.band
  if (d.now : Rat) < d.mc.refreshDue || ! d.blockLive 8 0 then d
  else { d with mc := { d.mc with
    refresh := r, refreshCount := d.mc.refreshCount + 1, refreshDue := pace d.mc.refreshDue d.now (78 / (5 * r)) } }

def execDramRefresh (s : State) : Out := onDev .dramRefresh (fun _ d => d.refresh) s

/-- Bursts of the working ranks, and with those of the spares, which stand behind them (R377). -/
def MemCtl.workBursts (m : MemCtl) : Nat := m.capacity / 64

def MemCtl.allBursts (m : MemCtl) : Nat :=
  m.workBursts + (m.chans.filter fun c => c.ranks.contains .spare).length * (m.rankSpan / 128)

/-- Where burst n of a channel's spare lies, in the order of the addresses of a rank index (R371, R372). -/
def Dev.spareLoc (d : Dev) (c n : Nat) : Loc :=
  let f := orderFields d.mc.order d.mc.rowBits (n / 2)
  ⟨2 * c + n % 2, (nth d.mc.chans c).ranks.idxOf .spare, f.1, f.2.1, f.2.2⟩

/-- The address whose data burst n of a channel's spare holds: that of a chunk copied by a migration in progress (R387). -/
def Dev.spareAddr (d : Dev) (c n : Nat) : Option Nat :=
  let ch := nth d.mc.chans c
  ch.mig.bind fun g =>
    let a := ch.roles.idxOf g.rank * d.mc.rankSpan + n / 2 * 256 + (2 * c + n % 2) * 64
    if (d.locOf a).rank = ch.ranks.idxOf .spare then some a else none

/-- A burst of a working rank is read by the patrol: its block is marked damaged at once where it is uncorrectable. -/
def Dev.scrubAt (d : Dev) (m : Dram) (a : Nat) (o : EccOutcome) : Dev × List DramOp :=
  let x := (d.activate a 64).readBurst m 5 a o
  (if x.2.2 then x.1 else x.1.damageAt a, x.2.1)

/-- The next burst of the patrol is read. An uncorrectable one in an unused spare retires the spare (log 137), which is written
whole before it is used again. -/
def Dev.scrub (d : Dev) (m : Dram) (o : EccOutcome) : Dev × List DramOp :=
  let a := 64 * d.mc.scrubPos
  let next := if d.mc.scrubPos + 1 < d.mc.allBursts then d.mc.scrubPos + 1 else 0
  let step : Rat := (d.mc.scrubH * sT 3600 : Nat) / (max 1 d.mc.allBursts : Nat)
  let d0 := { d with mc := { d.mc with scrubPos := next, scrubDue := pace d.mc.scrubDue d.now step } }
  if d.mc.workBursts ≤ d.mc.scrubPos then
    let n := d.mc.scrubPos - d.mc.workBursts
    let c := ((List.range 2).filter fun c => (nth d.mc.chans c).ranks.contains .spare).getD (n / (d.mc.rankSpan / 128)) 0
    let l := d.spareLoc c (n % (d.mc.rankSpan / 128))
    match d.spareAddr c (n % (d.mc.rankSpan / 128)) with
    | some b => d0.scrubAt m b o
    | none =>
      let d1 := d0.openRow l.place
      match o with
      | .clean => (d1, [])
      | .corrected y => ((d1.errRec 1 5 (2 ^ 64 - 1) y l).rankCorrected c l.rank none, [])
      | .uncorrectable =>
        ((((d1.errRec 2 5 (2 ^ 64 - 1) 0xFF l).spoil 0x07 l.subch 0x001 true 0xFFFFFFFF).onChan c fun ch =>
          { ch with ue := upd ch.ue l.rank (· + 1) }).rankTrigger c l.rank true none, [])
  else d0.scrubAt m a o

def isScrub : Requester → Bool
  | .scrub => true
  | _ => false

/-- R377: each scrub read, when it is due, asks for leave. -/
def Dev.scrubEvent (d : Dev) (m : Dram) (o : EccOutcome) : Dev × List DramOp :=
  if (d.now : Rat) < d.mc.scrubDue || ! d.blockLive 8 0 then (d, [])
  else if d.holdsLeave isScrub then
    let r := d.scrub m o
    (r.1.release isScrub, r.2)
  else if d.waitsLeave isScrub then (d, [])
  else
    let a := d.askLeave .scrub 4 150
    match a.1 with
    | .granted =>
      let r := a.2.scrub m o
      (r.1.release isScrub, r.2)
    | _ => (a.2, [])

def execPatrolScrubRead (ecc : EccOutcome) (s : State) : Out := onMemAny (fun m d => d.scrubEvent m ecc) s

/-! ## Retraining (R380 to R382) -/

def isRetraining (c : Nat) : Requester → Bool
  | .retraining b => c = b
  | _ => false

/-- A `mem.retrain` keeps the subchannels still to be trained in bits 0 to 3 and those named in bits 4 to 7. -/
def retrainWaits (c : Nat) : JobKind → Bool
  | .retrain k => k.testBit c
  | _ => false

/-- Lanes of a subchannel (R367). -/
def ddrLanes : Nat := 40

/-- Per-lane deltas of the subchannels that a `mem.retrain` named. -/
def MemCtl.deltaBytes (m : MemCtl) (mask : Nat) : List Byte := (bitsOf 4 mask).flatMap fun c => listOf i32 (nth m.deltas c)

/-- The pause of subchannel c counts for every `mem.retrain` that waits for it; one that waits for no more ends. -/
def Dev.retrainJobs (d : Dev) (c : Nat) : Dev :=
  let tick := fun (j : Job) => match j.kind with
    | .retrain k => { j with kind := JobKind.retrain (if k.testBit c then k - 2 ^ c else k) }
    | _ => j
  let d1 := { d with host := { d.host with jobs := d.host.jobs.map tick } }
  (d1.host.jobs.filter fun j => match j.kind with | .retrain k => k % 16 = 0 | _ => false).foldl (fun e j =>
    match j.kind with
    | .retrain k => e.finish j 0 0 (e.mc.deltaBytes (k / 16))
    | _ => e) d1

/-- A pause is taken. -/
def Dev.pause (d : Dev) (c : Nat) (deltas : List Int) : Dev :=
  let d1 := { d with mc := { d.mc with
    lastPause := d.mc.lastPause.set c d.now, dueSince := d.mc.dueSince.set c none, deltas := d.mc.deltas.set c deltas } }
  let worst := deltas.foldl (fun (w : Int) x => if w.natAbs < x.natAbs then x else w) 0
  let d2 := if d.mc.margin < worst.natAbs then d1.healthRec 0x04 1 0x07 c worst d.mc.margin 0 0 else d1
  (d2.release (isRetraining c)).retrainJobs c

/-- R380: the pause of subchannel c has fallen due since its last one. -/
def Dev.pauseDue (d : Dev) (c : Nat) : Bool :=
  let turn := fun (t : Nat) => ((t : Int) - 250000 * c) / 1000000
  turn (nth d.mc.lastPause c) < turn d.now || (nth d.mc.dueSince c).isSome || d.hasJob (retrainWaits c)

/-- A pause that has to wait is due since now, or since it was first due. -/
def Dev.postpone (d : Dev) (c : Nat) : Dev :=
  { d with mc := { d.mc with dueSince := d.mc.dueSince.set c (some ((nth d.mc.dueSince c).getD d.now)) } }

/-- The pause is taken; its check has met an uncorrectable error at an address of the subchannel, or none (R386). -/
def Dev.checkedPause (d : Dev) (c : Nat) (deltas : List Int) (check : Option Nat) : Dev × List DramOp :=
  let d1 := d.pause c deltas
  match check with
  | some a => if a / 64 % 4 = c ∧ a < d.mc.capacity then d1.uncorrectable 7 a else (d1, [])
  | none => (d1, [])

/-- R380, R381: a pause under leave, outside panic. -/
def Dev.pauseEvent (d : Dev) (c : Nat) (deltas : List Int) (check : Option Nat) : Dev × List DramOp :=
  if ! d.pauseDue c || ! d.blockLive 8 0 then (d, [])
  else if d.mc.panic0 || d.mc.panic1 then (d.postpone c, [])
  else if d.holdsLeave (isRetraining c) then d.checkedPause c deltas check
  else if d.waitsLeave (isRetraining c) then (d.postpone c, [])
  else
    let a := d.askLeave (.retraining c) 4 400
    match a.1 with
    | .granted => a.2.checkedPause c deltas check
    | _ => (a.2.postpone c, [])

def execRetrainingPause (subch : Nat) (deltas : List Int) (check : Option Nat) (s : State) : Out :=
  onMem (.retrainingPause subch deltas check) (fun _ d => d.pauseEvent subch deltas check) s

/-- R381: a pause postponed for more than 1 s; its deltas are not in the row, so they are free. -/
def Dev.latePause (d : Dev) (c : Nat) : Dev :=
  match nth d.mc.dueSince c with
  | none => d
  | some t =>
    if d.mc.panic0 || d.now ≤ t + sT 1 then d
    else
      let r := (List.range ddrLanes).foldl (fun (r : List Int × Dev) _ =>
        let x := r.2.drawInt (-2 ^ 31) (2 ^ 31 - 1)
        (r.1 ++ [x.1], x.2)) ([], d)
      let d1 := { r.2 with mc := { r.2.mc with retrainLate := r.2.mc.retrainLate + 1 } }
      (d1.errRec 6 7 (2 ^ 64 - 1) 0xFF ⟨c, 0, 0, 0, 0⟩).pause c r.1

def execRetrainLate (subch : Nat) (s : State) : Out := onDev (.retrainLate subch) (fun _ d => d.latePause subch) s

/-! ## Migration (R387, R389) -/

def isMigration (c : Nat) : Requester → Bool
  | .migration b => c = b
  | _ => false

/-- The copy of a chunk meets the errors injected into it and those that its reads find, by address; a burst poisoned already
stays so in the spare. -/
def Dev.copyErrors (d : Dev) (m : Dram) (c chunk rank : Nat) (found : List (Nat × EccOutcome)) : Dev × List DramOp :=
  let inside := fun (a : Nat) => let l := d.locOf a; l.subch / 2 = c && l.rank = rank && d.chunkOf l = chunk && a < d.mc.capacity
  let met := found.filter (inside ·.1)
  let rest := m.injected.filter fun (e : Nat × Bool) => inside (64 * e.1) && ! met.any fun x => burstOf x.1 = e.1
  (met ++ rest.map fun (e : Nat × Bool) => (64 * e.1, EccOutcome.clean)).foldl (fun (r : Dev × List DramOp) (x : Nat × EccOutcome) =>
    if m.poison.contains (burstOf x.1) then r
    else
      let y := r.1.readBurst (applyOps m r.2) 6 (64 * burstOf x.1) x.2
      (y.1, r.2 ++ y.2.1)) (d, [])

/-- The last chunk is copied: the rank is RETIRED, the spare ACTIVE in its role. -/
def Dev.migrated (d : Dev) (c rank : Nat) : Dev :=
  let spare := (nth d.mc.chans c).ranks.idxOf RankState.spare
  let d1 := d.changeMap c fun ch =>
    { (ch.change rank .retired fun rs => rs.map fun r => if r = rank then spare else r).change spare .active id with mig := none }
  let d2 := d1.retireDone c rank
  (d2.release (isMigration c)).finishJobs (fun k => match k with | .migrate b => b = c | _ => false) 0 0 []

/-- The rows of a chunk, in the rank that is copied and in the spare, are opened (R371, R379). -/
def Dev.openChunk (d : Dev) (c chunk rank : Nat) : Dev :=
  let spare := (nth d.mc.chans c).ranks.idxOf RankState.spare
  ([rank, spare].flatMap fun k => [2 * c, 2 * c + 1].flatMap fun s => (List.range 32).flatMap fun b =>
    (List.range 4).map fun i => (s, k, b, 4 * chunk + i)).foldl Dev.openRow d

/-- One chunk of a migration with leave. -/
def Dev.copyChunk (d : Dev) (m : Dram) (c : Nat) (g : Migration) (found : List (Nat × EccOutcome)) : Dev × List DramOp :=
  if (d.now : Rat) < g.due then (d, [])
  else
    let r := (d.openChunk c (g.chunk g.copied) g.rank).copyErrors m c (g.chunk g.copied) g.rank found
    let d1 := r.1.onChan c fun ch => { ch with mig := ch.mig.map fun x => { x with copied := x.copied + 1, due := pace x.due d.now d.mc.chunkTicks } }
    (if g.copied + 1 < g.total then d1 else d1.migrated c g.rank, r.2)

def Dev.chunkEvent (d : Dev) (m : Dram) (c : Nat) (found : List (Nat × EccOutcome)) : Dev × List DramOp :=
  match (nth d.mc.chans c).mig with
  | none => (d, [])
  | some g =>
    if ! d.blockLive 8 0 then (d, [])
    else if d.holdsLeave (isMigration c) then d.copyChunk m c g found
    else if d.waitsLeave (isMigration c) then (d, [])
    else
      let a := d.askLeave (.migration c) 4 d.mc.migDraw
      match a.1 with
      | .granted => a.2.copyChunk m c g found
      | _ => (a.2, [])

def execMigrationChunkCopy (channel : Nat) (found : List (Nat × EccOutcome)) (s : State) : Out :=
  onMem (.migrationChunkCopy channel found) (fun m d => d.chunkEvent m channel found) s

/-- R389: the test of a whole RETIRED rank ends. -/
def Dev.tested (d : Dev) (c : Nat) (pass : Bool) : Dev :=
  match (nth d.mc.chans c).testing with
  | none => d
  | some r =>
    let p := fun (k : JobKind) => match k with | .unretire b => decide (b = c) | _ => false
    let d1 := d.onChan c fun ch => { ch with testing := none }
    let d2 := if pass then d1.onChan c (DramChan.change r .spare id) else d1
    let d3 := if pass then
        { d2 with mc := { d2.mc with exhausted := d2.mc.exhausted && d2.mc.chans.any fun ch => ! ch.hasSpare } }
      else d2
    let d4 := (d3.host.jobs.filter fun j => p j.kind).foldl (fun e j => e.logJob j 0x09 c d.mc.mapBytes d3.mc.mapBytes) d3
    d4.finishJobs p (if pass then 0 else 0x40) 0 []

def execUnretireTestComplete (channel : Nat) (pass : Bool) (s : State) : Out :=
  onDev (.unretireTestComplete channel pass) (fun _ d => d.tested channel pass) s

/-! ## Commands (R392 to R394) -/

def memFenceBody : Body := fun _ m d =>
  let r := d.applyUnfenced m
  .ok r.1 [] r.2

def execMemFence (mbx : Nat) (s : State) : Out := runCmd (.memFence mbx) memFenceBody s

def MemCtl.confBytes (m : MemCtl) : List Byte := u32 m.order ++ u32 m.k ++ u32 m.scrubH ++ u32 m.ceLimit ++ u32 m.migRate

def memConfigBody (order k scrub ceLimit rate : Nat) : Body := fun x _ d =>
  if 3 < order ∨ k < 6 ∨ 16 < k ∨ scrub = 0 ∨ 168 < scrub ∨ (ceLimit ≠ 0 ∧ (ceLimit < 10 ∨ 1000000 < ceLimit)) ∨ rate = 0 ∨ 8 < rate
  then badArg
  else if ! d.queueEmpty ∨ (order ≠ d.mc.order ∧ d.recd.rings.any (·.configured)) then refusedBusy
  else
    let m := { d.mc with order := order, k := k, scrubH := scrub, ceLimit := ceLimit, migRate := rate }
    .ok (({ d with mc := m }).log x 0x09 0 d.mc.confBytes m.confBytes) m.confBytes
      (if order = d.mc.order then [] else [.remap d.mc.order order d.mc.rowBits, .renew (d.mc.hostLimit / 64)])

def execMemConfig (mbx order k scrub ceLimit rate : Nat) (s : State) : Out :=
  runCmd (.memConfig mbx order k scrub ceLimit rate) (memConfigBody order k scrub ceLimit rate) s

def memQosBody (dma bar2 cox : Nat) : Body := fun x _ d =>
  if [dma, bar2, cox].any fun n => n = 0 || 15 < n then badArg
  else
    let new := [dma, bar2, cox].flatMap u32
    .done (({ d with mc := { d.mc with qos := [dma, bar2, cox] } }).log x 0x09 1 (d.mc.qos.flatMap u32) new) new

def execMemQos (mbx dma bar2 cox : Nat) (s : State) : Out := runCmd (.memQos mbx dma bar2 cox) (memQosBody dma bar2 cox) s

/-- Per channel: the chip selects, the rank map, the migration, the counts. -/
def DramChan.report (c : DramChan) : List Byte :=
  c.chips.flatMap (fun r => u32 (boolN r.present) ++ u32 r.width ++ u32 r.gbit)

def DramChan.counts (c : DramChan) : List Byte := (List.range 3).flatMap fun r => u32 (nth c.ce r) ++ u32 (nth c.ue r)

def DramChan.progress (c : DramChan) : List Byte :=
  match c.mig with
  | some g => u32 g.copied ++ u32 g.total
  | none => u32 0 ++ u32 0

def MemCtl.report (m : MemCtl) : List Byte :=
  m.chans.flatMap DramChan.report ++ u32 m.bin ++ u32 m.order ++ u64 m.hostLimit ++ m.mapBytes ++ m.chans.flatMap DramChan.progress ++
  m.chans.flatMap DramChan.counts ++ m.panicCounts.flatMap u32 ++ u32 m.retrainLate ++ m.deltaBytes 15 ++ u32 m.refresh

def memStatusBody : Body := fun _ _ d => .done d d.mc.report

def execMemStatus (mbx : Nat) (s : State) : Out := runCmd (.memStatus mbx) memStatusBody s

/-- Records first to first + count − 1, the oldest held being 0; as many as a result holds. -/
def memErrlogBody (first count clear : Nat) : Body := fun _ _ d =>
  if 1 < clear ∨ count = 0 ∨ 62 < count then badArg
  else .done (if clear = 1 then { d with mc := { d.mc with errs := [] } } else d)
    (listOf ErrRec.bytes ((d.mc.errs.drop first).take count))

def execMemErrlog (mbx first count clear : Nat) (s : State) : Out :=
  runCmd (.memErrlog mbx first count clear) (memErrlogBody first count clear) s

/-- R386, R394, R527: a working rank is retired on command. -/
def memMigrateBody (c rank : Nat) : Body := fun x _ d =>
  let ch := nth d.mc.chans c
  let phys := ch.roles.getD rank 0
  if 2 ≤ c ∨ ch.roles.length ≤ rank then badArg
  else if ch.mig.isSome then refusedBusy
  else if ! ch.hasSpare then badArg
  else
    let a := d.request (.migration c) 4 d.mc.migDraw 0
    let fin := fun (granted : Bool) (hint : Nat) =>
      let d1 := a.2.markMigration c phys none granted
      Res.accepted (d1.log x 0x09 c d.mc.mapBytes d1.mc.mapBytes) hint (.migrate c) []
    match a.1 with
    | .refused n => .refuseWith a.2 0x11 n 0 [] []
    | .granted => fin true 0
    | .deferred => fin false ((a.2.gov.waiting.find? fun l => isMigration c l.who).map a.2.leaveHint |>.getD 0)

def execMemMigrate (mbx channel rank : Nat) (s : State) : Out :=
  runCmd (.memMigrate mbx channel rank) (memMigrateBody channel rank) s

def memUnretireBody (c rank : Nat) : Body := fun _ _ d =>
  let ch := nth d.mc.chans c
  if 2 ≤ c ∨ 3 ≤ rank ∨ nth ch.ranks rank != .retired then badArg
  else if ! d.queueEmpty ∨ ch.mig.isSome ∨ ch.testing.isSome then refusedBusy
  else .accepted (d.onChan c fun ch => { ch with testing := some rank }) 0 (.unretire c) []

def execMemUnretire (mbx channel rank : Nat) (s : State) : Out :=
  runCmd (.memUnretire mbx channel rank) (memUnretireBody channel rank) s

/-- Leave for every pause named; the first refusal is the answer (R527). -/
def Dev.askPauses (d : Dev) (cs : List Nat) : Option Nat × Bool × Dev :=
  cs.foldl (fun r c =>
    if r.1.isSome || r.2.2.holdsLeave (isRetraining c) || r.2.2.waitsLeave (isRetraining c) then r
    else
      let a := r.2.2.request (.retraining c) 4 400 0
      match a.1 with
      | .granted => (none, r.2.1, a.2)
      | .deferred => (none, true, a.2)
      | .refused n => (some n, r.2.1, a.2)) (none, false, d)

def memRetrainBody (mask : Nat) : Body := fun _ _ d =>
  if mask = 0 ∨ 16 ≤ mask then badArg
  else
    let a := d.askPauses (bitsOf 4 mask)
    match a.1 with
    | some n => .refuseWith { d with gov := { d.gov with counts := a.2.2.gov.counts } } 0x11 n 0 [] []
    | none =>
      let e := a.2.2
      let waits := fun (l : Leave) => (bitsOf 4 mask).any fun c => isRetraining c l.who
      .accepted e (if a.2.1 then ((e.gov.waiting.find? waits).map e.leaveHint).getD 0 else 0) (.retrain (17 * mask)) []

def execMemRetrain (mbx mask : Nat) (s : State) : Out := runCmd (.memRetrain mbx mask) (memRetrainBody mask) s

/-- CORRECTED is 1, UNCORRECTABLE 2, as KIND of R391 has them. -/
def memInjectBody (addr kind : Nat) : Body := fun x _ d =>
  if (kind ≠ 1 ∧ kind ≠ 2) ∨ ! d.rangeOk addr 64 then badArg
  else .ok (d.log x 0x09 2 [] (u64 addr ++ u32 kind)) [] [.inject (burstOf addr) (kind = 2)]

def execMemInject (mbx addr kind : Nat) (s : State) : Out := runCmd (.memInject mbx addr kind) (memInjectBody addr kind) s

end Sys2Proof.Machine
end

