-- ==== Sys2Proof/Machine/CalOps.lean ====
section
/-! DEFINITION. The AVS target (R515), self-calibration (R535 to R538) and re-planning (R540 to R542). -/

namespace Sys2Proof.Machine

/-! ## The AVS target (R515, R530) -/

/-- Guard band of a temperature band, µV. -/
def bandGuard (band : Nat) : Nat := if band = 1 then 0 else if band = 3 then 20000 else 10000

/-- The target from base, temperature band and wear; 0.88 V after a fault (R516). -/
def Dev.retarget (d : Dev) : Dev :=
  let t := if d.therm.avsFault then 880000
    else max 720000 (min 880000 (d.therm.baseUv + bandGuard d.therm.guardBand + d.cal.wearUv))
  { d with therm := { d.therm with targetUv := t } }

/-! ## Self-calibration (R535 to R538) -/

/-- The order in which the blocks of a run are taken. -/
def calOrder : List Nat := [2, 3, 4, 1, 5, 6]

def isCal (b : Nat) : Requester → Bool
  | .cal c => b = c
  | _ => false

/-- Index of the temperature set whose nominal temperature lies within 5 °C. -/
def calSet (c100 : Int) : Option Nat := (List.range 5).find? fun i => (c100 - (-2000 + 3000 * (i : Int))).natAbs ≤ 500

/-- A pass: the coefficient measured goes into the set near the junction temperature, if any lies there (R537). -/
def CalInst.pass (timeS timeNs : Nat) (c100 coef : Int) (x : CalInst) : CalInst :=
  let y := { x with result := 1, timeS := timeS, timeNs := timeNs, c100 := c100, failed := false }
  match calSet c100 with
  | some i => { y with sets := x.sets.set i true, coefs := x.coefs.set i coef }
  | none => y

/-- A failure: the coefficients stay, the instance is marked (R538). -/
def CalInst.fail (timeS timeNs : Nat) (c100 : Int) (x : CalInst) : CalInst :=
  { x with result := 2, timeS := timeS, timeNs := timeNs, c100 := c100, failed := true }

def Dev.onCalInst (d : Dev) (b i : Nat) (f : CalInst → CalInst) : Dev :=
  { d with cal := { d.cal with blocks := upd d.cal.blocks (b - 1) fun bank => upd bank i f } }

/-- R552, R570: the current through REXT lies more than 2 % off that through 10.0 kΩ. -/
def Pins.rextOff (p : Pins) : Bool := p.rext = 0 || 2 * p.rext < 100 * (10000 - (p.rext : Int)).natAbs

/-- The instances that pass: in COMPAT none while REXT is off (R552). -/
def Dev.calPasses (d : Dev) (mask : Nat) : Nat := if d.boot.compat && d.pins.rextOff then 0 else mask

/-- A block has run on the instances of a mask: results, coefficients, marks, a health record per failure. What a run measures
is a free value. -/
def Dev.calEnter (d : Dev) (b instances passMask : Nat) : Dev :=
  ((List.range (nth d.cal.blocks (b - 1)).length).filter instances.testBit).foldl (fun e i =>
    let v := e.drawInt (-2 ^ 31) (2 ^ 31 - 1)
    if passMask.testBit i then v.2.onCalInst b i (CalInst.pass e.time.sec e.nsNow e.therm.c100 v.1)
    else (v.2.onCalInst b i (CalInst.fail e.time.sec e.nsNow e.therm.c100)).healthRec 0x05 1 0x10 i v.1 0 0 0) d

/-- The line through the sets that bracket a temperature, clamped to the outer sets (R537). -/
def calLine (cs : List Int) (c100 : Int) : Rat :=
  let c := max (-2000) (min 10000 c100)
  let i := min 3 (natOf ((c + 2000) / 3000))
  let t : Rat := ((c + 2000 - 3000 * (i : Int) : Int) : Rat) / 3000
  ((nth cs i : Int) : Rat) * (1 - t) + ((nth cs (i + 1) : Int) : Rat) * t

/-- The working coefficients at a temperature; the DAC and the monitor ADC of an oar that is held keep theirs. -/
def Cal.interp (c : Cal) (c100 : Int) (held : Nat → Bool) : Cal :=
  { c with blocks := c.blocks.mapIdx fun b l => l.mapIdx fun k (x : CalInst) =>
      if b < 2 && held k then x else { x with work := calLine x.coefs c100 } }

/-- R537: interpolated anew at the junction temperature; an oar that exposes takes its own at its next finish. -/
def Dev.reinterp (d : Dev) : Dev :=
  let busy := fun (k : Nat) => (nth d.eng k).exposing
  { d with
    therm := { d.therm with lastInterp := d.therm.c100 }
    cal := { d.cal.interp d.therm.c100 busy with pendingInterp := maskOf ((List.range 32).filter busy) } }

/-- The oars that have come to their finish take the coefficients that waited for it. -/
def Dev.interpTick (d : Dev) : Dev :=
  let left := maskOf ((bitsOf 32 d.cal.pendingInterp).filter fun k => (nth d.eng k).exposing)
  if left = d.cal.pendingInterp then d
  else { d with cal := { d.cal.interp d.therm.lastInterp left.testBit with pendingInterp := left } }

/-- A signed value in 16 bits, saturated. -/
def sat16 (n : Int) : List Byte := le 2 (wrapTo 16 (max (-32768) (min 32767 n)))

/-- Result, temperature sets held, temperature and time of the last run (R536; DESIGN CHOICE, log 12). -/
def CalInst.bytes (x : CalInst) : List Byte :=
  u8 x.result ++ u8 (maskOf ((List.range 5).filter fun i => nth x.sets i)) ++ sat16 x.c100 ++ u64 x.timeS ++ u32 x.timeNs

/-- The calibration sets as `cal.status` returns them. -/
def Cal.form (c : Cal) : List Byte := c.blocks.flatMap fun l => l.flatMap CalInst.bytes

/-- The values of production test (R537). -/
def CalInst.factory (x : CalInst) : CalInst := { x with sets := List.replicate 5 true, coefs := x.made }

/-- Pass or fail per instance run, block by block (R554). -/
def Cal.results (c : Cal) (run : CalRun) : List Byte :=
  run.results.flatMap fun r => ((List.range (nth c.blocks (r.1 - 1)).length).filter run.instances.testBit).flatMap fun i =>
    u32 (boolN (! r.2.testBit i))

/-! ## Re-planning (R540 to R542) -/

/-- Least-squares line through samples: mean and slope at the mean time. -/
def lineFit (ps : List (Rat × Rat)) : Rat × Rat × Rat :=
  let n : Rat := (ps.length : Nat)
  let tm := sumQ (ps.map (·.1)) / n
  let ym := sumQ (ps.map (·.2)) / n
  let var := sumQ (ps.map fun p => (p.1 - tm) ^ 2)
  let cov := sumQ (ps.map fun p => (p.1 - tm) * (p.2 - ym))
  (tm, ym, if var = 0 then 0 else cov / var)

/-- The monitors of a sample in the order of R540: replicas, eyes, DRAM deltas, converters, oscillator trim. -/
def WearSample.values (w : WearSample) : List Int :=
  w.slack ++ w.eye.flatMap (fun p => [(p.1 : Int), (p.2 : Int)]) ++ w.deltas ++ w.drift ++ [w.trim]

/-- The line of monitor i over a history. -/
def wearLine (h : List WearSample) (i : Nat) : Rat × Rat × Rat :=
  lineFit (h.map fun s => ((s.sec : Rat), ((s.values.getD i 0 : Int) : Rat)))

/-- Its trend per day. -/
def wearTrend (h : List WearSample) (i : Nat) : Int := roundRat ((wearLine h i).2.2 * 86400)

/-- The slack of replica i in ps, projected 24 h ahead. -/
def slackAhead (h : List WearSample) (now i : Nat) : Rat :=
  let l := wearLine h i
  (l.2.1 + l.2.2 * ((now : Rat) + 86400 - l.1)) / 100

/-- The replica whose projection is the smallest. -/
def worstReplica (h : List WearSample) (now : Nat) : Nat :=
  (List.range 16).foldl (fun m i => if slackAhead h now i < slackAhead h now m then i else m) 0

/-- S_min in ps: the smallest replica slack projected 24 h ahead. -/
def slackMin (h : List WearSample) (now : Nat) : Rat := slackAhead h now (worstReplica h now)

/-- The lane whose delta is the largest. -/
def widest (ds : List Int) : Nat :=
  (List.range ds.length).foldl (fun m i => if (ds.getD m 0).natAbs < (ds.getD i 0).natAbs then i else m) 0

/-- The largest DRAM delta of a history. -/
def deltaMax (h : List WearSample) : Nat := h.foldl (fun m s => s.deltas.foldl (fun m x => max m x.natAbs) m) 0

/-- The deltas of the latest pauses, 40 lanes a subchannel. -/
def MemCtl.lanes (m : MemCtl) : List Int := (List.range 160).map fun i => (nth m.deltas (i / 40)).getD (i % 40) 0

/-- The monitors now: eyes and deltas as they stand, the rest as the latest re-plan sampled it. -/
def Dev.monitors (d : Dev) : WearSample :=
  let w := (d.cal.history.head?).getD ⟨0, List.replicate 16 0, [], [], List.replicate 81 0, 0, 0⟩
  { w with eye := d.links.ports.map (·.probe), deltas := d.mc.lanes }

/-- A sample: slack and drift are free measurements; the IRO's corrections since the last sample, per day. -/
def Dev.takeSample (d : Dev) (slack drift : List Int) : WearSample :=
  let gone := match d.cal.history.head? with
    | some s => (d.cal.iroSum - s.ppb) * 86400 / max 1 ((d.time.sec : Int) - s.sec)
    | none => 0
  ⟨d.time.sec, slack, d.links.ports.map (·.probe), d.mc.lanes, drift, gone, d.cal.iroSum⟩

/-- Half of the pass limit of R535, LSB times 100: DNL of 0.5 LSB, the IRO's 1 ppm at 0.1 ppm a count, an analogue input's offset of
2 LSB. -/
def halfLimit (i : Nat) : Int := if i < 72 then 25 else if i = 72 then 500 else 100

/-- R539: the 24 h re-plan files a record for each statistic of 0x2 to 0x4 that has drifted beyond half of its limit. -/
def Dev.driftRecs (d : Dev) (h : List WearSample) (drift : List Int) : Dev :=
  ((List.range 81).filter fun i => 32 ≤ i && decide (halfLimit i < (drift.getD i 0).natAbs)).foldl (fun e i =>
    e.healthRec 0x05 1 0x10 (if i < 64 then i - 32 else if i < 73 then i % 8 else i - 73) (drift.getD i 0) (halfLimit i) (wearTrend h (242 + i)) 0) d

/-- Units of 2 ps of shortfall against SLACK_TARGET. -/
def shortUnits (smin : Rat) : Nat := natOf (ceilRat (max 0 (20 - smin) / 2))

/-- R541: presets whose latest probe fell below the minima move to the end of their list. -/
def Port.replan (p : Port) : Port :=
  let bad := fun (band preset : Nat) =>
    match p.history.find? (·.1 = 16 * band + preset) with
    | some h => decide (h.2.1 < p.eqWidth ∨ h.2.2 < p.eqHeight)
    | none => false
  let one := fun (band : Nat) (s : List Nat × Option Nat) =>
    (s.1.filter (fun x => ! bad band x) ++ s.1.filter (bad band),
     match s.2 with | some x => if bad band x then none else some x | none => none)
  { p with presets := p.presets.mapIdx one }

/-- The presets of a set in their order, four bits each, 8 marking one that is there. -/
def nibbles (ps : List Nat) : Nat := ps.foldr (fun p n => 16 * n + (8 + p % 8)) 0

/-- The present plan of R541 as bytes (DESIGN CHOICE, log 12): wear guard band, thresholds, DRAM margin, preset orders. -/
def Dev.planBytes (d : Dev) : List Byte :=
  u32 d.cal.wearUv ++ u32 (bandGuard d.therm.guardBand) ++ i32 d.cal.t2 ++ i32 d.cal.t3 ++
  d.links.ports.flatMap (fun p => p.presets.flatMap fun s => u32 (nibbles s.1)) ++ i32 d.mc.margin

/-- What of the links changes: a health record per port whose lists change. -/
def Dev.replanLinks (d : Dev) : Dev :=
  (List.range 33).foldl (fun d n =>
    let p := d.port n
    let q := p.replan
    if q = p then d
    else
      let latest := (p.history.map (·.1)).eraseDups.filterMap fun key => p.history.find? (·.1 = key)
      let low := (latest.find? fun h => h.2.1 < p.eqWidth ∨ h.2.2 < p.eqHeight).getD (0, 0, 0)
      let wide : Bool := low.2.1 < p.eqWidth
      (d.onPort n fun _ => q).healthRec 0x03 1 0x05 n (if wide then low.2.1 else low.2.2) (if wide then p.eqWidth else p.eqHeight)
        (wearTrend d.cal.history (16 + 2 * n + boolN (! wide))) 0) d

/-- n free measurements. -/
def Dev.measure (d : Dev) (n : Nat) : List Int × Dev :=
  (List.range n).foldl (fun (r : List Int × Dev) _ =>
    let x := r.2.drawInt (-2 ^ 31) (2 ^ 31 - 1)
    (r.1 ++ [x.1], x.2)) ([], d)

/-- The timing of each lane with the latest pause result taken into it. -/
def MemCtl.retimed (m : MemCtl) : List (List Int) :=
  m.timing.mapIdx fun i ts => ts.mapIdx fun j (t : Int) => t + (nth m.deltas i).getD j 0

/-- R541: the latest pause results replace the saved training of the ranks as they stand. -/
def Dev.saveTraining (d : Dev) : Dev :=
  if d.flash.training.isNone then d
  else { d with flash := { d.flash with training := some (d.mc.bin, d.mc.chans.map (·.roles), d.mc.retimed) } }

/-- A re-plan: the slack of the replicas at the present voltage and the drift of the converters are free measurements; the
rest follows R541. An IRO whose corrections of a day pass half of R535's 1 ppm has a record (DESIGN CHOICE, log 155). `daily`
marks the re-plan of each 24 h of Build, which evaluates the drift. -/
def Dev.replan (d0 : Dev) (daily : Bool) : Dev :=
  let r := d0.measure 16
  let q := r.2.measure 81
  let d := q.2
  let now := d.time.sec
  let w := d.takeSample r.1 q.1
  let h := w :: d.cal.history.filter fun s => now < s.sec + 30 * 86400
  let big := deltaMax [w]
  let u := shortUnits (slackMin h now)
  let beyond : Bool := 40000 < 2500 * u
  let wear := max d.cal.wearUv (min 40000 (2500 * u))
  let drop : Int := 100 * (min 10 u : Nat)
  let margin : Int := max 10 (3 * (deltaMax h : Nat))
  let d1 := { d with
    cal := { d.cal with
      history := h, wearUv := wear, t2 := 8500 - drop, t3 := 10500 - drop, replanSince := none, buildTicks := 0,
      marginLow := d.cal.marginLow || beyond }
    mc := { d.mc with margin := margin } }
  let s := roundRat (slackMin h now * 100)
  let d2 := if wear ≠ d.cal.wearUv ∨ beyond then d1.healthRec 0x02 (if beyond then 2 else 0) 0x10 0xFF d.cal.wearUv 40000 0 wear else d1
  let d3 := if d1.cal.t2 ≠ d.cal.t2 then d2.healthRec 0x01 0 0x10 0xFF s 2000 (wearTrend h (worstReplica h now)) 0 else d2
  let d4 := if margin ≠ d.mc.margin then d3.healthRec 0x04 0 0x07 0xFF big d.mc.margin (wearTrend h (82 + widest w.deltas)) margin else d3
  let d5 := if 500 < w.trim.natAbs then d4.healthRec 0x06 1 0x10 0 w.trim 500 (wearTrend h 323) 0 else d4
  (if daily then d5.driftRecs h q.1 else d5).replanLinks.saveTraining.retarget

/-- A re-plan with its Logbook record: origin Cox firmware, object 0x14; the command that asked for it, if any. -/
def Dev.replanNow (d : Dev) : Dev :=
  let j := d.host.jobs.find? fun j => j.kind == .replan
  let d1 := d.replan (j.isNone && d.mode.mode != .start)
  let d2 := d1.logRaw ⟨5, 0, (j.map (·.opcode)).getD 0, 0x14, 0, (j.map (·.tag)).getD 0,
    (j.map fun (j : Job) => if j.mbx < 16 then j.mbx else 0xFF).getD 0xFE, sha256 d.planBytes, sha256 d1.planBytes⟩
  d2.finishJobs (· == .replan) 0 0 d1.planBytes

end Sys2Proof.Machine
end

