-- ==== Sys2Proof/Machine/LogRows.lean ====
section
/-! DEFINITION. The `log`, `cal` and `health` commands (R546, R554) and their events. -/

namespace Sys2Proof.Machine

/-! ## The Logbook (R543 to R546) -/

/-- R545: what waits for flash is appended. -/
def execLogbookFlush (s : State) : Out := onDev .logbookFlush (fun _ d => { d with logs := d.logs.flush }) s

/-- A record from chip, or else from the flash journal. -/
def Logs.find (l : Logs) (seq : Nat) : Option LogRec := (l.chip.find? (·.seq = seq)).or (l.journal.find? (·.seq = seq))

def logReadBody (first count : Nat) : Body := fun _ _ d =>
  if count = 0 ∨ 15 < count then badArg
  else .done d (listOf LogRec.bytes ((List.range count).filterMap fun i => d.logs.find (first + i)))

def execLogRead (mbx first count : Nat) (s : State) : Out := runCmd (.logRead mbx first count) (logReadBody first count) s

/-- R546: whether a record's CHAIN follows from that of the record before it, or the oldest from the one overwritten last. -/
def Logs.chainOk (l : Logs) (r : LogRec) : Bool :=
  let prev := ((l.journal.find? (·.seq + 1 = r.seq)).map (·.chain)).getD l.base
  sha256 (r.head ++ prev) = r.chain

def logVerifyBody (first last : Nat) : Body := fun _ _ d =>
  if last < first then badArg
  else
    let rs := d.logs.journal.filter fun r => first ≤ r.seq ∧ r.seq ≤ last
    .done d (u32 (((rs.find? fun r => ! d.logs.chainOk r).map (·.seq)).getD 0xFFFFFFFF))

def execLogVerify (mbx first last : Nat) (s : State) : Out := runCmd (.logVerify mbx first last) (logVerifyBody first last) s

/-- Counters of sources 0x01 to 0x10, places used, general and kept (R549). -/
def logSpoilstatBody (clear : Nat) : Body := fun _ _ d =>
  let l := d.logs
  if 1 < clear then badArg
  else .done (if clear = 1 then { d with logs := { l with overflow := List.replicate 17 0 } } else d)
    ((l.overflow.drop 1).flatMap u32 ++ u32 (l.spoilUsed false) ++ u32 (l.spoilUsed true))

def execLogSpoilstat (mbx clear : Nat) (s : State) : Out := runCmd (.logSpoilstat mbx clear) (logSpoilstatBody clear) s

/-- R543: a host note. -/
def logNoteBody (data : List Byte) : Body := fun x _ d =>
  .done (d.logDigest x 0 0x13 0 (List.replicate 32 0) data) (u32 d.logs.nextLog)

def execLogNote (mbx : Nat) (data : List Byte) (s : State) : Out := runCmd (.logNote mbx data) (logNoteBody data) s

/-- R547: the blocks. -/
def sourceNames : List String :=
  ["", "Cox", "Marshal", "exposure engine", "loop array", "Rigger port", "melt-pool engine and recorder", "DRAM",
   "host interface", "Ethernet and time", "slide axes", "imaging and LED", "clocks", "reset and boot ladder", "Umpire",
   "power and temperature", "calibration and health"]

/-- R576: the events named, without the references. -/
def eventNames : List (Nat × Nat × String) :=
  [(1, 1, "task restarted by the watchdog"),
   (1, 2, "class deadline expired after the effect point; late response discarded"),
   (1, 3, "Cox core out of service"), (1, 4, "Hold recovery failed"), (2, 1, "list block damaged"),
   (2, 2, "dispatch failed by a block fault; Hold"), (3, 1, "head temperature invalid; working grid kept"),
   (4, 1, "loop processor declared failed"), (4, 2, "slot entered FAULT"), (5, 1, "latencies beyond R170 at training or relock"),
   (5, 2, "port FAILED"), (5, 3, "switched to the shadow clock"), (5, 4, "sleep or idle not acknowledged"),
   (7, 1, "uncorrectable error"), (7, 2, "rank retirement started"), (7, 3, "rank retirement completed"), (7, 4, "SPARE_EXHAUSTED"),
   (8, 1, "PCIe link down or degraded"), (9, 1, "Ethernet port down"), (9, 2, "Ethernet port up again"), (9, 3, "PTP domain lost"),
   (9, 4, "gang peer lost")] ++
  [(10, 1, "recoat axis fault ends a recoat step"), (10, 2, "GLITCH"), (10, 3, "QUAD_ERR"), (10, 4, "WIRE_FAULT"),
   (10, 5, "STUCK index"), (10, 6, "index re-zeroed"), (11, 1, "bed image ABSENT"), (11, 2, "LED channel entered FAULT"),
   (12, 1, "duplicated PLL switchover"), (12, 2, "multiplexer handshake bypassed"), (12, 3, "multiplexer switch abandoned"),
   (12, 4, "selected reference lost"), (13, 1, "block left in reset"), (13, 2, "block reset by `sys.blockreset`"),
   (13, 3, "preferred firmware slot refused"), (15, 1, "monitored rail out of its window")]

def hexDigit (n : Nat) : String := String.singleton (Char.ofNat (if n < 10 then 48 + n else 55 + n))

/-- The name of a source and code. -/
def describe (source code : Nat) : String :=
  let c := code % 4096
  if source = 14 ∧ 1 ≤ c / 256 ∧ c / 256 ≤ 0xD then "Umpire event record"
  else match eventNames.find? fun e => e.1 = source ∧ e.2.1 = c with
    | some e => e.2.2
    | none => nth sourceNames source ++ " code 0x" ++ hexDigit (c / 256) ++ hexDigit (c / 16 % 16) ++ hexDigit (c % 16)

/-- Text as R577 carries it; a name has up to 64 characters. -/
def textBytes (s : String) : List Byte :=
  let bs := (s.toList.take 64).map fun c => BitVec.ofNat 8 c.toNat
  bs ++ List.replicate (4 - bs.length % 4) 0

def logDescribeBody (source code : Nat) : Body := fun _ _ d =>
  if source = 0 ∨ 16 < source then badArg else .done d (textBytes (describe source code))

def execLogDescribe (mbx source code : Nat) (s : State) : Out := runCmd (.logDescribe mbx source code) (logDescribeBody source code) s

/-! ## Calibration (R535 to R539) -/

/-- The blocks of a mask in the order in which they run; bit c is block code c. -/
def calBlocks (mask : Nat) : List Nat := calOrder.filter mask.testBit

/-- R539, R554: a run begins once its first block has leave. -/
def calRunBody (blocks instances : Nat) : Body := fun _ _ d =>
  let bs := calBlocks blocks
  if bs = [] ∨ blocks % 2 = 1 ∨ 128 ≤ blocks then badArg
  else if d.layers.released.isSome ∨ d.cal.run.isSome then refusedBusy
  else
    let a := d.request (.cal (bs.headD 0)) 4 1000 0
    let go := fun (granted : Bool) (hint : Nat) =>
      let d1 := { a.2 with cal := { a.2.cal with run := some ⟨bs, instances, granted, [], d.now, d.cal.blocks⟩ } }
      Res.accepted d1 hint .cal []
    match a.1 with
    | .refused n => .refuseWith a.2 0x11 n 0 [] []
    | .granted => go true 0
    | .deferred => go false (((a.2.gov.waiting.find? fun l => isCal (bs.headD 0) l.who).map a.2.leaveHint).getD 0)

def execCalRun (mbx blocks instances : Nat) (s : State) : Out := runCmd (.calRun mbx blocks instances) (calRunBody blocks instances) s

/-- A run ends, with its record; one that is refused leave leaves the coefficients as they were before it (R554). -/
def Dev.calEnd (d : Dev) (run : CalRun) (status detail : Nat) : Dev :=
  let kept : Bool := status ≠ 0x11
  let e := { d with cal := { d.cal with run := none, blocks := if kept then d.cal.blocks else run.before } }.reinterp
  let old := ({ d.cal with blocks := run.before } : Cal).form
  let d1 := if kept then (d.host.jobs.filter (·.kind == .cal)).foldl (fun e j => e.logJob j 0x0D 0xFFFF old e.cal.form) e else e
  d1.finishJobs (· == .cal) status detail (if status = 0 then d1.cal.results run else [])

/-- The next block of a run asks for leave, or the run ends. -/
def Dev.calNext (d : Dev) (run : CalRun) : Dev :=
  match run.blocks with
  | [] => d.calEnd run 0 0
  | b :: _ =>
    let a := d.request (.cal b) 4 1000 0
    match a.1 with
    | .refused n => a.2.calEnd run 0x11 n
    | .granted => { a.2 with cal := { a.2.cal with run := some { run with granted := true, startTick := d.now } } }
    | .deferred => { a.2 with cal := { a.2.cal with run := some { run with granted := false } } }

/-- The block in hand has run for its duration. Out of Ready its result is not taken and the run ends ABORTED (R539: Build changes no
coefficient; DESIGN CHOICE, log 156). -/
def Dev.calDone (d : Dev) (mask : Nat) : Dev :=
  let passMask := d.calPasses mask
  match d.cal.run with
  | none => d
  | some run =>
    match run.granted, run.blocks with
    | true, b :: bs =>
      if d.now < run.startTick + msT (calMs b) then d
      else if d.mode.mode != .ready then (d.release (isCal b)).calEnd run 0x31 0
      else ((d.release (isCal b)).calEnter b run.instances passMask).calNext
        { run with blocks := bs, granted := false, results := run.results ++ [(b, passMask)] }
    | _, _ => d

def execCalBlockComplete (passMask : Nat) (s : State) : Out := onDevAny (fun _ d => d.calDone passMask) s

def calStatusBody : Body := fun _ _ d => .done d d.cal.form

def execCalStatus (mbx : Nat) (s : State) : Out := runCmd (.calStatus mbx) calStatusBody s

/-- R537, R541: the values of production test; the wear guard band falls back with them. -/
def calFactoryBody (blocks : Nat) : Body := fun x _ d =>
  if calBlocks blocks = [] ∨ blocks % 2 = 1 ∨ 128 ≤ blocks then badArg
  else if d.layers.released.isSome ∨ d.cal.run.isSome then refusedBusy
  else
    let bs := d.cal.blocks.mapIdx fun i l => if blocks.testBit (i + 1) then l.map CalInst.factory else l
    let d1 := ({ d with cal := { d.cal with blocks := bs, wearUv := 0 } }).reinterp.retarget
    .done (d1.log x 0x0D 0xFFFF d.cal.form d1.cal.form)

def execCalFactory (mbx blocks : Nat) (s : State) : Out := runCmd (.calFactory mbx blocks) (calFactoryBody blocks) s

/-! ## Health (R550, R541, R542) -/

def healthRecordsBody (first count : Nat) : Body := fun _ _ d =>
  if count = 0 ∨ 31 < count then badArg
  else .done d (listOf HealthRec.bytes (d.logs.health.filter fun r => first ≤ r.seq ∧ r.seq < first + count))

def execHealthRecords (mbx first count : Nat) (s : State) : Out :=
  runCmd (.healthRecords mbx first count) (healthRecordsBody first count) s

/-- 24 h of Build in ticks. -/
def dayTicks : Nat := sT 86400

/-- The plan; each monitor's latest value and trend per day, in 16 bits; Build hours to the next re-plan (DESIGN CHOICE, log 12). -/
def Dev.healthReport (d : Dev) : List Byte :=
  d.planBytes ++ d.monitors.values.zipIdx.flatMap (fun v => sat16 v.1 ++ sat16 (wearTrend d.cal.history v.2)) ++
  u32 ((dayTicks - d.cal.buildTicks) / sT 3600)

def healthReportBody : Body := fun _ _ d => .done d d.healthReport

def execHealthReport (mbx : Nat) (s : State) : Out := runCmd (.healthReport mbx) healthReportBody s

def healthReplanBody : Body := fun _ _ d =>
  if d.cal.replanSince.isSome then refusedBusy 1000000
  else .accepted { d with cal := { d.cal with replanSince := some d.now } } 1000000 .replan []

def execHealthReplan (mbx : Nat) (s : State) : Out := runCmd (.healthReplan mbx) healthReplanBody s

/-- R25, R542: a re-plan in progress finishes; it needs the Cox. -/
def execReplanComplete (s : State) : Out :=
  onDev .replanComplete (fun _ d => if d.coxRuns && d.cal.replanSince.isSome then d.replanNow else d) s

end Sys2Proof.Machine
end

