-- ==== Sys2Proof/Machine/SlideRows.lean ====
section
/-! DEFINITION. The slide commands (R326 to R346) and the events of limits, homing and encoders (R323 to R336). -/

namespace Sys2Proof.Machine

/-! ## Descriptors (R344, R345) -/

/-- Whether a value fits in 40 bits, signed (R310). -/
def fits40 (i : Int) : Bool := -2 ^ 39 ≤ i ∧ i < 2 ^ 39

/-- The resolution of each code of MS_MAP. -/
def msCodes (map : Nat) : List Nat := (List.range 8).map fun k => map / 16 ^ k % 16

/-- Whether a speed needs no more than min(4 MHz, 1/(2 × STEP_W)) pulses/s at a resolution. -/
def pulseOk (v coarse stepW : Nat) : Bool := v * 2 ^ coarse ≤ 256 * 4000000 ∧ v * 2 ^ coarse * 2 * stepW ≤ 256 * 1000000000

def inRange (lo hi n : Nat) : Bool := lo ≤ n && n ≤ hi

/-- R315, R344: the ranges of an axis descriptor. -/
def AxisDesc.ok (c : AxisDesc) : Bool :=
  c.axis < 8 && (c.encSel < 8 || c.encSel = 0xFF) && c.loopUse ≤ 2 && c.microFine ≤ 8 && c.microCoarse ≤ c.microFine &&
  (msCodes c.msMap).all (fun r => r ≤ 8 || r = 15) && (msCodes c.msMap).contains c.microFine &&
  (msCodes c.msMap).contains c.microCoarse && inRange 1 1024000000 c.vMax && 1 ≤ c.aMax && 1 ≤ c.dMax && 1 ≤ c.jMax &&
  decide (10 * c.msDown ≤ 9 * c.msUp) && inRange 50 10000 c.stepW && inRange 50 10000 c.dirSetup &&
  inRange 10 10000 c.msSetup && c.elecOffset ≤ 1023 && c.moveDrawW ≤ 200000 && fits40 c.softMin && fits40 c.softMax &&
  decide (c.softMin < c.softMax) && pulseOk c.vMax c.microCoarse c.stepW

/-- A descriptor installed on an axis that is not in motion; on one in motion it waits (R344). -/
def SlideAxis.install (c : AxisDesc) (x : SlideAxis) : SlideAxis :=
  let y := { x with pendingDesc := some c }
  if x.busy then y
  else
    let z := y.adopt
    { z with st := z.restState }

def Dev.axisDescBytes (d : Dev) (a : Nat) : List Byte := ((d.axis a).desc.map axisBytes).getD []

def slideConfigBody (ds : List AxisDesc) : Body := fun x _ d =>
  if ! ds.all AxisDesc.ok then badArg
  else
    let d1 := ds.foldl (fun d c => d.onAxis c.axis (SlideAxis.install c)) d
    .done (d1.log x 0x05 ((ds.head?.map (·.axis)).getD 0) (ds.flatMap fun c => d.axisDescBytes c.axis) (ds.flatMap axisBytes))
      (ds.flatMap fun c => sha256 (axisBytes c))

/-- `slide.config`. -/
def execSlideConfig (mbx : Nat) (ds : List AxisDesc) (s : State) : Out := runCmd (.slideConfig mbx ds) (slideConfigBody ds) s

/-- R345. -/
def EncDesc.ok (c : EncDesc) : Bool :=
  c.enc < 8 && c.emode ≤ 2 && inRange 1 800 c.minEdge && inRange 100 20000 c.obsBw && 1 ≤ c.num && 1 ≤ c.den &&
  inRange 1 10000 c.idxMaxOn && inRange 100 1000000 c.stillTime

/-- R345: count 0, observer in STILL, the next index edge sets INDEX_PHASE (R336). -/
def Encoder.install (c : EncDesc) (e : Encoder) : Encoder :=
  { e with desc := c, count := 0, rem := 0, conv := 0, indexPhase := none, pHat := 0, vHat := 0, still := true, stillPair := none }

/-- An axis that uses an encoder input is in motion. -/
def Dev.encBusy (d : Dev) (e : Nat) : Bool := d.slides.axes.any fun x => x.enc = some e && x.inMotion

/-- Journalled as an encoder configuration (R543; DEDUCED, log 129). -/
def slideEncoderBody (ds : List EncDesc) : Body := fun x _ d =>
  if ! ds.all EncDesc.ok then badArg
  else if ds.any fun c => d.encBusy c.enc then refusedBusy
  else .done ((ds.foldl (fun d c => d.onEnc c.enc (Encoder.install c)) d).log x 0x05 ((ds.head?.map (·.enc)).getD 0)
    (ds.flatMap fun c => encBytes (nth d.slides.encs c.enc).desc) (ds.flatMap encBytes))

/-- `slide.encoder`. -/
def execSlideEncoder (mbx : Nat) (ds : List EncDesc) (s : State) : Out := runCmd (.slideEncoder mbx ds) (slideEncoderBody ds) s

/-! ## Moves, stops, searches (R316 to R328, R341) -/

/-- A motion asked for under leave: the answer becomes the command's (R341). -/
def startMotion (d : Dev) (a : Nat) (f : SlideAxis → SlideAxis) (kind : JobKind) : Res :=
  let r := (d.onAxis a f).axisRequest a
  match r.1 with
  | .granted => .accepted r.2 0 kind []
  | .deferred => .accepted r.2 (((r.2.gov.waiting.find? fun l => isMove a l.who).map r.2.leaveHint).getD 0) kind []
  | .refused n => .refuseWith (r.2.onAxis a fun _ => d.axis a) 0x11 n 0 [] []

def slideMoveBody (a : Nat) (target : Int) (v : Option Nat) : Body := fun _ _ d =>
  let x := d.axis a
  if 8 ≤ a || ! fits40 target || (match v with | some n => ! inRange 1 1024000000 n | none => false) then badArg
  else if x.targetDetail target ≠ 0 then badArg (x.targetDetail target)
  else if x.loopUse = 2 then refusedBusy 0xFFFFFFFF
  else if ((d.mode.mode == .build || d.mode.mode == .hold) && d.slides.recoat.hasRole a) ||
      ! (x.st == .idle || x.st == .moving || x.st == .pending) then refusedBusy
  else startMotion d a (fun x => x.aim target v) (.move a)

/-- `slide.move`. -/
def execSlideMove (mbx axis : Nat) (target : Int) (vMax : Option Nat) (s : State) : Out :=
  runCmd (.slideMove mbx axis target vMax) (slideMoveBody axis target vMax) s

def slideStopBody (mask : Nat) : Body := fun _ _ d =>
  if 256 ≤ mask then badArg
  else .done ((bitsOf 8 mask).foldl (fun d a =>
    (d.axisStop a 0x31).onAxis a fun x => if x.loopUse = 2 then { x with heldStop := true } else x) d)

/-- `slide.stop`. -/
def execSlideStop (mbx mask : Nat) (s : State) : Out := runCmd (.slideStop mbx mask) (slideStopBody mask) s

/-- The ranges of R326; HOME_MODE 2 needs the index of an encoder. -/
def HomeArg.ok (h : HomeArg) (x : SlideAxis) : Bool :=
  h.mode ≤ 2 && (h.direction = 1 || h.direction = -1) && inRange 1 (nth x.lims 0) h.speed && h.swFilter ≤ 100 &&
  inRange 1 1000 h.qualWin && fits40 h.homePos && (h.mode ≠ 2 || x.enc.isSome)

def slideHomeBody (a : Nat) (h : HomeArg) : Body := fun _ _ d =>
  let x := d.axis a
  if 8 ≤ a then badArg
  else if ! (x.st == .idle) then refusedBusy
  else if ! HomeArg.ok h x then badArg
  else if x.limP && x.limN then badArg 3
  else startMotion d a (fun x => { x with
    homing := some ⟨h, false, none, 0, 0, false, false⟩, toTarget := false, vUse := none, inPosSince := none, stopStatus := 0 }) (.home a)

/-- `slide.home`. -/
def execSlideHome (mbx axis : Nat) (h : HomeArg) (s : State) : Out := runCmd (.slideHome mbx axis h) (slideHomeBody axis h) s

/-! ## Limits of the profile (R319) -/

/-- R319. -/
def SlideAxis.newLims (x : SlideAxis) (v a dm j : Nat) : SlideAxis :=
  let want := [v, a, dm, j]
  if ! x.slowing then ({ x with lims := want, pendLims := none }).replan
  else
    let d0 := nth x.lims 2
    let now := [nth x.lims 0, nth x.lims 1, max d0 dm, if d0 ≤ dm then max (nth x.lims 3) j else nth x.lims 3]
    let y := { x with lims := now, pendLims := if now = want then none else some want }
    if y.st == .moving && y.toTarget && d0 < dm then { y with segs := brakeTo y.limsOf y.kin y.target } else y.replan

def slideLimitsBody (a v c dm j : Nat) : Body := fun x _ d =>
  if 8 ≤ a ∨ ! inRange 1 1024000000 v ∨ c = 0 ∨ dm = 0 ∨ j = 0 then badArg
  else if (match (d.axis a).desc with | some e => ! pulseOk v e.microCoarse e.stepW | none => false) then badArg
  else
    let d1 := d.onAxis a fun x => x.newLims v c dm j
    let new := (d1.axis a).lims.flatMap u32
    .done (d1.log x 0x05 a ((d.axis a).lims.flatMap u32) new) new

/-- `slide.limits`. -/
def execSlideLimits (mbx axis v a d j : Nat) (s : State) : Out :=
  runCmd (.slideLimits mbx axis v a d j) (slideLimitsBody axis v a d j) s

/-! ## Position, roles, reports -/

/-- The position becomes `p` where `q` stood; the steps issued shift with it. -/
def SlideAxis.shift (x : SlideAxis) (by_ : Int) : SlideAxis :=
  { x with pos := x.pos + by_, target := x.target + by_, stepPos := x.stepPos + by_, inPosSince := none }.wrap

/-- R329. -/
def SlideAxis.setPos (x : SlideAxis) (p : Int) : SlideAxis :=
  { x with pos := p, off := 0, target := if x.st == .pending then x.target else p, stepPos := x.stepPos + (p - x.units), flags := flagSet x.flags 0, inPosSince := none }

def slideSetposBody (a : Nat) (p : Int) : Body := fun x _ d =>
  let y := d.axis a
  if 8 ≤ a ∨ ! fits40 p then badArg
  else if y.inMotion then refusedBusy
  else .done ((d.onAxis a fun x => x.setPos p).log x 0x05 a (i64 y.units) (i64 p))

/-- `slide.setpos`. -/
def execSlideSetpos (mbx axis : Nat) (pos : Int) (s : State) : Out := runCmd (.slideSetpos mbx axis pos) (slideSetposBody axis pos) s

/-- R337. -/
def RecoatArg.ok (d : Dev) (r : RecoatArg) : Bool :=
  r.recoater < 8 && r.platform < 8 && r.recoater ≠ r.platform && (r.doser < 8 || r.doser = 0xFF) &&
  (d.axis r.recoater).enc.isSome && match (d.axis r.recoater).desc with
    | some c => [r.spreadStart, r.spreadEnd, r.park].all fun t => decide (c.softMin ≤ t ∧ t ≤ c.softMax)
    | none => false

def slideRecoatBody (r : RecoatArg) : Body := fun x _ d =>
  if ! RecoatArg.ok d r then badArg
  else if ! d.queueEmpty then refusedBusy
  else .done ((d.onRecoat fun c => { c with arg := some r }).log x 0x05 r.recoater
    ((d.slides.recoat.arg.map recoatBytes).getD []) (recoatBytes r))

/-- `slide.recoat`. -/
def execSlideRecoat (mbx : Nat) (r : RecoatArg) (s : State) : Out := runCmd (.slideRecoat mbx r) (slideRecoatBody r) s

def AxisMode.code : AxisMode → Nat
  | .disabled => 0
  | .idle => 1
  | .pending => 2
  | .moving => 3
  | .homing => 4
  | .stopping => 5
  | .fault => 6

def Dev.axisReport (d : Dev) (a : Nat) : List Byte :=
  let x := d.axis a
  let tail := match x.enc with
    | some n =>
      let e := nth d.slides.encs n
      (i64 e.count ++ i32 e.speed, u32 e.glitch ++ u32 e.quadErr ++ u32 e.indexErr ++ u32 e.revCount)
    | none => (i64 0 ++ i32 0, u32 0 ++ u32 0 ++ u32 0 ++ u32 0)
  u32 x.st.code ++ i64 x.units ++ tail.1 ++ u32 x.micro ++ u32 (d.axisFlags a) ++ tail.2

def slideStatusBody (mask : Nat) : Body := fun _ _ d =>
  if 256 ≤ mask then badArg else .done d ((bitsOf 8 mask).flatMap d.axisReport ++ u32 d.slides.recoat.step)

/-- `slide.status`. -/
def execSlideStatus (mbx mask : Nat) (s : State) : Out := runCmd (.slideStatus mbx mask) (slideStatusBody mask) s

/-! ## `slide.clear` (R343) -/

/-- Whether a slot in MAN, AUTO or TRACK writes the speed of an axis. -/
def Dev.speedWriter (d : Dev) (a : Nat) : Bool :=
  d.loops.slots.any fun s => ! (s.st == .off || s.st == .fault) && match s.desc with
    | some ds => ds.outDst = 3 && ds.outIdx = a
    | none => false

/-- The cause of a fault flag that is set still stands. -/
def Dev.faultStands (d : Dev) (a : Nat) : Bool :=
  let x := d.axis a
  x.busy ||
  (x.flags.testBit 3 && x.limP && x.limN) ||
  (x.flags.testBit 5 && match x.desc, x.enc with
    | some c, some n => c.followMax ≠ 0 && decide ((c.followMax : Rat) < |x.cmd - (nth d.slides.encs n).conv|)
    | _, _ => false) ||
  (x.flags.testBit 6 && match x.enc with | some n => (nth d.slides.encs n).wireFault | none => false) ||
  (x.flags.testBit 7 && x.loopUse = 2 && ! d.speedWriter a)

/-- Flags that `slide.clear` clears: LIMIT_BOTH to STEP_ABORT, IDX_FLAG. -/
def clearFlags : Nat := 0x9F8

def SlideAxis.clear (x : SlideAxis) : SlideAxis :=
  let y := { x with flags := x.flags - (x.flags &&& clearFlags), heldStop := false }
  if y.busy then y else { y with st := y.restState }

def slideClearBody (mask : Nat) : Body := fun _ _ d =>
  let as := bitsOf 8 mask
  if 256 ≤ mask then badArg
  else if as.any fun a => (d.axis a).faulted && d.faultStands a then refusedBusy
  else .done (as.foldl (fun d a => d.onAxis a SlideAxis.clear) d) (as.flatMap fun a => u32 ((d.axis a).flags &&& clearFlags))

/-- `slide.clear`. -/
def execSlideClear (mbx mask : Nat) (s : State) : Out := runCmd (.slideClear mbx mask) (slideClearBody mask) s

/-! ## Limit switches (R323, R324, R328) -/

/-- A search that has not ended. -/
def SlideAxis.searching (x : SlideAxis) : Bool :=
  match x.homing with
  | some h => ! h.failed && ! h.windowDone && ! (x.st == .pending)
  | none => false

/-- The limit in DIRECTION is the search's own switch. -/
def Homing.ownLimit (h : Homing) (positive : Bool) : Bool := h.arg.mode = 1 && (decide (0 < h.arg.direction)) == positive

def Dev.limitActive (d : Dev) (a : Nat) (positive : Bool) : Dev :=
  let x := d.axis a
  let bit := if positive then 1 else 2
  if (if positive then x.limP else x.limN) then d
  else
    let d1 := d.onAxis a (SlideAxis.setLimit positive true)
    let own : Bool := match x.homing with | some h => h.ownLimit positive | none => false
    let both : Bool := (d1.axis a).limP && (d1.axis a).limN
    if x.searching && own && ! both then d1
    else
      let d2 := d1.onAxis a fun x => { x with flags := flagSet x.flags bit }
      if x.searching then d2.homingFault a
      else if both then d2.axisFault a 3
      else if x.busy then (d2.axisStop a 0x31).recoatFault a
      else d2

/-- A limit input becomes active. -/
def execLimitActive (axis : Nat) (positive : Bool) (s : State) : Out :=
  onDev (.limitActive axis positive) (fun _ d => d.limitActive axis positive) s

/-- A limit input has been inactive for SW_FILTER. -/
def execLimitClear (axis : Nat) (positive : Bool) (s : State) : Out :=
  onDev (.limitClear axis positive) (fun _ d => d.onAxis axis fun x =>
    let y := x.setLimit positive false
    { y with flags := flagClear y.flags (if positive then 1 else 2) }) s

/-! ## Homing (R327) -/

/-- The latch is taken and the axis stops. -/
def Dev.takeLatch (d : Dev) (a : Nat) : Dev :=
  let x := d.axis a
  let count := match x.enc with | some n => (nth d.slides.encs n).count | none => 0
  (d.onAxis a fun x => { x with homing := x.homing.map fun h =>
    { h with qualified := true, latch := some (x.units, count), latchTick := d.now } }).axisStop a 0

/-- The level of the search's switch. -/
def SlideAxis.switch (x : SlideAxis) : Bool :=
  match x.homing with
  | some h => if h.arg.mode = 1 then (if 0 < h.arg.direction then x.limP else x.limN) else x.home
  | none => x.home

def SlideAxis.setSwitch (level : Bool) (x : SlideAxis) : SlideAxis :=
  match x.homing with
  | some h => if h.arg.mode = 1 then x.setLimit (0 < h.arg.direction) level else x.setHome level
  | none => x.setHome level

def Dev.homeEdge (d : Dev) (a : Nat) : Dev :=
  match (d.axis a).homing with
  | some h =>
    if ! (d.axis a).searching || h.qualified then d
    else
      let d1 := d.onAxis a fun x =>
        let y := x.setSwitch true
        { y with homing := some { h with qualified := true } }
      if (d1.axis a).limP && (d1.axis a).limN then d1.homingFault a
      else if h.arg.mode = 2 then d1 else d1.takeLatch a
  | none => d

/-- The qualified edge of the homing switch. -/
def execHomeEdgeQualified (axis : Nat) (s : State) : Out := onDev (.homeEdgeQualified axis) (fun _ d => d.homeEdge axis) s

/-- A toggle after the latch; one between the qualified edge and the latch of HOME_MODE 2 only changes the level. -/
def Dev.homeToggle (d : Dev) (a : Nat) : Dev :=
  let x := d.axis a
  match x.homing with
  | some h =>
    match h.latch with
    | some l =>
      if ! x.searching then d
      else
        let near := decide (|x.cmd - l.1| ≤ (h.arg.lockout : Rat))
        let n := if near then h.toggles + 1 else h.toggles
        let d1 := d.onAxis a fun x =>
          let y := x.setSwitch (! x.switch)
          { y with homing := some { h with toggles := n } }
        if near && 8 < n && d.now ≤ h.latchTick + msT h.arg.qualWin then d1.homingFault a else d1
    | none => if x.searching && h.qualified then d.onAxis a fun x => x.setSwitch (! x.switch) else d
  | none => d

/-- The homing switch toggles within LOCKOUT of the latch. -/
def execHomingSwitchToggle (axis : Nat) (s : State) : Out := onDev (.homingSwitchToggle axis) (fun _ d => d.homeToggle axis) s

/-- R327, step 5: positions and count shift; the next index edge sets INDEX_PHASE (R336). -/
def Dev.homed (d : Dev) (a : Nat) (h : Homing) (latched : Int) : Dev :=
  let by_ := h.arg.homePos - latched
  let d1 := d.onAxis a fun x =>
    let y := x.shift by_
    { y with flags := flagSet y.flags 0, homing := some { h with windowDone := true } }
  let d2 := match (d.axis a).enc with
    | some n => d1.onEnc n fun e =>
      let c := roundRat ((by_ : Rat) * e.desc.den / max 1 e.desc.num)
      { e with count := wrap40 (e.count + c), conv := e.conv + by_, pHat := e.pHat + c, indexPhase := none }
    | none => d1
  if (d2.axis a).atRest then d2.axisRest a else d2

def Dev.qualWinEnd (d : Dev) (a : Nat) : Dev :=
  let x := d.axis a
  match x.homing with
  | some h =>
    match h.latch with
    | some l =>
      if ! x.searching || d.now < h.latchTick + msT h.arg.qualWin then d
      else if x.switch then d.homed a h l.1
      else d.homingFault a
    | none => d
  | none => d

/-- QUAL_WIN ends. -/
def execHomingQualWinEnd (axis : Nat) (s : State) : Out := onDev (.homingQualWinEnd axis) (fun _ d => d.qualWinEnd axis) s

/-! ## Encoder inputs (R330 to R336) -/

/-- R334: counts move the converted position; the remainder is carried. -/
def Encoder.move (e : Encoder) (n : Int) : Encoder :=
  let x := n * e.desc.num + e.rem
  { e with count := wrap40 (e.count + n), edges := e.edges + n, conv := e.conv + x / max 1 e.desc.den, rem := x % max 1 e.desc.den }

/-- R335: STILL ends at the second count of a pair of one direction; `ns` is the interval between them. -/
def Encoder.counted (e0 : Encoder) (n : Int) (now ns : Nat) : Encoder :=
  let e := { e0.move n with lastCountTick := now }
  if ! e.still then e
  else match e.stillPair with
    | some p =>
      if p.1 = n then { e with still := false, stillPair := none, vHat := (n : Rat) * 1000000000 / ns, pHat := e.count }
      else { e with stillPair := some (n, now) }
    | none => { e with stillPair := some (n, now) }

/-- The interval in ns between an edge of an earlier tick and one of this tick; within the two ticks it is free. -/
def Dev.edgeGap (d : Dev) (since : Nat) : Nat × Dev :=
  let k := d.now - since
  let r := d.drawInt (max 25 (250 * ((k : Int) - 1) + 1)) (250 * ((k : Int) + 1) - 1)
  (natOf r.1, r.2)

/-- Counts of an input, none while WIRE_FAULT freezes it (R332). -/
def Dev.encCount (d : Dev) (n : Nat) (delta : Int) : Dev :=
  let e := nth d.slides.encs n
  if delta = 0 ∨ e.wireFault then d
  else
    let by_ := if e.desc.eflags.testBit 0 then -delta else delta
    match e.still, e.stillPair with
    | true, some p =>
      let g := d.edgeGap p.2
      g.2.onEnc n fun e => e.counted by_ d.now g.1
    | _, _ => d.onEnc n fun e => e.counted by_ d.now 250

/-- R330: what a change of A gives. -/
def Encoder.edgeA (e : Encoder) (high : Bool) : Int :=
  match e.desc.emode with
  | 0 => if high = e.b then -1 else 1
  | 1 => if high then (if e.b then -1 else 1) else 0
  | _ => if high then 1 else 0

/-- What a change of B gives. -/
def Encoder.edgeB (e : Encoder) (high : Bool) : Int :=
  match e.desc.emode with
  | 0 => if high = e.a then 1 else -1
  | 1 => 0
  | _ => if high then -1 else 0

/-- A flag of R343 that an encoder input gives the axes that use it. -/
def Dev.encFlag (d : Dev) (n bit : Nat) (v : Bool) : Dev :=
  (List.range 8).foldl (fun d a => if (d.axis a).enc = some n then
    d.onAxis a fun x => { x with flags := if v then flagSet x.flags bit else flagClear x.flags bit } else d) d

/-- R336: an index edge judged against INDEX_PHASE. -/
def Dev.indexJudge (d : Dev) (n : Nat) : Dev :=
  let e := nth d.slides.encs n
  if ! e.desc.eflags.testBit 1 || e.desc.indexPeriod = 0 then d
  else match e.indexPhase with
    | none => d.onEnc n fun e => { e with indexPhase := some (e.count % e.desc.indexPeriod) }
    | some p =>
      let q : Int := e.desc.indexPeriod
      let r := (e.count - p) % q
      let err := if 2 * r ≤ q then r else r - q
      if err.natAbs ≤ e.desc.indexTol then d
      else
        let d1 := (d.onEnc n fun e => { e with indexErr := e.indexErr + 1 }).encFlag n 11 true
        if e.desc.eflags.testBit 2 && ! e.wireFault then (d1.onEnc n fun e => { e.move (-err) with edges := e.edges }).spoil 0x0A n 0x006 false (wrapTo 32 (-err)) else d1

/-- An index edge: searches under HOME_MODE 2 take their latch. -/
def Dev.indexEdge (d : Dev) (n : Nat) : Dev :=
  (List.range 8).foldl (fun d a =>
    match (d.axis a).homing with
    | some h => if (d.axis a).enc = some n && h.arg.mode = 2 && h.qualified && h.latch.isNone && (d.axis a).searching then d.takeLatch a
      else d
    | none => d) (d.indexJudge n)

/-- An accepted level change (R330, R331, R336); wire 3 is a simultaneous change of A and B. -/
def Dev.encoderEdge (d : Dev) (n wire : Nat) (high : Bool) : Dev :=
  let e := nth d.slides.encs n
  if wire = 0 then
    if e.a = high then d else (d.encCount n (e.edgeA high)).onEnc n fun e => { e with a := high }
  else if wire = 1 then
    if e.b = high then d else (d.encCount n (e.edgeB high)).onEnc n fun e => { e with b := high }
  else if wire = 2 then
    if e.i = high then d
    else
      let d1 := d.onEnc n fun e => { e with i := high, iSince := if high then d.now else e.iSince, stuck := e.stuck && high }
      if high && ! e.stuck then d1.indexEdge n else d1
  else
    let d1 := d.onEnc n fun e => { e with a := ! e.a, b := ! e.b }
    if e.desc.emode = 0 then (d1.onEnc n fun e => { e with quadErr := e.quadErr + 1 }).spoil 0x0A n 0x003 false 0
    else
      let f := { e with b := ! e.b }
      (d1.encCount n (f.edgeA (! e.a))).encCount n (e.edgeB (! e.b))

/-- A level change on an encoder wire that held for MIN_EDGE; bed-image lines that it makes due (R347). -/
def execEncoderEdge (enc wire : Nat) (high : Bool) (s : State) : Out :=
  onMem (.encoderEdge enc wire high) (fun m d =>
    let d1 := d.encoderEdge enc wire high
    if d1.recoatEnc = some enc then recWrites m (d1.linesDue (nth d.slides.encs enc).count) else (d1, [])) s

/-- R331: a change that reverts sooner. -/
def execEncoderGlitch (enc wire : Nat) (s : State) : Out :=
  onDev (.encoderGlitch enc wire) (fun _ d =>
    (d.onEnc enc fun e => { e with glitch := e.glitch + 1 }).spoil 0x0A enc 0x002 false 0) s

/-- R332: the axes whose following check uses the input stop, the recoater in step B among them. -/
def Dev.wireFault (d : Dev) (n : Nat) : Dev :=
  if (nth d.slides.encs n).wireFault then d
  else
    let d1 := (d.onEnc n fun e => { e with wireFault := true, wireTick := d.now }).spoil 0x0A n 0x004 false 0
    (List.range 8).foldl (fun d a =>
      if (d.axis a).enc = some n then d.wireCheck a else d) d1

/-- Both wires of a pair stand equal for more than 200 ns. -/
def execWireFault (enc : Nat) (s : State) : Out := onDev (.wireFault enc) (fun _ d => d.wireFault enc) s

/-- The pair has been differential for 1 ms. -/
def execWireFaultClear (enc : Nat) (s : State) : Out :=
  onDev (.wireFaultClear enc) (fun _ d => d.onEnc enc fun e => if d.now < e.wireTick + msT 1 then e else { e with wireFault := false }) s

/-- R333: I has stood active longer than IDX_MAX_ON. -/
def Dev.indexStuck (d : Dev) (n : Nat) : Dev :=
  let e := nth d.slides.encs n
  if ! e.i || e.stuck || d.now ≤ e.iSince + usT e.desc.idxMaxOn then d
  else (d.onEnc n fun e => { e with stuck := true }).spoil 0x0A n 0x005 false 0

def execIndexStuck (enc : Nat) (s : State) : Out := onDev (.indexStuck enc) (fun _ d => d.indexStuck enc) s

/-- One period of the observer of R335. -/
def Encoder.observe (e0 : Encoder) : Encoder :=
  let t : Rat := 1 / 1000000
  let e := { e0 with pHat := fine (e0.pHat + e0.vHat * t) }
  if e.still then { e with vHat := 0, pHat := e.count }
  else
    let w := 2 * piQ * e.desc.obsBw
    let err := e.count - e.pHat
    { e with pHat := fine (e.pHat + 2 * w * t * err), vHat := fine (e.vHat + w ^ 2 * t * err) }

/-- The observer runs, once in each µs; REV stands for the one period in which the sign of v̂ changes. -/
def Dev.observe (d : Dev) (n : Nat) : Dev :=
  let e := nth d.slides.encs n
  let us := d.now / usT 1
  if us ≤ e.obsUs then d
  else
    let f := e.observe
    let rev := decide (e.vHat * f.vHat < 0)
    (d.onEnc n fun _ => { f with obsUs := us, revCount := f.revCount + boolN rev }).encFlag n 10 rev

def execSpeedObserver (enc : Nat) (s : State) : Out := onDev (.speedObserver enc) (fun _ d => d.observe enc) s

/-- R335: no count for STILL_TIME. -/
def Dev.encoderStill (d : Dev) (n : Nat) : Dev :=
  let e := nth d.slides.encs n
  if e.still || d.now < e.lastCountTick + usT e.desc.stillTime then d
  else d.onEnc n fun e => { e with still := true, stillPair := none }

def execEncoderStill (enc : Nat) (s : State) : Out := onDev (.encoderStill enc) (fun _ d => d.encoderStill enc) s

end Sys2Proof.Machine
end

