-- ==== Sys2Proof/Machine/UmpRows.lean ====
section
/-! DEFINITION. The Umpire: its inputs and checks (R451 to R464), Safe and leaving it (R465 to R469), proofs (R470, R471),
the safety parameter set (R474 to R476) and the `safe` commands (R480). -/

namespace Sys2Proof.Machine

/-! ## Cut paths and the SAFE outputs (R454, R466) -/

/-- A clocked step of the Umpire: the cores vote, and every latch that may close closes. -/
def Dev.closeCuts (d0 : Dev) : Dev :=
  let d := d0.castVotes
  { d with ump := { d.ump with closed := d.ump.closed ||| BitVec.ofNat 32 (maskOf (oars32.filter d.mayClose)) } }

/-- R452: a closed path for which fewer than two live votes say closed opens. -/
def Dev.openUnvoted (d : Dev) : Dev :=
  (oars32.filter fun k => d.ump.closed.getLsbD k && ! d.ump.votesClosed k).foldl (fun e k => e.openCut k 3) d

/-- Oars whose proof is older than 50 s wait for one before their path closes (R471). -/
def Dev.queueProofs (d : Dev) (ks : List Nat) : Dev :=
  { d with ump := { d.ump with proofQueue := d.ump.proofQueue ++ ks.filter fun k => ! d.ump.proofQueue.contains k } }

/-- R466: the conditions under which SAFE_A and SAFE_B begin to toggle. -/
def Dev.safeDue (d : Dev) : Bool :=
  d.mode.mode != .safe && 11 ≤ d.boot.next && d.ump.active.isSome &&
    oars32.all fun k => ! d.oarEn k || (nth d.ump.oars k).lastProof.isSome

/-- R466: the pair begins, SAFE_A high first (DESIGN CHOICE, log 134); one that runs goes on. -/
def Dev.safeStart (d : Dev) : Dev :=
  if d.safeDue && ! d.pins.safeToggling then
    { d with pins := { d.pins with safeToggling := true, safeA := true, safeB := false, safeCntA := 0, safeCntB := 0 } }
  else d

/-- Frame ticks of half a period of 10 kHz. -/
def safeHalf : Nat := 200

/-- R466: one frame tick of the two counters; each turns its own output. -/
def Pins.safeTick (p : Pins) : Pins :=
  if ! p.safeToggling then p
  else
    let a : Bool := safeHalf ≤ p.safeCntA + 1
    let b : Bool := safeHalf ≤ p.safeCntB + 1
    { p with
      safeA := p.safeA != a, safeCntA := if a then 0 else p.safeCntA + 1
      safeB := p.safeB != b, safeCntB := if b then 0 else p.safeCntB + 1 }

/-! ## `safe.enter`, `safe.stop`, inputs (R411, R456, R460, R461) -/

/-- The Umpire acted at the doorbell; in Safe there is nothing left to do. -/
def safeEnterBody : Body := fun _ _ d => .done (if d.mode.mode == .safe then d else d.enterSafe 0x05 0xFF)

/-- `safe.enter`. -/
def execSafeEnter (mbx : Nat) (s : State) : Out := runCmd (.safeEnter mbx) safeEnterBody s

def safeStopBody (mask : Nat) : Body := fun _ _ d => if d.badOarMask mask then badArg else .done (d.stopOars mask)

/-- `safe.stop`. -/
def execSafeStop (mbx mask : Nat) (s : State) : Out := runCmd (.safeStop mbx mask) (safeStopBody mask) s

/-- R461: the two ESTOP inputs after one of them changed. -/
def Dev.discrepancy (d : Dev) : Dev :=
  let a := d.pins.estopA
  let b := d.pins.estopB
  let low := ! a && ! b
  let high := a && b
  { d with ump := { d.ump with
      disagreeSince := if a = b then none else some (d.ump.disagreeSince.getD d.now)
      latched := d.ump.latched && ! (high && d.ump.bothLow)
      bothLow := low || (d.ump.bothLow && ! high) } }

def Dev.estopChange (d : Dev) (channelB high : Bool) : Dev :=
  let was := if channelB then d.pins.estopB else d.pins.estopA
  if was = high then d
  else
    let d1 := ({ d with pins := if channelB then { d.pins with estopB := high } else { d.pins with estopA := high } }).discrepancy
    if high || ! d.awake then d1 else d1.enterSafe (if channelB then 0x02 else 0x01) 0xFF

/-- ESTOP_A_N or ESTOP_B_N changes. -/
def execEstopInputChange (channelB high : Bool) (s : State) : Out := onAonAny (fun _ d => (d.estopChange channelB high, [])) s

/-- DISC_MS of the set in force, 100 ms without one. -/
def Umpire.discMs (u : Umpire) : Nat := match u.active with | some s => unle ((s.image.drop 4).take 4) | none => 100

def Dev.latchDiscrepancy (d : Dev) : Dev :=
  match d.ump.disagreeSince with
  | some t =>
    if d.ump.latched || d.now ≤ t + msT d.ump.discMs then d
    else ({ d with ump := { d.ump with latched := true, bothLow := false } }).event 0xB 0x0B 0xFF 0 0 0
  | none => d

def execDiscrepancyLatch (s : State) : Out := onDev .discrepancyLatch (fun _ d => d.latchDiscrepancy) s

/-- R460: INTLK_N low; a request for Build that has not taken effect is refused. -/
def Dev.intlkLow (d : Dev) : Dev :=
  match d.mode.mode with
  | .build | .hold | .safe => d.enterSafe 0x03 0xFF
  | _ =>
    let d1 := ((d.openAll 3).event 3 0x03 0xFF 0 0 0)
    if d1.mode.entry.isNone then d1
    else (({ d1 with mode := { d1.mode with entry := none, transition := false } }).showMode d).finishJobs
      (fun k => match k with | .modeSet _ => true | _ => false) 0x13 0 []

def Dev.intlkChange (d : Dev) (high : Bool) : Dev :=
  if d.pins.intlk = high then d
  else
    let d1 := { d with pins := { d.pins with intlk := high } }
    if high || ! d.awake then d1 else d1.intlkLow

/-- INTLK_N changes. -/
def execIntlkInputChange (high : Bool) (s : State) : Out := onAonAny (fun _ d => (d.intlkChange high, [])) s

/-- R456, R464, R474: LALM_N has been low for 200 ns, ignored with LALM_EN clear, or it rises (DESIGN CHOICE, log 128). -/
def Dev.lalm (d : Dev) (k : Nat) (low : Bool) : Dev :=
  let d1 := d.onSafe k fun o => { o with lalmLow := low, lalmSince := d.now }
  match d.ump.active with
  | some s => if low && d.oarExists k && s.oarEn k && (s.field k 1 1).testBit 1 then d1.trip k 0x24 0 0 else d1
  | none => d1

def execLalmLow (oar : Nat) (low : Bool) (s : State) : Out := onDev (.lalmLow oar low) (fun _ d => d.lalm oar low) s

/-! ## The monitor check (R459) -/

/-- The expected monitor code at a DAC code. -/
def SafetySet.expected (s : SafetySet) (k dac : Nat) : Rat :=
  let i := min 15 (dac / 4096)
  let a : Rat := s.field k (20 + 2 * i) 2
  let b : Rat := s.field k (22 + 2 * i) 2
  a + (b - a) * ((dac - 4096 * i : Nat) : Rat) / (if i = 15 then 4095 else 4096)

def Dev.monitorSample (d : Dev) (k code : Nat) : Dev :=
  let d1 := { d with melt := upd d.melt k fun m => { m with monSamples := (code :: m.monSamples).take 4 } }
  match d.ump.active with
  | none => d1
  | some s =>
    if ! (d.oarExists k && s.oarEn k && (s.field k 1 1).testBit 2) then d1
    else
      let o := nth d.ump.oars k
      let x := s.expected k (o.dacLine.getD (s.field k 18 2) 0)
      let tol := (s.field k 6 2 : Rat) + (s.field k 16 1 : Rat) * x / 100
      let n := if tol < |(code : Rat) - x| then o.monCnt + 1 else 0
      let d2 := d1.onSafe k fun o => { o with monCnt := n }
      if 80 ≤ n then d2.trip k 0x23 (roundRat ((code : Rat) - x)) (roundRat tol) else d2

/-- A monitor ADC sample. -/
def execMonitorSample (oar code : Nat) (s : State) : Out := onDev (.monitorSample oar code) (fun _ d => d.monitorSample oar code) s

/-! ## Heartbeat and votes (R24, R452, R453, R467, R472) -/

/-- R24, R484: the heartbeat of any core counts, of one that the Umpire has noted as missing too; none comes from a Cox whose
clock has stopped. -/
def Dev.heartbeat (d : Dev) (c : Nat) : Dev :=
  if ! d.coxClocked then d
  else { d with ump := { d.ump with
      heartbeats := d.ump.heartbeats.set c d.now, hbMissing := d.ump.hbMissing.filter (· ≠ c) } }

def execCoxHeartbeat (core : Nat) (s : State) : Out := onDev (.coxHeartbeat core) (fun _ d => d.heartbeat core) s

/-- R24: some core has sent the heartbeat within a time. -/
def Dev.heartbeatWithin (d : Dev) (ticks : Nat) : Bool := d.ump.heartbeats.any fun t => d.now ≤ t + ticks

def Dev.heartbeatLost (d : Dev) : Dev :=
  if ! d.ump.hbWatch || d.heartbeatWithin (usT 100) || (d.mode.mode == .safe && d.ump.safeCause = 0x06) then d
  else d.enterSafe 0x06 0xFF

def execHeartbeatLoss (s : State) : Out := onDev .heartbeatLoss (fun _ d => d.heartbeatLost) s

def execHeartbeatAbsent1s (s : State) : Out :=
  onDev .heartbeatAbsent1s (fun _ d => if ! d.ump.hbWatch || d.heartbeatWithin (sT 1) then d else d.assertWdog 0x06) s

/-- R472: the Umpire notes a Cox core whose heartbeat is missing; the core is out of service. -/
def Dev.coreMissing (d : Dev) (c : Nat) : Dev :=
  if ! d.ump.hbWatch || d.ump.hbMissing.contains c || d.now ≤ nth d.ump.heartbeats c + usT 100 then d
  else
    let d1 := { d with
      ump := { d.ump with hbMissing := d.ump.hbMissing ++ [c] }
      boot := { d.boot with coxCores := if d.boot.coxCores.testBit c then d.boot.coxCores - 2 ^ c else d.boot.coxCores } }
    (d1.event 0xD 0 0xFF 0 0 c).spoil 0x01 c 0x003 false 0

def execCoxCoreMissing (core : Nat) (s : State) : Out := onDev (.coxCoreMissing core) (fun _ d => d.coreMissing core) s

/-- R453: a core leaves service; with fewer than two live votes left every path opens (R452). -/
def Dev.coreLeaves (d : Dev) (c : Nat) : Dev :=
  let u := d.ump
  let cs := upd u.cores c fun x => { x with
    inService := false, live := false, differs := 0, vote := 0, outs := d.now :: x.outs.take 1
    stays := x.stays || x.outs.any fun t => d.now < t + sT 86400 }
  let d1 := ({ d with ump := { u with cores := cs, degraded := true, lastCore := c } }).event 4 0 0xFF 0 0 c
  if 2 ≤ d1.ump.liveVotes then d1 else (d1.enterSafe 0x07 0xFF).assertWdog 0x07

def Dev.voteLost (d : Dev) (c : Nat) : Dev := if (nth d.ump.cores c).inService then d.coreLeaves c else d

def execVoteLivenessLoss (core : Nat) (s : State) : Out := onDev (.voteLivenessLoss core) (fun _ d => d.voteLost core) s

/-- One 1 µs comparison; where two cores are left, a difference opens every path at once (R453). -/
def Dev.compareVotes (d : Dev) (differing : Option Nat) : Dev :=
  let cs := d.ump.cores.mapIdx fun i (x : UCore) => { x with differs := if differing = some i then x.differs + 1 else 0 }
  let d1 := ({ d with ump := { d.ump with cores := cs } }).castVotes.openUnvoted
  match differing with
  | some c => if (nth cs c).inService && 3 ≤ (nth cs c).differs then d1.coreLeaves c else d1
  | none => d1

def execVoteComparison (differing : Option Nat) (s : State) : Out := onDevAny (fun _ d => d.compareVotes differing) s

def execUmpireTimeResync (s : State) : Out :=
  onDev .umpireTimeResync (fun _ d => { d with ump := { d.ump with timeSkew := 0 } }) s

/-! ## Rearm and clear (R464, R469) -/

/-- The cause of oar k's trip is gone. -/
def Dev.causeGone (d : Dev) (k : Nat) : Bool :=
  let o := nth d.ump.oars k
  if o.cause = 0x22 then (d.port k).st == .trained && o.frameBadTick + msT 1 ≤ d.now
  else if o.cause = 0x24 then ! o.lalmLow && o.lalmSince + msT 10 ≤ d.now
  else if o.cause = 0x26 then o.tapBadTick + msT 1 ≤ d.now
  else true

/-- Oars leave T: each has its event record; a path whose proof is old waits for it. -/
def Dev.leaveT (d : Dev) (ks : List Nat) : Dev :=
  let d1 := ks.foldl (fun d k =>
    let d' := d.onSafe k fun o => { o with cause := 0 }
    ({ d' with ump := { d'.ump with trip := d'.ump.trip &&& ~~~ (BitVec.ofNat 32 (2 ^ k)) } }).event 8 0 k 0 0 0) d
  (d1.queueProofs (ks.filter fun k => d1.oarEn k && d1.proofOld k)).closeCuts

def Dev.logTrips (d : Dev) (x : Ctx) (was : BitVec 32) : Dev :=
  d.logDigest x 2 0x12 0xFFFF (sha256 (u32 was.toNat)) (sha256 (u32 d.ump.trip.toNat))

def safeRearmBody (mask : Nat) : Body := fun x _ d =>
  let ks := (bitsOf 32 mask).filter d.inT
  if d.badOarMask mask then badArg
  else match ks.find? fun k => ! d.causeGone k with
    | some k => refusedSafety k
    | none => .done ((d.leaveT ks).logTrips x d.ump.trip) (u32 (maskOf ks))

/-- `safe.rearm`. -/
def execSafeRearm (mbx mask : Nat) (s : State) : Out := runCmd (.safeRearm mbx mask) (safeRearmBody mask) s

/-- DETAIL of the first condition of R469 that fails. -/
def Dev.clearRefusal (d : Dev) : Option Nat :=
  let c := d.ump.safeCause
  if c = 0x07 ∨ c = 0x09 ∨ c = 0x0A ∨ c = 0x0C ∨ c = 0x0D then some (0x100 + c)
  else if ! d.pins.estopA then some 1
  else if ! d.pins.estopB then some 2
  else if ! d.pins.intlk then some 3
  else if d.ump.latched then some 0x0B
  else if ! d.heartbeatWithin (usT 100) then some 6
  else if ! nth d.clk.qualified d.clk.sel || d.clk.lost.isSome then some 8
  else none

def safeClearBody : Body := fun x _ d =>
  match d.clearRefusal with
  | some n => refusedSafety n
  | none =>
    let d1 := { d with host := { d.host with hostStop := false }, ump := { d.ump with clockCut := d.clk.fabric.dead || d.clk.exposure.dead } }
    let d2 := (d1.toReady 1).leaveT ((oars32.filter d.inT).filter d.causeGone)
    .done (((d2.event 9 0 0xFF 0 0 0).safeStart).logTrips x d.ump.trip)

/-- `safe.clear`. -/
def execSafeClear (mbx : Nat) (s : State) : Out := runCmd (.safeClear mbx) safeClearBody s

/-! ## The safety parameter set (R474, R475) -/

def zeros (bs : List Byte) : Bool := bs.all (· = 0)

/-- Oar number and reserved fields of entry k. -/
def SafetySet.shapeOk (s : SafetySet) (k : Nat) : Bool :=
  let e := s.entry k
  s.field k 0 1 = k && s.field k 1 1 < 8 && s.field k 17 1 = 0 && zeros ((e.drop 54).take 10) && zeros (e.drop 192)

/-- The other fields of entry k. -/
def SafetySet.valuesOk (s : SafetySet) (k : Nat) : Bool :=
  let f := s.field k
  let map := (List.range 17).map fun i => f (20 + 2 * i) 2
  inRange 3 16 (f 2 1) && inRange 1 4 (f 3 1) && inRange 1 2000 (f 4 2) && inRange 1 16383 (f 6 2) && f 8 4 ≠ 0 && f 16 1 ≤ 50 &&
  f 18 2 ≤ 400 && (List.range 16).all (fun i => nth map i ≤ nth map (i + 1)) && convexOk 3 16 (s.region k) &&
  zeros (((s.entry k).drop (64 + 8 * f 2 1)).take (8 * (16 - f 2 1)))

def safetyHeaderOk (bs : List Byte) : Bool :=
  let w := fun (a n : Nat) => unle ((bs.drop a).take n)
  w 0 2 = 0x5346 && w 2 1 = 1 && w 3 1 = 0 && inRange 10 500 (w 4 4) && inRange 0x100 0x1000 (w 8 2) && zeros ((bs.drop 10).take 54)

/-- DETAIL of the first failure of an image. -/
def Dev.imageFailure (d : Dev) (s : SafetySet) : Option Nat :=
  if ! safetyHeaderOk s.image then some 0x100
  else oars32.find? fun k => ! s.shapeOk k || (d.oarExists k && s.oarEn k && ! s.valuesOk k)

def safeStageBody (addr len crc : Nat) : Body := fun _ m d =>
  if len ≠ 8256 ∨ ! d.rangeOk addr len then badArg 0x100
  else withData m d addr len crc 0x100 fun d bs ops =>
    let s : SafetySet := ⟨bs, sha256 bs⟩
    match d.imageFailure s with
    | some n => .refuseWith d 0x21 n 0 [] ops
    | none => .ok { d with ump := { d.ump with staged := some s } } s.digest ops

/-- `safe.stage`. -/
def execSafeStage (mbx addr len crc : Nat) (s : State) : Out := runCmd (.safeStage mbx addr len crc) (safeStageBody addr len crc) s

/-- The refusal of R475, step 2. -/
def Dev.commitRefusal (d : Dev) (s : SafetySet) (digest : List Byte) : Option Nat :=
  if s.digest ≠ digest then some 1
  else match d.regionBreak s with
    | some k => some (0x100 + k)
    | none => ((oars32.filter fun k => d.oarExists k && s.oarEn k).find? fun k => s.field k 4 2 ≤ (nth d.eng k).motion.predWarn).map (0x200 + ·)

/-- The set is adopted; paths of oars it does not enable open, their outputs at their safe levels (R23), others wait for
their proofs. -/
def Dev.adoptSet (d : Dev) (s : SafetySet) : Dev :=
  let d1 := { d with ump := { d.ump with active := some s, staged := none, copy1 := some s, copy2 := some s } }
  let d2 := (oars32.filter fun k => ! d1.oarEn k).foldl (fun e k => e.openCut k 1) d1
  (((d2.queueProofs (oars32.filter fun k => d2.provable k && d2.proofOld k)).closeCuts).event 0xA 0 0xFF 0 0 0).safeStart

def safeCommitBody (digest : List Byte) : Body := fun x _ d =>
  if d.layers.released.isSome then refusedBusy
  else match d.ump.staged with
    | none => refusedSafety 1
    | some s => match d.commitRefusal s digest with
      | some n => refusedSafety n
      | none => .done ((d.adoptSet s).logDigest x 2 0x06 0 ((d.ump.active.map (·.digest)).getD (sha256 [])) s.digest) s.digest

/-- `safe.commit`. -/
def execSafeCommit (mbx : Nat) (digest : List Byte) (s : State) : Out := runCmd (.safeCommit mbx digest) (safeCommitBody digest) s

def safeDiscardBody : Body := fun _ _ d => .done { d with ump := { d.ump with staged := none } }

/-- `safe.discard`. -/
def execSafeDiscard (mbx : Nat) (s : State) : Out := runCmd (.safeDiscard mbx) safeDiscardBody s

def safeQueryBody (which : Nat) : Body := fun _ _ d =>
  if 1 < which then badArg
  else .done d (((if which = 0 then d.ump.active else d.ump.staged).map (·.image)).getD [])

/-- `safe.query`. -/
def execSafeQuery (mbx which : Nat) (s : State) : Out := runCmd (.safeQuery mbx which) (safeQueryBody which) s

/-! ## Reports and policy -/

/-- Per oar: cut path, T, cause; inputs, votes, SAFE_CAUSE; per oar: age of the last proof in ms, rotation, gap time in
µs; the block of a failed Hold recovery; the digest in force. -/
def Dev.safeReport (d : Dev) : List Byte :=
  (oars32.flatMap fun k => u32 (boolN (d.ump.closed.getLsbD k)) ++ u32 (boolN (d.inT k)) ++ u32 (nth d.ump.oars k).cause) ++
  u32 d.safetyInputs ++ u32 d.voteWord ++ u32 d.ump.safeCause ++
  (oars32.flatMap fun k =>
    let o := nth d.ump.oars k
    u32 (match o.lastProof with | some t => (d.now - t) / 4000 | none => 0xFFFFFFFF) ++ u32 o.rotation ++ u32 (o.gapTicks / 4)) ++
  (match d.ump.holdBlock with | some b => u32 b.1 ++ u32 b.2 | none => u32 0 ++ u32 0) ++
  ((d.ump.active.map (·.digest)).getD (List.replicate 32 0))

def safeStatusBody : Body := fun _ _ d => .done d d.safeReport

/-- `safe.status`. -/
def execSafeStatus (mbx : Nat) (s : State) : Out := runCmd (.safeStatus mbx) safeStatusBody s

def safeEventsBody (first count : Nat) : Body := fun _ _ d =>
  if count = 0 ∨ 62 < count then badArg
  else .done d (listOf UmpEvent.bytes ((List.range count).filterMap fun i => d.ump.events.find? (·.seq = first + i)))

/-- `safe.events`. -/
def execSafeEvents (mbx first count : Nat) (s : State) : Out := runCmd (.safeEvents mbx first count) (safeEventsBody first count) s

def safeHoldpolicyBody (resume : Nat) : Body := fun x _ d =>
  if 1 < resume then badArg
  else
    let d1 := { d with ump := { d.ump with faultResume := resume = 1 } }
    .done (d1.log x 0x07 2 (u32 (boolN d.ump.faultResume)) (u32 resume)) (u32 resume)

/-- `safe.holdpolicy`. -/
def execSafeHoldpolicy (mbx resume : Nat) (s : State) : Out := runCmd (.safeHoldpolicy mbx resume) (safeHoldpolicyBody resume) s

/-! ## Proofs (R470, R471) -/

/-- The trigger of a step, 0 vote, 1 ESTOP chain, 2 clock-loss chain; 0 for the steps that measure levels. -/
def OarSafe.trigger (o : OarSafe) (step : Nat) : Nat := if inRange 2 4 step then (o.rotation + step - 2) % 3 else 0

/-- Why `safe.proof` does not prove an oar, 1 to 3, or 0. -/
def Dev.unprovable (d : Dev) (k : Nat) : Nat :=
  if d.ump.active.isNone then 1 else if ! d.oarEn k then 2 else if d.inT k then 3 else 0

/-- Per oar of a mask: 0 pass, 1 fail, 2 not proved; the failing step or the reason; the trigger. -/
def Dev.proofReport (d : Dev) (mask : Nat) : List Byte :=
  (bitsOf 32 mask).flatMap fun k =>
    if d.unprovable k ≠ 0 then u32 2 ++ u32 (d.unprovable k) ++ u32 0
    else match d.ump.proofResults.find? (·.1 = k) with
      | some r => u32 (boolN (r.2.1 ≠ 0)) ++ u32 r.2.1 ++ u32 r.2.2
      | none => u32 2 ++ u32 0 ++ u32 0

/-- The oars of a mask that still wait for their proof. -/
def Dev.proofWaits (d : Dev) (mask : Nat) : Bool := (bitsOf 32 mask).any fun k => d.unprovable k = 0 && d.ump.proofQueue.contains k

/-- `safe.proof` commands that wait for no more oars end; so does the round of a recoat, and Build entry goes on. -/
def Dev.proofCheck (d : Dev) : Dev :=
  let d1 := (d.host.jobs.filter fun j => match j.kind with | .proof m => ! d.proofWaits m | _ => false).foldl (fun e j =>
    match j.kind with
    | .proof m => e.finish j 0 0 (e.proofReport m)
    | _ => e) d
  let d2 := if d1.ump.round && ! d1.proofWaits 0xFFFFFFFF then
      ({ d1 with ump := { d1.ump with round := false } }).event 6 0 0xFF 0 0 0
    else d1
  d2.entryCheck

def safeProofBody (mask : Nat) : Body := fun _ _ d =>
  let ks := (bitsOf 32 mask).filter fun k => d.unprovable k = 0
  if d.badOarMask mask then badArg
  else if ks.isEmpty then .done d (d.proofReport mask)
  else
    let d1 := d.queueProofs ks
    .executing { d1 with ump := { d1.ump with proofResults := d1.ump.proofResults.filter fun r => ! ks.contains r.1 } } (.proof mask) true

/-- `safe.proof`. -/
def execSafeProof (mbx mask : Nat) (s : State) : Out := runCmd (.safeProof mbx mask) (safeProofBody mask) s

/-- A proof of oar k is due: asked for, or the last is 50 s old. -/
def Dev.proofDue (d : Dev) (k : Nat) : Bool :=
  d.ump.proofQueue.contains k || match (nth d.ump.oars k).lastProof with
    | some t => t + sT 50 ≤ d.now
    | none => true

/-- A proof may start: no other runs, no all-oar cause stands, the oar does not expose. In Build it lies in a gap. -/
def Dev.startProof (d : Dev) (k : Nat) : Dev :=
  if d.ump.proof.isSome || ! d.provable k || ! d.proofDue k || d.allOpen || (nth d.eng k).cur.isSome then d
  else
    let gap := d.mode.mode == .build && d.ump.closed.getLsbD k
    let e := d.safetyLeave
    let u := e.ump
    let d1 := { e with ump := { u with
      proof := some ⟨k, 1⟩
      closed := u.closed &&& ~~~ (BitVec.ofNat 32 (2 ^ k))
      proofQueue := if u.proofQueue.contains k then u.proofQueue else u.proofQueue ++ [k] } }
    (d1.onSafe k fun o => { o with gapSince := if gap then some d.now else none }).onEng k fun e =>
      { e with len := false, lenTick := d.now, lenSettled := false, lgate := false, dac := 0 }

/-- A cut-path proof falls due and starts. -/
def execProofStart (oar : Nat) (s : State) : Out := onDev (.proofStart oar) (fun _ d => d.startProof oar) s

/-- The bound on a measured delay, ns; steps P1 and P5 measure levels. -/
def proofLimit (step : Nat) : Nat := if step = 3 then 2000 else 150

/-- The proof of oar k has passed. -/
def Dev.proofPassed (d : Dev) (k : Nat) : Dev :=
  let o := nth d.ump.oars k
  let gap := match o.gapSince with | some t => d.now - t | none => 0
  let d1 := d.onSafe k fun o => { o with lastProof := some d.now, rotation := (o.rotation + 1) % 3, gapTicks := o.gapTicks + gap, gapSince := none }
  let u := d1.ump
  let d2 := { d1 with ump := { u with
    proof := none
    proofQueue := u.proofQueue.filter (· ≠ k)
    proofResults := (k, 0, 0) :: u.proofResults.filter (·.1 ≠ k) } }
  d2.closeCuts.safeStart.proofCheck

/-- A failed step: code 0x0C. -/
def Dev.proofFailed (d : Dev) (k step delayNs : Nat) : Dev :=
  let tr := (nth d.ump.oars k).trigger step
  let timed : Bool := inRange 2 4 step
  let u := d.ump
  let d1 := { d with ump := { u with proof := none, proofResults := (k, step, tr) :: u.proofResults.filter (·.1 ≠ k) } }
  let d2 := d1.event 7 0x0C k (if timed then delayNs else 0) (if timed then proofLimit step else 0) (step + 256 * tr)
  let d3 := (d2.host.jobs.filter fun j => match j.kind with | .proof _ => true | _ => false).foldl (fun e j => match j.kind with
    | .proof m => e.finish j 0x40 0 (e.proofReport m)
    | _ => e) d2
  (d3.enterSafe 0x0C k).assertWdog 0x0C

/-- A step of the proof in progress is judged: P2 and P4 within 150 ns, P3 within 2 µs. -/
def Dev.proofStep (d : Dev) (k : Nat) (pass : Bool) (delayNs : Nat) : Dev :=
  match d.ump.proof with
  | some p =>
    if p.oar ≠ k then d
    else if ! pass || (inRange 2 4 p.step && proofLimit p.step < delayNs) then d.proofFailed k p.step delayNs
    else if p.step < 5 then { d with ump := { d.ump with proof := some ⟨k, p.step + 1⟩ } }
    else d.proofPassed k
  | none => d

def execProofStep (oar : Nat) (pass : Bool) (delayNs : Nat) (s : State) : Out :=
  onDev (.proofStep oar pass delayNs) (fun _ d => d.proofStep oar pass delayNs) s

end Sys2Proof.Machine
end

