-- ==== Sys2Proof/Machine/TimeOps.lean ====
section
/-! DEFINITION. Device time as shared operations: its advance (R430), a step (R439, R440), the choice of the steering
domain and its blend (R441), lock and loss of a domain (R436), the servo (R438). Domain times are in 1/256 ns. -/

namespace Sys2Proof.Machine

/-! ## Device time (R12, R430) -/

/-- Device time in ns, exact. -/
def Time.ns64 (t : Time) : Rat := (t.sec : Rat) * 1000000000 + t.ns

/-- Device time set to an instant in ns that is not negative. -/
def Time.setNs (t : Time) (q : Rat) : Time :=
  let s := natOf (q / 1000000000).floor
  { t with sec := s % 2 ^ 64, ns := max 0 (q - (s : Rat) * 1000000000) }

/-- The ns by which device time advances in one frame tick of `div` cycles of the exposure clock at the steered rate. -/
def Time.tickNs (t : Time) (div : Nat) : Rat := (5 / 4) * div * (1 + (t.rate : Rat) / 1000000000000)

/-- One frame tick of `div` cycles of the exposure clock. -/
def Time.advance (div : Nat) (t : Time) : Time := { t.setNs (t.ns64 + t.tickNs div) with tick := t.tick + 1 }

/-- Cycles of the exposure clock in a frame tick: 200, but for a raw plan (R488, R490). -/
def Clocks.frameDiv (c : Clocks) : Nat := match c.raw with | some r => r.2.2 | none => 200

def Dev.onTime (d : Dev) (f : Time → Time) : Dev := { d with time := f d.time }

/-- R430, R488: device time over one frame tick. -/
def Dev.advance (d : Dev) : Dev := d.onTime (Time.advance d.clk.frameDiv)

def Dev.dom (d : Dev) (k : Nat) : Domain := nth d.time.doms k

def Dev.onDom (d : Dev) (k : Nat) (f : Domain → Domain) : Dev := d.onTime fun t => { t with doms := upd t.doms k f }

def Dev.onEth (d : Dev) (p : Nat) (f : EthPort → EthPort) : Dev := d.onTime fun t => { t with eth := upd t.eth p f }

/-- R435: a SLAVE domain is tracked. -/
def Domain.slave (m : Domain) : Bool := m.cfg.role = 0

/-- A stamp of R432 at its resolution of 0.25 ns. -/
def stampOf (raw corr : Int) : Int := raw / 64 * 64 + corr

/-! ## A step of device time (R439) -/

def Time.bytes (t : Time) : List Byte := u64 t.sec ++ u32 (natOf t.ns.floor)

/-- Device time moves by an interval in ns, in one cycle. The TIME_STEP event stands before the first record that is
stamped with the new time; the wake grid is emptied, the thermal map restamped (R132, R141). -/
def Dev.stepTime (d : Dev) (step : Rat) : Dev :=
  let d1 := d.eventNow 0xFF 0x17 (i64 (roundRat step))
  let d2 := d1.onTime fun t => { t.setNs (max 0 (t.ns64 + step)) with
    steps := (t.steps + 1) % 2 ^ 32
    deferredStep := none
    doms := t.doms.map fun m => { m with offset := m.offset + roundRat (step * 256), overStep := 0 } }
  let d3 := d2.onMar fun m => { m with
    wake := []
    openMarks := m.openMarks.filter fun e => e.2.2.2 = 2
    heat := m.heat.map fun h => (h.1, h.2.1, d2.stamp) }
  { d3 with ump := { d3.ump with timeSkew := d3.ump.timeSkew - roundRat step } }.raise 40

/-- A step and its Logbook record (R439). -/
def Dev.timeStep (d : Dev) (step : Rat) : Dev :=
  let d1 := d.stepTime step
  d1.logDevice 5 0 0x08 0 d.time.bytes d1.time.bytes

/-- R440: while a layer is released a step waits for the close of its fence. -/
def Dev.stepOrDefer (d : Dev) (step : Rat) : Dev :=
  if d.layers.released.isSome then d.onTime fun t => { t with deferredStep := some (roundRat (step * 256)) }
  else d.timeStep step

/-- `time.set` steps device time; its own record has the origin that R439 gives a step. -/
def Dev.setTime (d : Dev) (x : Ctx) (step : Rat) : Dev :=
  if d.layers.released.isSome then d.stepOrDefer step
  else
    let d1 := d.stepTime step
    d1.logAs x 5 0 0x08 0 (sha256 d.time.bytes) (sha256 d1.time.bytes)

/-- R440: the step still needed after the fence has closed. -/
def Dev.takeDeferred (d : Dev) : Dev :=
  match d.time.deferredStep with
  | some s =>
    if d.layers.released.isSome then d
    else (d.timeStep ((s : Rat) / 256)).onTime fun t => { t with integ := 0, deferredFirst := false }
  | none => d

/-! ## The steering domain (R441) -/

/-- What is left of a blend, as a share of it. -/
def Time.blendShare (t : Time) : Rat :=
  max 0 (1 - (t.ns64 - (t.blendNs : Rat)) / ((t.blendS : Rat) * 1000000000))

/-- The input of the servo for domain k, in ns. -/
def Time.input (t : Time) (k : Nat) : Rat :=
  ((nth t.doms k).offset : Rat) / 256 - (t.blend : Rat) / 256 * (if t.steer = some k then t.blendShare else 0)

/-- The domain marked preferred. -/
def Time.preferred (t : Time) : Option Nat := (List.range 2).find? fun k => (nth t.doms k).slave && (nth t.doms k).cfg.preferred = 1

def Time.canSteer (t : Time) (k : Nat) : Bool := (nth t.doms k).slave && (nth t.doms k).locked

/-- R441: the domain that is to steer. The preferred one takes over from another only when locked for 10 s. -/
def Time.chosen (t : Time) : Option Nat :=
  if t.select < 2 then (if t.canSteer t.select then some t.select else none)
  else
    let held := t.steer.filter t.canSteer
    match t.preferred with
    | some p =>
      if t.canSteer p && (held.isNone || held = some p || (((nth t.doms p).lockedSince + 10000000000 : Nat) : Rat) ≤ t.ns64) then some p
      else held.or ((List.range 2).find? t.canSteer)
    | none => held.or ((List.range 2).find? t.canSteer)

/-- R441: each change blends rate and raises TIME. Without a domain that steered before there is nothing to blend. -/
def Dev.chooseSteer (d : Dev) : Dev :=
  let e := d.time.chosen
  if e = d.time.steer then d
  else
    let b : Int := match d.time.steer, e with
      | some o, some n => (d.dom n).offset - roundRat (d.time.input o * 256)
      | _, _ => 0
    (d.onTime fun t => { t with steer := e, blend := b, blendNs := natOf t.ns64.floor }).raise 40

/-! ## Lock and loss (R436) -/

/-- Announce intervals of R434. -/
def Domain.announceTicks (m : Domain) : Nat := if m.cfg.profile = 1 then sT 1 else sT 2

/-- The order of the best master clock algorithm: what compares first stands first. -/
def AnnounceMsg.rank (m : AnnounceMsg) : List Nat :=
  [m.priority1, m.clockClass, m.accuracy, m.variance, m.priority2, m.gmId, m.stepsRemoved, m.source]

def lexLe : List Nat → List Nat → Bool
  | a :: as, b :: bs => a < b || (a = b && lexLe as bs)
  | _, _ => true

/-- R433, R434: the best of the masters whose latest Announce is not older than the announce receipt timeout. -/
def Domain.bestMaster (now : Nat) (m : Domain) : Domain :=
  let heard := m.masters.filter fun a => now < a.2 + 3 * m.announceTicks
  let best := heard.foldl (fun (b : Option (AnnounceMsg × Nat)) a => match b with
    | some x => if lexLe (AnnounceMsg.rank x.1) (AnnounceMsg.rank a.1) then b else some a
    | none => some a) none
  { m with masters := heard, gm := best.map (·.1), lastAnnounce := (best.map (·.2)).getD m.lastAnnounce }

/-- A domain is lost: its lock state changes, a spoil record is filed, the other domain steers where it is locked. -/
def Dev.loseDomain (d : Dev) (k : Nat) : Dev :=
  if ! (d.dom k).slave || ! ((d.dom k).seen || (d.dom k).locked) then d
  else
    let was := (d.dom k).locked
    let d1 := (d.onDom k fun m => { m.bestMaster d.now with
      locked := false, lost := true, seen := false, good := 0, await := false, asked := false, overStep := 0 }).spoil 0x09 k 0x003 false 0
    let d2 := (if was then d1.raise 40 else d1).chooseSteer
    if was && ! (List.range 2).any d2.time.canSteer then d2.healthRec 0xA 1 0x09 k (clampI (-2 ^ 31) (2 ^ 31 - 1) ((d.dom k).offset / 256)) 0 0 0 else d2

/-- Interval in frame ticks of 2^n s for n from −7 to 1. -/
def logTicks (n : Int) : Nat := if 0 ≤ n then sT (2 ^ n.toNat) else sT 1 / 2 ^ (-n).toNat

def Domain.syncTicks (m : Domain) : Nat := logTicks m.cfg.logSync

/-! ## The servo (R437, R438) -/

/-- ωn in 1/s. -/
def Time.omegaN (t : Time) : Rat := 2 * piQ * (t.servoBw : Rat) / 1000

/-- SLEW_PPM in ppb. -/
def Time.slewPpb (t : Time) : Rat := (t.slewPpm : Rat) * 1000

/-- One step of the proportional and integral law for an input in ns after an interval in s; rates in ppb. -/
def Time.servo (t : Time) (x ts : Rat) : Time :=
  let w := t.omegaN
  let i := fine (t.integ + w * w * x * ts)
  let r := clampQ (-t.slewPpb) t.slewPpb (-(14 / 10 * w * x + i))
  { t with integ := i, rate := roundRat (r * 1000) }

/-- R440: slewing at SLEW_PPM in the direction that takes an input away. -/
def Time.slew (t : Time) (x : Rat) : Time := { t with rate := roundRat ((if 0 < x then -t.slewPpb else t.slewPpb) * 1000) }

/-- R437: under this GANG_SIZE device time may be stepped after the first lock. -/
def Time.stepsAllowed (t : Time) : Bool := t.gangSize ≤ 2

/-- R437: whether the step of the first lock is needed at an input. -/
def Time.firstStepNeeded (t : Time) (x : Rat) : Bool := ! t.stepsAllowed || (t.lockNs : Rat) < x || x < -(t.lockNs : Rat)

/-- The servo at a complete Sync of the steering domain. The step of the first lock that waits for the fence follows the input
as long as it is still needed (R440), and is taken at once where a reset has ended the layer. -/
def Dev.runServo (d0 : Dev) (k : Nat) : Dev :=
  let x := d0.time.input k
  let step : Rat := d0.time.stepNs
  let past : Bool := step < x || x < -step
  let first := d0.time.deferredFirst && d0.time.firstStepNeeded x
  let d := d0.onTime fun t => { t with deferredFirst := first }
  let d1 := d.onDom k fun m => { m with overStep := if past then m.overStep + 1 else 0 }
  if first then
    if d.layers.released.isSome then (d1.stepOrDefer (-x)).onTime fun t => t.slew x
    else (d1.timeStep (-x)).onTime fun t => { t with integ := 0, deferredFirst := false }
  else if past && 4 ≤ (d1.dom k).overStep && d.time.stepsAllowed then
    if d.layers.released.isSome then (d1.stepOrDefer (-x)).onTime fun t => t.slew x
    else (d1.timeStep (-x)).onTime fun t => { t with integ := 0 }
  else d1.onTime fun t => { t.servo x ((logTicks (d.dom k).cfg.logSync : Rat) / 4000000) with
    deferredStep := if past && t.stepsAllowed then t.deferredStep else none }

/-- R437: at the first lock after reset device time takes the domain's time in one step; while a layer is released it is slewed
towards it and the step waits (R440). -/
def Dev.firstLockStep (d : Dev) (k : Nat) : Dev :=
  let x : Rat := ((d.dom k).offset : Rat) / 256
  let d1 := d.onTime fun t => { t with firstLock := true }
  if ! d.time.firstStepNeeded x then d1
  else if d.layers.released.isSome then (d1.stepOrDefer (-x)).onTime fun t => { t.slew x with deferredFirst := true }
  else (d1.timeStep (-x)).onTime fun t => { t with integ := 0 }

/-- R436: a complete Sync gives an offset; lock after 16 in a row within LOCK_NS, measured on the servo's input for the
steering domain and on the change of the offset for another (DESIGN CHOICE, log 40). -/
def Dev.newOffset (d : Dev) (k : Nat) (offset : Int) : Dev :=
  let old := d.dom k
  let d1 := d.onDom k fun m => { m with offset := offset, seen := true, lastSync := d.now }
  let m : Rat := if d.time.steer = some k then d1.time.input k else ((offset - old.offset : Int) : Rat) / 256
  let n : Rat := d.time.lockNs
  let good := if (old.seen || d.time.steer = some k) && -n ≤ m && m ≤ n then old.good + 1 else 0
  let d2 := d1.onDom k fun m => { m with good := good }
  let d3 := if ! old.locked && 16 ≤ good then
      ((d2.onDom k fun m => { m with locked := true, lost := false, lockedSince := natOf d.time.ns64.floor }).raise 40).chooseSteer
    else d2
  if d3.time.steer = some k then (if d3.time.firstLock then d3.runServo k else d3.firstLockStep k) else d3

end Sys2Proof.Machine
end

