-- ==== Sys2Proof/Machine/TimeRows.lean ====
section
/-! DEFINITION. The time commands (R450), PTP messages (R433 to R441), gang frames (R443 to R448) and what else an Ethernet
port receives (R428). Index of their Logbook records: the port, 0x10 and the domain, 0x20 to 0x23 (DESIGN CHOICE, log 41). -/

namespace Sys2Proof.Machine

/-! ## Frames -/

/-- A frame leaves a port that is up. The bytes recorded begin behind the Ethernet header, but for gang frames, which are whole. -/
def Dev.sendFrame (d : Dev) (p : Nat) (bs : List Byte) : Dev :=
  if (nth d.time.eth p).up then d.onTime fun t => { t with out := (p, bs) :: t.out } else d

/-- Kinds of frames received and dropped: 0 PTP, 1 ARP, 2 gang, 3 wake, 4 other. -/
def Dev.countRx (d : Dev) (p kind : Nat) : Dev := d.onEth p fun e => { e with rx := upd e.rx kind (· + 1) }

def Dev.countDrop (d : Dev) (p kind : Nat) : Dev := d.onEth p fun e => { e with dropped := upd e.dropped kind (· + 1) }

def Dev.portUp (d : Dev) (p : Nat) : Bool := (nth d.time.eth p).up

/-- Present device time in 1/256 ns, as a stamp reads it with a correction (R432). -/
def Dev.stampNow (d : Dev) (corr : Int) : Int := stampOf (d.time.ns64 * 256).floor corr

/-- A stamp as 64-bit seconds and 32-bit ns. -/
def stampBytes (s : Int) : List Byte := u64 (natOf (s / 256 / 1000000000)) ++ u32 (natOf (s / 256 % 1000000000))

/-! ## Settings -/

def EthPort.bytes (p : Nat) (e : EthPort) : List Byte :=
  u32 p ++ u64 e.mac ++ u32 ((e.vlan.map (·.1)).getD 0) ++ u32 ((e.vlan.map (·.2)).getD 0) ++ u32 (e.ipv4.getD 0) ++ i32 e.txCorr ++
  i32 e.rxCorr

/-- R428, R432. -/
def TimePortArg.ok (a : TimePortArg) : Bool :=
  a.port < 2 && a.mac < 2 ^ 48 && ! a.mac.testBit 40 &&
  (match a.vlan with | some v => inRange 1 4094 v.1 && v.2 ≤ 7 | none => true) && -256000 ≤ a.txCorr && a.txCorr ≤ 256000 &&
  -256000 ≤ a.rxCorr && a.rxCorr ≤ 256000

def timePortBody (a : TimePortArg) : Body := fun x _ d =>
  if ! TimePortArg.ok a then badArg
  else
    let d1 := d.onEth a.port fun e => { e with mac := a.mac, vlan := a.vlan, ipv4 := a.ipv4, txCorr := a.txCorr, rxCorr := a.rxCorr }
    let new := (nth d1.time.eth a.port).bytes a.port
    .done (d1.log x 0x08 a.port ((nth d.time.eth a.port).bytes a.port) new) new

/-- `time.port`. -/
def execTimePort (mbx : Nat) (a : TimePortArg) (s : State) : Out := runCmd (.timePort mbx a) (timePortBody a) s

def TimeDomainArg.bytes (a : TimeDomainArg) : List Byte :=
  u32 a.domain ++ u32 a.port ++ u32 a.number ++ u32 a.profile ++ u32 a.transport ++ u32 a.role ++ u32 a.oneStep ++ i32 a.logSync ++
  u32 a.preferred

/-- R434, R435, R450: profile 0 Default, 1 industrial; transport 0 IEEE 802.3, 1 UDP over IPv4; role 0 SLAVE, 1 MASTER. -/
def TimeDomainArg.ok (a : TimeDomainArg) : Bool :=
  a.domain < 2 && a.port < 2 && a.number < 256 && a.profile < 2 && a.transport < 2 && a.role < 2 && a.oneStep < 2 && a.preferred < 2 &&
  (if a.profile = 0 then a.logSync = -1 || a.logSync = 0 else -7 ≤ a.logSync && a.logSync ≤ 0 && a.transport = 1) &&
  ! (a.role = 1 && a.preferred = 1)

/-- A domain starts afresh with its new setting, its last offset kept for the blend of R441; one domain at most is preferred. -/
def Dev.setDomain (d : Dev) (a : TimeDomainArg) : Dev :=
  let was := (d.dom a.domain).locked
  let d1 := d.onDom a.domain fun _ => { Domain.reset a.domain with
    cfg := a, offset := (d.dom a.domain).offset, lost := (d.dom a.domain).lost && a.role = 0 }
  let d2 := if a.preferred = 1 then d1.onDom (1 - a.domain) fun m => { m with cfg := { m.cfg with preferred := 0 } } else d1
  (if was then d2.raise 40 else d2).chooseSteer

def timeDomainBody (a : TimeDomainArg) : Body := fun x _ d =>
  if ! TimeDomainArg.ok a then badArg
  else .done ((d.setDomain a).log x 0x08 (0x10 + a.domain) (TimeDomainArg.bytes (d.dom a.domain).cfg) (TimeDomainArg.bytes a)) (TimeDomainArg.bytes a)

/-- `time.domain`. -/
def execTimeDomain (mbx : Nat) (a : TimeDomainArg) (s : State) : Out := runCmd (.timeDomain mbx a) (timeDomainBody a) s

def Time.servoBytes (t : Time) : List Byte := [t.servoBw, t.stepNs, t.lockNs, t.slewPpm, t.blendS].flatMap u32

def timeServoBody (bw step lock slew blend : Nat) : Body := fun x _ d =>
  if ! (inRange 10 10000 bw && inRange 1000 1000000000 step && inRange 10 100000 lock && inRange 1 500 slew && inRange 1 100 blend) then badArg
  else
    let d1 := d.onTime fun t => { t with servoBw := bw, stepNs := step, lockNs := lock, slewPpm := slew, blendS := blend }
    .done (d1.log x 0x08 0x20 d.time.servoBytes d1.time.servoBytes) d1.time.servoBytes

/-- `time.servo`. -/
def execTimeServo (mbx bw step lock slew blend : Nat) (s : State) : Out :=
  runCmd (.timeServo mbx bw step lock slew blend) (timeServoBody bw step lock slew blend) s

def Time.gangBytes (t : Time) : List Byte := [t.gangSize, t.deviceNo, t.gangPorts, boolN t.recoveredRef, t.skewMax].flatMap u32

def timeGangBody (size device ports recovered skew : Nat) : Body := fun x _ d =>
  if ! (inRange 1 4 size && device < size && ports ≤ 2 && recovered ≤ 1 && inRange 100 100000 skew) || (d.boot.compat && size ≠ 1) then badArg
  else if ! d.queueEmpty then refusedBusy
  else
    let d1 := d.onTime fun t => { t with
      gangSize := size
      deviceNo := device
      gangPorts := ports
      recoveredRef := recovered = 1
      skewMax := skew
      peers := t.peers.mapIdx fun i p => if i < size && i ≠ device then p else Peer.reset }
    .done (d1.log x 0x08 0x21 d.time.gangBytes d1.time.gangBytes) d1.time.gangBytes

/-- `time.gang`. -/
def execTimeGang (mbx size device ports recovered skew : Nat) (s : State) : Out :=
  runCmd (.timeGang mbx size device ports recovered skew) (timeGangBody size device ports recovered skew) s

def timeSetBody (sec ns : Nat) : Body := fun x _ d =>
  if 1000000000 ≤ ns then badArg
  else if ! d.time.stepsAllowed || (List.range 2).any d.time.canSteer then refusedMode
  else
    .done (d.setTime x ((sec : Rat) * 1000000000 + ns - d.time.ns64)) (u64 sec ++ u32 ns)

/-- `time.set`. -/
def execTimeSet (mbx sec ns : Nat) (s : State) : Out := runCmd (.timeSet mbx sec ns) (timeSetBody sec ns) s

/-- The steering domain as TIME.STATUS [3:2] gives it. -/
def Time.steerCode (t : Time) : Nat := match t.steer with | some k => k + 1 | none => 0

def timeSelectBody (sel : Nat) : Body := fun x _ d =>
  if 2 < sel then badArg
  else
    let d1 := (d.onTime fun t => { t with select := sel }).chooseSteer
    .done (d1.log x 0x08 0x23 (u32 d.time.select) (u32 sel)) (u32 d1.time.steerCode)

/-- `time.select`. -/
def execTimeSelect (mbx sel : Nat) (s : State) : Out := runCmd (.timeSelect mbx sel) (timeSelectBody sel) s

/-! ## Reports -/

/-- 0 MASTER, 1 not locked, 2 locked, 3 lost. -/
def Domain.code (m : Domain) : Nat := if ! m.slave then 0 else if m.locked then 2 else if m.lost then 3 else 1

def nsField (i : Int) : List Byte := i32 (clampI (-2 ^ 31) (2 ^ 31 - 1) (i / 256))

/-- Per domain: state, offset and meanPathDelay in ns, grandmaster identity and clockClass; steering domain, rate in
0.001 ppb, blend remaining in ms, TIME.STEPS; per port: up, received and dropped per kind, ARP answers. -/
def Time.report (t : Time) : List Byte :=
  (t.doms.flatMap fun m => u32 m.code ++ nsField m.offset ++ nsField m.mpd ++ u64 ((m.gm.map (·.gmId)).getD 0) ++
    u32 ((m.gm.map (·.clockClass)).getD 0)) ++
  u32 t.steerCode ++ i32 t.rate ++ u32 (if t.blend = 0 then 0 else natOf (t.blendShare * t.blendS * 1000).floor) ++ u32 t.steps ++
  (t.eth.flatMap fun e => u32 (boolN e.up) ++ e.rx.flatMap u32 ++ e.dropped.flatMap u32 ++ u32 e.arp)

def EthPort.cleared (e : EthPort) : EthPort := { e with rx := [0, 0, 0, 0], dropped := [0, 0, 0, 0, 0], arp := 0 }

def timeStatusBody (clear : Nat) : Body := fun _ _ d =>
  if 1 < clear then badArg
  else .done (if clear = 1 then d.onTime fun t => { t with eth := t.eth.map EthPort.cleared } else d) d.time.report

/-- `time.status`. -/
def execTimeStatus (mbx clear : Nat) (s : State) : Out := runCmd (.timeStatus mbx clear) (timeStatusBody clear) s

/-- Per DEVICE_NO: 0 not heard, 1 present, 2 lost; age of the last HELLO in ms; skew in ns; MARKS applied, discarded,
dropped. -/
def Dev.peerReport (d : Dev) : List Byte :=
  d.time.peers.flatMap fun p => u32 (if p.present then 1 else if p.known then 2 else 0) ++
    u32 (if p.known then (d.now - p.helloTick) / 4000 else 0xFFFFFFFF) ++ i32 p.skew ++ u32 p.applied ++ u32 p.discarded ++ u32 p.dropped

def timePeersBody (clear : Nat) : Body := fun _ _ d =>
  if 1 < clear then badArg
  else .done (if clear = 1 then d.onTime fun t => { t with
      peers := t.peers.map fun p => { p with applied := 0, discarded := 0, dropped := 0 } } else d) d.peerReport

/-- `time.peers`. -/
def execTimePeers (mbx clear : Nat) (s : State) : Out := runCmd (.timePeers mbx clear) (timePeersBody clear) s

/-! ## PTP (R433 to R436) -/

/-- A PTP message in the model's own record: kind, domainNumber, content. -/
def ptpBytes (kind number : Nat) (content : List Byte) : List Byte := u8 kind ++ u8 number ++ content

/-- R436: one Delay_Req for each Sync received. -/
def Dev.sendDelayReq (d : Dev) (k : Nat) : Dev := d.sendFrame (d.dom k).cfg.port (ptpBytes 1 (d.dom k).cfg.number [])

/-- R433: the sender is the master that the domain has selected. -/
def Domain.follows (c : Domain) (m : SyncMsg) : Bool := c.gm.any fun g => g.source = m.source

/-- R436: the Sync that a domain's port receives; one of another master is passed over. -/
def Dev.ptpSync (d : Dev) (k : Nat) (m : SyncMsg) : Dev :=
  let c := d.dom k
  let p := c.cfg.port
  let e := nth d.time.eth p
  if ! e.up then d
  else if ! c.slave then d.countDrop p 0
  else if ! c.follows m then d.countRx p 0
  else match m.kind with
    | .oneStep =>
      let t2 := stampOf m.t2 e.rxCorr
      (((d.countRx p 0).onDom k fun c => { c with t1 := m.t1, t2 := t2, t3 := stampOf m.t3 e.txCorr, await := false, asked := true }).sendDelayReq
        k).newOffset k (t2 - m.t1 - c.mpd)
    | .twoStep =>
      ((d.countRx p 0).onDom k fun c =>
        { c with t2 := stampOf m.t2 e.rxCorr, t3 := stampOf m.t3 e.txCorr, await := true, asked := false }).sendDelayReq k
    | .followUp =>
      if ! c.await then d.countDrop p 0
      else ((d.countRx p 0).onDom k fun c => { c with t1 := m.t1, await := false, asked := true }).newOffset k (c.t2 - m.t1 - c.mpd)

/-- A Sync, or its Follow_Up, is received. -/
def execPtpSync (domain : Nat) (m : SyncMsg) (s : State) : Out := onDev (.ptpSync domain m) (fun _ d => d.ptpSync domain m) s

/-- R436: meanPathDelay as the average of the latest 16 samples. -/
def Domain.delay (t4 : Int) (m : Domain) : Domain :=
  let w := (((m.t2 - m.t1) + (t4 - m.t3)) / 2 :: m.window).take 16
  { m with window := w, mpd := w.foldl (· + ·) 0 / w.length, asked := false }

def Dev.ptpDelayResp (d : Dev) (k : Nat) (t4 : Int) : Dev :=
  let c := d.dom k
  if ! d.portUp c.cfg.port then d
  else if ! c.slave || ! c.asked then d.countDrop c.cfg.port 0
  else (d.countRx c.cfg.port 0).onDom k (Domain.delay t4)

/-- A Delay_Resp is received. -/
def execPtpDelayResp (domain : Nat) (t4 : Int) (s : State) : Out := onDev (.ptpDelayResp domain t4) (fun _ d => d.ptpDelayResp domain t4) s

/-- R433: an Announce replaces the one its master sent before, and the best master is selected anew. -/
def Dev.ptpAnnounce (d : Dev) (k : Nat) (m : AnnounceMsg) : Dev :=
  let c := d.dom k
  if ! d.portUp c.cfg.port then d
  else if ! c.slave then d.countDrop c.cfg.port 0
  else
    (d.countRx c.cfg.port 0).onDom k fun c =>
      { c with masters := (m, d.now) :: c.masters.filter fun a => a.1.source ≠ m.source }.bestMaster d.now

/-- An Announce is received. -/
def execPtpAnnounce (domain : Nat) (m : AnnounceMsg) (s : State) : Out :=
  onDev (.ptpAnnounce domain m) (fun _ d => d.ptpAnnounce domain m) s

/-- R435: a MASTER domain answers with the stamp at which the request came. -/
def Dev.ptpDelayReq (d : Dev) (k requester : Nat) (rx : Int) : Dev :=
  let c := d.dom k
  let p := c.cfg.port
  if ! d.portUp p then d
  else if c.slave then d.countDrop p 0
  else (d.countRx p 0).sendFrame p (ptpBytes 9 c.cfg.number (u64 requester ++ stampBytes (stampOf rx (nth d.time.eth p).rxCorr)))

/-- A Delay_Req is received. -/
def execPtpDelayReq (domain requester : Nat) (rx : Int) (s : State) : Out :=
  onDev (.ptpDelayReq domain requester rx) (fun _ d => d.ptpDelayReq domain requester rx) s

/-- The interval of device time, of a length given in frame ticks, in which the device is (R27). -/
def Dev.turnOf (d : Dev) (ticks : Nat) : Nat := d.timeNs / (250 * ticks)

/-- R433, R435: a MASTER domain sends Announce with clockClass 248 and priorities 128, or Sync, its stamp inserted or in a
Follow_Up, at the configured intervals. -/
def Dev.ptpMasterTx (d : Dev) (k : Nat) (announce : Bool) : Dev :=
  let c := d.dom k
  let p := c.cfg.port
  let n := c.cfg.number
  let stamp := stampBytes (d.stampNow (nth d.time.eth p).txCorr)
  if c.slave || ! d.portUp p then d
  else if announce then
    if d.turnOf c.announceTicks = c.announceTurn then d
    else (d.sendFrame p (ptpBytes 0xB n (u32 128 ++ u32 248 ++ u32 128))).onDom k fun c => { c with announceTurn := d.turnOf c.announceTicks }
  else if d.turnOf c.syncTicks = c.syncTurn then d
  else
    let d1 := if c.cfg.oneStep = 1 then d.sendFrame p (ptpBytes 0 n stamp)
      else (d.sendFrame p (ptpBytes 0 n [])).sendFrame p (ptpBytes 8 n stamp)
    d1.onDom k fun c => { c with syncTurn := d.turnOf c.syncTicks }

/-- A MASTER domain's interval passes. -/
def execPtpMasterTx (domain : Nat) (announce : Bool) (s : State) : Out :=
  onDev (.ptpMasterTx domain announce) (fun _ d => d.ptpMasterTx domain announce) s

/-- R436: three Sync intervals without a complete Sync, or three announce intervals without an Announce. -/
def Dev.domainSilent (d : Dev) (k : Nat) : Bool :=
  let c := d.dom k
  c.lastSync + 3 * c.syncTicks ≤ d.now || c.lastAnnounce + 3 * c.announceTicks ≤ d.now

/-- A domain's time-outs. -/
def execDomainLost (domain : Nat) (s : State) : Out :=
  onDev (.domainLost domain) (fun _ d => if d.domainSilent domain then d.loseDomain domain else d) s

/-- R441: the preferred domain has been locked again for 10 s. -/
def execPreferredRelockHold (s : State) : Out := onDev .preferredRelockHold (fun _ d => d.chooseSteer) s

/-- R431: the Keep counter takes the seconds while device time is locked. -/
def execKeepSecondsWrite (s : State) : Out :=
  onDev .keepSecondsWrite (fun _ d => if d.time.locked && d.coxRuns then { d with boot := { d.boot with keepSec := d.time.sec } } else d) s

/-! ## Other frames (R428) -/

/-- An ARP request for the port's IPv4 address is answered. -/
def Dev.arpRequest (d : Dev) (p ip : Nat) : Dev :=
  let e := nth d.time.eth p
  if ! e.up then d
  else if e.ipv4 = some ip then
    ((d.countRx p 1).onEth p fun e => { e with arp := e.arp + 1 }).sendFrame p (u64 e.mac ++ u32 ip)
  else d.countDrop p 1

def execArpRequest (port ip : Nat) (s : State) : Out := onDev (.arpRequest port ip) (fun _ d => d.arpRequest port ip) s

/-- A frame that the port does not support is dropped and counted: PTP, ARP, gang, wake or another. -/
def execOtherFrame (port kind : Nat) (s : State) : Out :=
  onDev (.otherFrame port kind) (fun _ d => if d.portUp port then d.countDrop port (min kind 4) else d) s

/-! ## Gang frames (R444 to R448) -/

/-- R444: CRC-32C over the bed rectangle. -/
def Dev.bedDigest (d : Dev) : Nat :=
  crc32c (match d.geo.active.bed with | some (x, y, w, h) => i32 x ++ i32 y ++ i32 w ++ i32 h | none => List.replicate 16 0)

/-- The ports in GANG_PORTS: A, B or both. -/
def Time.gangPortList (t : Time) : List Nat := if t.gangPorts = 0 then [0] else if t.gangPorts = 1 then [1] else [0, 1]

def Dev.gangHeader (d : Dev) (subtype count : Nat) : List Byte :=
  let ds := d.relDesc
  u16 0x4347 ++ u8 1 ++ u8 subtype ++ u8 d.time.deviceNo ++ u8 d.time.gangSize ++ u16 count ++ u32 d.time.gseq ++
  u32 (if d.layers.released.isSome then ds.layer else 0xFFFFFFFF) ++ u16 ds.wakeLen ++ u16 ds.wakeHalf ++ i16 ds.gasX ++ i16 ds.gasY ++
  u32 d.bedDigest ++ u32 0

/-- The destination and EtherType of gang frames (R444). -/
def gangDest : Nat := 0x03001F5C0001
def gangType : Nat := 0x88B5

/-- Bytes in the order of the wire. -/
def wire (n v : Nat) : List Byte := (le n v).reverse

/-- The Ethernet header of a gang frame from a port, with the port's 802.1Q tag where it has one (R428). -/
def EthPort.gangHead (e : EthPort) : List Byte :=
  wire 6 gangDest ++ wire 6 e.mac ++ (match e.vlan with | some v => wire 2 0x8100 ++ wire 2 (v.2 * 8192 + v.1) | none => []) ++ wire 2 gangType

/-- A frame as it is received: destination, EtherType behind one 802.1Q tag at most, and what follows (R428). -/
def ethParts (f : List Byte) : Nat × Nat × List Byte :=
  let w := fun (o n : Nat) => unle ((f.drop o).take n).reverse
  if w 12 2 = 0x8100 then (w 0 6, w 16 2, f.drop 18) else (w 0 6, w 12 2, f.drop 14)

/-- What a gang frame carries (R444). -/
def gangPayload (f : List Byte) : Option (List Byte) :=
  let e := ethParts f
  if e.1 = gangDest ∧ e.2.1 = gangType then some e.2.2 else none

/-- A gang frame leaves on every gang port with the same GSEQ; `body` gives what follows the header on a port. -/
def Dev.sendGang (d : Dev) (subtype count : Nat) (body : Nat → List Byte) : Dev :=
  (d.time.gangPortList.foldl (fun e p => e.sendFrame p ((nth d.time.eth p).gangHead ++ d.gangHeader subtype count ++ body p)) d).onTime fun t =>
    { t with gseq := (t.gseq + 1) % 2 ^ 32 }

/-- One MARKS entry (R445). -/
def markEntry (e : Nat × Int × Int × Nat) : List Byte := i32 e.2.1 ++ i32 e.2.2.1 ++ u32 e.2.2.2 ++ u8 e.1 ++ List.replicate 3 0

/-- R445: for each oar and cell the newest marking point; a point that is so for several cells stands once (log 102). -/
def newestMarks (ms : List (Nat × Nat × Int × Int × Nat)) : List (Nat × Int × Int × Nat) :=
  ((ms.foldl (fun l e => l.filter (fun o => o.1 ≠ e.1 || o.2.1 ≠ e.2.1) ++ [e]) []).map (·.2)).dedup

/-- R445: the local marks of the interval. -/
def Dev.marksSend (d : Dev) : Dev :=
  if d.turnOf (usT 20) = d.mar.marksTurn then d
  else
    let ms := newestMarks d.mar.gangMarks
    let d1 := d.onMar fun m => { m with gangMarks := [], marksTurn := d.turnOf (usT 20) }
    if d.time.gangSize < 2 then d1
    else (List.range ((ms.length + 90) / 91)).foldl (fun e i =>
      let part := (ms.drop (91 * i)).take 91
      e.sendGang 2 part.length fun _ => part.flatMap markEntry) d1

def execMarksSend (s : State) : Out := onDev .marksSend (fun _ d => d.marksSend) s

/-- APPARENT of R447, by the peer's latest HELLO. -/
def Peer.apparentField (p : Peer) : List Byte := i32 (p.apparent.getD (-2 ^ 31))

/-- R447: a HELLO on every gang port. -/
def Dev.helloSend (d : Dev) : Dev :=
  if d.time.gangSize < 2 || d.turnOf (msT 1) = d.time.helloTurn then d
  else
    (d.sendGang 1 0 fun p => stampBytes (d.stampNow (nth d.time.eth p).txCorr) ++ u8 d.timeStatus ++ List.replicate 3 0 ++
      d.time.peers.flatMap Peer.apparentField).onTime fun t => { t with helloTurn := d.turnOf (msT 1) }

def execHelloSend (s : State) : Out := onDev .helloSend (fun _ d => d.helloSend) s

/-- A field of a gang frame. -/
def fieldAt (bs : List Byte) (off n : Nat) : Nat := unle ((bs.drop off).take n)

/-- R443, R444: a gang frame that this device looks at: it is in a gang, the port is one of the gang's, and the header
names another device. -/
def Dev.gangFrameOk (d : Dev) (p : Nat) (bs : List Byte) (subtype : Nat) : Bool :=
  2 ≤ d.time.gangSize && d.time.gangPortList.contains p && fieldAt bs 0 2 = 0x4347 && fieldAt bs 2 1 = 1 && fieldAt bs 3 1 = subtype &&
  fieldAt bs 4 1 ≠ d.time.deviceNo && fieldAt bs 4 1 < 4

def Dev.onPeer (d : Dev) (k : Nat) (f : Peer → Peer) : Dev := d.onTime fun t => { t with peers := upd t.peers k f }

/-- R446: the sequence numbers that have come from a sender, the latest 1024. -/
def Peer.heard (n : Nat) (p : Peer) : Peer := { p with gseq := (n :: p.gseq).take 1024 }

/-- R446: the conditions under which a MARKS frame is applied. -/
def Dev.marksOk (d : Dev) (bs : List Byte) : Bool :=
  let p := nth d.time.peers (fieldAt bs 4 1)
  fieldAt bs 5 1 = d.time.gangSize && fieldAt bs 24 4 = d.bedDigest && p.present && d.now ≤ p.helloTick + msT 10 && ! d.boot.compat &&
  inRange 1 91 (fieldAt bs 6 2) && bs.length = 32 + 16 * fieldAt bs 6 2

/-- R126 with a sender's geometry. -/
def Dev.peerCells (d : Dev) (bs : List Byte) (x y : Int) : List Nat :=
  let s16 := fun (o : Nat) => signed 16 (fieldAt bs o 2)
  let ds := { d.relDesc with wakeLen := fieldAt bs 16 2, wakeHalf := fieldAt bs 18 2, gasX := s16 20, gasY := s16 22 }
  ({ d with layers := { d.layers with released := some { (default : LayerRec) with desc := ds } } }).markCells x y

/-- The marks of one entry. -/
def Dev.peerMarks (d : Dev) (bs : List Byte) (i : Nat) : List (Nat × Nat × Nat × Nat) :=
  let o := 32 + 16 * i
  let s32 := fun (a : Nat) => signed 32 (fieldAt bs a 4)
  (d.peerCells bs (s32 o) (s32 (o + 4))).map fun c => (c, fieldAt bs (o + 8) 4, fieldAt bs (o + 12) 1 % 32, 2)

/-- R446: a MARKS frame. -/
def Dev.marksReceived (d : Dev) (p : Nat) (bs : List Byte) : Dev :=
  let k := fieldAt bs 4 1
  let n := fieldAt bs 8 4
  if ! d.portUp p then d
  else if ! d.gangFrameOk p bs 2 || d.time.gangSize ≤ k then d.countDrop p 2
  else if (nth d.time.peers k).gseq.contains n then
    (d.countRx p 2).onPeer k fun q => { q with discarded := q.discarded + 1 }
  else if ! d.marksOk bs then (d.countDrop p 2).onPeer k fun q => { q.heard n with dropped := q.dropped + 1 }
  else
    (((d.countRx p 2).onPeer k fun q => { q.heard n with applied := q.applied + 1 })).onMar fun m =>
      { m with openMarks := m.openMarks ++ (List.range (fieldAt bs 6 2)).flatMap (d.peerMarks bs) }

/-- What a port does with a frame that is to be a gang frame: another is dropped as any that is not supported (R428). -/
def Dev.gangFrame (d : Dev) (p : Nat) (frame : List Byte) (f : Dev → List Byte → Dev) : Dev :=
  match gangPayload frame with
  | some bs => f d bs
  | none => if d.portUp p then d.countDrop p 4 else d

def execMarksReceived (port : Nat) (frame : List Byte) (s : State) : Out :=
  onDev (.marksReceived port frame) (fun _ d => d.gangFrame port frame fun d bs => d.marksReceived port bs) s

/-- The skew of a peer judged against SKEW_MAX: one health record per excursion (R447). -/
def Dev.judgeSkew (d : Dev) (k : Nat) (skew : Int) : Dev :=
  let far : Bool := (d.time.skewMax : Int) < skew.natAbs
  let was := (nth d.time.peers k).inExcursion
  let d1 := d.onPeer k fun q => { q with skew := skew, inExcursion := far }
  if far && ! was then d1.healthRec 0xA 1 0x09 k skew d.time.skewMax 0 0 else d1

/-- R447, R448: a peer's HELLO. Another GANG_SIZE: the peer is not counted, and one health record is filed. -/
def Dev.helloReceived (d : Dev) (p : Nat) (bs : List Byte) (rx : Int) : Dev :=
  let k := fieldAt bs 4 1
  let n := fieldAt bs 8 4
  let q := nth d.time.peers k
  if ! d.portUp p then d
  else if ! d.gangFrameOk p bs 1 || bs.length ≠ 64 then d.countDrop p 2
  else if fieldAt bs 5 1 ≠ d.time.gangSize then
    let d1 := (d.countDrop p 2).onPeer k fun q => { q with present := false, mismatch := true }
    if q.mismatch then d1 else d1.healthRec 0xB 1 0x09 k k 0 0 0
  else if d.time.gangSize ≤ k then d.countDrop p 2
  else if q.gseq.contains n then d.countRx p 2
  else
    let tx : Int := (fieldAt bs 32 8 : Int) * 1000000000 + fieldAt bs 40 4
    let a := clampI (-2 ^ 31 + 1) (2 ^ 31 - 1) (stampOf rx (nth d.time.eth p).rxCorr / 256 - tx)
    let back := signed 32 (fieldAt bs (48 + 4 * d.time.deviceNo) 4)
    let d1 := (d.countRx p 2).onPeer k fun q => { q.heard n with
      present := true
      known := true
      mismatch := false
      helloTick := d.now
      apparent := some a }
    if back = -2 ^ 31 then d1 else d1.judgeSkew k ((a - back) / 2)

def execHelloReceived (port : Nat) (frame : List Byte) (rx : Int) (s : State) : Out :=
  onDev (.helloReceived port frame rx) (fun _ d => d.gangFrame port frame fun d bs => d.helloReceived port bs rx) s

/-- R448: no HELLO for 10 ms. -/
def Dev.peerLost (d : Dev) (k : Nat) : Dev :=
  let p := nth d.time.peers k
  if ! p.present || d.now < p.helloTick + msT 10 then d
  else (d.onPeer k fun q => { q with present := false }).spoil 0x09 k 0x004 false 0

def execPeerLost (device : Nat) (s : State) : Out := onDev (.peerLost device) (fun _ d => d.peerLost device) s

end Sys2Proof.Machine
end

