-- ==== Sys2Proof/Machine/LinkRows.lean ====
section
/-! DEFINITION. The link commands (R309) and the events of training, relock, sleep, eye probes and the service channel
(R286 to R302). What a return frame brings stands in FrameRows. -/

namespace Sys2Proof.Machine

/-! ## Commands -/

/-- INDEX of a record about a mask of instances: the only one, or 0xFFFF. -/
def maskIndex (n mask : Nat) : Nat := match bitsOf n mask with | [i] => i | _ => 0xFFFF

def Port.linkBytes (p : Port) : List Byte := [p.eqWidth, p.eqHeight, p.outPreset, boolN p.autoSleep].flatMap u32

def oarLinkBody (ports width height preset autoSleep : Nat) : Body := fun x _ d =>
  if d.badPortMask ports || ! (inRange 1 63 width && inRange 2 508 height && preset < 8 && autoSleep < 2) then badArg
  else
    let ns := bitsOf 33 ports
    let d1 := ns.foldl (fun d n => d.onPort n fun p =>
      { p with eqWidth := width, eqHeight := height, outPreset := preset, autoSleep := autoSleep = 1 }) d
    .done (d1.log x 0x11 (maskIndex 33 ports) (ns.flatMap fun n => (d.port n).linkBytes) (ns.flatMap fun n => (d1.port n).linkBytes))
      ([width, height, preset, autoSleep].flatMap u32)

/-- `oar.link`. -/
def execOarLink (mbx ports width height preset autoSleep : Nat) (s : State) : Out :=
  runCmd (.oarLink mbx ports width height preset autoSleep) (oarLinkBody ports width height preset autoSleep) s

/-- 0 to 4 the sleep states of R295 of a trained port, 5 training, 6 between attempts, 7 relock, 8 FAILED (DESIGN CHOICE, log 42). -/
def Port.stateCode (p : Port) : Nat :=
  match p.st with
  | .idle => 4
  | .training _ => 5
  | .retryWait => 6
  | .trained => p.sleep
  | .relock => 7
  | .failed => 8

/-- State, FAILED, FALLBACK, preset, L_link, D_head, D_ALIGN in ps, last probe, the counters of R306. -/
def Port.report (p : Port) : List Byte :=
  [p.stateCode, boolN (p.st == .failed), boolN p.fallback, p.preset, linkPs p.lLinkMeas, p.dHead, p.dAlign, p.probe.1, p.probe.2].flatMap u32 ++
  p.counters.flatMap u32

def oarLinkstatBody (ports clear : Nat) : Body := fun _ _ d =>
  if d.badPortMask ports || 1 < clear then badArg
  else
    let ns := bitsOf 33 ports
    .done (if clear = 1 then ns.foldl (fun d n => d.onPort n fun p => { p with counters := List.replicate 18 0 }) d else d)
      (ns.flatMap fun n => (d.port n).report)

/-- `oar.linkstat`. -/
def execOarLinkstat (mbx ports clear : Nat) (s : State) : Out := runCmd (.oarLinkstat mbx ports clear) (oarLinkstatBody ports clear) s

def oarRetrainBody (ports : Nat) : Body := fun _ _ d =>
  if d.badPortMask ports then badArg
  else if ports = 0 then .done d
  else .executing ((bitsOf 33 ports).foldl Dev.trainStart d) (.train ports) true

/-- `oar.retrain`. -/
def execOarRetrain (mbx ports : Nat) (s : State) : Out := runCmd (.oarRetrain mbx ports) (oarRetrainBody ports) s

/-! ### Sleep (R295 to R298) -/

/-- A port's sleep state as `oar.power` reports it: one that never trained or was put to IDLE is IDLE. -/
def Port.sleepNow (p : Port) : Nat := if p.st == .idle || p.st == .failed then 4 else p.sleep

/-- R296: the device accepts a sleep request only while LEN is low and the head is in PARK or READY. -/
def Dev.maySleep (d : Dev) (n : Nat) : Bool :=
  let p := d.port n
  p.st == .trained && p.parked && ! (n < 32 && (nth d.eng n).len)

/-- A request for a sleep state: at once where it is in force; ACTIVE wakes or trains the port. -/
def Dev.askSleep (d : Dev) (state n : Nat) : Dev :=
  if (d.port n).sleepNow = state then d.onPort n fun p => { p with sleepReq := none }
  else if state = 0 then d.wakePort n
  else d.onPort n fun p => { p with sleepReq := some state, cmdFrames := 0, acks := 0, burst := 0 }

/-- Every port of a mask has settled after `oar.power`. -/
def Dev.powerSettled (d : Dev) (ports : Nat) : Bool :=
  (bitsOf 33 ports).all fun n => let p := d.port n; p.sleepReq.isNone && (p.st == .trained || p.st == .failed || p.st == .idle)

def Dev.powerResult (d : Dev) (ports : Nat) : List Byte := (bitsOf 33 ports).flatMap fun n => u32 (d.port n).sleepNow

/-- `oar.power` commands whose ports have settled end. -/
def Dev.powerJobs (d : Dev) : Dev :=
  (d.host.jobs.filter fun j => match j.kind with | .power ports _ => d.powerSettled ports | _ => false).foldl (fun e j =>
    match j.kind with
    | .power ports _ => e.finish j 0 0 (e.powerResult ports)
    | _ => e) d

def oarPowerBody (ports state : Nat) : Body := fun _ _ d =>
  let ns := bitsOf 33 ports
  if d.badPortMask ports || 4 < state then badArg
  else if state ≠ 0 && ns.any (fun n => (d.port n).sleepNow ≠ state && (d.port n).sleepNow ≠ 4 && ! d.maySleep n) then refusedBusy
  else if state ≠ 0 && state ≠ 4 && ns.any (fun n => (d.port n).sleepNow = 4) then refusedBusy
  else
    let d1 := ns.foldl (fun d n => d.askSleep state n) d
    if d1.powerSettled ports then .done d1 (d1.powerResult ports) else .executing d1 (.power ports state) true

/-- `oar.power`. -/
def execOarPower (mbx ports state : Nat) (s : State) : Out := runCmd (.oarPower mbx ports state) (oarPowerBody ports state) s

/-- R296: the head has not acknowledged within 16 frames; the port stays ACTIVE. -/
def Dev.sleepTimeout (d : Dev) (n : Nat) : Dev :=
  let p := d.port n
  match p.sleepReq with
  | some s =>
    if s = 0 || p.sleep ≠ 0 || p.cmdFrames < 16 || 0 < p.acks then d
    else ((d.onPort n fun p => { p with sleepReq := none, cmdFrames := 0 }).spoil 0x05 n 0x004 false (sleepCmd s)).powerJobs
  | none => d

def execSleepAckTimeout (port : Nat) (s : State) : Out := onLink (.sleepAckTimeout port) (fun _ d => d.sleepTimeout port) s

/-- R297: a direction that was asleep is back. The return direction wakes once the outbound one runs. -/
def Port.exit (outbound : Bool) (p : Port) : Port :=
  let next := if outbound then (if p.sleep = 3 then 1 else 0) else 0
  { p with
    sleep := next, sleepReq := if next = 0 && p.sleepReq = some 0 then none else p.sleepReq, cmdFrames := 0, acks := 0, burst := 0
    goodFrames := 0 }

/-- The receiver is in frame lock after a fast exit: the burst has left, or two valid headers in a row came back (R268). -/
def Dev.fastExit (d : Dev) (n : Nat) (outbound : Bool) : Dev :=
  let p := d.port n
  let fits := if outbound then (p.sleep = 2 || p.sleep = 3) && 4 ≤ p.burst else p.sleep = 1 && 2 ≤ p.goodFrames
  if p.st == .trained && p.sleepReq.isSome && p.sleepReq ≠ some p.sleep && fits then (d.onPort n (Port.exit outbound)).powerJobs else d

def execFastExit (port : Nat) (outbound : Bool) (s : State) : Out :=
  onLink (.fastExit port outbound) (fun _ d => d.fastExit port outbound) s

/-! ### The eye (R299, R300) -/

/-- One disagreement count per point of a scan, phases in the outer order; the counts are free within the dwell. -/
def Dev.scanCounts (d : Dev) (points n : Nat) : List Byte × Dev :=
  (List.range points).foldl (fun (r : List Byte × Dev) _ =>
    let x := r.2.draw (min (2 ^ n + 1) (2 ^ 32))
    (r.1 ++ u32 x.1, x.2)) ([], d)

/-- Passing points in a row: bits from `first` on, or from `first` down. -/
def passRun (m first n : Nat) (up : Bool) : Nat :=
  ((List.range n).takeWhile fun i => m.testBit (if up then first + i else first - i)).length

/-- Width: consecutive passing phase steps through offset 0, which is bit 32, in 1/64 UI (R299). -/
def eyeWidth (phases : Nat) : Nat :=
  if phases.testBit 32 then passRun phases 32 32 true + passRun phases 31 32 false else 0

/-- Height: twice the smaller run of passing voltage steps of 2 mV from 0, which is bit 127, in mV (R299). -/
def eyeHeight (volts : Nat) : Nat :=
  if volts.testBit 127 then 4 * min (passRun volts 128 127 true) (passRun volts 126 127 false) else 0

def scanPoints (ph0 ph1 v0 v1 : Int) : Nat := natOf (ph1 - ph0 + 1) * natOf (v1 - v0 + 1)

def isEyescan (n : Nat) : Requester → Bool
  | .eyescan m => m = n
  | _ => false

def Dev.scanning (d : Dev) (n : Nat) : Bool := d.hasJob fun k => match k with | .eyescan m _ _ _ _ _ _ => m = n | _ => false

def oarEyescanBody (port : Nat) (ph0 ph1 v0 v1 : Int) (n addr : Nat) : Body := fun _ m d =>
  if 33 ≤ port || ! d.portExists port || ! (-32 ≤ ph0 && ph0 ≤ ph1 && ph1 ≤ 31 && -127 ≤ v0 && v0 ≤ v1 && v1 ≤ 127 && inRange 20 34 n) ||
      ! d.rangeOk addr (4 * scanPoints ph0 ph1 v0 v1) then badArg
  else if ! ((d.port port).st == .trained) || d.scanning port then refusedBusy
  else
    let a := d.request (.eyescan port) 4 100 0
    match a.1 with
    | .refused r => .refuseWith a.2 0x11 r 0 [] []
    | .deferred => .accepted a.2 (a.2.leaveHint ((a.2.gov.waiting.find? fun l => isEyescan port l.who).getD default))
        (.eyescan port ph0 ph1 v0 v1 n addr) []
    | .granted =>
      let r := (a.2.release (isEyescan port)).scanCounts (scanPoints ph0 ph1 v0 v1) n
      let w := r.2.coxWrite m addr r.1
      .ok w.1 [] w.2

/-- `oar.eyescan`. -/
def execOarEyescan (mbx port : Nat) (ph0 ph1 v0 v1 : Int) (n addr : Nat) (s : State) : Out :=
  runCmd (.oarEyescan mbx port ph0 ph1 v0 v1 n addr) (oarEyescanBody port ph0 ph1 v0 v1 n addr) s

/-- A deferred scan has its leave: it runs and ends. -/
def Dev.scanGranted (d : Dev) (m : Dram) (n : Nat) : Dev × List DramOp :=
  let d0 := d.release (isEyescan n)
  match d.host.jobs.find? fun j => match j.kind with | .eyescan m _ _ _ _ _ _ => m = n | _ => false with
  | some j => match j.kind with
    | .eyescan _ ph0 ph1 v0 v1 b addr =>
      let r := d0.scanCounts (scanPoints ph0 ph1 v0 v1) b
      let w := r.2.coxWrite m addr r.1
      (w.1.finish j 0 0 [], w.2)
    | _ => (d0, [])
  | none => (d0, [])

def isEyeProbe : Requester → Bool
  | .eyeProbe => true
  | _ => false

/-- The trained port that is probed next, in ascending order and round again. -/
def Links.probeNext (l : Links) : Option Nat :=
  (List.range 33).findSome? fun i =>
    let n := (l.nextProbe + i) % 33
    if (nth l.ports n).st == .trained then some n else none

/-- The probe of a port begins under the leave that is held. -/
def Dev.probeStart (d : Dev) : Dev :=
  match d.links.probeNext with
  | some n => { d with links := { d.links with probing := some n, nextProbe := (n + 1) % 33, probeTick := d.now } }
  | none => d.release isEyeProbe

/-- R300: every 10 s in Ready, Build and Hold. -/
def Dev.eyeProbe (d : Dev) : Dev :=
  let on := d.mode.mode == .ready || d.mode.mode == .build || d.mode.mode == .hold
  if ! on || d.links.probing.isSome || d.waitsLeave isEyeProbe || d.now < d.links.probeTick + sT 10 || d.links.probeNext.isNone then d
  else
    let a := d.askLeave .eyeProbe 4 100
    match a.1 with
    | .granted => a.2.probeStart
    | _ => { a.2 with links := { a.2.links with probeTick := d.now } }

def execEyeProbe (s : State) : Out := onDev .eyeProbe (fun _ d => d.eyeProbe) s

/-- A probe ends: it enters the margin history; below the minima a health record is filed. -/
def Dev.probeDone (d : Dev) (phases volts : Nat) : Dev :=
  let width := eyeWidth phases
  let height := eyeHeight volts
  match d.links.probing with
  | some n =>
    let d1 := { d.release isEyeProbe with links := { d.links with probing := none } }
    let d2 := d1.onPort n fun p =>
      let key := 16 * p.setUsed + p.preset
      { p with probe := (width, height), history := (key, width, height) :: p.history }
    let p := d.port n
    let d3 := if width < p.eqWidth then d2.healthRec 3 1 0x05 n width p.eqWidth 0 0 else d2
    if height < p.eqHeight then d3.healthRec 3 1 0x05 n height p.eqHeight 0 0 else d3
  | none => d

/-- R299, R300: the points of the port's scan that passed. -/
def execEyeProbeComplete (phases volts : Nat) (s : State) : Out :=
  onDev (.eyeProbeComplete phases volts) (fun _ d => d.probeDone phases volts) s

/-! ### The service channel (R301, R302) -/

def oarSvcBody (port op addr len : Nat) (data : List Byte) : Body := fun _ _ d =>
  if op = 1 && ! (d.mode.mode == .ready) then refusedMode 0xFF09
  else if 33 ≤ port || ! d.portExists port || 1 < op || addr % 4 ≠ 0 || len % 4 ≠ 0 || ! inRange 1 32 len || (op = 1 && addr < 0x100) then badArg
  else if 4 ≤ (d.port port).svc.length then refusedBusy
  else .executing (d.svcSend port (op + 1) addr len data) (.service port (d.port port).svcTag) true

/-- `oar.svc`. -/
def execOarSvc (mbx port op addr len : Nat) (data : List Byte) (s : State) : Out :=
  runCmd (.oarSvc mbx port op addr len data) (oarSvcBody port op addr len data) s

/-- A port on which no frame leaves for a request: it is not trained, or its outbound direction is asleep. -/
def Port.silent (p : Port) : Bool := ! p.linked || 2 ≤ p.sleep

/-- A write of the camera registers, which only the device makes (R304, R305). -/
def SvcReq.isCamera (r : SvcReq) : Bool := r.op = 2 && r.addr = 0x20

/-- R302: a request is repeated up to three times, then it counts SVC_TIMEOUT. -/
def Dev.svcRepeat (d : Dev) (n : Nat) (r : SvcReq) : Dev :=
  if r.repeats < 3 then
    d.onPort n fun p => { p.count 15 1 with svc := p.svc.map fun q =>
      if q.tag = r.tag then { q with repeats := q.repeats + 1, due := true, sentTick := d.now } else q }
  else
    (d.onPort n fun p => { p.count 16 1 with
      svc := p.svc.filter (·.tag ≠ r.tag), camDue := p.camDue || (r.isCamera && p.silent) }).svcDone n r.tag 0x30 []

/-- R302: 100 µs without an answer. A request that waits for its frame has not been sent, so that its time does not run,
unless its port sends none. -/
def Dev.svcTimeout (d : Dev) (n tag : Nat) : Dev :=
  let p := d.port n
  match p.svc.find? (·.tag = tag) with
  | some r => if (r.due && ! p.silent) || d.now < r.sentTick + usT 100 then d else d.svcRepeat n r
  | none => d

def execServiceTimeout (port tag : Nat) (s : State) : Out := onLink (.serviceTimeout port tag) (fun _ d => d.svcTimeout port tag) s

/-! ## Training (R286 to R289) -/

/-- Limits of T0 to T5, in ticks. -/
def phaseLimit : Nat → Nat
  | 0 => usT 200
  | 1 => usT 100
  | 2 => usT 100
  | 3 => msT 5
  | 4 => msT 2
  | _ => msT 1

/-- R287: of the presets whose trial is over at a tick: the last accepted if it meets the minima, else, once every other
preset of the set has been tried, the largest product among those that do, the lower number first. -/
def Port.pickPreset (p : Port) (now : Nat) (ms : List (Nat × Nat × Nat)) : Option (Nat × Nat × Nat) :=
  let done := p.trials.take (p.trialsDone now)
  let ok := (ms.map fun m => (m.1, eyeWidth m.2.1, eyeHeight m.2.2)).filter fun m =>
    p.eqWidth ≤ m.2.1 && p.eqHeight ≤ m.2.2 && done.contains m.1
  match ok.find? (·.1 = p.preset) with
  | some m => some m
  | none => if done.length < p.trials.length then none else ok.foldl (fun b m => match b with
    | none => some m
    | some c => if c.2.1 * c.2.2 < m.2.1 * m.2.2 ∨ (c.2.1 * c.2.2 = m.2.1 * m.2.2 ∧ m.1 < c.1) then some m else some c) none

/-- R288: L_link from the sum of 256 round trips, in steps of 312.5 ps, to the nearest. -/
def linkDelay (rtSum dAlign : Nat) : Nat := natOf (roundRat (((rtSum : Rat) / 256 - dAlign) / 2 / slotPs))

def Dev.nextPhase (d : Dev) (n k : Nat) (f : Port → Port) : Dev :=
  d.onPort n fun p => { f p with st := .training k, phaseTick := d.now }

/-- A phase reaches its end condition within its limit (R287, R289). -/
def Dev.phaseEnd (d : Dev) (n : Nat) (r : TrainReport) : Dev :=
  let p := d.port n
  match p.st with
  | .training k =>
    if ! r.ok ∨ p.phaseTick + phaseLimit k < d.now then d
    else if k < 2 then d.nextPhase n (k + 1) id
    else if k = 2 then
      if p.goodFrames < 4 then d else
      let band := d.therm.band
      d.nextPhase n 3 fun p =>
        let s := nth p.presets band
        { p with
          setUsed := band, preset := if p.setUsed = band then p.preset else s.2.getD (s.1.headD 0)
          eq := if p.setUsed = band then p.eq else nth p.eqStart band }
    else if k = 3 then
      match p.pickPreset d.now r.margins with
      | some m =>
        let e := d.draw (2 ^ 32)
        (e.2.nextPhase n 4 fun p => { p with
          preset := m.1, presets := upd p.presets p.setUsed (fun s => (s.1, some m.1)), probe := (m.2.1, m.2.2), eq := e.1 }).declareStart n
      | none => d
    else if k = 4 then
      if p.decl ≠ 3 ∨ p.rtCount < 256 then d
      else if ! p.declaredOk n then d.attemptFailed n 4
      else
        let l := linkDelay p.rtSum p.dAlign
        (d.nextPhase n 5 fun p => { p with rtDue := false, lLinkMeas := l, headCmd := 1 }).setLat
          n fun t => { t with dHead := p.dHead, lLink := l }
    else if p.hstate = 3 then d.portTrained n
    else d
  | _ => d

def execTrainingPhaseEnd (port : Nat) (r : TrainReport) (s : State) : Out :=
  onLink (.trainingPhaseEnd port r) (fun _ d => (d.phaseEnd port r).powerJobs) s

def Dev.phaseTimeout (d : Dev) (n : Nat) : Dev :=
  match (d.port n).st with
  | .training k => if d.now < (d.port n).phaseTick + phaseLimit k then d else d.attemptFailed n k
  | _ => d

def execTrainingPhaseTimeout (port : Nat) (s : State) : Out :=
  onLink (.trainingPhaseTimeout port) (fun _ d => (d.phaseTimeout port).powerJobs) s

/-- R289: the next attempt, 1 ms after the last with both lanes idle. -/
def execTrainingRetry (port : Nat) (s : State) : Out :=
  onLink (.trainingRetry port) (fun _ d =>
    if (d.port port).st == .retryWait && (d.port port).phaseTick + msT 1 ≤ d.now then d.trainAttempt port else d) s

/-- R288, R170: a new L_link once 256 round trips of the measurement that was due are in; latencies beyond the limit file a
spoil record and keep LEN low. -/
def Dev.linkMeasured (d : Dev) (n : Nat) : Dev :=
  let p := d.port n
  if ! (p.st == .trained && p.rtDue && p.rtCount = 256) then d
  else
    let l := linkDelay p.rtSum p.dAlign
    let d1 := (d.onPort n fun p => { p with lLinkMeas := l, rtDue := false }).setLat n fun t => { t with lLink := l }
    if n < 32 then
      let lat := (nth d1.eng n).lat
      if lat.tooLong then d1.spoil 0x05 n 0x001 false lat.sumNs else d1
    else d1

def execLLinkMeasured (port : Nat) (s : State) : Out := onLink (.lLinkMeasured port) (fun _ d => d.linkMeasured port) s

/-! ## Relock and fallback (R290 to R293) -/

/-- A trained port loses return lock; whether its block lock went with its frame lock is free. -/
def Dev.lockLoss (d : Dev) (n : Nat) : Dev :=
  let p := d.port n
  if p.st == .trained && (p.sleep = 0 || p.sleep = 2) then
    let r := d.flip
    (if r.1 then r.2.onPort n Port.blockLost else r.2).portLost n
  else d

def execLinkLockLoss (port : Nat) (s : State) : Out := onLink (.linkLockLoss port) (fun _ d => d.lockLoss port) s

/-- The receiver samples on the shadow clock from now on, and L_link is measured anew (R291, R293). -/
def Dev.toShadow (d : Dev) (n : Nat) : Dev :=
  (d.onPort n fun p => { (p.count 10 1).measure with fallback := true }).spoil 0x05 n 0x003 false 0

/-- The receiver has regained block and frame lock, two valid headers in a row (R268), within 1 ms; it keeps equalisation
and preset, takes the set of the present band (R300), and measures L_link anew. Without the forwarded clock it has relocked
on the shadow (R290). -/
def Dev.relocked (d : Dev) (n : Nat) : Dev :=
  let p := d.port n
  if p.st == .relock && 2 ≤ p.goodFrames && d.now < p.lossTick + msT 1 then
    let d1 := d.onPort n fun p => { (p.count 12 1).measure with st := .trained, setUsed := d.therm.band }
    if p.fclk || p.fallback then d1 else d1.toShadow n
  else d

def execRelockComplete (port : Nat) (s : State) : Out := onLink (.relockComplete port) (fun _ d => d.relocked port) s

def execRelockTimeout (port : Nat) (s : State) : Out :=
  onLink (.relockTimeout port) (fun _ d =>
    if (d.port port).st == .relock && (d.port port).lossTick + msT 1 ≤ d.now then d.trainStart port else d) s

/-- R291: the return forwarded clock is lost. -/
def Dev.clockLost (d : Dev) (n : Nat) (shadowLocked : Bool) : Dev :=
  let p := d.port n
  match p.st with
  | .trained =>
    if p.fallback || ! (p.sleep = 0 || p.sleep = 2) then d
    else
      let d1 := d.onPort n fun p => { p.count 9 1 with fclk := false }
      if shadowLocked then d1.toShadow n else d1.portLost n
  | .relock => if p.fclk then d.onPort n fun p => { p.count 9 1 with fclk := false } else d
  | .training k => ((d.onPort n fun p => p.count 9 1).attemptFailed n k).powerJobs
  | _ => d

def execForwardedClockLoss (port : Nat) (shadowLocked : Bool) (s : State) : Out :=
  onLink (.forwardedClockLoss port shadowLocked) (fun _ d => d.clockLost port shadowLocked) s

end Sys2Proof.Machine
end

