-- ==== Sys2Proof/Machine/ImgRows.lean ====
section
/-! DEFINITION. Chapter 10: `image.*`, `led.*`, line triggers and strobes, the lamp board, patterns; and the recoat
sequence's own events (R338, R339). -/

namespace Sys2Proof.Machine

/-! ## `image.config`, `image.status`, `image.line` (R351, R366, R579) -/

/-- An image or the recoat it belongs to is under way. -/
def Dev.imagingBusy (d : Dev) : Bool :=
  d.img.line.isSome || (d.slides.recoat.step ≠ 0 && d.slides.recoat.imageEn)

def DirArg.ok (d : Dev) (c : ImageArg) (a : DirArg) : Bool :=
  let delay : Rat := (d.port 32).dHead / 1000
  a.mask < 256 && 1 ≤ a.current && a.current ≤ 2000 && 2000 ≤ a.width && a.width ≤ 200000 &&
    decide (delay ≤ c.strobeDelay) && decide (((c.strobeDelay + a.width : Nat) : Rat) ≤ delay + c.lineExp)

def Dev.imageOk (d : Dev) (c : ImageArg) : Bool :=
  fits40 c.start && fits40 c.stop && c.start ≠ c.stop && 16 ≤ c.lineW && c.lineW ≤ 16384 && c.lineW % 16 = 0 &&
    c.lineX0 < 65536 && 1000 ≤ c.lineExp && c.lineExp ≤ 1000000 && c.strobeDelay ≤ 1000000 && 1 ≤ c.dirs.length && c.dirs.length ≤ 4 &&
    c.dirs.all (DirArg.ok d c) && 1 ≤ c.dutyMax && c.dutyMax ≤ 50 && c.bufBase % 65536 = 0 && 1 ≤ c.slots && c.slots ≤ 8 &&
    1 ≤ c.nMax && c.nMax ≤ 65536 && c.required ≤ 1 && d.rangeOk c.bufBase (c.slots * imgSlotBytes c)

def imageStored : Option ImageArg → List Byte
  | some c => imageBytes c
  | none => []

/-- An image slot that nothing has filled. -/
def ImageRun.blank : ImageRun := ⟨0, 0, 0, 0, 0, 0, 0, 0, 0, false, false, 0, []⟩

def imageConfigBody (c : ImageArg) : Body := fun x _ d =>
  if ! d.imageOk c then badArg
  else if ! d.queueEmpty ∨ d.imagingBusy then refusedBusy
  else
    let d1 := d.onImg fun m => { m with cfg := some c, slots := List.replicate c.slots ImageRun.blank, run := none }
    let d2 := { d1 with flash := { d1.flash with img := some c } }
    let d3 := if (d2.port 32).linked then d2.sendCamera 32 else d2
    .done (d3.log x 0x0E 0xFFFF (imageStored d.img.cfg) (imageBytes c)) (u32 (d.lineMin c) ++ u64 (imgSlotBytes c))

def execImageConfig (mbx : Nat) (c : ImageArg) (s : State) : Out := runCmd (.imageConfig mbx c) (imageConfigBody c) s

def imageStatusBody : Body := fun _ _ d => .done d (d.img.slots.flatMap ImageRun.header ++ u32 (d.port 32).stateCode)

def execImageStatus (mbx : Nat) (s : State) : Out := runCmd (.imageStatus mbx) imageStatusBody s

/-- Whether the recoater moves. -/
def Dev.recoaterMoves (d : Dev) : Bool :=
  match d.slides.recoat.arg with | some g => (d.axis g.recoater).inMotion | none => false

def imageLineBody (dir addr : Nat) : Body := fun _ _ d =>
  match d.img.cfg with
  | none => badArg
  | some c =>
    if c.dirs.length ≤ dir ∨ ! d.rangeOk addr (imgRecBytes c) then badArg
    else if d.recoaterMoves ∨ d.img.line.isSome ∨ ! (d.port 32).hearing then refusedBusy
    else
      let count := match d.recoatEnc with | some n => (nth d.slides.encs n).count | none => 0
      .executing (d.onImg fun m => { m with line := some (d.newLine 0 dir 0 count), single := some (dir, addr) }) .imageLine true

def execImageLine (mbx dir addr : Nat) (s : State) : Out := runCmd (.imageLine mbx dir addr) (imageLineBody dir addr) s

/-! ## `led.*` (R359 to R366, R570) -/

def Dev.onLed (d : Dev) (c : Nat) (f : LedChan → LedChan) : Dev := d.onImg fun m => { m with leds := upd m.leds c f }

def Dev.led (d : Dev) (c : Nat) : LedChan := nth d.img.leds c

def ledStored (v : Nat × Nat × Nat) : List Byte := u32 v.1 ++ u32 v.2.1 ++ u32 v.2.2

def ledConfigBody (ch rsense iSet vShort : Nat) : Body := fun x _ d =>
  if 12 ≤ ch ∨ rsense = 0 ∨ 1000 < rsense ∨ iSet = 0 ∨ (if ch < 8 then 2000 else 300) < iSet ∨ 1600 < vShort ∨ 20000 < rsense * iSet then
    badArg
  else if d.imagingBusy then refusedBusy
  else
    let c := d.led ch
    let d1 := d.onLed ch fun c => { c with configured := true, rsense := rsense, iSet := iSet, vShort := vShort }
    let d2 := { d1 with flash := { d1.flash with leds := d1.flash.leds.set ch (some (rsense, iSet, vShort)) } }
    .done (d2.log x 0x0E ch (ledStored (c.rsense, c.iSet, c.vShort)) (ledStored (rsense, iSet, vShort)))

def execLedConfig (mbx ch rsense iSet vShort : Nat) (s : State) : Out :=
  runCmd (.ledConfig mbx ch rsense iSet vShort) (ledConfigBody ch rsense iSet vShort) s

def PatternStep.ok (p : PatternStep) : Bool := p.shape ≤ 2 && 1 ≤ p.time

def patternBytes (ps : List PatternStep) : List Byte := ps.flatMap fun s => u32 s.level ++ u32 s.shape ++ u32 s.time

def ledPatternBody (n : Nat) (steps : List PatternStep) : Body := fun x _ d =>
  if 16 ≤ n ∨ steps = [] ∨ 32 < steps.length ∨ ! steps.all PatternStep.ok then badArg
  else .done ((d.onImg fun m => { m with patterns := m.patterns.set n steps }).log x 0x0E n (patternBytes (nth d.img.patterns n)) (patternBytes steps))

def execLedPattern (mbx n : Nat) (steps : List PatternStep) (s : State) : Out :=
  runCmd (.ledPattern mbx n steps) (ledPatternBody n steps) s

/-- What `led.set` gives a channel: pattern, phase and map. -/
def LedChan.setForm (c : LedChan) : List Byte := u32 c.chosen ++ u32 c.phaseMs ++ listOf u32 c.map

def Imaging.setForm (m : Imaging) : List Byte := (m.leds.drop 8).flatMap LedChan.setForm

/-- R364, R365: the channels of the mask run the pattern; the time base of all four restarts. -/
def ledSetBody (mask n phase : Nat) (map : List Nat) : Body := fun x _ d =>
  if mask &&& 0xF00 ≠ mask ∨ 16 ≤ n ∨ map.any (fun p => 16 ≤ p && p ≠ 0xFF) then badArg
  else
    let d1 := d.onImg fun m => { m with
      baseTick := d.now
      leds := m.leds.mapIdx fun i c =>
        if i < 8 then c
        else if Nat.testBit mask i then { c with ms := 0, pattern := n, chosen := n, phaseMs := phase, map := map }
        else { c with ms := 0 } }
    .done (d1.log x 0x0E 0xFFFF d.img.setForm d1.img.setForm)

def execLedSet (mbx mask n phase : Nat) (map : List Nat) (s : State) : Out :=
  runCmd (.ledSet mbx mask n phase map) (ledSetBody mask n phase map) s

def lampStored : Option LampArg → List Byte
  | some a => u32 a.ain ++ u32 a.rPu ++ u32 a.r25 ++ u32 a.beta ++ i32 a.tDerate ++ i32 a.tMax ++ u32 a.thermLo ++ u32 a.thermHi
  | none => []

def LampArg.ok (a : LampArg) : Bool :=
  a.ain < 8 && 1 ≤ a.rPu && a.rPu ≤ 10000000 && 1 ≤ a.r25 && a.r25 ≤ 10000000 && 1 ≤ a.beta && a.beta ≤ 100000 &&
    a.tDerate < a.tMax && a.thermLo < 4096 && a.thermHi < 4096

def ledLampBody (a : LampArg) : Body := fun x _ d =>
  if ! LampArg.ok a then badArg
  else if d.imagingBusy then refusedBusy
  else
    let d1 := d.onImg fun m => { m with lamp := some a }
    let d2 := { d1 with flash := { d1.flash with lamp := some a } }
    .done (d2.log x 0x0E 0xFFFF (lampStored d.img.lamp) (lampStored (some a)))

def execLedLamp (mbx : Nat) (a : LampArg) (s : State) : Out := runCmd (.ledLamp mbx a) (ledLampBody a) s

/-- State of a channel: 0 not configured, 1 in use, 2 FAULT (DESIGN CHOICE, log 12). -/
def LedChan.code (c : LedChan) : Nat := if c.fault then 2 else boolN c.configured

/-- Factor in 1/65536 (DESIGN CHOICE, log 12). -/
def ledStatusBody : Body := fun _ _ d =>
  .done d (d.img.leds.flatMap (fun (c : LedChan) => u32 c.code ++ u32 c.senseUv ++ u32 c.stringMv ++ u32 c.result) ++
    i32 (d.img.lampTemp.getD (-32768)) ++ u32 (natOf (d.img.factor * 65536).floor))

def execLedStatus (mbx : Nat) (s : State) : Out := runCmd (.ledStatus mbx) ledStatusBody s

/-- Each channel of the mask in FAULT awaits its next test pulse or sample; one that fails again leaves all as they are. -/
def ledClearBody (mask : Nat) : Body := fun _ _ d =>
  if 4096 ≤ mask then badArg
  else if (bitsOf 12 mask).all fun c => ! (d.led c).fault then .done d (u32 0)
  else if d.hasJob fun k => match k with | .ledClear _ => true | _ => false then refusedBusy
  else
    .executing ((bitsOf 12 mask).foldl (fun d c => d.onLed c fun x => { x with test := boolN x.fault }) d) (.ledClear mask) false

def execLedClear (mbx mask : Nat) (s : State) : Out := runCmd (.ledClear mbx mask) (ledClearBody mask) s

/-- The tests of a `led.clear` that have all ended. -/
def Dev.clearTests (d : Dev) (mask : Nat) : Dev :=
  let cs := bitsOf 12 mask
  if cs.any fun c => (d.led c).test = 1 then d
  else
    let bad := cs.any fun c => (d.led c).test = 3
    let out := maskOf (cs.filter fun c => (d.led c).test = 2)
    let d1 := cs.foldl (fun d c => d.onLed c fun x =>
      if ! bad && x.test = 2 then { x with test := 0, fault := false, result := 0, run := 0 } else { x with test := 0 }) d
    let done := fun (k : JobKind) => k = .ledClear mask
    if bad then d1.finishJobs done 0x12 0 [] else d1.finishJobs done 0 0 (u32 out)

def Dev.ledJobs (d : Dev) : Dev :=
  d.host.jobs.foldl (fun e j => match j.kind with | .ledClear m => e.clearTests m | _ => e) d

/-! ## Lines and strobes (R349, R354, R359 to R361) -/

/-- Blocks 1 to 3 of the frame that carries LINE_START (R352). -/
def lineBlocks (c : ImageArg) (l : LineRx) : List Nat :=
  let b1 := 1 + 65536 * l.dir + 2 ^ 32 * (l.k % 2 ^ 32)
  [b1, c.lineExp, 2 ^ 48 * crc16 (u64 b1 ++ u64 c.lineExp ++ List.replicate 6 0)]

/-- P32 sends an outbound frame at this tick that can carry LINE_START: its lane is not idle, and no burst of R297 runs. -/
def Dev.imagerFramed (d : Dev) : Bool :=
  let p := d.port 32
  p.linked && ! (nth d.links.out 32).isEmpty && ! (1 ≤ p.burst && p.burst ≤ 4)

/-- LINE_START leaves in the first frame whose cut-off follows the trigger edge: that of the next tick, or for an edge in the
last 20 ns before it that of the tick after, which sends it by itself (`Dev.imageTick`). While P32 sends no frame it waits. -/
def Dev.lineStart (d : Dev) : Dev :=
  match d.img.line, d.img.cfg with
  | some l, some c =>
    if l.sent || d.now ≤ l.edgeTick || ! d.imagerFramed then d
    else
      let mid : Rat := d.psNow + (d.port 32).dHead + 500 * c.lineExp
      let d1 := d.onImg fun m => { m with line := some { l with sent := true, startTick := d.now, midPs := mid.floor } }
      { d1 with links := { d1.links with out := upd d1.links.out 32 fun bs => bs.take 1 ++ lineBlocks c l ++ bs.drop 4 } }
  | _, _ => d

def execLineStartSend (s : State) : Out := onDev .lineStartSend (fun _ d => d.lineStart) s

/-- A pulse begins; what lies more than 10 ms before it counts no longer. -/
def LedChan.fire (start width : Nat) (c : LedChan) : LedChan :=
  { c with gate := true, sampled := false, pulses := (start, width) :: c.pulses.filter fun p => start < p.1 + p.2 + 10000000 }

/-- R362: strobes fire in Build in step B, and for `image.line` in Ready. -/
def Dev.strobesLive (d : Dev) : Bool :=
  (d.img.single.isSome && d.mode.mode == .ready) || (d.mode.mode == .build && d.slides.recoat.step = 2)

/-- The strobe pulse of the line starts STROBE_DELAY after its frame, or the line is taken dark: a pulse that the duty rule
forbids at its instant is omitted (R359; R350 has left out a line for which it did at the edge), and one that falls due where
strobes do not fire (R362). -/
def Dev.strobe (d : Dev) : Dev :=
  match d.img.line, d.img.cfg with
  | some l, some c =>
    if ! l.sent || l.pulsed || d.now < l.startTick + c.strobeDelay / 250 then d
    else if ! d.strobesLive then d.onImg fun m => { m with line := some { l with pulsed := true } }
    else
      let a := nth c.dirs l.dir
      let start := 250 * l.startTick + c.strobeDelay
      let f := d.img.factor
      let strings := d.strings a
      let duty := d.dutyForbids c a start
      let dark : Bool := decide (f ≤ 0) || duty
      let flags := l.flags ||| (if f < 1 then 8 else 0) ||| (if duty && 0 < f then 16 else 0)
      let l' := { l with
        pulsed := true, flags := flags, strings := if dark then 0 else maskOf strings
        current := if dark then 0 else natOf (roundRat (a.current * f)) }
      let d1 := d.onImg fun m => { m with line := some l' }
      if dark then d1
      else strings.foldl (fun d i => d.onLed i (LedChan.fire start a.width)) d1
  | _, _ => d

/-- At a frame tick: LINE_START that has waited for its cut-off leaves, and a pulse whose instant lies in a tick past begins
(R349). -/
def Dev.imageTick (d : Dev) : Dev :=
  let late := match d.img.line with | some l => ! l.sent && l.edgeTick + 2 ≤ d.now | none => false
  let d1 := if late then d.lineStart else d
  let due := match d1.img.line, d1.img.cfg with | some l, some c => l.sent && l.startTick + c.strobeDelay / 250 < d1.now | _, _ => false
  if due then d1.strobe else d1

def execStrobePulseStart (s : State) : Out := onDev .strobePulseStart (fun _ d => d.strobe) s

/-- R360: the judgement of a sample at a commanded current in 10 mA: 0 sound, 1 OPEN, 2 SHORT, 3 OVERCURRENT. -/
def LedChan.judge (c : LedChan) (current : Rat) (senseUv stringMv : Nat) (limiting : Bool) : Nat :=
  if (4 * senseUv : Rat) < 10 * current * c.rsense then 1 else if stringMv < c.vShort then 2 else if limiting then 3 else 0

/-- R361: a result counted; the third of a kind in a row puts the channel into FAULT, on a general channel the third failing
sample in a row (R365). -/
def Dev.ledResult (d : Dev) (ch r : Nat) : Dev :=
  let c := d.led ch
  let run := if r = 0 then 0 else if r = c.result || 8 ≤ ch then c.run + 1 else 1
  let d1 := d.onLed ch fun c => { c with result := r, run := run }
  if run < 3 then d1 else (d1.onLed ch fun c => { c.cut d.now with fault := true, level := 0 }).spoil 0x0B ch 0x002 false r

/-- Current commanded of a channel, 10 mA. -/
def Dev.ledCurrent (d : Dev) (ch : Nat) : Rat :=
  if ch < 8 then ((d.img.line.map (·.current)).getD 0 : Nat) else (d.led ch).iSet * (d.led ch).level / 255

/-- Whether a sample is due: inside a pulse at its sample instant, or once in each 1 ms of a general channel that is lit. -/
def Dev.sampleDue (d : Dev) (ch : Nat) : Bool :=
  let c := d.led ch
  if c.fault || c.sampled || ! c.configured then false
  else if ch < 8 then
    c.gate && match c.pulses.head? with | some p => decide (p.1 + max 1000 (p.2 / 2) < 250 * (d.now + 1)) | none => false
  else 32 ≤ c.level

/-- A sense sample: for a test of `led.clear` at the channel's own current, or of a pulse or 1 ms in hand. A general channel is
judged for open and short alone (R365). -/
def Dev.senseSample (d : Dev) (ch senseUv stringMv : Nat) (limit : Bool) : Dev :=
  let c := d.led ch
  let limiting := limit && ch < 8
  let seen := fun (c : LedChan) => { c with senseUv := senseUv, stringMv := stringMv, sampled := true }
  if c.test = 1 then
    let r := c.judge c.iSet senseUv stringMv limiting
    (d.onLed ch fun c => { seen c with result := r, test := if r = 0 then 2 else 3 }).ledJobs
  else if ! d.sampleDue ch then d
  else
    let r := c.judge (d.ledCurrent ch) senseUv stringMv limiting
    let d1 := (d.onLed ch seen).ledResult ch r
    if r ≠ 0 && ch < 8 then d1.onImg fun m => { m with line := m.line.map fun l => { l with flags := l.flags ||| 4 } } else d1

def execStrobeSenseSample (ch senseUv stringMv : Nat) (limiting : Bool) (s : State) : Out :=
  onDev (.strobeSenseSample ch senseUv stringMv limiting) (fun _ d => d.senseSample ch senseUv stringMv limiting) s

/-- T_LINE_MIN + 100 µs after LINE_START the line is written as it stands. -/
def Dev.lineDeadline (d : Dev) : Dev × List DramOp :=
  match d.img.line, d.img.cfg with
  | some l, some c => if l.sent && decide (250 * l.startTick + d.lineMin c + 100000 ≤ 250 * d.now) then d.lineEnd else (d, [])
  | _, _ => (d, [])

def execLineDeadline (s : State) : Out := onMem .lineDeadline (fun m d => recWrites m d.lineDeadline) s

/-! ## The lamp board (R363) -/

/-- Temperature in 0.01 C of a code; none where the formula gives none. -/
def lampTempAt (a : LampArg) (code : Nat) : Option Int :=
  let rt : Rat := a.rPu * code / (4096 - code)
  let q := rt / a.r25
  if q ≤ 0 then none
  else
    let l := if 1 ≤ q then lnQ q else -lnQ (1 / q)
    let y : Rat := 100 / 29815 + l / a.beta
    if y = 0 then none else some (roundRat (100 / y - 27315))

/-- The derating factor at a temperature. -/
def lampFactor (a : LampArg) (t : Int) : Rat :=
  if t < a.tDerate then 1 else if a.tMax ≤ t then 0 else ((a.tMax - t : Int) : Rat) / ((a.tMax - a.tDerate : Int) : Rat)

/-- The mean code of 1 ms; a temperature that the formula leaves open is a free value (DESIGN CHOICE, log 8). -/
def Dev.lampTick (d : Dev) (code : Nat) : Dev :=
  match d.img.lamp with
  | none => d
  | some a =>
    if code < a.thermLo ∨ a.thermHi < code then d.onImg fun m => { m with lampTemp := none, factor := 0 }
    else
      let r : Int × Dev := match lampTempAt a code with
        | some t => (t, d)
        | none => d.drawInt (-32768) 32767
      r.2.onImg fun m => { m with lampTemp := some r.1, factor := lampFactor a r.1 }

def execLampTemperature (code : Nat) (s : State) : Out := onDev (.lampTemperature code) (fun _ d => d.lampTick code) s

/-! ## Patterns (R364, R365) -/

/-- cos x by its series (DESIGN CHOICE, log 14). -/
def cosQ (x : Rat) : Rat :=
  ((List.range 20).foldl (fun (p : Rat × Rat) n =>
    (p.1 + p.2, -p.2 * x ^ 2 / ((2 * n + 1 : Nat) * (2 * n + 2 : Nat) : Rat))) (0, 1)).1

/-- The level of a step a fraction of its time in. -/
def stepLevel (p : PatternStep) (before : Nat) (frac : Rat) : Nat :=
  let go := fun (s : Rat) => natOf (roundRat (before + s * ((p.level : Int) - before)))
  if p.shape = 1 then go frac else if p.shape = 2 then go ((1 - cosQ (piQ * frac)) / 2) else p.level

/-- The level of a pattern some ms in, the step before having ended at a level. -/
def patternLevel : List PatternStep → Nat → Nat → Nat
  | [], before, _ => before
  | p :: r, before, ms => if ms < p.time then stepLevel p before (ms / p.time) else patternLevel r p.level (ms - p.time)

/-- The level of a channel. -/
def Imaging.levelOf (m : Imaging) (c : LedChan) : Nat :=
  if ! c.configured || c.fault then 0
  else match m.patterns[c.pattern]? with
    | some (p :: r) =>
      let total := ((p :: r).map (·.time)).foldl (· + ·) 0
      patternLevel (p :: r) (((p :: r).getLast?.map (·.level)).getD 0) ((c.ms + c.phaseMs) % max 1 total)
    | _ => 0

/-- One channel at the end of 1 ms: time moves on, a change of mode switches the pattern, the level follows. -/
def Imaging.channelTick (m : Imaging) (mode : Mode) (c : LedChan) : LedChan :=
  let c1 := { c with ms := c.ms + 1, sampled := false }
  let want := let p := nth c.map (mode.code - 3); if p = 0xFF then c.chosen else p
  let c2 := if mode ≠ m.ledMode ∧ want ≠ c.pattern then { c1 with pattern := want, ms := 0 } else c1
  { c2 with level := m.levelOf c2 }

def Dev.patternTick (d : Dev) : Dev :=
  if d.now < d.img.baseTick + msT 1 then d
  else d.onImg fun m => { m with
    baseTick := m.baseTick + msT 1, ledMode := d.mode.mode
    leds := m.leds.mapIdx fun i c => if i < 8 then c else m.channelTick d.mode.mode c }

def execLedPatternTick (s : State) : Out := onDev .ledPatternTick (fun _ d => d.patternTick) s

/-! ## The recoat sequence (R338, R339) -/

/-- R338: whether the recoat of the layer at the head may start. -/
def Dev.recoatDue (d : Dev) : Option Desc :=
  match d.layers.queue with
  | [] => none
  | l :: _ =>
    if d.coxRuns && d.mode.mode == .build && ! d.mode.transition && d.layers.released.isNone && ! d.layers.recoatStarted &&
        ! d.layers.recoatDone && d.slides.recoat.arg.isSome && d.slides.recoat.step = 0 &&
        ! (d.layers.firstSinceReset && l.desc.noRecoat) then some l.desc
    else none

/-- R31, R32: the layer's wait for its recoat or release ends. -/
def Dev.layerWaited (d : Dev) : Dev :=
  match d.layers.waitSince, d.layers.queue with
  | some t, l :: r =>
    { d with layers := { d.layers with
        waitSince := none
        queue := { l with total := { l.total with waitTicks := l.total.waitTicks + (d.now - t) } } :: r } }
  | _, _ => d

/-- Targets fixed, step A begun; proofs, core resynchronisation and a re-plan that is due go with it (R453, R471, R541). -/
def Dev.recoatGo (d : Dev) (g : RecoatArg) (c : Desc) : Dev :=
  let d1 := d.layerWaited
  let d2 := { d1 with layers := { d1.layers with recoatStarted := true } }.onImg fun m => { m with ready := ! c.imageEn, run := none }
  let d3 := d2.onRecoat fun r => { r with
    platTarget := (d.axis g.platform).units + roundRat ((c.stepLsb : Rat) * g.platRatio / 65536)
    doseTarget := (d.axis g.doser).units + roundRat ((c.dose : Rat) * g.doseNominal / 1024)
    layer := c.layer, speed := c.recoatSpeed, linePitch := c.linePitch, imageEn := c.imageEn }
  let d4 := (d3.recoatBegin 1).resyncCores.queueProofs (oars32.filter d.provable)
  let d5 := { d4 with ump := { d4.ump with round := true } }
  if dayTicks ≤ d5.cal.buildTicks ∧ d5.cal.replanSince.isNone then { d5 with cal := { d5.cal with replanSince := some d.now } } else d5

def Dev.recoatStart (d : Dev) : Dev :=
  match d.recoatDue, d.slides.recoat.arg with
  | some c, some g => if d.recoatUnhomed then d.enterHold .unhomed false none 4 else d.recoatGo g c
  | _, _ => d

def execRecoatStart (s : State) : Out := onDev .recoatStart (fun _ d => d.recoatStart.recoatWatch) s

/-- R339: the profile to its target has ended, and the axis has stayed there. -/
def Dev.inPosition (d : Dev) (a : Nat) : Bool :=
  let x := d.axis a
  x.profileEnded && x.toTarget && match x.inPosSince with
    | some t => x.enc.isNone || t + msT 1 ≤ d.now
    | none => false

/-- The step whose last axis is in position gives way to the next. -/
def Dev.recoatNext (d : Dev) : Dev × List DramOp :=
  let step := d.slides.recoat.step
  if step = 1 then
    let d1 := d.spreadBegin
    if d1.imageAbsent then d1.flushStaging else (d1, [])
  else if step = 2 then
    let r := d.linesLeft
    (r.1.recoatBegin 3, r.2)
  else
    let void := d.layers.recoatVoid
    ({ d.onRecoat fun r => { r with step := 0 } with
        layers := { d.layers with recoatDone := ! void, recoatStarted := ! void, recoatVoid := false } }, [])

def Dev.axisInPosition (d : Dev) (a : Nat) : Dev × List DramOp :=
  let r := d.slides.recoat
  if r.step = 0 || r.suspended || r.faulted || ! (d.mode.mode == .build) || ! r.waiting.contains a || ! d.inPosition a then (d, [])
  else
    let d1 := d.onRecoat fun r => { r with waiting := r.waiting.filter (· ≠ a) }
    if d1.slides.recoat.waiting.isEmpty then d1.recoatNext else (d1, [])

def execInPosition (axis : Nat) (s : State) : Out :=
  onMem (.inPosition axis) (fun m d => let r := recWrites m (d.axisInPosition axis); (r.1.recoatWatch, r.2)) s

end Sys2Proof.Machine
end

