-- ==== Sys2Proof/Machine/GeoRows.lean ====
section
/-! DEFINITION. Chapter 02's commands `oar.enable`, `oar.disable`, `oar.status` and `field.*`; chapter 05's and 07's
commands of an oar: motion, latency, power map, placement, measurement, camera, dark level, features. -/

namespace Sys2Proof.Machine

/-! ## `oar.enable`, `oar.disable`, `oar.status` (R60, R65, R66) -/

def Dev.disabledWord (d : Dev) : Nat := d.geo.disabled.toNat

/-- The oars that are offered work (R60, with the unconfigured of R534 in D), as a mask. -/
def Dev.offered (d : Dev) : Nat := maskOf (oars32.filter d.mayWork)

def Dev.setDisabled (d : Dev) (m : BitVec 32) : Dev := { d with geo := { d.geo with disabled := m } }

/-- R65, R170; DEFERRED carries the wait hint 0: R65 names no time (DESIGN CHOICE, log 112). -/
def oarEnableBody (mask : Nat) : Body := fun x _ d =>
  if d.badOarMask mask then badArg
  else if (bitsOf 32 mask).any fun k => ! (d.port k).linked || ! d.ump.closed.getLsbD k || (nth d.eng k).lat.tooLong then .refuse 0x02 0 0
  else
    let d1 := d.setDisabled (d.geo.disabled &&& ~~~ (BitVec.ofNat 32 mask))
    let d2 := d1.log x 0x11 0xFFFF (u32 d.disabledWord) (u32 d1.disabledWord)
    .done d2 (u32 d2.offered)

def execOarEnable (mbx mask : Nat) (s : State) : Out := runCmd (.oarEnable mbx mask) (oarEnableBody mask) s

/-- R65, R143: the unstarted strokes of the oars return; a stroke that exposes finishes. -/
def oarDisableBody (mask : Nat) : Body := fun x _ d =>
  if d.badOarMask mask then badArg
  else
    let fresh := (bitsOf 32 mask).filter fun k => ! d.geo.disabled.getLsbD k
    let d1 := d.setDisabled (d.geo.disabled ||| BitVec.ofNat 32 mask)
    let d2 := fresh.foldl (fun d k => d.withdraw k false) d1
    .done (d2.log x 0x11 0xFFFF (u32 d.disabledWord) (u32 d2.disabledWord)) (u32 d2.disabledWord)

def execOarDisable (mbx mask : Nat) (s : State) : Out := runCmd (.oarDisable mbx mask) (oarDisableBody mask) s

/-- One oar of `oar.status`; after the table's items the cause of R534 and whether R170 is broken (DESIGN CHOICE, log 12).
The temperature of a working grid that the oar does not have is given as −32768 (DESIGN CHOICE, log 144). -/
def Dev.oarStatus (d : Dev) (k : Nat) : List Byte :=
  let t := nth d.geo.active.trans k
  u32 (boolN (! d.fuses.part16 || k < 16)) ++ u32 (boolN (d.boot.compat && 12 ≤ k)) ++ u32 (boolN (d.geo.disabled.getLsbD k)) ++
  u32 (boolN (d.inT k)) ++ u32 (boolN (d.port k).linked) ++ i32 (((nth d.geo.oars k).grid.map (·.temp)).getD (-32768)) ++
  i32 t.x ++ i32 t.y ++ u32 (d.unconfigured k) ++ u32 (boolN (nth d.eng k).lat.tooLong)

def oarStatusBody : Body := fun _ _ d => .done d (oars32.flatMap d.oarStatus)

def execOarStatus (mbx : Nat) (s : State) : Out := runCmd (.oarStatus mbx) oarStatusBody s

/-! ## Staging (R35, R38, R46, R48, R50, R58, R67) -/

def Dev.onStaged (d : Dev) (f : Geometry → Geometry) : Dev := { d with geo := { d.geo with staged := f d.geo.staged } }

def fieldBedBody (x0 y0 w h : Int) : Body := fun _ _ d =>
  if w < 64000 ∨ 65536000 < w ∨ h < 64000 ∨ 65536000 < h then badArg
  else .done (d.onStaged fun g => { g with bed := some (x0, y0, w, h) })

def execFieldBed (mbx : Nat) (x0 y0 w h : Int) (s : State) : Out := runCmd (.fieldBed mbx x0 y0 w h) (fieldBedBody x0 y0 w h) s

/-- R39: the nodes of an array of 50 700 bytes. -/
def nodesOf (bs : List Byte) : List (Int × Int × Int) :=
  let a := bs.toArray
  let w := fun (o : Nat) => signed 32 (unle ((List.range 4).map fun i => a.getD (o + i) 0))
  (List.range 4225).map fun n => (w (12 * n), w (12 * n + 4), w (12 * n + 8))

def fieldGridBody (g : GridArg) : Body := fun _ m d =>
  if 32 ≤ g.oar ∨ ! d.oarExists g.oar ∨ 4 ≤ g.set ∨ g.pitch < 64000 ∨ 1024000 < g.pitch ∨ g.len ≠ 50700 ∨ ! d.rangeOk g.addr g.len then badArg
  else withData m d g.addr g.len g.crc 0 fun d bs ops =>
    let c : CorrSet := ⟨g.temp, g.gx0, g.gy0, g.pitch, g.focusGain, nodesOf bs⟩
    .ok (d.onStaged fun y => { y with sets := upd y.sets g.oar fun ss => ss.set g.set (some c) }) [] ops

def execFieldGrid (mbx : Nat) (g : GridArg) (s : State) : Out := runCmd (.fieldGrid mbx g) (fieldGridBody g) s

def fieldPolygonBody (k : Nat) (vs : List Pt) : Body := fun _ _ d =>
  if ! d.oarExists k then badArg
  else .done (d.onStaged fun g => { g with fields := g.fields.set k (ccw vs) })

def execFieldPolygon (mbx k : Nat) (vs : List Pt) (s : State) : Out := runCmd (.fieldPolygon mbx k vs) (fieldPolygonBody k vs) s

def fieldKeepoutBody (z mask : Nat) (vs : List Pt) : Body := fun _ _ d =>
  if 64 ≤ z then badArg
  else .done (d.onStaged fun g => { g with zones := g.zones.set z (if vs = [] then none else some ⟨mask, ccw vs⟩) })

def execFieldKeepout (mbx z mask : Nat) (vs : List Pt) (s : State) : Out :=
  runCmd (.fieldKeepout mbx z mask vs) (fieldKeepoutBody z mask vs) s

/-- A pair names the oars a and b (R6). -/
def fieldStitchBody (ps : List StitchArg) : Body := fun _ _ d =>
  if ps.any fun p => (p.a < 32 && ! d.oarExists p.a) || (p.b < 32 && ! d.oarExists p.b) then badArg
  else .done (d.onStaged fun g => { g with stitch := ps })

def execFieldStitch (mbx : Nat) (ps : List StitchArg) (s : State) : Out := runCmd (.fieldStitch mbx ps) (fieldStitchBody ps) s

/-- Words of 4 bytes. -/
def words32 (bs : List Byte) : List Nat :=
  let a := bs.toArray
  (List.range (bs.length / 4)).map fun n => unle ((List.range 4).map fun i => a.getD (4 * n + i) 0)

def fieldMasksBody (addr count crc : Nat) : Body := fun _ m d =>
  if count = 0 ∨ 65535 < count ∨ ! d.rangeOk addr (4 * count) then badArg
  else withData m d addr (4 * count) crc 0 fun d bs ops => .ok (d.onStaged fun g => { g with masks := words32 bs }) [] ops

def execFieldMasks (mbx addr count crc : Nat) (s : State) : Out :=
  runCmd (.fieldMasks mbx addr count crc) (fieldMasksBody addr count crc) s

/-! ## `field.commit`, `field.discard` (R51, R52, R62 to R64) -/

def CorrSet.nodeBytes (s : CorrSet) : List Byte := s.nodes.flatMap fun n => i32 n.1 ++ i32 n.2.1 ++ i32 n.2.2

/-- The header of R38 of a set held: its array lies on chip, the address field is 0. -/
def CorrSet.header (s : CorrSet) (n : Nat) : List Byte :=
  gridBytes ⟨n / 4, n % 4, s.temp, s.gx0, s.gy0, s.pitch, s.focusGain, 0, 50700, crc32c s.nodeBytes⟩

def bedBytes : Option (Int × Int × Int × Int) → List Byte
  | some b => i32 b.1 ++ i32 b.2.1 ++ i32 b.2.2.1 ++ i32 b.2.2.2
  | none => []

def zoneBytes : Option Zone → List Byte
  | some z => u32 z.mask ++ listOf ptBytes z.vs
  | none => u32 0 ++ u32 0

def Geometry.setAt (g : Geometry) (n : Nat) : Option CorrSet := nth (nth g.sets (n / 4)) (n % 4)

/-- The geometry's image, in the order of R62 (DESIGN CHOICE, log 12). -/
def Geometry.bytes (g : Geometry) : List Byte :=
  bedBytes g.bed ++
  ((List.range 128).flatMap fun n => match g.setAt n with | some s => s.header n ++ s.nodeBytes | none => []) ++
  g.fields.flatMap (listOf ptBytes) ++ g.zones.flatMap zoneBytes ++ listOf stitchBytes g.stitch ++ listOf u32 g.masks

def Geometry.digest (g : Geometry) : List Byte := sha256 g.bytes

/-- R45, R64: an oar of one set has its working grid at once, one of several waits for its head's temperature. -/
def Dev.gridInit (d : Dev) (k : Nat) : OarGeo :=
  ⟨match d.corrSets k with | [s] => some ⟨s.temp⟩ | _ => none, none, none, (nth d.geo.oars k).invalidFiled⟩

def Dev.gridsInit (d : Dev) : Dev := { d with geo := { d.geo with oars := oars32.map d.gridInit } }

/-- R62, R64. The thermal map keeps its cells by number where the bed rectangle changes, and its size is not judged again
(DESIGN CHOICE, log 144). -/
def fieldCommitBody : Body := fun x _ d =>
  if ! d.queueEmpty then refusedBusy
  else
    let g0 := d.geo.staged
    let ts := stitchTrans d.boot.compat g0.stitch
    match d.geoFailure g0 ts with
    | some e => .refuse e.1 e.2 0
    | none =>
      let g := { g0 with trans := ts, resid := stitchResid g0.stitch ts }
      let d1 := ({ d with geo := { d.geo with active := g, staged := g, stored := g } }).gridsInit
      let d2 := d1.logDigest x 0 0x01 0xFFFF d.geo.active.digest g.digest
      .done d2 (g.digest ++ u32 g.resid ++ ts.flatMap ptBytes)

def execFieldCommit (mbx : Nat) (s : State) : Out := runCmd (.fieldCommit mbx) fieldCommitBody s

def fieldDiscardBody : Body := fun _ _ d => .done (d.onStaged fun _ => d.geo.active)

def execFieldDiscard (mbx : Nat) (s : State) : Out := runCmd (.fieldDiscard mbx) fieldDiscardBody s

/-! ## `field.query`, `field.eligible` (R66) -/

/-- Items: 0 bed, 1 correction set (4 × oar + SET), 2 polygon of an oar, 3 zone, 4 stitch pairs from an index on, 5 masks
from an index on (DESIGN CHOICE, log 12). -/
def Geometry.item (g : Geometry) (item index : Nat) : Option (List Byte) :=
  if item = 0 then some (bedBytes g.bed)
  else if item = 1 then (if index < 128 then some (match g.setAt index with | some s => s.header index | none => []) else none)
  else if item = 2 then (if index < 32 then some (listOf ptBytes (nth g.fields index)) else none)
  else if item = 3 then (if index < 64 then some (zoneBytes (nth g.zones index)) else none)
  else if item = 4 then some (listOf stitchBytes ((g.stitch.drop index).take 160))
  else if item = 5 then some (listOf u32 ((g.masks.drop index).take 480))
  else none

/-- R66; a correction set of an oar outside E is answered, its index being an item selector that names no oar (DESIGN CHOICE,
log 144). -/
def fieldQueryBody (which item index : Nat) : Body := fun _ _ d =>
  let g := if which = 0 then d.geo.active else d.geo.staged
  match g.item item index with
  | some bs => if 2 ≤ which ∨ (item = 2 ∧ ! d.oarExists index) then badArg else .done d (bs ++ g.digest)
  | none => badArg

def execFieldQuery (mbx which item index : Nat) (s : State) : Out :=
  runCmd (.fieldQuery mbx which item index) (fieldQueryBody which item index) s

def fieldEligibleBody (p q : Pt) (maskIndex : Option Nat) : Body := fun _ _ d =>
  match d.geo.active.eligibility p q (maskIndex.getD 0xFFFF) with
  | some g => .done d (u32 g ++ u32 (g &&& d.offered))
  | none => badArg

def execFieldEligible (mbx : Nat) (p q : Pt) (maskIndex : Option Nat) (s : State) : Out :=
  runCmd (.fieldEligible mbx p q maskIndex) (fieldEligibleBody p q maskIndex) s

/-- R43, R44: a blend is complete; the next jump planning takes it. -/
def Dev.blendDone (d : Dev) (k : Nat) : Dev :=
  { d with geo := { d.geo with oars := upd d.geo.oars k fun o => match o.blending with
    | some b =>
      let w : WorkGrid := ⟨b.1⟩
      if o.grid.isNone then { o with grid := some w, blending := none } else { o with ready := some w, blending := none }
    | none => o } }

def execGridBlendComplete (oar : Nat) (s : State) : Out := onDev (.gridBlendComplete oar) (fun _ d => d.blendDone oar) s

/-! ## `oar.motion`, `oar.latency`, `oar.powermap` (R169, R170, R183, R193, R194) -/

/-- POS_TOL of oar k in the set in force, µm. -/
def Dev.posTol (d : Dev) (k : Nat) : Option Nat := d.ump.active.map fun s => s.field k 4 2

def MotionArg.ok (m : MotionArg) : Bool :=
  5000 ≤ m.obsBw && m.obsBw ≤ 50000 && m.rateMax.all (fun r => 1 ≤ r && r < 2 ^ 31) && m.accMax.all (fun a => a ≠ 0) &&
    1 ≤ m.nSettle && m.nSettle ≤ 64 && 100 ≤ m.settleTol && 100 ≤ m.dotTol && 1 ≤ m.dotSettleMax && m.dotSettleMax ≤ 10000 &&
    1 ≤ m.predWarn && m.predWarn ≤ 1000 && 1 ≤ m.backstopPct && m.backstopPct ≤ 50 && 50 ≤ m.reapproachMin &&
    m.reapproachMin ≤ 5000 && m.lenSettle ≤ 100000

def MotionArg.toMotion (m : MotionArg) : Motion :=
  ⟨m.obsBw, some m.rateMax, some m.accMax, m.nSettle, m.settleTol, m.dotTol, m.dotSettleMax, m.predWarn, m.backstopPct,
    m.reapproachMin, m.lenSettle⟩

def Motion.bytes (m : Motion) : List Byte :=
  motionBytes ⟨m.obsBw, m.rateMax.getD [0, 0, 0], m.accMax.getD [0, 0, 0], m.nSettle, m.settleTol, m.dotTol, m.dotSettleMax,
    m.predWarn, m.backstopPct, m.reapproachMin, m.lenSettle⟩

/-- The stored forms of one item of the oars of a mask. -/
def Dev.oarForms (d : Dev) (mask : Nat) (f : Engine → List Byte) : List Byte := (bitsOf 32 mask).flatMap fun k => f (nth d.eng k)

/-- Engines of a mask changed. -/
def Dev.onEngs (d : Dev) (mask : Nat) (f : Engine → Engine) : Dev := (bitsOf 32 mask).foldl (fun d k => d.onEng k f) d

def oarMotionBody (mask : Nat) (m : MotionArg) : Body := fun x _ d =>
  let ks := bitsOf 32 mask
  if d.badOarMask mask ∨ ! MotionArg.ok m ∨ ks.any (fun k => match d.posTol k with | some p => decide (p ≤ m.predWarn) | none => false) then badArg
  else if d.layers.released.isSome then refusedBusy
  else
    let v := MotionArg.toMotion m
    let d1 := d.onEngs mask fun e => { e with motion := v }
    let d2 := { d1 with flash := { d1.flash with motion := ks.foldl (fun l k => l.set k v) d1.flash.motion } }
    let old := d.oarForms mask (·.motion.bytes)
    let new := d2.oarForms mask (·.motion.bytes)
    .done (d2.log x 0x11 0xFFFF old new) new

def execOarMotion (mbx mask : Nat) (m : MotionArg) (s : State) : Out := runCmd (.oarMotion mbx mask m) (oarMotionBody mask m) s

/-- L_pad in whole ps, as results give it. -/
def Latency.padPs (l : Latency) : Nat := natOf (roundRat l.pad)

/-- Every term of R169 of one oar, then JUMP_SETTLE. -/
def Latency.bytes (l : Latency) : List Byte :=
  u32 l.dHead ++ u32 (linkPs l.lLink) ++ u32 125000 ++ u32 l.padPs ++ u32 l.lLaser ++ u32 l.dacDelay ++ u32 l.jumpSettle

def Dev.latencies (d : Dev) : List Byte := d.eng.flatMap (·.lat.bytes)

/-- What flash keeps of an oar's latencies. -/
def Dev.storeLat (d : Dev) (ks : List Nat) : Dev :=
  { d with flash := { d.flash with lat := ks.foldl (fun l k => l.set k (nth d.eng k).lat) d.flash.lat } }

def oarLatencyBody (set : Option (Nat × Nat × Nat)) : Body := fun x _ d =>
  match set with
  | none => .done d d.latencies
  | some (mask, laser, dac) =>
    let ks := bitsOf 32 mask
    if ! (d.mode.mode == .ready) then refusedMode 0xFF09
    else if d.badOarMask mask ∨ 3500000 < laser ∨ 100000 < dac ∨
        ks.any (fun k => Latency.tooLong { (nth d.eng k).lat with lLaser := laser }) then badArg
    else if d.layers.released.isSome then refusedBusy
    else
      let d1 := (ks.foldl (fun d k => d.setLat k fun l => { l with lLaser := laser, dacDelay := dac }) d).storeLat ks
      .done (d1.log x 0x11 0xFFFF (d.oarForms mask (·.lat.bytes)) (d1.oarForms mask (·.lat.bytes))) d1.latencies

def execOarLatency (mbx : Nat) (set : Option (Nat × Nat × Nat)) (s : State) : Out := runCmd (.oarLatency mbx set) (oarLatencyBody set) s

def mapBytes (codes : List Nat) (idle : Nat) : List Byte := codes.flatMap u32 ++ u32 idle

def rising : List Nat → Bool
  | a :: b :: r => a ≤ b && rising (b :: r)
  | _ => true

def oarPowermapBody (mask : Nat) (codes : List Nat) (idle : Nat) : Body := fun x _ d =>
  if d.badOarMask mask ∨ codes.any (65536 ≤ ·) ∨ 65536 ≤ idle ∨ ! rising codes then badArg
  else if d.layers.released.isSome then refusedBusy
  else
    let d1 := d.onEngs mask fun e => { e with map := codes, idleCode := idle }
    let d2 := { d1 with flash := { d1.flash with map := (bitsOf 32 mask).foldl (fun l k => l.set k (codes, idle)) d1.flash.map } }
    let form := fun (e : Engine) => mapBytes e.map e.idleCode
    .done (d2.log x 0x11 0xFFFF (d.oarForms mask form) (d2.oarForms mask form)) (sha256 (mapBytes codes idle))

def execOarPowermap (mbx mask : Nat) (codes : List Nat) (idle : Nat) (s : State) : Out :=
  runCmd (.oarPowermap mbx mask codes idle) (oarPowermapBody mask codes idle) s

/-! ## `oar.placement`, `oar.measure` (R171, R192) -/

/-- Mean, RMS and largest magnitude along, then across, over the edges whose error is known. -/
def PlaceStat.bytes (p : PlaceStat) : List Byte :=
  let n : Rat := max 1 p.counted
  let mean := fun (s : Int) => i32 (roundRat (s / n))
  let rms := fun (q : Nat) => u32 (natOf (roundRat (sqrtRat (q / n))))
  u32 p.count ++ mean p.sumA ++ rms p.sqA ++ u32 p.maxA ++ mean p.sumC ++ rms p.sqC ++ u32 p.maxC ++ p.flags.flatMap u32

def Engine.placement (e : Engine) : List Byte := e.catchStat.bytes ++ e.finishStat.bytes ++ u32 e.jumpSplit ++ u32 e.jumpLimit

def Engine.clearStats (e : Engine) : Engine :=
  { e with catchStat := PlaceStat.reset, finishStat := PlaceStat.reset, jumpSplit := 0, jumpLimit := 0 }

def oarPlacementBody (mask clear : Nat) : Body := fun _ _ d =>
  if d.badOarMask mask ∨ 2 ≤ clear then badArg
  else .done (if clear = 1 then d.onEngs mask Engine.clearStats else d) (d.oarForms mask Engine.placement)

def execOarPlacement (mbx mask clear : Nat) (s : State) : Out := runCmd (.oarPlacement mbx mask clear) (oarPlacementBody mask clear) s

/-- An oar can fly test jumps: its head delivers samples, its limits are set, and it has a working grid and a usable field (R171,
R194; what else is answered FAULT, DESIGN CHOICE, log 143). -/
def Dev.measurable (d : Dev) (k : Nat) : Bool :=
  (d.port k).hearing && (nth d.eng k).motion.rateMax.isSome && (nth d.eng k).motion.accMax.isSome &&
    (nth d.geo.oars k).grid.isSome && ! (nth d.geo.active.fields k).isEmpty

/-- The measurement of oar k has come out well. -/
def Dev.testOk (d : Dev) (k : Nat) : Bool := match (nth d.eng k).test with | some t => t.left = 0 && t.ok | none => false

/-- JUMP_SETTLE as measured comes into use (R171). -/
def Dev.takeSettle (d : Dev) (k : Nat) : Dev :=
  match (nth d.eng k).test with
  | some t => (d.setLat k fun l => if d.testOk k then { l with jumpSettle := t.worst } else l).onEng k fun e => { e with test := none }
  | none => d

/-- `oar.measure`: the test jumps begin. -/
def oarMeasureBody (mask : Nat) : Body := fun _ _ d =>
  let ks := bitsOf 32 mask
  if d.badOarMask mask then badArg
  else if d.layers.released.isSome ∨ ks.any (fun k => (nth d.eng k).test.isSome) then refusedBusy
  else if ! ks.all d.measurable then .refuse 0x40 0 0
  else .executing (ks.foldl Dev.testBegin d) (.measure mask) false

/-- L_pad of oar k measured: the part that the oars share and a free spread within R569's 1.5 ns, in slots of 312.5 ps (R169). -/
def Dev.padMeasure (d : Dev) (k : Nat) : Dev :=
  let a := d.draw 5
  a.2.setLat k fun l => { l with lPad := d.cal.padBase + a.1 }

/-- The measurement of `oar.measure` ends: L_pad in slots of 312.5 ps, a free value (DESIGN CHOICE, log 8), and JUMP_SETTLE
come into use and go to flash; where a test was given up nothing changes (R169, R171). -/
def Dev.measureEnd (d : Dev) (mask : Nat) (j : Job) : Dev :=
  let ks := bitsOf 32 mask
  if ! ks.all d.testOk then (ks.foldl (fun d k => d.onEng k fun e => { e with test := none }) d).finish j 0x40 0 []
  else
    let d1 := (ks.foldl (fun d k =>
      (d.padMeasure k).takeSettle k) d).storeLat ks
    (d1.logJob j 0x11 0xFFFF (d.oarForms mask (·.lat.bytes)) (d1.oarForms mask (·.lat.bytes))).finish j 0 0
      (d1.oarForms mask fun e => u32 e.lat.padPs ++ u32 e.lat.jumpSettle)

/-- The measurements whose last oar is done end. -/
def Dev.measureCheck (d : Dev) : Dev :=
  d.host.jobs.foldl (fun d j => match j.kind with
    | .measure mask => if (bitsOf 32 mask).any fun k => (nth d.eng k).testing then d else d.measureEnd mask j
    | _ => d) d

def execOarMeasure (mbx mask : Nat) (s : State) : Out := runCmd (.oarMeasure mbx mask) (oarMeasureBody mask) s

/-! ## `oar.camera`, `oar.dark`, `oar.sense` (R232 to R235, R263) -/

def CameraArg.ok (c : CameraArg) : Bool :=
  c.en ≤ 1 && c.x0 ≤ 240 && c.x0 % 16 = 0 && c.y0 ≤ 240 && c.y0 % 16 = 0 && 16 ≤ c.w && c.w ≤ 256 && c.w % 16 = 0 &&
    16 ≤ c.h && c.h ≤ 256 && c.h % 16 = 0 && c.x0 + c.w ≤ 256 && c.y0 + c.h ≤ 256 && 20 ≤ c.period && c.period ≤ 65535 &&
    100 ≤ c.exposureNs && c.exposureNs ≤ 250 * c.period && 1 ≤ c.thresh && c.thresh ≤ 1023 && 1 ≤ c.spatMin && c.spatMin ≤ 255 &&
    c.w * c.h * 10 ≤ 2048 * c.period

def Dev.meltForms (d : Dev) (mask : Nat) (f : Melt → List Byte) : List Byte := (bitsOf 32 mask).flatMap fun k => f (nth d.melt k)

def oarCameraBody (mask : Nat) (c : CameraArg) : Body := fun x _ d =>
  if d.badOarMask mask ∨ ! CameraArg.ok c then badArg
  else if d.layers.released.isSome then refusedBusy
  else
    let d1 := (bitsOf 32 mask).foldl (fun d k =>
      let e := d.onMelt k fun m => { m with cam := c }
      let p := e.port k
      if p.linked || p.trainingPhase = some 4 || p.trainingPhase = some 5 then e.sendCamera k else e) d
    let new := d1.meltForms mask fun m => cameraBytes m.cam
    .done (d1.log x 0x11 0xFFFF (d.meltForms mask fun m => cameraBytes m.cam) new) new

def execOarCamera (mbx mask : Nat) (c : CameraArg) (s : State) : Out := runCmd (.oarCamera mbx mask c) (oarCameraBody mask c) s

/-- The number of samples that `oar.dark` averages (R235). -/
def darkLen : Nat := 65536

/-- The channels' offsets of an oar and the results that give them. -/
def Melt.darkBytes (m : Melt) : List Byte := m.pdOffset.flatMap u32

/-- The average over the samples taken, to the nearest. -/
def Melt.darkMean (m : Melt) : List Nat :=
  match m.dark with
  | some (_, a, b, c) => [a, b, c].map fun x => natOf (roundRat ((x : Rat) / darkLen))
  | none => m.pdOffset

/-- Every oar of a mask has its samples. -/
def Dev.darkFull (d : Dev) (mask : Nat) : Bool :=
  (bitsOf 32 mask).all fun k => match (nth d.melt k).dark with | some (n, _) => n = darkLen | none => false

/-- R235: the offsets of a finished `oar.dark` take effect, go to flash and are logged; the command is answered. -/
def Dev.darkEnd (d : Dev) (mask : Nat) (j : Job) : Dev :=
  let ks := bitsOf 32 mask
  let d1 := ks.foldl (fun d k => d.onMelt k fun m => { m with pdOffset := m.darkMean, dark := none }) d
  let d2 := { d1 with flash := { d1.flash with pdOffset := ks.foldl (fun l k => l.set k (nth d1.melt k).pdOffset) d1.flash.pdOffset } }
  let new := d2.meltForms mask Melt.darkBytes
  (d2.logJob j 0x0D 0xFFFF (d.meltForms mask Melt.darkBytes) new).finish j 0 0 new

/-- The commands whose last sample has come end. -/
def Dev.darkCheck (d : Dev) : Dev :=
  d.host.jobs.foldl (fun d j => match j.kind with
    | .dark mask => if d.darkFull mask then d.darkEnd mask j else d
    | _ => d) d

/-- A valid photodiode sample with LEN low counts towards the average. -/
def Dev.darkSample (d : Dev) (k : Nat) (x : Nat × Nat × Nat × Bool) : Dev :=
  match (nth d.melt k).dark with
  | some (n, a, b, c) =>
    if darkLen ≤ n ∨ ! x.2.2.2 ∨ d.lenPad k then d
    else
      let d1 := d.onMelt k fun m => { m with dark := some (n + 1, a + x.1, b + x.2.1, c + x.2.2.1) }
      if n + 1 = darkLen then d1.darkCheck else d1
  | none => d

/-- `oar.dark` runs until 65 536 samples of each oar have come; FAULT where a head delivers none. -/
def oarDarkBody (mask : Nat) : Body := fun _ _ d =>
  let ks := bitsOf 32 mask
  if d.badOarMask mask then badArg
  else if d.layers.released.isSome then refusedBusy
  else if ! ks.all fun k => (d.port k).hearing then .refuse 0x40 0 0
  else if ks = [] then .done d
  else .executing (ks.foldl Dev.darkBegin d) (.dark mask) false

def execOarDark (mbx mask : Nat) (s : State) : Out := runCmd (.oarDark mbx mask) (oarDarkBody mask) s

/-- The latest features of one oar and its counts (DESIGN CHOICE, log 12). -/
def Melt.sense (m : Melt) : List Byte :=
  let c := m.camFeat
  let f := fun (g : CamFeat → Nat) => u32 ((c.map g).getD 0)
  u32 m.pd.1 ++ u32 m.pd.2.1 ++ u32 m.pd.2.2.1 ++ u32 m.pd.2.2.2 ++
  u32 (boolN m.pdInvalid + 2 * boolN m.ratioInvalid + 4 * m.pdSat) ++
  f (·.frameNo) ++ f (·.area) ++ f (·.peak) ++ f (·.cx) ++ f (·.cy) ++ f (·.len) ++ f (·.wid) ++ f (·.orient) ++ f (·.spatter) ++
  f (·.flags) ++ u32 m.satCount ++ u32 m.invalidCount ++ u32 m.incompleteCount ++ u32 m.labelOvf

def oarSenseBody (mask : Nat) : Body := fun _ _ d =>
  if d.badOarMask mask then badArg else .done d (d.meltForms mask Melt.sense)

def execOarSense (mbx mask : Nat) (s : State) : Out := runCmd (.oarSense mbx mask) (oarSenseBody mask) s

end Sys2Proof.Machine
end

