-- ==== Sys2Proof/Machine/ListOps.lean ====
section
/-! DEFINITION. The parameter library's entries (R86 to R88, R138, R240), Octiz records (R73, R74), how a reader of a list
keeps its place (R77 to R82), and the checks of a layer (R69 to R71, R95 to R98). -/

namespace Sys2Proof.Machine

/-- A little-endian field of a stored form. -/
def fieldOf (bs : List Byte) (off n : Nat) : Nat := unle ((bs.drop off).take n)

def fieldOfI (bs : List Byte) (off n : Nat) : Int := signed (8 * n) (fieldOf bs off n)

def allZero (bs : List Byte) : Bool := bs.all (· = 0)

/-- Entry i of an array of entries of n bytes. -/
def entryAt (bs : List Byte) (n i : Nat) : List Byte := (bs.drop (n * i)).take n

/-! ## Parameter sets (R86) -/

def paramOf (bs : List Byte) : ParamSet where
  valid := (fieldOf bs 28 1).testBit 0
  markSpeed := fieldOf bs 0 4
  jumpSpeed := fieldOf bs 4 4
  power := fieldOf bs 8 2
  profile := fieldOf bs 10 1
  target := fieldOf bs 11 1
  focusOffset := fieldOfI bs 12 4
  loopMode := fieldOf bs 16 1
  thermTable := fieldOf bs 17 1
  leadIn := fieldOf bs 18 2
  onDelay := fieldOfI bs 20 2
  offDelay := fieldOfI bs 22 2
  markDelay := fieldOf bs 24 2
  jumpDelay := fieldOf bs 26 2

def ParamSet.bytes (p : ParamSet) : List Byte :=
  u32 p.markSpeed ++ u32 p.jumpSpeed ++ u16 p.power ++ u8 p.profile ++ u8 p.target ++ i32 p.focusOffset ++ u8 p.loopMode ++
  u8 p.thermTable ++ u16 p.leadIn ++ i16 p.onDelay ++ i16 p.offDelay ++ u16 p.markDelay ++ u16 p.jumpDelay ++
  u8 (boolN p.valid) ++ List.replicate 99 0

/-- R88: reserved fields in any case, the ranges of R86 when VALID is set. -/
def paramOk (bs : List Byte) : Bool :=
  let p := paramOf bs
  fieldOf bs 28 1 ≤ 1 && allZero (bs.drop 29) &&
    (! p.valid || (1000 ≤ p.markSpeed && p.markSpeed ≤ 15000000 && 1000 ≤ p.jumpSpeed && p.jumpSpeed ≤ 40000000 &&
      p.target ≤ 63 && p.focusOffset.natAbs ≤ 655360000 && p.loopMode ≤ 3 && p.thermTable ≤ 63 && p.leadIn ≤ 10000))

/-! ## Melt-pool targets (R240) -/

def TargetRec.u (t : TargetRec) (off n : Nat) : Nat := fieldOf t.bytes off n

def TargetRec.pdFeature (t : TargetRec) : Nat := t.u 0 1
def TargetRec.camFeature (t : TargetRec) : Nat := t.u 1 1
def TargetRec.evtEn (t : TargetRec) : Bool := (t.u 2 2).testBit 1
def TargetRec.pdSp (t : TargetRec) : Nat := t.u 4 2
def TargetRec.camSp (t : TargetRec) : Nat := t.u 6 2
def TargetRec.trimUp (t : TargetRec) : Nat := t.u 8 2
def TargetRec.trimDown (t : TargetRec) : Nat := t.u 10 2
def TargetRec.camGain (t : TargetRec) : Int := fieldOfI t.bytes 12 4
def TargetRec.camLim (t : TargetRec) : Nat := t.u 16 2
def TargetRec.minArea (t : TargetRec) : Nat := t.u 18 2
def TargetRec.evtLo (t : TargetRec) : Nat := t.u 20 2
def TargetRec.evtHi (t : TargetRec) : Nat := t.u 22 2
def TargetRec.evtHold (t : TargetRec) : Nat := t.u 24 2

def targetOf (bs : List Byte) : TargetRec := ⟨(fieldOf bs 2 2).testBit 0, bs⟩

def targetOk (bs : List Byte) : Bool :=
  let t := targetOf bs
  t.u 2 2 ≤ 3 && allZero (bs.drop 26) &&
    (! t.valid || ((t.pdFeature ≤ 3 || t.pdFeature = 0xFF) && (t.camFeature ≤ 5 || t.camFeature = 0xFF) && t.trimUp ≤ 0x7FFF &&
      t.trimDown ≤ 0x7FFF && t.camLim ≤ 0x7FFF && 1 ≤ t.evtHold))

def halfwords (bs : List Byte) : List Nat := (List.range (bs.length / 2)).map fun i => fieldOf bs (2 * i) 2

/-! ## The library -/

/-- An entry entered at an index. -/
def putAt {α : Type} (l : List (Nat × α)) (i : Nat) (v : α) : List (Nat × α) := (i, v) :: l.filter (·.1 ≠ i)

def getAt {α : Type} (l : List (Nat × α)) (i : Nat) : Option α := (l.find? (·.1 = i)).map (·.2)

/-- The four kinds: parameter sets, profiles, targets, thermal tables. -/
inductive LibKind where
  | params
  | profiles
  | targets
  | tables
deriving DecidableEq, Repr, Inhabited

def LibKind.size : LibKind → Nat
  | .params => 128
  | .profiles => 128
  | .targets => 32
  | .tables => 512

def LibKind.held : LibKind → Nat
  | .params => 1024
  | .profiles => 256
  | .targets => 64
  | .tables => 64

def LibKind.ok : LibKind → List Byte → Bool
  | .params, bs => paramOk bs
  | .targets, bs => targetOk bs
  | _, _ => true

def Library.put (l : Library) (k : LibKind) (i : Nat) (bs : List Byte) : Library :=
  match k with
  | .params => { l with params := putAt l.params i (paramOf bs) }
  | .profiles => { l with profiles := putAt l.profiles i (halfwords bs) }
  | .targets => { l with targets := putAt l.targets i (targetOf bs) }
  | .tables => { l with tables := putAt l.tables i (halfwords bs) }

/-- The stored form of an entry; zeros where nothing has been loaded since the reset (R88). -/
def Library.form (l : Library) (k : LibKind) (i : Nat) : List Byte :=
  (match k with
    | .params => (getAt l.params i).map ParamSet.bytes
    | .profiles => (getAt l.profiles i).map fun (v : List Nat) => v.flatMap u16
    | .targets => (getAt l.targets i).map fun (t : TargetRec) => t.bytes
    | .tables => (getAt l.tables i).map fun (v : List Nat) => v.flatMap u16).getD (List.replicate k.size 0)

def Library.target? (l : Library) (i : Nat) : Option TargetRec := getAt l.targets i

/-- The entries of a kind that a layer references (R89, R138). -/
def LayerRec.refs (l : LayerRec) : LibKind → List Nat
  | .params => l.refParams
  | .profiles => l.refProfiles
  | .targets => l.refTargets
  | .tables => l.refTables

/-- Layers whose commit completed and whose fence has not closed. -/
def Layers.committed (l : Layers) : List LayerRec := l.released.toList ++ l.queue

/-- The reference count of an entry: the committed layers that reference it, each once (R103 does not say what is counted:
DESIGN CHOICE, log 113). -/
def Layers.refCount (l : Layers) (k : LibKind) (i : Nat) : Nat := (l.committed.filter fun r => (r.refs k).contains i).length

/-- R88, R89, R138, R156: the load of a run of entries. -/
def loadBody (k : LibKind) (first count addr crc : Nat) : Body := fun x m d =>
  let n := k.size
  if count = 0 ∨ k.held < first + count ∨ ! d.rangeOk addr (n * count) then badArg
  else match ((List.range count).map (first + ·)).find? fun i => d.layers.refCount k i ≠ 0 with
    | some i => .refuse 0x12 i 0xFFFFFFFF
    | none => withData m d addr (n * count) crc 0 fun d bs ops =>
      match (List.range count).find? fun i => ! k.ok (entryAt bs n i) with
      | some i => .refuseWith d 0x21 (first + i) 0 [] ops
      | none =>
        let lib := (List.range count).foldl (fun l i => l.put k (first + i) (entryAt bs n i)) d.lib
        let old := (List.range count).flatMap fun i => d.lib.form k (first + i)
        .ok (({ d with lib := lib }).log x 0x02 0xFFFF old bs) [] ops

/-! ## Power of a stroke (R87, R96, R120) -/

/-- The largest commanded fraction over a parameter set's profile. -/
def Library.peak (l : Library) (i : Nat) : Rat :=
  let p := l.pset i
  ((l.profile p.profile).foldl (fun m v => max m (min 65535 ((p.power : Rat) * v / 0x8000))) 0) / 65535

/-- Electrical watts of an oar at a fraction of its rated power: rated power, wall-plug factor in 65 536ths. -/
def plantDraw (p : Nat × Nat) (f : Rat) : Rat := (p.1 : Rat) * f * 65536 / p.2

/-! ## The descriptor (R69 to R71) -/

def descOf (bs : List Byte) : Desc where
  imageEn := (fieldOf bs 3 1).testBit 0
  recFullAll := (fieldOf bs 3 1).testBit 1
  noRecoat := (fieldOf bs 3 1).testBit 2
  layer := fieldOf bs 4 4
  z := fieldOfI bs 8 4
  stepLsb := fieldOf bs 12 4
  listAddr := fieldOf bs 16 8
  listCount := fieldOf bs 24 4
  listCrc := fieldOf bs 28 4
  recoatSpeed := fieldOf bs 32 4
  dose := fieldOf bs 36 2
  linePitch := fieldOf bs 38 2
  gasX := fieldOfI bs 40 2
  gasY := fieldOfI bs 42 2
  wakeLen := fieldOf bs 44 2
  wakeHalf := fieldOf bs 46 2
  wakeLife := fieldOf bs 48 4
  thermTau := fieldOf bs 52 4
  thermCeil := fieldOf bs 56 2
  repairPolicy := fieldOf bs 58 1
  plantBudget := fieldOf bs 60 4

/-- Check 3 on the bytes of a descriptor. -/
def descForm (bs : List Byte) : Bool :=
  fieldOf bs 0 2 = 0x4C44 && fieldOf bs 2 1 = 1 && fieldOf bs 124 4 = crc32c (bs.take 124) && fieldOf bs 3 1 < 8 &&
    fieldOf bs 59 1 = 0 && allZero ((bs.drop 64).take 60)

/-- R70. -/
def Desc.gasOk (c : Desc) : Bool :=
  c.wakeLen = 0 || 50 * (c.gasX ^ 2 + c.gasY ^ 2 - 2 ^ 28).natAbs ≤ 2 ^ 28

/-- Check 4, with what R579 and R355 ask of a layer that is imaged, and the limit of R374 on a named range: a list that
reaches beyond it fails here, a descriptor that does fails check 3 (DESIGN CHOICE, log 113). -/
def Dev.descRanges (d : Dev) (c : Desc) : Bool :=
  640 ≤ c.stepLsb && c.stepLsb ≤ 64000 && c.listAddr % 64 = 0 && 2 ≤ c.listCount && c.listCount ≤ 67108864 &&
    d.rangeOk c.listAddr (32 * c.listCount) && 1000 ≤ c.recoatSpeed && c.recoatSpeed ≤ 1000000 && c.dose ≤ 4096 &&
    1 ≤ c.linePitch && c.wakeLen ≤ 64000 && c.wakeHalf ≤ 16000 && c.wakeLife ≤ 100000 && 1000 ≤ c.thermTau &&
    c.thermTau ≤ 10000000 && 1 ≤ c.thermCeil && c.repairPolicy ≤ 3 &&
    (c.plantBudget = 0 || (1000 ≤ c.plantBudget && c.plantBudget ≤ 200000)) && c.gasOk &&
    (! c.imageEn || match d.img.cfg with
      | some g => decide (imgLines g c.linePitch ≤ g.nMax)
      | none => false)

/-! ## Octiz records (R73, R74) -/

structure Rec where
  ty : Nat
  flags : Nat
  pset : Nat
  x0 : Int
  y0 : Int
  x1 : Int
  y1 : Int
  mask : Nat
  dwell : Nat
  group : Nat
  seq : Nat
deriving DecidableEq, Repr, Inhabited

def recOf (bs : List Byte) : Rec where
  ty := fieldOf bs 0 1
  flags := fieldOf bs 1 1
  pset := fieldOf bs 2 2
  x0 := fieldOfI bs 4 4
  y0 := fieldOfI bs 8 4
  x1 := fieldOfI bs 12 4
  y1 := fieldOfI bs 16 4
  mask := fieldOf bs 20 2
  dwell := fieldOf bs 22 2
  group := fieldOf bs 24 4
  seq := fieldOf bs 28 4

def Rec.isStroke (r : Rec) : Bool := r.ty = 1 || r.ty = 2

/-- COUNT of a GROUP. -/
def Rec.count (r : Rec) : Nat := r.mask + 65536 * r.dwell

/-- The point Q of R54; P for a DOT. -/
def Rec.q (r : Rec) : Pt := if r.ty = 2 then ⟨r.x0, r.y0⟩ else ⟨r.x1, r.y1⟩

def Rec.p (r : Rec) : Pt := ⟨r.x0, r.y0⟩

/-- Check 7 (R73, R74, R81) of the record at an index of a list of n. -/
def Rec.form (r : Rec) (inGroup : Bool) (i n : Nat) : Bool :=
  let noXY : Bool := r.x0 = 0 && r.y0 = 0 && r.x1 = 0 && r.y1 = 0
  r.seq = i && ((r.ty = 0xF) == (i + 1 = n)) &&
    (if r.ty = 1 ∨ r.ty = 2 then r.flags < 64
     else if r.ty = 8 then r.flags = 0 && r.pset = 0 && noXY && r.count = 0
     else if r.ty = 9 then r.flags ≤ 1 && r.pset = 0
     else if r.ty = 0xA then r.flags = 0 && noXY && r.count = 0 && (inGroup || r.group = 0)
     else if r.ty = 0xF then r.flags = 0 && r.pset = 0 && noXY && r.count = 0 && r.group = 0
     else false)

/-! ## A reader's place (R77 to R82) -/

/-- Whether a stroke counts as carrying KEEP_ORDER (R77). -/
def ParseState.kept (p : ParseState) (r : Rec) : Bool := r.flags.testBit 0 || p.keep

/-- The run a stroke belongs to (R82). -/
def ParseState.runOf (p : ParseState) (r : Rec) : Option Nat := if p.kept r then some (p.run.getD r.seq) else none

/-- One member of the open group has been passed. -/
def ParseState.member (p : ParseState) : ParseState :=
  if p.left = 0 then p
  else if p.left = 1 then { p with group := 0, left := 0, keep := false, run := none, groupFences := 0 }
  else { p with left := p.left - 1 }

def ParseState.next (p : ParseState) (r : Rec) : ParseState :=
  if r.ty = 9 then { p with group := r.group, left := r.count, keep := r.flags.testBit 0, run := none, groupFences := 0 }
  else
    let q : ParseState :=
      if r.isStroke then { p with run := p.runOf r }
      else if r.ty = 0xA then { p with bound := some r.pset }
      else if r.ty = 8 ∧ r.group ≠ 0 then { p with run := none, groupFences := p.groupFences + 1 }
      else { p with run := none, layerFences := p.layerFences + 1 }
    q.member

/-- The stroke of a LINE or DOT record, its G given (R54, R57, R77, R78). -/
def ParseState.stroke (p : ParseState) (r : Rec) (g : Nat) : Stroke where
  seq := r.seq
  dot := r.ty = 2
  flags := if p.kept r then r.flags ||| 1 else r.flags
  pset := if r.pset = 0xFFFF then p.bound.getD 0 else r.pset
  x0 := r.x0
  y0 := r.y0
  x1 := r.q.x
  y1 := r.q.y
  dwell := r.dwell
  group := r.group
  elig := BitVec.ofNat 32 g
  run := p.runOf r
  layerFences := p.layerFences
  groupFences := p.groupFences
  repair := none

/-! ## Checks 7 to 13 (R95) -/

/-- What the checks carry from record to record. -/
structure Chk where
  parse : ParseState
  /-- GROUP_IDs opened, and the box of the open group. -/
  groups : List Nat
  box : Int × Int × Int × Int
  /-- Runs met, the latest first: members with their G, the latest first, and the intersection of G AND E. -/
  runs : List (Nat × List (Nat × Nat) × Nat)
  lines : Nat
  dots : Nat
  fences : Nat
  opened : Nat
  psets : List Nat
  /-- FAIL_SEQ and the check that failed. -/
  fail : Option (Nat × Nat)
deriving Inhabited

/-- E of R60 as a mask. -/
def Dev.eMask (d : Dev) : Nat := maskOf (oars32.filter d.oarExists)

/-- Check 8 (R77, R79, R82); a GROUP whose COUNT is out of range or whose GROUP_ID is 0 breaks the group structure and
fails here, not check 7 (DESIGN CHOICE, log 113). -/
def Chk.groupOk (c : Chk) (r : Rec) : Bool :=
  let inBox := fun (p : Pt) => c.box.1 ≤ p.x && p.x ≤ c.box.2.2.1 && c.box.2.1 ≤ p.y && p.y ≤ c.box.2.2.2
  let long : Bool := r.isStroke && match c.parse.runOf r, c.runs.head? with
    | some i, some q => q.1 = i && decide (65536 ≤ q.2.1.length)
    | _, _ => false
  ! long &&
    (if c.parse.left ≠ 0 then
      r.ty ≠ 9 && r.ty ≠ 0xF && r.group = c.parse.group && (! r.isStroke || (inBox r.p && inBox r.q))
     else if r.ty = 9 then
      r.group ≠ 0 && ! c.groups.contains r.group && 1 ≤ r.count && r.count ≤ 16777216 && r.x0 ≤ r.x1 && r.y0 ≤ r.y1
     else r.group = 0)

/-- Check 9 for a parameter set named or bound (R78, R241); in COMPAT, where THERM_TABLE is ignored, no loaded table is
asked for (DESIGN CHOICE, log 113). -/
def Dev.psetOk (d : Dev) (i : Nat) : Bool :=
  let p := d.lib.pset i
  i ≤ 1023 && p.valid && (getAt d.lib.profiles p.profile).isSome &&
    (d.boot.compat || (getAt d.lib.tables p.thermTable).isSome) &&
    match d.lib.target? p.target with
    | none => false
    | some t => t.valid && ! ((p.loopMode = 1 || p.loopMode = 2) && t.pdFeature = 0xFF) &&
        ! ((p.loopMode = 2 || p.loopMode = 3) && t.camFeature = 0xFF)

/-- The set that a record names or binds; none where it has none. -/
def Chk.setOf (c : Chk) (r : Rec) : Option Nat :=
  if r.ty = 0xA then some r.pset else if r.pset = 0xFFFF then c.parse.bound else some r.pset

/-- Check 13 (R96): the smallest draw over the oars whose power is set. -/
def Dev.drawOk (d : Dev) (budget : Nat) (pset ge : Nat) : Bool :=
  let ps := (bitsOf 32 ge).filterMap fun k =>
    let p := nth d.gov.power k
    if p.1 = 0 ∨ p.2 = 0 then none else some (plantDraw p (d.lib.peak pset))
  ps = [] || ps.any fun w => decide (w ≤ (budget : Rat))

/-- The G of a LINE or DOT where check 11 passes (R57, R59); bits of oars outside E have no effect (R6, R9). -/
def Dev.recG (d : Dev) (r : Rec) : Option Nat :=
  let g := d.geo.active.computedG r.p r.q
  if r.mask = 0xFFFF then some g
  else if r.mask < d.geo.active.masks.length then
    let m := nth d.geo.active.masks r.mask
    if m &&& d.eMask &&& g = m &&& d.eMask then some m else none
  else none

/-- The intersection of G AND E over the run so far, with one more member (R83). -/
def Chk.runWith (c : Chk) (r : Rec) (ge : Nat) : Nat :=
  match c.parse.runOf r, c.runs.head? with
  | some i, some q => if q.1 = i then q.2.2 &&& ge else ge
  | _, _ => ge

/-- The check that a record fails, if any. A SET record is held to check 9 like a stroke's PARAM_SET, used or not (DESIGN
CHOICE, log 113). -/
def Dev.recFails (d : Dev) (budget n : Nat) (c : Chk) (i : Nat) (r : Rec) : Option Nat :=
  if ! r.form (c.parse.left ≠ 0) i n then some 7
  else if ! c.groupOk r then some 8
  else if ! (r.isStroke || r.ty = 0xA) then none
  else if ! ((c.setOf r).map d.psetOk).getD false then some 9
  else if ! r.isStroke then none
  else if (r.ty = 2 ∧ r.dwell = 0) ∨ (r.ty = 1 ∧ r.dwell ≠ 0) then some 10
  else match d.recG r with
    | none => some 11
    | some g =>
      let ge := g &&& d.eMask
      if c.runWith r ge = 0 ∨ ge = 0 then some 12
      else if ! d.drawOk budget ((c.setOf r).getD 0) ge then some 13
      else none

/-- What the checks carry past a record that passed. -/
def Chk.pass (c : Chk) (d : Dev) (r : Rec) : Chk :=
  let g := (d.recG r).getD 0
  let ge := g &&& d.eMask
  let runs := if ! r.isStroke then c.runs else match c.parse.runOf r with
    | none => c.runs
    | some i => match c.runs with
      | q :: t => if q.1 = i then (i, (r.seq, g) :: q.2.1, q.2.2 &&& ge) :: t else (i, [(r.seq, g)], ge) :: c.runs
      | [] => [(i, [(r.seq, g)], ge)]
  { c with
    parse := c.parse.next r
    groups := if r.ty = 9 then r.group :: c.groups else c.groups
    box := if r.ty = 9 then (r.x0, r.y0, r.x1, r.y1) else c.box
    runs := runs
    lines := c.lines + boolN (r.ty = 1)
    dots := c.dots + boolN (r.ty = 2)
    fences := c.fences + boolN (r.ty = 8)
    opened := c.opened + boolN (r.ty = 9)
    psets := if r.isStroke then insertAsc ((c.setOf r).getD 0) c.psets else c.psets }

def Chk.start : Chk := ⟨ParseState.start, [], (0, 0, 0, 0), [], 0, 0, 0, 0, [], none⟩

/-- One record examined; after a failure nothing more is. -/
def Dev.chkRec (d : Dev) (budget n : Nat) (c : Chk) (ir : Nat × Rec) : Chk :=
  if c.fail.isSome then c
  else match d.recFails budget n c ir.1 ir.2 with
    | some k => { c with fail := some (ir.2.seq, k) }
    | none => c.pass d ir.2

def recsOf (bs : List Byte) : List (Nat × Rec) := (List.range (bs.length / 32)).map fun i => (i, recOf (entryAt bs 32 i))

/-- The blocks of a list that passed (R100), from the reader's place at each one's start. -/
def blocksOf (bs : List Byte) (p : ParseState) : Nat → List BlockInfo
  | 0 => []
  | n + 1 =>
    let b := bs.take 65536
    let q := ((recsOf b).map (·.2)).foldl (fun (s : ParseState × List Ordinal) r =>
      (s.1.next r, if r.isStroke then ⟨r.seq, s.1.layerFences, r.group, s.1.groupFences⟩ :: s.2 else s.2)) (p, [])
    ⟨crc32c b, p, q.2.reverse⟩ :: blocksOf (bs.drop 65536) q.1 n

/-! ## The outcome of the checks -/

def OarStat.zero : OarStat := ⟨0, 0, 0, 0, 0, 0, 0, 0, 0, 0, 0, 0⟩
def LayerStat.zero : LayerStat := ⟨List.replicate 9 0, 0, 0, 0, 0, 0, 0⟩

/-- A layer of which only the descriptor's address and number are known (R93). -/
def LayerRec.ofAddr (addr layer : Nat) : LayerRec where
  desc := { (default : Desc) with layer := layer }
  descAddr := addr
  blocks := []
  damaged := []
  runs := []
  digest := []
  counts := []
  refParams := []
  refProfiles := []
  refTargets := []
  refTables := []
  stats := List.replicate 32 OarStat.zero
  total := LayerStat.zero
  ints := []
  intOverflow := false
  unexposable := []
  notExposed := []
  settled := 0

/-- A layer that passed; its digest is SHA-256 over the 128 descriptor bytes and LIST_CRC after them (R98 gives no order:
DESIGN CHOICE, log 113). -/
def Dev.layerOf (d : Dev) (addr : Nat) (raw bs : List Byte) (c : Chk) : LayerRec :=
  let ps := c.psets.map d.lib.pset
  let ids := fun (f : ParamSet → Nat) => ps.foldl (fun l p => insertAsc (f p) l) []
  { LayerRec.ofAddr addr 0 with
    desc := descOf raw
    blocks := blocksOf bs ParseState.start ((bs.length + 65535) / 65536)
    runs := c.runs.reverse.map fun q => (q.1, q.2.1.reverse)
    digest := sha256 (raw ++ u32 (descOf raw).listCrc)
    counts := [c.lines, c.dots, c.fences, c.opened]
    refParams := c.psets
    refProfiles := ids (·.profile)
    refTargets := ids (·.target)
    refTables := ids (·.thermTable) }

/-- STATUS and DETAIL of a failed check. -/
def checkStatus (k : Nat) : Nat × Nat :=
  if k = 1 then (0x10, 0x0001) else if k = 2 then (0x12, 0x0002) else if k = 13 then (0x11, 0x020D) else (0x21, 0x0100 + k)

/-- R95: the checks of the descriptor at an address; the failing check with FAIL_SEQ, or the layer. -/
def Dev.checkLayer (d : Dev) (m : Dram) (early : Option Nat) (addr : Nat) : Dev × List DramOp × ((Nat × Nat) ⊕ LayerRec) :=
  match early with
  | some k => (d, [], .inl (k, 0xFFFFFFFF))
  | none =>
    if addr % 64 ≠ 0 ∨ ! d.rangeOk addr 128 then (d, [], .inl (3, 0xFFFFFFFF))
    else
      let a := d.hostData m addr 128
      match a.2.2 with
      | none => (a.1, a.2.1, .inl (3, 0xFFFFFFFF))
      | some raw =>
        let c := descOf raw
        if ! descForm raw then (a.1, a.2.1, .inl (3, 0xFFFFFFFF))
        else if ! d.descRanges c then (a.1, a.2.1, .inl (4, 0xFFFFFFFF))
        else if d.layers.committed.any fun l => decide (c.layer ≤ l.desc.layer) then (a.1, a.2.1, .inl (5, 0xFFFFFFFF))
        else
          let b := a.1.hostData m c.listAddr (32 * c.listCount)
          match b.2.2 with
          | none => (b.1, a.2.1 ++ b.2.1, .inl (6, 0xFFFFFFFF))
          | some bs =>
            if crc32c bs ≠ c.listCrc then (b.1, a.2.1 ++ b.2.1, .inl (6, 0xFFFFFFFF))
            else
              let budget := if c.plantBudget = 0 then d.plantBudget else c.plantBudget
              let k := (recsOf bs).foldl (d.chkRec budget c.listCount) Chk.start
              match k.fail with
              | some f => (b.1, a.2.1 ++ b.2.1, .inl (f.2, f.1))
              | none => (b.1, a.2.1 ++ b.2.1, .inr (d.layerOf addr raw bs k))

end Sys2Proof.Machine
end

