-- ==== Sys2Proof/Machine/LayerRows.lean ====
section
/-! DEFINITION. Chapter 03: library loads, `layer.commit` and its checks, the queue, release and close of a layer's fence
(R29 to R32), cancel, abandon, reload, status, report. -/

namespace Sys2Proof.Machine

/-! ## The library (R88, R89, R103) -/

def layerParamsBody (first count addr crc : Nat) : Body := loadBody .params first count addr crc
def layerProfilesBody (first count addr crc : Nat) : Body := loadBody .profiles first count addr crc
def layerTargetsBody (first count addr crc : Nat) : Body := loadBody .targets first count addr crc

def execLayerParams (mbx first count addr crc : Nat) (s : State) : Out :=
  runCmd (.layerParams mbx first count addr crc) (layerParamsBody first count addr crc) s

def execLayerProfiles (mbx first count addr crc : Nat) (s : State) : Out :=
  runCmd (.layerProfiles mbx first count addr crc) (layerProfilesBody first count addr crc) s

def execLayerTargets (mbx first count addr crc : Nat) (s : State) : Out :=
  runCmd (.layerTargets mbx first count addr crc) (layerTargetsBody first count addr crc) s

/-- Selector: 0 parameter set, 1 profile, 2 target (DESIGN CHOICE, log 12). -/
def libKindOf (n : Nat) : Option LibKind :=
  if n = 0 then some .params else if n = 1 then some .profiles else if n = 2 then some .targets else none

def layerLibraryBody (kind index : Nat) : Body := fun _ _ d =>
  match libKindOf kind with
  | none => badArg
  | some k =>
    if k.held ≤ index then badArg
    else
      let bs := d.lib.form k index
      .done d (bs ++ u32 (d.layers.refCount k index) ++ sha256 bs)

def execLayerLibrary (mbx kind index : Nat) (s : State) : Out := runCmd (.layerLibrary mbx kind index) (layerLibraryBody kind index) s

/-! ## `layer.commit` (R93 to R98) -/

/-- Check 1 or 2 of R95, taken as a layer's checks start. -/
def Dev.earlyFail (d : Dev) : Option Nat :=
  match d.mode.mode with
  | .ready | .build | .hold => if 8 ≤ d.layers.queue.length then some 2 else none
  | _ => some 1

/-- The checks of the next accepted commit start. -/
def Dev.nextCheck (d : Dev) : Dev :=
  { d with layers := { d.layers with early := if d.layers.checking.isEmpty then none else d.earlyFail } }

/-- WAIT_HINT_US of R98's bound. -/
def commitHint (records : Nat) : Nat := 20000 + (records * 80 + 999) / 1000

def layerCommitBody (addr : Nat) : Body := fun _ m d =>
  let w := fun (off : Nat) => unle (memBytes m.mem (addr + off) 4)
  let l := LayerRec.ofAddr addr (w 4)
  let d1 := { d with layers := { d.layers with checking := d.layers.checking ++ [l] } }
  .accepted (if d.layers.checking.isEmpty then d1.nextCheck else d1) (commitHint (min (w 24) 67108864)) (.layerCommit (w 4)) []

def execLayerCommit (mbx addr : Nat) (s : State) : Out := runCmd (.layerCommit mbx addr) (layerCommitBody addr) s

/-- The job whose commit is being checked: the first accepted of those open (R94). -/
def Dev.commitJob (d : Dev) : Option Job :=
  d.host.jobs.find? fun j => match j.kind with | .layerCommit _ => true | _ => false

/-- R98: what a successful completion carries. -/
def LayerRec.outcome (l : LayerRec) (place : Nat) : List Byte :=
  u32 l.desc.layer ++ u32 place ++ l.counts.flatMap u32 ++ u32 l.blocks.length ++ l.digest

/-- R98: the Logbook record of a layer that passed. -/
def Dev.logLayer (d : Dev) (j : Job) (l : LayerRec) : Dev :=
  let x : Ctx := ⟨j.mbx, j.opcode, j.tag, j.flags⟩
  d.logRaw ⟨x.origin, 0, x.opcode, 0x03, 0xFFFF, x.tag, x.logMbx, sha256 [], l.digest⟩

/-- The checks of the first accepted commit end. -/
def Dev.checksEnd (d : Dev) (m : Dram) : Dev × List DramOp :=
  match d.layers.checking, d.commitJob with
  | c :: rest, some j =>
    let r := d.checkLayer m d.layers.early c.descAddr
    let d1 := { r.1 with layers := { r.1.layers with checking := rest } }
    match r.2.2 with
    | .inl f =>
      let st := checkStatus f.1
      ((d1.finish j st.1 st.2 (u32 f.2)).nextCheck, r.2.1)
    | .inr l =>
      let d2 := { d1 with layers := { d1.layers with queue := d1.layers.queue ++ [{ l with descAddr := c.descAddr }] } }
      (((d2.logLayer j l).finish j 0 0 (l.outcome d2.layers.queue.length)).nextCheck, r.2.1)
  | _, _ => (d, [])

def execLayerChecksComplete (s : State) : Out :=
  onMem .layerChecksComplete (fun m d => if d.coxRuns then d.checksEnd m else (d, [])) s

/-! ## Release and close (R29 to R32) -/

/-- R29: every condition of the release holds for the layer at the head of the queue. -/
def Dev.releaseDue (d : Dev) : Bool :=
  match d.layers.queue with
  | [] => false
  | l :: _ =>
    d.mode.mode == .build && d.layers.released.isNone &&
      ((d.layers.recoatDone && d.img.ready) || (d.layers.firstSinceReset && l.desc.noRecoat))

/-- The Marshal at the release of a layer (R104, R135, R157). -/
def Marshal.begin (m : Marshal) (c : Desc) : Marshal :=
  { m with
    inHorizon := m.horizon
    inBalance := m.balance
    inOrphan := m.orphanMs
    nextRec := 0
    parse := ParseState.start
    skipped := []
    window := []
    repairs := []
    waitRepairs := []
    pending := []
    oars := m.oars.map fun o => { o with buf := [], run := none, keptFor := none }
    orphanRaised := false
    lastTau := some c.thermTau }

def Dev.releaseLayer (d : Dev) : Dev :=
  let d1 := d.layerWaited
  match d1.layers.queue with
  | [] => d
  | l :: rest =>
    { d1 with
      layers := { d1.layers with queue := rest, released := some l, firstSinceReset := false, recoatDone := false, recoatStarted := false }
      mar := d1.mar.begin l.desc
      gov := { d1.gov with layerPlant := l.desc.plantBudget } }

def execFenceRelease (s : State) : Out := onDev .fenceRelease (fun _ d => if d.releaseDue then d.releaseLayer else d) s

/-- LINE and DOT records of a layer. -/
def LayerRec.strokeCount (l : LayerRec) : Nat := l.counts.getD 0 0 + l.counts.getD 1 0

/-- R31, R80, R81, R100: every stroke is settled and no block is damaged. -/
def LayerRec.mayClose (l : LayerRec) : Bool := l.settled = l.strokeCount && l.damaged = []

/-- The released layer's fence closes: the record is kept, LAYER is raised, the pool is gone (R31, R89, R102, R107). -/
def Dev.closeFence (d : Dev) : Dev :=
  match d.layers.released with
  | none => d
  | some l =>
    let d1 := { d with
      layers := { d.layers with
        released := none
        closed := (l :: d.layers.closed).take 8
        waitSince := if d.layers.queue.isEmpty then some d.now else none
        afterSafe := false }
      mar := { d.mar with window := [], repairs := [], waitRepairs := [], pending := [], skipped := [] }
      gov := { d.gov with layerPlant := if l.desc.plantBudget = 0 then d.gov.layerPlant else 0 } }
    (d1.raise 17).takeDeferred

def Dev.fenceCloseDue (d : Dev) : Bool := (d.layers.released.map LayerRec.mayClose).getD false

def execFenceClose (s : State) : Out := onDev .fenceClose (fun _ d => if d.fenceCloseDue then d.closeFence else d) s

/-! ## `layer.cancel`, `layer.abandon` (R99) -/

/-- The commits accepted and not yet checked end ABORTED, from the n-th on. -/
def Dev.abortChecks (d : Dev) (n : Nat) : Dev :=
  let js := (d.host.jobs.filter fun j => match j.kind with | .layerCommit _ => true | _ => false).drop n
  let d1 := js.foldl (fun d j => d.finish j 0x31 0 []) d
  let ls := { d1.layers with checking := d1.layers.checking.take n }
  { d1 with layers := { ls with early := if n = 0 then none else ls.early } }

def layersForm (ls : List LayerRec) : List Byte := listOf (fun (l : LayerRec) => u32 l.desc.layer) ls

/-- A cancelled head takes the recoat made for it along: one that runs runs out (DEDUCED, log 46). -/
def Layers.dropRecoat (l : Layers) : Layers :=
  if l.recoatDone then { l with recoatDone := false, recoatStarted := false }
  else if l.recoatStarted then { l with recoatVoid := true } else l

def layerCancelBody (layer : Nat) : Body := fun x _ d =>
  let q := d.layers.queue
  let n := q.findIdx fun l => l.desc.layer = layer
  let c := d.layers.checking.findIdx fun l => l.desc.layer = layer
  if (d.layers.released.map fun l => decide (l.desc.layer = layer)).getD false then refusedBusy 0xFFFFFFFF
  else if n < q.length then
    let gone := q.drop n ++ d.layers.checking
    let d1 := d.abortChecks 0
    let ls := { d1.layers with queue := q.take n }
    let d2 := { d1 with layers := if n = 0 then ls.dropRecoat else ls }
    .done (d2.log x 0x03 0xFFFF (layersForm (q ++ d.layers.checking)) (layersForm (q.take n))) (layersForm gone)
  else if c < d.layers.checking.length then
    let d1 := d.abortChecks c
    .done (d1.log x 0x03 0xFFFF (layersForm (q ++ d.layers.checking)) (layersForm (q ++ d.layers.checking.take c)))
      (layersForm (d.layers.checking.drop c))
  else badArg

def execLayerCancel (mbx layer : Nat) (s : State) : Out := runCmd (.layerCancel mbx layer) (layerCancelBody layer) s

/-- SEQ of the strokes of the released layer that have not been read. -/
def Dev.unreadSeqs (d : Dev) (l : LayerRec) : List Nat := ((l.blocks.flatMap (·.strokes)).map (·.seq)).filter d.mar.unread

/-- Every unsettled stroke reported as not exposed; repairs that wait end as ABANDONED (R99, R150). -/
def Dev.abandonAll (d : Dev) (l : LayerRec) : Dev :=
  let us := d.unsettled
  let seqs := (us.map (·.seq) ++ d.unreadSeqs l).insertionSort (· ≤ ·)
  let d1 := us.foldl (fun d s => if s.repair.isSome then d.setOutcome s.seq 6 0xFF else d) d
  let d2 := d1.release Requester.isStroke
  d2.onLayer fun l => { l with notExposed := l.notExposed ++ seqs, settled := l.strokeCount, damaged := [] }

def layerAbandonBody (layer : Nat) : Body := fun x _ d =>
  if d.mode.mode == .ready && ! d.layers.afterSafe then refusedMode 0xFF09
  else match d.layers.released with
    | none => badArg
    | some l =>
      if l.desc.layer ≠ layer then badArg
      else
        let d1 := (d.abandonAll l).closeFence
        .done (d1.log x 0x03 0xFFFF l.digest []) (u32 (l.strokeCount - l.settled))

def execLayerAbandon (mbx layer : Nat) (s : State) : Out := runCmd (.layerAbandon mbx layer) (layerAbandonBody layer) s

/-! ## `layer.reload` (R100, R101) -/

/-- The bytes of a block of a list. -/
def LayerRec.blockLen (l : LayerRec) (b : Nat) : Nat := min 65536 (32 * l.desc.listCount - 65536 * b)

/-- One damaged block compared with its stored CRC: whether it is sound. -/
def Dev.blockSound (d : Dev) (m : Dram) (l : LayerRec) (b : Nat) : Dev × List DramOp × Bool :=
  let r := d.hostData m (l.desc.listAddr + 65536 * b) (l.blockLen b)
  (r.1, r.2.1, match r.2.2 with | some bs => crc32c bs = (nth l.blocks b).crc | none => false)

/-- A committed layer changed, wherever it stands. -/
def Dev.onCommitted (d : Dev) (layer : Nat) (f : LayerRec → LayerRec) : Dev :=
  let g := fun (l : LayerRec) => if l.desc.layer = layer then f l else l
  { d with layers := { d.layers with released := d.layers.released.map g, queue := d.layers.queue.map g } }

/-- R101. A count of 0 is BAD_ARG; blocks that match are marked sound although another still fails and the answer is BAD_ARG, which
R417 lets change no state (DESIGN CHOICE, log 149). -/
def layerReloadBody (layer first count : Nat) : Body := fun _ m d =>
  match d.layers.committed.find? fun l => l.desc.layer = layer with
  | none => badArg
  | some l =>
    if count = 0 ∨ l.blocks.length < first + count then badArg
    else
      let bs := ((List.range count).map (first + ·)).filter l.damaged.contains
      let r := bs.foldl (fun (q : Dev × List DramOp × List Nat × List Nat) b =>
        let x := q.1.blockSound m l b
        (x.1, q.2.1 ++ x.2.1, if x.2.2 then q.2.2.1 ++ [b] else q.2.2.1, if x.2.2 then q.2.2.2 else q.2.2.2 ++ [b]))
        (d, [], [], [])
      let d1 := r.1.onCommitted layer fun l => { l with damaged := l.damaged.filter fun b => ! r.2.2.1.contains b }
      match r.2.2.2 with
      | [] => .ok d1 (listOf u32 r.2.2.1) r.2.1
      | b :: _ => .refuseWith d1 0x21 b 0 [] r.2.1

def execLayerReload (mbx layer first count : Nat) (s : State) : Out :=
  runCmd (.layerReload mbx layer first count) (layerReloadBody layer first count) s

/-! ## `layer.status`, `layer.report` (R102, R154) -/

/-- 0 CHECKING, 1 QUEUED, 2 RELEASED, 3 RELOAD, 4 CLOSED (DESIGN CHOICE, log 12). -/
def LayerRec.statusBytes (l : LayerRec) (st : Nat) : List Byte :=
  u32 (if st = 2 ∧ l.damaged ≠ [] then 3 else st) ++ u32 l.desc.layer ++
  (if l.digest = [] then List.replicate 32 0 else l.digest) ++ listOf u32 l.damaged ++ u32 l.settled ++ u32 l.strokeCount

/-- Every layer with its state, in ascending `LAYER` (R577 for instances; DESIGN CHOICE, log 149). -/
def Layers.all (l : Layers) : List (Nat × LayerRec) :=
  (l.closed.map (4, ·) ++ l.released.toList.map (2, ·) ++ l.queue.map (1, ·) ++ l.checking.map (0, ·)).insertionSort fun a b =>
    a.2.desc.layer ≤ b.2.desc.layer

def layerStatusBody (layer : Option Nat) : Body := fun _ _ d =>
  let ls := match layer with
    | none => d.layers.all
    | some n => d.layers.all.filter fun l => l.2.desc.layer = n
  if layer.isSome ∧ ls = [] then badArg else .done d (listOf (fun (l : Nat × LayerRec) => l.2.statusBytes l.1) ls)

def execLayerStatus (mbx : Nat) (layer : Option Nat) (s : State) : Out := runCmd (.layerStatus mbx layer) (layerStatusBody layer) s

/-- Ticks as whole µs of a 32-bit field. -/
def usField (ticks : Nat) : List Byte := u32 (min (ticks / 4) (2 ^ 32 - 1))

/-- The 64 bytes of R154. -/
def OarStat.bytes (t : OarStat) : List Byte :=
  u32 t.exposed ++ u32 t.contour ++ usField t.markTicks ++ usField t.jumpTicks ++ usField t.idleTicks ++ usField t.heldTicks ++
  u32 t.returned ++ u16 (min t.interrupted 65535) ++ u16 (min t.repairs 65535) ++ u32 t.wakeBreach ++ u32 t.clamped ++
  usField t.leaveWait ++ List.replicate 20 0

def LayerStat.bytes (t : LayerStat) : List Byte :=
  t.reasons.flatMap u32 ++ u32 t.zeroLength ++ u32 t.notExposed ++ u32 t.unexposable ++ u32 t.overrun ++ u32 t.maxAgeUs ++
  usField t.waitTicks

/-- The records of R154: one for each oar of E in rising order, then the layer-wide counts. -/
def Dev.statBytes (d : Dev) (l : LayerRec) : List Byte :=
  ((bitsOf 32 d.eMask).flatMap fun k => (nth l.stats k).bytes) ++ l.total.bytes

/-- The completion record of a closed layer (R31, R151, R154): LAYER, INTERRUPTED_OVERFLOW, statistics, strokes. -/
def Dev.reportBytes (d : Dev) (l : LayerRec) : List Byte :=
  u32 l.desc.layer ++ u32 (boolN l.intOverflow) ++ d.statBytes l ++ u32 l.ints.length ++ listOf u32 l.unexposable ++
  listOf u32 l.notExposed

def layerReportBody (layer : Nat) : Body := fun _ _ d =>
  match d.layers.closed.find? fun l => l.desc.layer = layer with
  | some l => .done d (d.reportBytes l)
  | none => badArg

def execLayerReport (mbx layer : Nat) (s : State) : Out := runCmd (.layerReport mbx layer) (layerReportBody layer) s

end Sys2Proof.Machine
end

