-- ==== Sys2Proof/Machine/FlightOps.lean ====
section
/-! DEFINITION. Flight of an exposure engine: the reference trajectory and its set-points (R159, R166), planning of a
jump (R160 to R163), arrival at the lead-in start, hold and re-approach (R130, R165, R166), the engine's stop, COMPAT
(R195). -/

namespace Sys2Proof.Machine

/-! ## The reference trajectory -/

/-- Distance to the catch, speed and acceleration of a re-approach after t frames (R166). -/
def softAt (ell v t : Rat) : Rat × Rat × Rat :=
  let span := 2 * ell / v
  if span ≤ t then (v * (t - span), v, 0)
  else
    let x := max 0 t / span
    (-ell + v * span * (x ^ 3 - x ^ 4 / 2), v * (3 * x ^ 2 - 2 * x ^ 3), v / span * (6 * x - 6 * x ^ 2))

/-- Axis states at a point of a line, passed at a speed and an along-track acceleration. -/
def View.track (w : View) (x y : Rat) (focus : Int) (u : Rat × Rat) (v a : Rat) : List AxisState :=
  let m := w.moving x y focus u v true
  (List.range 3).map fun f =>
    let b := nth m f
    match w.grid with
    | some g =>
      let s := g.slopes f (x + w.t.x) (y + w.t.y)
      { b with al := b.al + (s.1 * u.1 + s.2 * u.2) * a }
    | none => b

/-- Axis states of a piece of trajectory t frames after its start. -/
def Dev.trajAt (d : Dev) (k : Nat) (tr : Traj) (t : Rat) : List AxisState :=
  match tr with
  | .rest th => th.map fun (x : Rat) => ⟨x, 0, 0⟩
  | .poly q => q.coeff.map fun (c : List Rat) =>
      let n : Rat := q.frames
      if t ≤ n then (polyAt c t).1
      else
        let e := (polyAt c n).1
        ⟨e.th + e.om * (t - n), e.om, 0⟩
  | .line px py ux uy d0 v focus temp =>
    (d.view k temp).track (px + (d0 + v * t) * ux) (py + (d0 + v * t) * uy) focus (ux, uy) v 0
  | .soft px py ux uy ell v focus temp =>
    let q := softAt ell v t
    (d.view k temp).track (px + q.1 * ux) (py + q.1 * uy) focus (ux, uy) q.2.1 q.2.2

/-- The piece in force at an instant in frames. -/
def Engine.pieceAt (e : Engine) (t : Rat) : Rat × Traj :=
  ((e.traj.find? fun p => p.1 ≤ t).orElse fun _ => e.traj.getLast?).getD (0, .rest (e.ref.map fun (x : Int) => (x : Rat)))

def Dev.refAt (d : Dev) (k : Nat) (t : Rat) : List AxisState :=
  let p := (nth d.eng k).pieceAt t
  d.trajAt k p.2 (max 0 (t - p.1))

/-- The reference point in the bed where a piece is flown on a line. -/
def Traj.bedAt (tr : Traj) (t : Rat) : Option (Rat × Rat) :=
  match tr with
  | .line px py ux uy d0 v _ _ => some (px + (d0 + v * t) * ux, py + (d0 + v * t) * uy)
  | .soft px py ux uy ell v _ _ => let q := softAt ell v t; some (px + q.1 * ux, py + q.1 * uy)
  | _ => none

/-- Set-points of the next tick, with the rates and accelerations passed beside them (R159). -/
def Dev.setPoints (d : Dev) (k : Nat) : List Int × List Rat × List Rat :=
  let n : Rat := (d.now : Rat) + 1
  let p := (nth d.eng k).pieceAt n
  let s := d.trajAt k p.2 (max 0 (n - p.1))
  match p.2 with
  | .rest _ | .poly _ => (s.map fun a => roundRat a.th, s.map (·.om), s.map (·.al))
  | _ =>
    let c1 := (d.trajAt k p.2 (n - 1 - p.1)).map (·.th)
    let c2 := (d.trajAt k p.2 (n - 2 - p.1)).map (·.th)
    let c0 := s.map (·.th)
    (c0.map roundRat, (List.range 3).map fun i => nth c0 i - nth c1 i,
      (List.range 3).map fun i => nth c0 i - 2 * nth c1 i + nth c2 i)

/-- Pieces that no sample reaches back to are dropped. -/
def pruneTraj (t : Rat) : List (Rat × Traj) → List (Rat × Traj)
  | [] => []
  | p :: ps => if p.1 ≤ t then [p] else p :: pruneTraj t ps

/-- A new piece from an instant in frames on. -/
def Dev.fly (d : Dev) (k : Nat) (start : Rat) (tr : Traj) : Dev :=
  d.onEng k fun e => { e with traj := (start, tr) :: pruneTraj ((d.now : Rat) - 64) e.traj }

/-- The quintics of a jump, one after the other, from a tick on. -/
def Dev.flyParts (d : Dev) (k : Nat) (start : Nat) (parts : List Quintic) : Dev :=
  (parts.foldl (fun (p : Dev × Nat) q => (p.1.fly k p.2 (.poly q), p.2 + q.frames)) (d, start)).1

def framesOf (parts : List Quintic) : Nat := (parts.map (·.frames)).sum

/-! ## Speeds and distances of a stroke -/

def Dev.psetOf (d : Dev) (s : Stroke) : ParamSet := d.lib.pset s.pset

/-- MARK_SPEED and JUMP_SPEED in bed LSB per frame. -/
def Dev.markV (d : Dev) (s : Stroke) : Rat := perFrame (d.psetOf s).markSpeed
def Dev.jumpV (d : Dev) (s : Stroke) : Rat := perFrame (d.psetOf s).jumpSpeed

/-- A distance in µm as bed LSB. -/
def umLsb (n : Nat) : Nat := 64 * n

/-- LEAD_IN, and ℓ of R165. -/
def Dev.leadLsb (d : Dev) (s : Stroke) : Nat := umLsb (d.psetOf s).leadIn
def Dev.ellLsb (d : Dev) (k : Nat) (s : Stroke) : Nat :=
  umLsb (max (d.psetOf s).leadIn (nth d.eng k).motion.reapproachMin)

/-- Time of the mark in frames: the length at MARK_SPEED, or the dwell. -/
def Dev.markFrames (d : Dev) (s : Stroke) : Rat := if s.dot then (s.dwell : Rat) / 25 else s.len / d.markV s

/-- The midpoint of the 1 mm step i of a stroke (R139), P for a DOT. -/
def Stroke.stepMid (s : Stroke) (i : Nat) : Int × Int :=
  if s.dot ∨ s.len = 0 then (s.x0, s.y0)
  else s.at (((i : Rat) * 64000 + min s.len ((i + 1 : Nat) * 64000)) / 2 / s.len)

/-- The scale of step i as the thermal map has it now. -/
def Dev.stepScale (d : Dev) (s : Stroke) (i : Nat) : Nat :=
  let p := s.stepMid i
  d.scaleAt (d.psetOf s).thermTable p.1 p.2

/-! ## Planning (R160, R161, R163, R165) -/

/-- A proof of oar k's cut path is due or runs: no jump starts until it is over (R471). -/
def Dev.proofHolds (d : Dev) (k : Nat) : Bool :=
  (match d.ump.proof with | some p => p.oar = k | none => false) ||
    (d.provable k && d.proofDue k && (! d.ump.closed.getLsbD k || d.ump.proof.isNone))

/-- A slot of oar k lies on a processor that has failed, its migration still to come (R223). -/
def Dev.procGone (d : Dev) (k : Nat) : Bool :=
  (List.range 128).any fun n => slotOar n = some k && ! nth d.loops.inService (d.slot n).proc

/-- A jump is to be planned: a stroke is held, and the engine is idle, is being brought to rest after a stroke was taken
from it, or exposes with no jump ready. -/
def Dev.planDue (d : Dev) (k : Nat) : Bool :=
  let e := nth d.eng k
  d.mode.mode == .build && (nth d.mar.oars k).buf ≠ [] && e.next.isNone &&
    ((e.cur.isNone && (e.phase == .idle || (e.phase == .stopping && e.fromObs))) || e.exposing) && ! d.proofHolds k && ! d.procGone k

/-- A complete blend is adopted (R44). -/
def Dev.adoptGrid (d : Dev) (k : Nat) : Dev :=
  { d with geo := { d.geo with oars := upd d.geo.oars k fun o =>
    match o.ready with
    | some g => { o with grid := some g, ready := none }
    | none => o } }

/-- The temperature of oar k's working grid. -/
def Dev.gridTemp (d : Dev) (k : Nat) : Int := ((nth d.geo.oars k).grid.map (·.temp)).getD 0

/-- R130, R187: a lead-in may begin. -/
def Dev.catchClear (d : Dev) (k : Nat) (s : Stroke) : Bool :=
  let e := nth d.eng k
  d.wakeClear s k && e.len && e.lenSettled

/-- State A of R161, seen on a working grid: the finish of the stroke in hand, a hold, or the observer's estimate. -/
def Dev.jumpStart (d : Dev) (k : Nat) (temp : Int) : JumpEnd :=
  let e := nth d.eng k
  let w := d.view k temp
  match e.exposing, e.cur with
  | true, some b =>
    let s := b.item.stroke
    ⟨s.qx, s.qy, w.moving s.qx s.qy (d.psetOf s).focusOffset s.dir (if s.dot then 0 else d.markV s) false⟩
  | _, _ =>
    if e.fromObs then
      let p := d.beamBed k temp
      let t := (d.psNow - e.obsPs) / 250000
      ⟨p.1, p.2, e.obs.map fun (a : AxisState) => ⟨a.at t, a.om + a.al * t, a.al⟩⟩
    else ⟨e.posX, e.posY, (d.refAt k d.now).map fun (a : AxisState) => ⟨a.th, 0, 0⟩⟩

/-- State B of R161: L at the mark velocity, L′ at rest, or P at rest for a DOT (R165, R178). -/
def Dev.jumpGoal (d : Dev) (k : Nat) (temp : Int) (s : Stroke) (hold : Bool) : JumpEnd :=
  let w := d.view k temp
  let f := (d.psetOf s).focusOffset
  if s.dot then ⟨s.x0, s.y0, w.resting s.x0 s.y0 f⟩
  else if hold then
    let p := s.along (-(d.ellLsb k s : Rat))
    ⟨p.1, p.2, w.resting p.1 p.2 f⟩
  else
    let p := s.along (-(d.leadLsb s : Rat))
    ⟨p.1, p.2, w.moving p.1 p.2 f s.dir (d.markV s) true⟩

/-- The stroke before the next one: the one in hand, or the last finished. -/
def Engine.before (e : Engine) : Option Stroke := ((e.cur.map (·.item.stroke)).orElse fun _ => e.prev)

/-- Vb of R163. -/
def Dev.jumpVb (d : Dev) (k : Nat) (s : Stroke) : Rat :=
  max (max (d.jumpV s) (d.markV s)) ((((nth d.eng k).before).map d.markV).getD 0)

/-- A jump planned under an engine's limits, its SPLIT and JUMP_LIMIT counted (R163). -/
def Dev.plan (d : Dev) (k : Nat) (temp : Int) (focus : Int) (vb : Rat) (a b : JumpEnd) : List Quintic × Dev :=
  let r := planJump (d.view k temp) ((nth d.eng k).motion.lims vb) focus a b
  (r.1, d.onEng k fun e => { e with jumpSplit := e.jumpSplit + boolN r.2.1, jumpLimit := e.jumpLimit + r.2.2 })

/-- The jump into a stroke of oar k. In COMPAT it is flown as a straight line and has no quintic (R195). -/
def Dev.planInto (d0 : Dev) (k : Nat) (b : BufStroke) : JumpPlan × Dev :=
  let d := d0.adoptGrid k
  let s := b.item.stroke
  let temp := d.gridTemp k
  let hold := ! d.wakeClear s k
  let lat := (nth d.eng k).lat
  if d.boot.compat then (⟨s.seq, [], hold, temp, lat⟩, d)
  else
    let r := d.plan k temp (d.psetOf s).focusOffset (d.jumpVb k s) (d.jumpStart k temp) (d.jumpGoal k temp s hold)
    (⟨s.seq, r.1, hold, temp, lat⟩, r.2)

/-! ## Starting a jump -/

/-- Length of a COMPAT jump in frames. -/
def Dev.compatJump (d : Dev) (k : Nat) (s : Stroke) : Rat :=
  let e := nth d.eng k
  sqrtRat ((((s.x0 - e.posX) ^ 2 + (s.y0 - e.posY) ^ 2 : Int)) : Rat) / d.jumpV s

/-- The reference runs straight to P at JUMP_SPEED and stops there (R195). -/
def Dev.flyCompat (d : Dev) (k : Nat) (t0 : Nat) (temp : Int) (s : Stroke) : Dev :=
  let e := nth d.eng k
  let f := (d.psetOf s).focusOffset
  let n := d.compatJump k s
  let v := d.jumpV s
  let dist := n * v
  let u : Rat × Rat := if dist = 0 then (1, 0) else (((s.x0 - e.posX : Int) : Rat) / dist, ((s.y0 - e.posY : Int) : Rat) / dist)
  let d1 := d.fly k t0 (.line e.posX e.posY u.1 u.2 0 v f temp)
  d1.fly k (t0 + n) (.rest (((d.view k temp).chain s.x0 s.y0 f).map fun (x : Int) => (x : Rat)))

/-- COMPAT: the mark trajectory of a stroke runs from an instant in ps on, and the beam stands at its end (R195). -/
def Dev.flyMark (d : Dev) (k : Nat) (temp : Int) (s : Stroke) (start : Rat) : Dev :=
  if s.dot then d
  else
    let u := s.dir
    let f := (d.psetOf s).focusOffset
    let d1 := d.fly k (start / 250000) (.line s.x0 s.y0 u.1 u.2 0 (d.markV s) f temp)
    d1.fly k (start / 250000 + d.markFrames s) (.rest (((d.view k temp).chain s.qx s.qy f).map fun (x : Int) => (x : Rat)))

/-- The lead-in of a LINE that a jump ends into in flight: its line follows the jump from the instant of arrival on, and
runs back before it for the differences of R159. -/
def Dev.flyLead (d : Dev) (k : Nat) (p : JumpPlan) (s : Stroke) (start : Rat) : Dev :=
  if s.dot || p.hold then d
  else d.fly k start (.line s.x0 s.y0 s.dir.1 s.dir.2 (-(d.leadLsb s : Rat)) (d.markV s) (d.psetOf s).focusOffset p.gridTemp)

/-- The jump planned into a stroke begins at a tick, with what follows it. -/
def Dev.startJump (d : Dev) (k : Nat) (b : BufStroke) (p : JumpPlan) (t0 : Nat) : Dev :=
  let s := b.item.stroke
  let frames : Rat := if d.boot.compat then d.compatJump k s else framesOf p.parts
  let mark : Rat := 250000 * (t0 + frames) + 10000 * ((d.psetOf s).jumpDelay : Rat)
  let d1 := if d.boot.compat then (d.flyCompat k t0 p.gridTemp s).flyMark k p.gridTemp s mark
    else (d.flyParts k t0 p.parts).flyLead k p s (t0 + frames)
  d1.onEng k fun e =>
    { e with
      phase := .jump
      cur := some b
      plan := some p
      next := none
      fromObs := false
      loose := false
      scales := []
      t0 := t0
      settle := []
      jumpEndPs := 250000 * (t0 + frames)
      markPs := mark
      reflown := false
      holdSince := none
      disagreed := false
      clampedStroke := false }

/-! ## The offered set (R60, R109, R147, R149) -/

/-- R147: under OTHER the interrupted oar is not offered its repair. -/
def Dev.barred (d : Dev) (s : Stroke) (k : Nat) : Bool := d.relDesc.repairPolicy = 2 && (s.repair.map (·.1)) == some k

/-- G AND E AND NOT D AND NOT T. -/
def Dev.offeredSet (d : Dev) (s : Stroke) : List Nat := (oars32.filter s.elig.getLsbD).filter d.mayWork

/-- The offered set of R60 and R147. -/
def Dev.offeredTo (d : Dev) (s : Stroke) : List Nat := (d.offeredSet s).filter fun k => ! d.barred s k

/-- G AND E. -/
def Dev.eligible (d : Dev) (s : Stroke) : List Nat := (oars32.filter s.elig.getLsbD).filter d.oarExists

/-- Whether a later member of the stroke's run is still to be exposed. -/
def Dev.runLeft (d : Dev) (s : Stroke) : Bool :=
  match s.run with
  | some r => (d.runMembers r).any fun m => s.seq < m.1
  | none => false

/-- The oars of a run member: the run's, or those offered for every member that remains. A repair takes the run's oar
where it is offered (R149). -/
def Dev.runOars (d : Dev) (s : Stroke) (os : List Nat) : List Nat :=
  match s.run with
  | none => os
  | some r =>
    match d.runOar r with
    | some k => if s.repair.isSome && ! os.contains k then os else os.filter (· = k)
    | none =>
      let all := os.filter fun k => (d.runG r s.seq).testBit k
      if s.repair.isSome && all = [] then os else all

/-- R112: the oar is kept by another run, or has a stroke outside this run on its way. -/
def Dev.reserved (d : Dev) (s : Stroke) (k : Nat) : Bool :=
  (match (nth d.mar.oars k).run with | some r => s.run ≠ some r | none => false) ||
    d.mar.pending.any fun p => p.oar = k && p.item.stroke.run ≠ s.run

/-- O of R109 before `taken`. -/
def Dev.offers (d : Dev) (i : PoolItem) : List Nat :=
  let s := i.stroke
  let o1 := d.offeredTo s
  let o2 := match i.bound with | some k => o1.filter (· = k) | none => o1
  (d.runOars s o2).filter fun k => ! d.reserved s k

/-! ## From the buffer -/

/-- A senior stroke deferred for BUFFER keeps the entry that frees in an oar offered to it (R118). -/
def Dev.keepEntry (d : Dev) (k : Nat) : Dev :=
  let ss := (d.mar.window ++ d.mar.repairs).filter fun i =>
    i.senior && i.last = 6 && (d.offers i).contains k
  match ss.foldl (fun (m : Option PoolItem) i => match m with
      | some x => if (i.deferred.getD 0) < (x.deferred.getD 0) then some i else m
      | none => some i) none with
  | some i => d.onMar fun m => { m with oars := upd m.oars k fun o => { o with keptFor := some i.stroke.seq } }
  | none => d

/-- The head of oar k's buffer is taken and the jump into it planned; from idle it starts at the next tick. -/
def Dev.jumpPlanning (d : Dev) (k : Nat) : Dev :=
  if ! d.planDue k then d
  else match (nth d.mar.oars k).buf with
    | [] => d
    | b :: rest =>
      let d1 := (d.onMar fun m => { m with oars := upd m.oars k fun o => { o with buf := rest } }).keepEntry k
      let r := d1.planInto k b
      let e := nth r.2.eng k
      if e.exposing then r.2.onEng k fun e => { e with next := some (b, r.1) }
      else r.2.startJump k b r.1 (max (d.now + 1) e.t0)

/-! ## Arrival (R130, R165, R187) -/

/-- The catch check of R129 at a hold: the tick since which it has failed. What holds for LEN alone (R187) is no failure. -/
def Dev.checkHold (d : Dev) (k : Nat) (s : Stroke) : Dev :=
  d.onEng k fun e => { e with holdSince := if d.wakeClear s k then none else some (e.holdSince.getD d.now) }

def Dev.holdAt (d : Dev) (k : Nat) : Dev :=
  let d1 := d.onEng k fun e => { e with phase := .hold, holdSince := none }
  match (nth d.eng k).cur with
  | some b => d1.checkHold k b.item.stroke
  | none => d1

/-- Where the reference stands in the bed: on its line, or at the lead-in start. -/
def Dev.refBed (d : Dev) (k : Nat) (s : Stroke) (t : Rat) : Rat × Rat :=
  let p := (nth d.eng k).pieceAt t
  (p.2.bedAt (t - p.1)).getD (if s.dot then ((s.x0 : Rat), (s.y0 : Rat)) else s.along (-(d.leadLsb s : Rat)))

/-- A quintic from the state in hand to rest at L′ (R165, R177). -/
def Dev.stopToHold (d : Dev) (k : Nat) (s : Stroke) : Dev :=
  let n : Rat := (d.now : Rat) + 1
  let temp := d.engTemp k
  let p := d.refBed k s n
  let r := d.plan k temp (d.psetOf s).focusOffset (d.jumpVb k s) ⟨p.1, p.2, d.refAt k n⟩ (d.jumpGoal k temp s true)
  let d1 := r.2.flyParts k (d.now + 1) r.1
  let until' : Rat := 250000 * ((d.now + 1 + framesOf r.1 : Nat) : Rat)
  d1.onEng k fun e => { e with phase := .stopping, t0 := d.now + 1, jumpEndPs := until', settle := [], edges := [] }

/-- The scale of the first step is read as the catch check passes (R139). -/
def Dev.readFirstScale (d : Dev) (k : Nat) (s : Stroke) : Dev := d.onEng k fun e => { e with scales := [(0, d.stepScale s 0)] }

/-- COMPAT: JUMP_DELAY runs; after a hold it begins now, with the mark trajectory behind it (R195). -/
def Dev.compatMark (d : Dev) (k : Nat) (s : Stroke) : Dev :=
  let e := nth d.eng k
  if e.phase == .hold then
    let start := max e.jumpEndPs d.psNow + 10000 * ((d.psetOf s).jumpDelay : Rat)
    (d.flyMark k (d.engTemp k) s start).onEng k fun e => { e with phase := .wait, markPs := start, holdSince := none }
  else d.onEng k fun e => { e with phase := .wait }

/-- COMPAT: the beam stands at P until the catch is clear. -/
def Dev.compatHold (d : Dev) (k : Nat) (s : Stroke) : Dev :=
  d.fly k d.now (.rest (((d.view k (d.engTemp k)).chain s.x0 s.y0 (d.psetOf s).focusOffset).map fun (x : Int) => (x : Rat)))

/-- The lead-in, or the settling of a DOT, begins: in flight at L, or as a re-approach from rest at L′ (R158, R166). -/
def Dev.beginLead (d0 : Dev) (k : Nat) (s : Stroke) (atRest : Bool) : Dev :=
  let d := d0.readFirstScale k s
  let temp := d.engTemp k
  let f := (d.psetOf s).focusOffset
  let u := s.dir
  if d.boot.compat then d.compatMark k s
  else if s.dot then d.onEng k fun e => { e with phase := .settle, settleSince := d.now, holdSince := none }
  else if atRest then
    let d1 := d.fly k ((d.now : Rat) + 1) (.soft s.x0 s.y0 u.1 u.2 (d.ellLsb k s) (d.markV s) f temp)
    d1.onEng k fun e =>
      { e with
        phase := .reapproach
        reflown := true
        reflownCount := e.reflownCount + 1
        holdSince := none
        t0 := d.now + 1 }
  else d.onEng k fun e => { e with phase := .leadIn, t0 := d.now }

/-- The beam arrives: at the lead-in start, at rest at L′, or at P. -/
def Dev.jumpEnd (d : Dev) (k : Nat) : Dev :=
  let e := nth d.eng k
  match e.cur, e.plan with
  | some b, some p =>
    let s := b.item.stroke
    if ! (e.phase == .jump || e.phase == .stopping) || d.psNow < e.jumpEndPs then d
    else if e.phase == .stopping || (p.hold && ! s.dot && ! d.boot.compat) then d.holdAt k
    else if d.boot.compat && (e.exposing || e.edges ≠ []) then d.onEng k fun e => { e with phase := .mark }
    else if d.catchClear k s then d.beginLead k s false
    else if d.boot.compat then (d.compatHold k s).holdAt k
    else if s.dot then d.holdAt k
    else d.stopToHold k s
  | _, _ => d

/-- The check of a beam that holds, repeated at every dispatch cycle (R130). -/
def Dev.holdCheck (d : Dev) (k : Nat) : Dev :=
  let e := nth d.eng k
  match e.phase, e.cur with
  | .hold, some b => if d.catchClear k b.item.stroke then d.beginLead k b.item.stroke true else d.checkHold k b.item.stroke
  | _, _ => d

/-- A reason of R110 recorded: the stroke is counted for it once; a deferral starts its age (R118). -/
def Dev.noteReason (d : Dev) (i : PoolItem) (code : Nat) : PoolItem × Dev :=
  let j := { i with
    reasons := i.reasons ||| 2 ^ code
    last := code
    deferred := if 5 ≤ code then some (i.deferred.getD d.timeNs) else i.deferred }
  (j, if i.reasons.testBit code then d else d.layerStat fun t => { t with reasons := upd t.reasons (code - 1) (· + 1) })

/-- A stroke whose check has failed for WAKE_LIFE goes back to the pool; the engine stays where the beam rests (R130).
It stands with the returned strokes, place 3 of R105 (DESIGN CHOICE, log 150). -/
def Dev.giveBack (d : Dev) (k : Nat) : Dev :=
  let e := nth d.eng k
  match e.phase, e.cur, e.holdSince with
  | .hold, some b, some t =>
    let s := b.item.stroke
    if d.wakeClear s k || d.now < t + usT d.relDesc.wakeLife then d
    else
      let p := if s.dot then ((s.x0 : Rat), (s.y0 : Rat)) else s.along (-(d.ellLsb k s : Rat))
      let d1 := d.onEng k fun e =>
        let x := e.drop
        { x with fromObs := false, loose := false, posX := roundRat p.1, posY := roundRat p.2 }
      let r := d1.noteReason b.item 7
      r.2.returnStroke k true { b with item := r.1 }
  | _, _, _ => d

/-! ## After a finish (R163, R195) -/

/-- The beam is brought to rest at the finish by a quintic; in COMPAT it stands there. -/
def Dev.stopAtFinish (d : Dev) (k : Nat) (s : Stroke) (t0 : Nat) : Dev :=
  let temp := d.engTemp k
  if s.dot || d.boot.compat then
    d.onEng k fun e => { e with cur := none, plan := none, phase := .idle, t0 := t0 }
  else
    let f := (d.psetOf s).focusOffset
    let w := d.view k temp
    let a : JumpEnd := ⟨s.qx, s.qy, w.moving s.qx s.qy f s.dir (d.markV s) false⟩
    let r := d.plan k temp f (d.jumpVb k s) a ⟨s.qx, s.qy, w.resting s.qx s.qy f⟩
    let d1 := r.2.flyParts k t0 r.1
    let until' : Rat := 250000 * ((t0 + framesOf r.1 : Nat) : Rat)
    d1.onEng k fun e => { e with cur := none, plan := none, phase := .stopping, t0 := t0, jumpEndPs := until' }

/-- The first tick at which the next jump may begin after a finish. In COMPAT MARK_DELAY runs from the end of the mark
trajectory, and the jump waits for the light of the finish besides, where LASER_OFF_DELAY reaches beyond it (DESIGN CHOICE,
log 145). -/
def Dev.nextStart (d : Dev) (k : Nat) (s : Stroke) (optPs : Rat) : Nat :=
  let e := nth d.eng k
  let t := if d.boot.compat then
      max optPs (e.markPs + 250000 * d.markFrames s + 10000 * ((d.psetOf s).markDelay : Rat))
    else optPs
  max (d.now + 1) (natOf (ceilRat (t / 250000)))

/-- What the engine does after the finish of a stroke: the planned jump, unless a proof is due, or a stop. -/
def Dev.afterFinish (d : Dev) (k : Nat) (s : Stroke) (optPs : Rat) : Dev :=
  let t0 := d.nextStart k s optPs
  match (nth d.eng k).next with
  | none => d.stopAtFinish k s t0
  | some (b, p) =>
    if d.proofHolds k then
      let d1 := d.onMar fun m => { m with oars := upd m.oars k fun o => { o with buf := b :: o.buf } }
      (d1.onEng k fun e => { e with next := none }).stopAtFinish k s t0
    else d.startJump k b p t0

end Sys2Proof.Machine
end

