-- ==== Sys2Proof/Machine/FireOps.lean ====
section
/-! DEFINITION. Edges and power of an exposure engine: commitment of catch and finish (R172 to R178, R195), firing
(R188, R191), the DAC (R181 to R185), steps, marks and breaches along a stroke (R126, R131, R137, R139), and what an
engine does at a frame tick. -/

namespace Sys2Proof.Machine

/-! ## Commitment (R173, R174) -/

/-- T(n) in ps. -/
def tickPs (n : Nat) : Rat := 250000 * (n : Rat)

/-- R173 in the present frame: frame, slot, LATE. -/
def Dev.place (d : Dev) (cmd : Rat) : Option (Nat × Nat × Bool) :=
  let n := d.now + 1
  if cmd < tickPs n then some (n, 0, true)
  else if cmd < tickPs (n + 1) then
    let slot := natOf ((cmd - tickPs n) / slotPs + 1 / 2).floor
    if slot ≤ 799 then some (n, slot, false) else none
  else none

/-- The gate latency of the stroke in hand. -/
def Dev.gatePs (d : Dev) (k : Nat) : Rat := (nth d.eng k).latNow.gate

/-- Observed along-track speed at an instant, µm/s, at a target. -/
def Dev.speedAt (d : Dev) (k : Nat) (s : Stroke) (tx ty : Int) (ps : Rat) : Nat :=
  match d.crossState k s tx ty with
  | some c => natOf (roundRat ((c.2.1 + c.2.2 * ((ps - (nth d.eng k).obsPs) / 250000)) * 1000000 / 16))
  | none => 0

/-- An edge committed: its flags, the predicted optical time, the horizon (R168, R170, R191). -/
def Dev.commitEdge (d : Dev) (k : Nat) (s : Stroke) (finish : Bool) (frame slot flags : Nat) (predicted : Option Rat) : Dev :=
  let e := nth d.eng k
  let opt := tickPs frame + slotPs * slot + d.gatePs k
  let p := predicted.getD opt
  let fl := flags ||| (if 0 < e.coast then 64 else 0)
  let tx := if finish then s.qx else s.x0
  let ty := if finish then s.qy else s.y0
  let ed : Edge := ⟨finish, frame, slot, fl, opt, natOf (roundRat ((p - e.obsPs) / 1000)), d.speedAt k s tx ty opt⟩
  d.onEng k fun e => { e with edges := e.edges ++ [ed] }

/-- The catch of the stroke in hand as committed or fired: its slot counted from frame 0. -/
def Dev.catchSlot (d : Dev) (k : Nat) : Nat :=
  let e := nth d.eng k
  match e.edges.find? fun x => ! x.finish with
  | some x => 800 * x.frame + x.slot
  | none => natOf (roundRat ((e.catchPs - d.gatePs k) / slotPs))

/-- A committed catch that has fired or whose frame has come, and no finish yet. -/
def Dev.finishOpen (d : Dev) (k : Nat) : Bool :=
  let e := nth d.eng k
  e.edges.all (fun x => ! x.finish && x.frame ≤ d.now) && (e.exposing || ! e.edges.isEmpty)

/-- The finish at a slot counted from frame 0, one slot after the catch at the earliest (R174). -/
def Dev.commitFinish (d : Dev) (k : Nat) (s : Stroke) (slot flags : Nat) (predicted : Option Rat) : Dev :=
  let at' := max slot (d.catchSlot k + 1)
  d.commitEdge k s true (at' / 800) (at' % 800) flags predicted

/-! ## The settle window (R176, R177, R178) -/

/-- The last N_SETTLE samples taken after the jump. -/
def Engine.window (e : Engine) : List (Rat × Rat × Rat × Bool) :=
  (e.settle.filter fun x => e.jumpEndPs < x.1).take e.motion.nSettle

/-- nm as bed LSB. -/
def nmLsb (n : Nat) : Rat := (n : Rat) * 64 / 1000

def Engine.settled (e : Engine) : Bool :=
  e.window.all fun x => x.2.1 ≤ nmLsb e.motion.settleTol ^ 2 && x.2.2.2

/-- N_SETTLE consecutive samples of a DOT within DOT_TOL of P. -/
def Engine.dotSettled (e : Engine) : Bool :=
  e.window.length = e.motion.nSettle && e.window.all fun x => x.2.2.1 ≤ nmLsb e.motion.dotTol ^ 2 && x.2.2.2

/-- The tick at which a DOT has settled long enough. -/
def Dev.dotReady (d : Dev) (k : Nat) (s : Stroke) : Rat :=
  ((nth d.eng k).settleSince : Rat) + (if d.markV s = 0 then 0 else (d.leadLsb s : Rat) / d.markV s)

/-! ## The next edge of the stroke (R173) -/

def Engine.toMark (e : Engine) : Engine := { e with phase := .mark }

/-- The catch of a LINE: committed, or a re-approach flown first. -/
def Dev.evalCatch (d : Dev) (k : Nat) (s : Stroke) : Dev :=
  let e := nth d.eng k
  match d.crossing k s s.x0 s.y0 with
  | none => d
  | some t => match d.place (t - d.gatePs k) with
    | none => d
    | some p =>
      let late := if p.2.2 then 1024 else 0
      if e.window = [] then (d.commitEdge k s false p.1 p.2.1 (2 + late) (some t)).onEng k Engine.toMark
      else if e.settled then (d.commitEdge k s false p.1 p.2.1 late (some t)).onEng k Engine.toMark
      else if e.reflown then (d.commitEdge k s false p.1 p.2.1 (1 + late) (some t)).onEng k Engine.toMark
      else d.stopToHold k s

/-- The catch of a DOT at slot 0 of the next frame. -/
def Dev.evalDot (d : Dev) (k : Nat) (s : Stroke) : Dev :=
  if d.dotReady k s ≤ d.now && (nth d.eng k).dotSettled then
    (d.commitEdge k s false (d.now + 1) 0 0 none).onEng k Engine.toMark
  else d

/-- The finish of a LINE by prediction, of a DOT by time. -/
def Dev.evalFinish (d : Dev) (k : Nat) (s : Stroke) : Dev :=
  if ! d.finishOpen k then d
  else if s.dot then
    let slot := d.catchSlot k + 32 * s.dwell
    if slot < 800 * (d.now + 2) then d.commitFinish k s slot 0 none else d
  else match d.crossing k s s.qx s.qy with
    | none => d
    | some t => match d.place (t - d.gatePs k) with
      | some p => d.commitFinish k s (800 * p.1 + p.2.1) (if p.2.2 then 1024 else 0) (some t)
      | none => d

/-- COMPAT: the instants of catch and finish, ps (R195). -/
def Dev.compatCatch (d : Dev) (k : Nat) (s : Stroke) : Rat :=
  let e := nth d.eng k
  if s.dot then e.markPs else e.markPs + 10000 * ((d.psetOf s).onDelay : Rat)

def Dev.compatFinish (d : Dev) (k : Nat) (s : Stroke) : Rat :=
  let e := nth d.eng k
  if s.dot then slotPs * d.catchSlot k + 10000 * (s.dwell : Rat)
  else e.markPs + 250000 * d.markFrames s + 10000 * ((d.psetOf s).offDelay : Rat)

/-- COMPAT: the catch may be committed while the jump into it is still flown (R195). -/
def Dev.evalCompat (d : Dev) (k : Nat) (s : Stroke) : Dev :=
  let e := nth d.eng k
  if ! e.exposing && e.edges.isEmpty && (e.phase == .wait || (e.phase == .jump && d.catchClear k s)) then
    let c := max (d.compatCatch k s) e.jumpEndPs
    match d.place c with
    | some p =>
      let late := if p.2.2 || d.compatCatch k s < e.jumpEndPs then 1024 else 0
      (d.commitEdge k s false p.1 p.2.1 late none).onEng k fun e => if e.phase == .jump then e else e.toMark
    | none => d
  else if d.finishOpen k then
    match d.place (d.compatFinish k s) with
    | some p => d.commitFinish k s (800 * p.1 + p.2.1) (if p.2.2 then 1024 else 0) none
    | none => d
  else d

/-- The evaluation of a frame. -/
def Dev.evalEdge (d : Dev) (k : Nat) : Dev :=
  let e := nth d.eng k
  match e.cur with
  | none => d
  | some b =>
    let s := b.item.stroke
    if d.boot.compat then d.evalCompat k s
    else match e.phase with
      | .leadIn | .reapproach => d.evalCatch k s
      | .settle => d.evalDot k s
      | .mark => d.evalFinish k s
      | _ => d

/-- R175: whether the backstop of a LINE has passed with no finish committed. -/
def Dev.backstopDue (d : Dev) (k : Nat) (s : Stroke) : Bool :=
  let e := nth d.eng k
  let mark := 250000 * d.markFrames s
  ! s.dot && ! d.boot.compat && e.exposing && ! e.edges.any (·.finish) &&
    e.catchPs + mark + max 1000000 (mark * e.motion.backstopPct / 100) ≤ d.psNow

def Dev.backstop (d : Dev) (k : Nat) : Dev :=
  match (nth d.eng k).cur with
  | some b =>
    if d.backstopDue k b.item.stroke then d.commitFinish k b.item.stroke (800 * (d.now + 1)) 4 none else d
  | none => d

/-- R178: DOT_SETTLE_MAX has passed. -/
def Dev.dotTimeout (d : Dev) (k : Nat) : Dev :=
  let e := nth d.eng k
  match e.cur with
  | some b =>
    let s := b.item.stroke
    if s.dot && e.phase == .settle && ! d.boot.compat && decide (d.dotReady k s ≤ d.now) &&
        decide (e.jumpEndPs + 1000000 * (e.motion.dotSettleMax : Rat) ≤ d.psNow) then
      (d.commitEdge k s false (d.now + 1) 0 1 none).onEng k Engine.toMark
    else d
  | none => d

/-! ## Firing (R126, R144, R188, R190) -/

/-- R190: the slot lies within the switchover of the exposure PLL. -/
def Dev.inSwitch (d : Dev) (ed : Edge) : Bool := 0 < d.clk.exposure.switchovers && d.clk.exposure.failTick = ed.frame && ed.slot < 320

/-- A fired edge waits for its placement error (R180). -/
def Dev.openEdge (d : Dev) (k : Nat) (s : Stroke) (ed : Edge) : Dev :=
  let fl := ed.flags ||| d.edgeFlags k s ||| (if d.inSwitch ed then 16 else 0)
  let t := d.timeOfPs ed.optPs
  let o : OpenEdge := ⟨s.seq, ed.finish, ed.frame, ed.slot, fl, ed.optPs, ed.horizonNs, ed.speed,
    if ed.finish then s.qx else s.x0, if ed.finish then s.qy else s.y0, s.dir.1, s.dir.2, s.dot, d.engTemp k, t.1, t.2⟩
  d.onEng k fun e => { e with openEdges := e.openEdges ++ [o] }

/-- The 1 mm step of a stroke that holds a normalised distance of it; a DOT is one step (R137, R185). -/
def Stroke.stepOf (s : Stroke) (x : Rat) : Nat :=
  if s.dot ∨ s.len = 0 then 0 else min (natOf (x * s.len / 64000).floor) (natOf (ceilRat (s.len / 64000)) - 1)

/-- The scales of the step that the beam is in and of the next are read, each once (R139). -/
def Dev.readScales (d : Dev) (k : Nat) (s : Stroke) : Dev :=
  let j := s.stepOf (d.shareAt k s d.psNow)
  ((List.range (min (j + 2) (s.stepOf 1 + 1))).filter fun i => ! (nth d.eng k).scales.any (·.1 = i)).foldl (fun d i =>
    d.onEng k fun e => { e with scales := (i, d.stepScale s i) :: e.scales }) d

/-- The scale of a step: as read, or as the map has it now where the step is not read yet (R139, R182; log 115). -/
def Dev.scaleOf (d : Dev) (k : Nat) (s : Stroke) (i : Nat) : Nat :=
  if d.boot.compat then 0x8000 else (((nth d.eng k).scales.find? (·.1 = i)).map (·.2)).getD (d.stepScale s i)

/-- A catch leaves the pad: the oar exposes, marks at P, and its loop begins. -/
def Dev.fireCatch (d : Dev) (k : Nat) (s : Stroke) (ed : Edge) : Dev :=
  let d1 := (d.openEdge k s ed).onEng k fun e =>
    { e with
      lgate := true
      exposing := true
      edges := e.edges.drop 1
      catchPs := ed.optPs
      openSlots := 800 - ed.slot
      stepIdx := 0
      stepEnergy := 0
      cellShare := 0
      cellPs := ed.optPs
      scales := if e.scales.isEmpty then [(0, d.stepScale s 0)] else e.scales }
  let d2 := (d1.readScales k s).markWake k s.x0 s.y0 ed.optPs
  if d2.loopApplies s then d2.meltOn k else d2

/-- R117: what is predicted for an oar, corrected by the actual finish. -/
def Dev.correctDrain (d : Dev) (k : Nat) (by' : Rat) : Dev :=
  let f := fun (b : BufStroke) => { b with finishPs := b.finishPs + by' }
  (d.onMar fun m => { m with
    oars := upd m.oars k fun o => { o with drain := o.drain + by', buf := o.buf.map f }
    pending := m.pending.map fun p => if p.oar = k then { p with finishPs := p.finishPs + by' } else p }).onEng k fun e =>
      { e with next := e.next.map fun n => (f n.1, n.2) }

def Dev.fireFinish (d : Dev) (k : Nat) (b : BufStroke) (ed : Edge) : Dev :=
  let s := b.item.stroke
  let e := nth d.eng k
  let last := d.frameEnergy k e.power ((e.openSlots : Rat) - (800 - ed.slot))
  let d1 := ((d.openEdge k s ed).onEng k fun e => { e with stepEnergy := e.stepEnergy + last }).depositStep k s 1
  let d2 := ((d1.cellsTo k s 1 ed.optPs).markWake k s.qx s.qy ed.optPs).exposed k s
  let d3 := if d2.loopApplies s then d2.meltOff k else d2
  let d4 := (d3.correctDrain k (ed.optPs - b.finishPs)).onEng k fun e =>
    { e with
      lgate := false
      exposing := false
      edges := e.edges.drop 1
      posX := s.qx
      posY := s.qy
      prev := some s
      tail := some (e.tailOf b)
      dacUntil := ed.optPs
      openSlots := 0 }
  d4.afterFinish k s ed.optPs

/-- R23, R187: LEN stands and the cut path is closed, so that a catch may leave the pad. -/
def Dev.lightable (d : Dev) (k : Nat) : Bool := (nth d.eng k).len && d.ump.closed.getLsbD k

/-- The first committed edge leaves the LGATE pad when its frame has come. A catch that finds LEN low or the cut path open is
discarded (R188). -/
def Dev.fireEdge (d : Dev) (k : Nat) : Dev :=
  let e := nth d.eng k
  match e.edges, e.cur with
  | ed :: _, some b =>
    if d.now < ed.frame then d
    else if ed.finish then (if e.exposing then d.fireFinish k b ed else d)
    else if e.exposing then d
    else if d.lightable k then d.fireCatch k b.item.stroke ed
    else d.onEng k fun e => { e with edges := [] }
  | _, _ => d

/-! ## Power (R181 to R185) -/

/-- A profile at a normalised distance (R87), not rounded. -/
def profileAt (p : List Nat) (s : Rat) : Rat :=
  let x := clampQ 0 1 s * 63
  let i := min 62 (natOf x.floor)
  (nth p i : Rat) + ((nth p (i + 1) : Rat) - nth p i) * (x - i)

/-- The profile along a stroke; a repair opens at profile(0) and joins within 1/63 (R146). -/
def Stroke.profile (s : Stroke) (p : List Nat) (x : Rat) : Rat :=
  match s.repair with
  | none => profileAt p x
  | some (_, f) =>
    let b := min (f + 1 / 63) 1
    if b ≤ x then profileAt p x
    else
      let v0 := profileAt p 0
      v0 + (profileAt p b - v0) * (if b = f then 1 else (x - f) / (b - f))

/-- s_f of R181 for a share of the stroke as it is flown. -/
def Stroke.whole (s : Stroke) (share : Rat) : Rat :=
  match s.repair with
  | none => clampQ 0 1 share
  | some (_, f) => f + (1 - f) * clampQ 0 1 share

/-- The share of the stroke at an instant for its power: by distance, or by time for a DOT and in COMPAT (R181, R195,
R196). A COMPAT repair's elapsed mark time is counted from its catch (DESIGN CHOICE, log 145). -/
def Dev.powerShare (d : Dev) (k : Nat) (s : Stroke) (ps : Rat) : Rat :=
  let e := nth d.eng k
  if ! e.exposing then 0
  else if d.boot.compat && ! s.dot then
    let from' := if s.repair.isSome then e.catchPs else e.markPs
    let n := 250000 * d.markFrames s
    if n = 0 then 1 else clampQ 0 1 ((ps - from') / n)
  else d.shareAt k s ps

/-- The trim in force: the melt-pool slot's output within the limits of the stroke's target (R182, R216). -/
def Dev.trimNow (d : Dev) (k : Nat) (s : Stroke) : Int :=
  if (nth d.eng k).exposing && d.loopApplies s then
    match d.lib.target? (d.psetOf s).target with
    | some t => clampI (-(t.trimDown : Int)) t.trimUp (d.slot (96 + k)).outNow
    | none => 0
  else 0

/-- Steps 1 to 3 of R182. -/
def Dev.power3 (d : Dev) (s : Stroke) (x : Rat) (scale : Nat) (trim : Int) : Nat :=
  let p := d.psetOf s
  let p1 := min 0xFFFF (natOf (roundRat ((p.power : Rat) * s.profile (d.lib.profile p.profile) x / 0x8000)))
  let p2 := min 0xFFFF (natOf (roundRat ((p1 : Rat) * scale / 0x8000)))
  min 0xFFFF (natOf (roundRat ((p2 : Rat) * (32768 + trim) / 32768)))

/-- Step 4: the largest command that the grant allows. -/
def Dev.grantCap (d : Dev) (k : Nat) (w : Rat) : Nat :=
  let p := nth d.gov.power k
  natOf (w * p.2 / 65536 / p.1 * 65535).floor

/-- R183. -/
def mapCode (map : List Nat) (p : Nat) : Nat :=
  let i := min 31 (p / 2048)
  let span : Rat := if i = 31 then 2047 else 2048
  natOf (roundRat ((nth map i : Rat) + ((nth map (i + 1) : Rat) - nth map i) * ((p - 2048 * i : Nat) : Rat) / span))

/-- The predicted optical catch of the stroke in hand (R184). That of a DOT whose jump is still flown is the jump's end plus the
shortest settling (DESIGN CHOICE, log 145). -/
def Dev.catchAhead (d : Dev) (k : Nat) : Option Rat :=
  let e := nth d.eng k
  match e.cur, e.edges.find? fun x => ! x.finish with
  | none, _ => none
  | _, some x => some x.optPs
  | some b, none =>
    let s := b.item.stroke
    let lead := if d.markV s = 0 then 0 else 250000 * (d.leadLsb s : Rat) / d.markV s
    if d.boot.compat then
      (match e.phase with
        | .wait | .jump => some (max (d.compatCatch k s) e.jumpEndPs + d.gatePs k)
        | _ => none)
    else match e.phase with
      | .leadIn | .reapproach => d.crossing k s s.x0 s.y0
      | .settle => some (max (tickPs (d.now + 1)) (250000 * d.dotReady k s) + d.gatePs k)
      | .jump => if (e.plan.map (·.hold)).getD true then none else some (e.jumpEndPs + lead)
      | _ => none

/-- Whether the DAC carries the power of the stroke in hand in the frame that begins. -/
def Dev.carries (d : Dev) (k : Nat) : Bool :=
  let e := nth d.eng k
  e.exposing || match d.catchAhead k with
    | some t => decide (t - 1000 * (e.latNow.dacDelay : Rat) < tickPs (d.now + 1))
    | none => false

/-- What a stroke commands in the frame that begins: s_f as a share of its own length, P3, P4, trim (R181, R182). -/
structure FramePower where
  share : Rat
  p3 : Nat
  p4 : Nat
  trim : Int

def Dev.framePower (d : Dev) (k : Nat) (b : BufStroke) : FramePower :=
  let s := b.item.stroke
  let x := d.powerShare k s (d.psNow + 1000 * ((nth d.eng k).latNow.dacDelay : Rat))
  let trim := d.trimNow k s
  let p3 := d.power3 s (s.whole x) (d.scaleOf k s (s.stepOf x)) trim
  ⟨x, p3, min p3 (d.grantCap k b.plantW), trim⟩

/-- Its code goes to the DAC. -/
def Dev.setPower (d : Dev) (k : Nat) (f : FramePower) : Dev :=
  d.onEng k fun e => { e with power := f.p4, trim := f.trim, dac := mapCode e.map f.p4 }

/-- A stroke is counted as clamped (R182). -/
def Dev.countClamp (d : Dev) (k : Nat) : Dev := d.stat k fun t => { t with clamped := t.clamped + 1 }

/-- The frame lies in another step than the one before: the step that ended is reported (R137, R185). -/
def Dev.stepTo (d : Dev) (k : Nat) (s : Stroke) (i : Nat) : Dev :=
  let e := nth d.eng k
  if ! e.exposing ∨ i ≤ e.stepIdx then d
  else (d.depositStep k s (64000 * (i : Rat) / s.len)).onEng k fun e => { e with stepIdx := i }

/-- The power of the stroke in hand for the frame that begins; a clamped stroke is counted once (R182). -/
def Dev.strokePower (d : Dev) (k : Nat) (b : BufStroke) : Dev :=
  let f := d.framePower k b
  let hit : Bool := f.p4 < f.p3 && ! (nth d.eng k).clampedStroke
  let d1 := if hit then (d.countClamp k).onEng k fun e => { e with clampedStroke := true } else d
  (d1.stepTo k b.item.stroke (b.item.stroke.stepOf f.share)).setPower k f

/-- The power of a finished stroke in a frame before its light ends (R181, R184): the engine seen as it exposed. -/
def Dev.tailPower (d : Dev) (k : Nat) (t : PowerTail) : Dev :=
  let past := d.onEng k fun e => { e with
    cur := some t.stroke, plan := t.plan, catchPs := t.catchPs, markPs := t.markPs, scales := t.scales, exposing := true }
  let f := past.framePower k t.stroke
  let hit : Bool := f.p4 < f.p3 && ! t.clamped
  let d1 := if hit then (d.countClamp k).onEng k fun e => { e with tail := some { t with clamped := true } } else d
  d1.setPower k f

/-- The DAC at a frame boundary: 0 with the cut path open, the power of the stroke, IDLE_CODE (R183, R184, R455). -/
def Dev.dacTick (d : Dev) (k : Nat) : Dev :=
  let e := nth d.eng k
  let idle := fun (d : Dev) (c : Nat) => d.onEng k fun e => { e with power := 0, trim := 0, dac := c }
  if ! d.ump.closed.getLsbD k then idle d 0
  else match e.tail, e.cur with
    | some t, c =>
      if d.psNow < e.dacUntil then d.tailPower k t
      else
        let d1 := d.onEng k fun e => { e with tail := none }
        match c with
        | some b => if d1.carries k then d1.strokePower k b else idle d1 e.idleCode
        | none => idle d1 e.idleCode
    | none, some b => if d.carries k then d.strokePower k b else idle d e.idleCode
    | none, none => idle d e.idleCode

/-! ## Along the stroke -/

/-- The energy of the frame that has ended. -/
def Dev.energyTick (d : Dev) (k : Nat) : Dev :=
  let e := nth d.eng k
  if e.exposing then
    d.onEng k fun e => { e with stepEnergy := e.stepEnergy + d.frameEnergy k e.power e.openSlots, openSlots := 800 }
  else d

/-- The beam's progress along a stroke: crossings of wake cells and the scales of steps begun (R126, R131, R139). -/
def Dev.alongTick (d : Dev) (k : Nat) : Dev :=
  let e := nth d.eng k
  match e.exposing, e.cur with
  | true, some b =>
    let s := b.item.stroke
    (d.cellsTo k s (d.shareAt k s d.psNow) d.psNow).readScales k s
  | _, _ => d

/-! ## LEN, times, set-points -/

/-- R186: LEN falls when it is no longer wanted, after the finish where a standard Hold, the fence close or
`oar.disable` is the cause and a stroke exposes. -/
def Dev.lenTick (d : Dev) (k : Nat) : Dev :=
  let e := nth d.eng k
  let hard : Bool := ! (d.port k).linked || e.lat.tooLong || ! d.ump.closed.getLsbD k || d.inT k || d.unconfigured k ≠ 0
  if e.len && ! d.lenWanted k && (hard || ! e.exposing) then
    d.onEng k fun e => { e with len := false, lenTick := d.now, lenSettled := false }
  else d

/-- Whether a stroke of oar k waits for leave (R154). -/
def Dev.leaveWaiting (d : Dev) (k : Nat) : Bool :=
  d.mar.pending.any (·.oar = k) || (d.mar.window ++ d.mar.repairs).any fun i => i.leaveOar = some k

/-- The times of R154, one tick further. -/
def Dev.timesTick (d : Dev) (k : Nat) : Dev :=
  let e := nth d.eng k
  let q := nth d.mar.oars k
  let flying : Bool := match e.phase with
    | .jump | .leadIn | .reapproach | .settle | .stopping | .wait => true
    | _ => false
  let held : Bool := e.phase == .hold && e.holdSince.isSome
  let idle : Bool := d.mode.mode == .build && q.buf.isEmpty
  d.stat k fun t => { t with
    markTicks := t.markTicks + boolN e.lgate, jumpTicks := t.jumpTicks + boolN (flying && e.cur.isSome),
    idleTicks := t.idleTicks + boolN idle, heldTicks := t.heldTicks + boolN held,
    leaveWait := t.leaveWait + boolN (d.leaveWaiting k) }

/-- The set-points for the next tick (R159). -/
def Dev.refTick (d : Dev) (k : Nat) : Dev :=
  let r := d.setPoints k
  d.onEng k fun e => { e with ref := r.1, refV := r.2.1, refA := r.2.2 }

/-- A beam that a stroke was taken from in flight is brought to rest where it is, by a quintic from the state in hand; in
COMPAT its reference stands still (DEDUCED from R163, log 117). -/
def Dev.bringToRest (d : Dev) (k : Nat) : Dev :=
  let n : Rat := (d.now : Rat) + 1
  let state := d.refAt k n
  if d.boot.compat then (d.fly k n (.rest (state.map (·.th)))).onEng k fun e => { e with loose := false }
  else
    let e := nth d.eng k
    let temp := d.gridTemp k
    let p := d.beamBed k temp
    let w := d.view k temp
    let f := ((e.before).map fun s => (d.psetOf s).focusOffset).getD 0
    let vb := ((e.before).map fun s => max (d.jumpV s) (d.markV s)).getD 1
    let r := d.plan k temp f vb ⟨p.1, p.2, state⟩ ⟨p.1, p.2, w.resting p.1 p.2 f⟩
    let until' : Rat := 250000 * ((d.now + 1 + framesOf r.1 : Nat) : Rat)
    (r.2.flyParts k (d.now + 1) r.1).onEng k fun e =>
      { e with phase := .stopping, loose := false, t0 := d.now + 1, jumpEndPs := until', posX := p.1, posY := p.2 }

/-- The beam with nothing in hand: brought to rest, or come to rest. -/
def Dev.restTick (d : Dev) (k : Nat) : Dev :=
  let e := nth d.eng k
  if e.loose && e.phase == .idle && e.cur.isNone then d.bringToRest k
  else if e.phase == .stopping && e.cur.isNone && decide (e.jumpEndPs ≤ d.psNow) then
    d.onEng k fun e => { e with phase := .idle, fromObs := false }
  else d

/-- A stroke whose catch was discarded, or whose lead-in has lost LEN or the cut path, is unstarted: its beam holds until the
catch check passes again (R130, R187, R188). -/
def Dev.lostCatch (d : Dev) (k : Nat) : Dev :=
  let e := nth d.eng k
  let lost : Bool := match e.phase with
    | .mark => true
    | .leadIn | .reapproach | .settle | .wait => ! d.lightable k
    | _ => false
  match e.cur with
  | none => d
  | some b =>
    let s := b.item.stroke
    if e.exposing || ! e.edges.isEmpty || ! lost then d
    else if d.boot.compat then (d.compatHold k s).holdAt k
    else if s.dot then d.holdAt k
    else d.stopToHold k s

/-! ## Test jumps (R171) -/

/-- The window of R176 after a test jump, which ends at rest: N_SETTLE samples whose innovation is within SETTLE_TOL (DEDUCED,
log 143). -/
def Engine.testSettled (e : Engine) : Bool :=
  e.window.length = e.motion.nSettle && e.window.all fun x => x.2.1 ≤ nmLsb e.motion.settleTol ^ 2

/-- The next test jump, from where the beam is to rest at the next vertex of the usable field, under the largest JUMP_SPEED
(DESIGN CHOICE, log 143). -/
def Dev.testJump (d0 : Dev) (k : Nat) (t : TestRun) : Dev :=
  let d := d0.adoptGrid k
  let ps := nth d.geo.active.fields k
  let p := nth ps (t.left % max 1 ps.length)
  let temp := d.gridTemp k
  let r := d.plan k temp 0 (perFrame 40000000) (d.jumpStart k temp) ⟨p.x, p.y, (d.view k temp).resting p.x p.y 0⟩
  (r.2.flyParts k (d.now + 1) r.1).onEng k fun e => { e with
    phase := .test, t0 := d.now + 1, jumpEndPs := 250000 * ((d.now + 1 + framesOf r.1 : Nat) : Rat), settle := []
    fromObs := false, loose := false, test := some { t with x := p.x, y := p.y } }

/-- A test jump has settled: the time from its end to the sample that met the criterion counts. -/
def Dev.testSettles (d : Dev) (k : Nat) (t : TestRun) : Dev :=
  let e := nth d.eng k
  let ns := match e.window with | x :: _ => natOf (ceilRat ((x.1 - e.jumpEndPs) / 1000)) | [] => 0
  let d1 := d.onEng k fun e => { e with
    phase := .idle, posX := t.x, posY := t.y, settle := [], test := some { t with left := t.left - 1, worst := max t.worst ns } }
  if t.left = 1 then d1.testEnd k true else d1

/-- R171 at a frame tick: in Start or Ready, on a head that delivers frames, else the tests are given up. -/
def Dev.testTick (d : Dev) (k : Nat) : Dev :=
  let e := nth d.eng k
  match e.test with
  | none => d
  | some t =>
    if t.left = 0 then d
    else if ! (d.mode.mode == .start || d.mode.mode == .ready) || ! (d.port k).hearing then d.testEnd k false
    else if e.phase == .test then (if e.testSettled then d.testSettles k t else d)
    else if e.phase == .idle && ! e.loose && d.scannerDelivers k then d.testJump k t
    else d

/-- What engine k does at a frame tick (R159, R173, R181). -/
def Dev.engTick (d : Dev) (k : Nat) : Dev :=
  let d1 := ((((((d.testTick k).energyTick k).alongTick k).restTick k).lostCatch k).evalEdge k).dacTick k
  let d2 := (d1.lenTick k).refTick k
  if d2.layers.released.isSome then d2.timesTick k else d2

end Sys2Proof.Machine
end

