-- ==== Sys2Proof/Machine/ExpRows.lean ====
section
/-! DEFINITION. The events of an exposure engine (chapter 05): LGATE transitions, the backstop, the DOT's limit, planning
and end of a jump, the limit of a hold, LEN. -/

namespace Sys2Proof.Machine

/-- A committed edge leaves the LGATE pad (R188). -/
def execLgateTransition (oar : Nat) (s : State) : Out := onDev (.lgateTransition oar) (fun _ d => d.fireEdge oar) s

/-- R175. -/
def execFinishBackstop (oar : Nat) (s : State) : Out := onDev (.finishBackstop oar) (fun _ d => d.backstop oar) s

/-- R178. -/
def execDotSettleTimeout (oar : Nat) (s : State) : Out := onDev (.dotSettleTimeout oar) (fun _ d => d.dotTimeout oar) s

/-- R163, R165. -/
def execJumpPlanning (oar : Nat) (s : State) : Out := onDev (.jumpPlanning oar) (fun _ d => d.jumpPlanning oar) s

/-- R130, R165. -/
def execJumpEnd (oar : Nat) (s : State) : Out := onDev (.jumpEnd oar) (fun _ d => d.jumpEnd oar) s

/-- R130. -/
def execCatchHoldLimit (oar : Nat) (s : State) : Out := onDev (.catchHoldLimit oar) (fun _ d => d.giveBack oar) s

/-- R186: LEN rises. -/
def Dev.raiseLen (d : Dev) (k : Nat) : Dev :=
  if d.lenWanted k && ! (nth d.eng k).len then
    d.onEng k fun e => { e with len := true, lenTick := d.now, lenSettled := e.motion.lenSettle = 0 }
  else d

def execLenRise (oar : Nat) (s : State) : Out := onDev (.lenRise oar) (fun _ d => d.raiseLen oar) s

/-- R187: LEN has been high for LEN_SETTLE. -/
def Dev.settleLen (d : Dev) (k : Nat) : Dev :=
  let e := nth d.eng k
  if e.len && decide (e.lenTick + usT e.motion.lenSettle ≤ d.now) then d.onEng k fun e => { e with lenSettled := true } else d

def execLenSettleExpiry (oar : Nat) (s : State) : Out := onDev (.lenSettleExpiry oar) (fun _ d => d.settleLen oar) s

end Sys2Proof.Machine
end

