-- ==== Sys2Proof/Machine/DispatchOps.lean ====
section
/-! DEFINITION. The Marshal's dispatch (R104 to R122): reading of records (R100), evaluation of a candidate (R109), choice
of an oar (R115, R116), the draw of a stroke (R120), the answer to a leave request (R107, R118). -/

namespace Sys2Proof.Machine

/-! ## RT0: records into the window (R100, R104, R384) -/

/-- Records of the window as R104 counts them. -/
def Marshal.windowCount (m : Marshal) : Nat := (m.window.filter fun i => i.place = .window).length

/-- Records from index n on while strokes find room; what is no stroke is consumed. -/
def Dev.loadRecs (d : Dev) (room : Nat) (p : ParseState) (n : Nat) : List Rec → Dev × ParseState × Nat
  | [] => (d, p, n)
  | r :: rs =>
    if ! r.isStroke then d.loadRecs room (p.next r) (n + 1) rs
    else match room with
      | 0 => (d, p, n)
      | k + 1 =>
        let s := p.stroke r ((d.recG r).getD 0)
        (d.onMar fun m => { m with window := m.window ++ [poolItem s .window] }).loadRecs k (p.next r) (n + 1) rs

/-- Whether TYPE and SEQ of the records from index n on are what check 7 let pass (R100). -/
def recsSound (count n : Nat) : List Rec → Bool
  | [] => true
  | r :: rs => r.seq = n && [1, 2, 8, 9, 0xA, 0xF].contains r.ty && ((r.ty = 0xF) == (n + 1 = count)) && recsSound count (n + 1) rs

/-- The released layer's list is exhausted but for damaged blocks. -/
def Dev.unreadRecords (d : Dev) : Bool :=
  match d.layers.released with
  | some l => d.mar.nextRec < l.desc.listCount || d.mar.skipped.any fun p => ! l.damaged.contains p.1
  | none => false

/-- R384 for RT0. -/
def Dev.rt0Check (d : Dev) : Dev :=
  let n := d.mar.windowCount
  let more := d.unreadRecords
  if more && decide (n < 4096) && ! d.mc.panic0 then
    { d with mc := { d.mc with panic0 := true, panicCounts := upd d.mc.panicCounts 0 (· + 1) } }
  else if d.mc.panic0 && (! more || decide (8192 ≤ n)) then { d with mc := { d.mc with panic0 := false } }
  else d

/-- A block read from record `first` on: the reader's state and record after it, or none where it is damaged. The whole
block is compared with its CRC at every read of it, before a stroke from it is dispatched (R92, R100). -/
def Dev.readBlock (d : Dev) (m : Dram) (l : LayerRec) (b first : Nat) (p : ParseState) (o : EccOutcome) :
    Dev × List DramOp × Option (ParseState × Nat) :=
  let base := l.desc.listAddr + 65536 * b
  let r := d.readRange m 0 base (l.blockLen b) o
  let bs := memBytes m.mem base (l.blockLen b)
  let recs := (recsOf (bs.drop (32 * (first - 2048 * b)))).map (·.2)
  if r.2.2 && crc32c bs = (nth l.blocks b).crc && recsSound l.desc.listCount first recs then
    let x := r.1.loadRecs (16384 - d.mar.places .window) p first recs
    (x.1, r.2.1, some x.2)
  else (r.1, r.2.1, none)

/-- A block is left to `layer.reload`; what follows it goes on (R100). -/
def Dev.skipBlock (d : Dev) (l : LayerRec) (b first : Nat) (p : ParseState) : Dev :=
  d.onMar fun m => { m with
    skipped := m.skipped ++ [(b, first, p)]
    nextRec := min l.desc.listCount (2048 * (b + 1))
    parse := if b + 1 < l.blocks.length then (nth l.blocks (b + 1)).parse else p }

/-- One read through RT0: a block reloaded and found sound first, then the next of the list. -/
def Dev.rt0Read (d : Dev) (m : Dram) (o : EccOutcome) : Dev × List DramOp :=
  match d.layers.released with
  | none => (d, [])
  | some l =>
    if 16384 ≤ d.mar.places .window || ! d.blockLive 7 0 then (d, [])
    else match d.mar.skipped.find? fun p => ! l.damaged.contains p.1 with
      | some (b, first, p) =>
        let r := d.readBlock m l b first p o
        match r.2.2 with
        | none => (((r.1.onLayer (LayerRec.damage b)).damageReport b), r.2.1)
        | some (q, n) =>
          let fin : Bool := n = min l.desc.listCount (2048 * (b + 1))
          (((r.1.onMar fun m => { m with skipped := (m.skipped.filter (·.1 ≠ b)) ++ (if fin then [] else [(b, n, q)]) }).rt0Check), r.2.1)
      | none =>
        let first := d.mar.nextRec
        let b := first / 2048
        if l.desc.listCount ≤ first then (d, [])
        else if l.damaged.contains b then ((d.skipBlock l b first d.mar.parse).rt0Check, [])
        else
          let r := d.readBlock m l b first d.mar.parse o
          match r.2.2 with
          | none => ((((r.1.onLayer (LayerRec.damage b)).damageReport b).skipBlock l b first d.mar.parse).rt0Check, r.2.1)
          | some (q, n) => ((r.1.onMar fun m => { m with nextRec := n, parse := q }).rt0Check, r.2.1)

/-! ## Changes of a candidate -/

/-- The item of a stroke in the pool, or of one whose request is pending, changed. -/
def Dev.onItem (d : Dev) (seq : Nat) (f : PoolItem → PoolItem) : Dev :=
  let g := fun (i : PoolItem) => if i.stroke.seq = seq then f i else i
  d.onMar fun m => { m with
    window := m.window.map g, repairs := m.repairs.map g, pending := m.pending.map fun p => { p with item := g p.item } }

def Dev.dropItem (d : Dev) (seq : Nat) : Dev :=
  let p := fun (i : PoolItem) => decide (i.stroke.seq ≠ seq)
  d.onMar fun m => { m with window := m.window.filter p, repairs := m.repairs.filter p }

/-- Deferral age in µs. -/
def Dev.ageUs (d : Dev) (i : PoolItem) : Nat := match i.deferred with | some t => (d.timeNs - t) / 1000 | none => 0

def Dev.noteAge (d : Dev) (i : PoolItem) : Dev := d.layerStat fun t => { t with maxAgeUs := max t.maxAgeUs (d.ageUs i) }

/-- A step of R109 holds or defers a stroke: an evaluation that ends without a leave request (R107, R110). -/
def Dev.endEval (d : Dev) (i : PoolItem) (code waitUs : Nat) : Dev :=
  let r := d.noteReason i code
  let j := { r.1.unwait with waitUs := waitUs }
  (r.2.onItem i.stroke.seq fun _ => j).noteAge j

/-- An oar with nothing held, pending or in hand. -/
def Dev.oarIdle (d : Dev) (k : Nat) : Bool :=
  let e := nth d.eng k
  (nth d.mar.oars k).buf.isEmpty && e.cur.isNone && e.next.isNone && ! d.mar.pending.any (·.oar = k)

/-- The predicted drain of R115: of the last stroke held or pending, or the present. -/
def Dev.drainOf (d : Dev) (k : Nat) : Rat := if d.oarIdle k then d.psNow else (nth d.mar.oars k).drain

/-- R108, R118: buffer room for a stroke. -/
def Dev.hasRoom (d : Dev) (seq k : Nat) : Bool :=
  let o := nth d.mar.oars k
  let kept := match o.keptFor with | some q => boolN (q ≠ seq) | none => 0
  let n := o.buf.length + (d.mar.pending.filter (·.oar = k)).length + kept
  decide (n < 4096) && decide (d.drainOf k ≤ d.psNow + 1000000 * (d.mar.inHorizon : Rat))

/-! ## Cost (R115, R116) -/

/-- F_k in ps. -/
def Dev.finishOn (d : Dev) (s : Stroke) (k : Nat) : Rat :=
  let e := nth d.eng k
  let o := nth d.mar.oars k
  let idle := d.oarIdle k
  let from' : Int × Int :=
    if ! idle then (o.lastX, o.lastY) else if e.fromObs || e.phase == .stopping then d.beamBed k (d.engTemp k) else (e.posX, e.posY)
  let l := if s.dot then ((s.x0 : Rat), (s.y0 : Rat)) else s.along (-(d.leadLsb s : Rat))
  let jump := 250000 * sqrtRat ((l.1 - from'.1) ^ 2 + (l.2 - from'.2) ^ 2) / d.jumpV s
  let lead := 250000 * (d.leadLsb s : Rat) / d.markV s
  d.drainOf k + jump + 1000 * (e.lat.jumpSettle : Rat) + lead + 250000 * d.markFrames s

/-- The oar of R116 with its F_k. -/
def Dev.chooseOar (d : Dev) (s : Stroke) (w : List Nat) : Option (Nat × Rat) :=
  let fs := w.map fun k => (k, d.finishOn s k)
  match fs with
  | [] => none
  | f0 :: _ =>
    let first := fs.foldl (fun m f => min m f.2) f0.2
    let near := fs.filter fun f => f.2 ≤ first + 1000000 * (d.mar.inBalance : Rat)
    let cnt : Nat → Nat := fun k => match d.layers.released with | some l => (nth l.stats k).exposed | none => 0
    near.foldl (fun (m : Option (Nat × Rat)) (f : Nat × Rat) => match m with
      | some x => if cnt f.1 < cnt x.1 then some f else m
      | none => some f) none

/-! ## The draw (R120, R122) -/

/-- The largest thermal scale over the cells of the path. -/
def Dev.pathScale (d : Dev) (s : Stroke) : Nat :=
  match d.boot.compat, d.lib.table (d.psetOf s).thermTable with
  | false, some t =>
    (match d.heatCells s.x0 s.y0 s.qx s.qy with
      | [] => 0x8000
      | cs => cs.foldl (fun m c => max m (tableScale t (d.heatNow c.1))) 0)
  | _, _ => 0x8000

/-- The draw requested for a stroke on oar k, W, not capped. -/
def Dev.strokeDraw (d : Dev) (s : Stroke) (k : Nat) : Rat :=
  let up : Nat := if d.loopApplies s then ((d.lib.target? (d.psetOf s).target).map TargetRec.trimUp).getD 0 else 0
  plantDraw (nth d.gov.power k) (d.lib.peak s.pset * d.pathScale s / 0x8000 * (0x8000 + up) / 0x8000)

/-- P1 for a KEEP_ORDER member after the first and for repairs, P2 else. -/
def Stroke.prio (s : Stroke) : Nat :=
  if s.repair.isSome then 1 else match s.run with | some r => if s.seq = r then 2 else 1 | none => 2

/-- The stroke enters the pending stage and its request goes out (R104, R107). -/
def Dev.requestStroke (d : Dev) (i : PoolItem) (k : Nat) (finishPs : Rat) : Dev :=
  let s := i.stroke
  let g := d.gov.count s.prio fun c => { c with requests := c.requests + 1 }
  let p : PendingItem := ⟨{ i with last := 0 }, k, d.gov.nextId, s.prio, min (d.strokeDraw s k) d.plantBudget, d.pathScale s, finishPs⟩
  let d1 := (d.dropItem s.seq).onMar fun m => { m with
    pending := m.pending ++ [p]
    oars := upd m.oars k fun o => { o with drain := finishPs, lastX := s.qx, lastY := s.qy } }
  { d1 with gov := { g with nextId := g.nextId + 1 } }

/-! ## Orphans (R113, R114) -/

/-- R113: the stroke's offered set is empty, and either every oar of G AND E is in T or one of them is only in D. -/
def Dev.orphaned (d : Dev) (s : Stroke) : Bool :=
  (d.offeredTo s).isEmpty && ((d.eligible s).all d.inT || (d.eligible s).any fun k => d.inD k && ! d.inT k)

/-- The waiting states of a stroke for which no oar is offered; the interrupt once for each layer. -/
def Dev.orphanWatch (d : Dev) (i : PoolItem) : Dev × PoolItem :=
  let allT := (d.eligible i.stroke).all d.inT
  let j := { i with orphanSince := if allT then some (i.orphanSince.getD d.now) else none }
  let d1 := d.onItem i.stroke.seq fun _ => j
  if d.orphaned i.stroke ∧ ! d.mar.orphanRaised then ((d1.onMar fun m => { m with orphanRaised := true }).raise 19, j)
  else (d1, j)

/-! ## Evaluation (R109) -/

/-- The reason for which an ordering step holds a stroke. -/
def Dev.orderHold (d : Dev) (i : PoolItem) : Option Nat :=
  let s := i.stroke
  let bad := match d.layers.released with | some l => l.damaged.contains (s.seq / 2048) | none => false
  if d.fenced s then some 1
  else if d.runHeld s then some 2
  else if bad then some 3
  else if s.repair.isSome && d.relDesc.repairPolicy = 3 && d.lateHeld s && ! d.runLeft s then some 4
  else none

/-- R76: a LINE of zero length is retired. -/
def Dev.retire (d : Dev) (s : Stroke) : Dev :=
  ((d.dropItem s.seq).layerStat fun t => { t with zeroLength := t.zeroLength + 1 }).settleStroke s

def Stroke.isPoint (s : Stroke) : Bool := ! s.dot && s.x0 = s.x1 && s.y0 = s.y1 && s.repair.isNone

def leastOf (xs : List Nat) : Nat := match xs with | [] => 0 | x :: r => r.foldl min x

/-- One candidate evaluated against the oars already taken in this cycle. -/
def Dev.evaluate (d : Dev) (taken : List Nat) (i0 : PoolItem) : Dev × List Nat :=
  match d.orderHold i0 with
  | some c => (d.endEval i0 c 0, taken)
  | none =>
    if i0.stroke.isPoint then (d.retire i0.stroke, taken)
    else
      let w := d.orphanWatch i0
      let d1 := w.1
      let i := w.2
      let s := i.stroke
      let o := (d1.offers i).filter fun k => ! taken.contains k
      let room := o.filter (d1.hasRoom s.seq)
      let clear := room.filter (d1.wakeClear s)
      if o = [] then (d1.endEval i 5 0, taken)
      else if room = [] then (d1.endEval i 6 0, taken)
      else if clear = [] then (d1.endEval i 7 (leastOf (room.map (d1.wakeWait s))), taken)
      else if ! d1.thermalClear s then (d1.endEval i 8 (d1.thermalWait s), taken)
      else match d1.chooseOar s clear with
        | some (k, f) => ((d1.requestStroke i k f).noteAge i, taken ++ [k])
        | none => (d1, taken)

/-! ## The cycle (R105) -/

/-- The order in which candidates are taken. -/
def Marshal.candidates (m : Marshal) : List PoolItem :=
  let pool := m.window ++ m.repairs
  let rest := pool.filter fun i => ! i.senior
  let old := fun (i : PoolItem) => i.deferred.getD 0
  ((pool.filter (·.senior)).insertionSort fun a b => old a ≤ old b) ++ rest.filter (·.place = .repair) ++
    (rest.filter fun i => match i.place with | .returned _ => true | _ => false) ++
    ((rest.filter (·.place = .window)).insertionSort fun a b => a.stroke.seq ≤ b.stroke.seq)

def Dev.runCycle (d : Dev) : Dev :=
  ((d.mar.candidates.take 64).foldl (fun (c : Dev × List Nat) i =>
    if 4 ≤ c.2.length ∨ 8 ≤ c.1.mar.pending.length then c else c.1.evaluate c.2 i) (d, [])).1

/-- A dispatch cycle: evaluation, the repeated catch checks, the marks of the cycle. -/
def Dev.dispatchCycle (d : Dev) : Dev :=
  let kept := oars32.filter fun k => (nth d.mar.oars k).keptFor.isSome
  let d1 := if d.mode.mode == .build && d.layers.released.isSome && d.blockLive 7 0 then d.runCycle else d
  let d2 := (oars32.foldl (fun d k => d.holdCheck k) d1).landMarks
  (kept.foldl (fun d k => d.onMar fun m => { m with oars := upd m.oars k fun o => { o with keptFor := none } }) d2).rt0Check

/-! ## Leave for strokes (R107, R118, R121, R122) -/

/-- The pool but for the return lists' share of the buffers: what stands undispatched, pending requests among it (R104). -/
def Marshal.pool (m : Marshal) : List PoolItem := m.window ++ m.repairs ++ m.pending.map (·.item)

/-- R118: a senior stroke of the same group with a lower SEQ waits for leave. -/
def Dev.seniorFirst (d : Dev) (s : Stroke) : Bool :=
  d.mar.pool.any fun i => i.senior && i.leaveSince.isSome && i.stroke.group = s.group && i.stroke.seq < s.seq

def PendingItem.leave (p : PendingItem) (now : Nat) : Leave :=
  ⟨p.req, .stroke p.oar p.item.stroke.seq, p.prio, 350, p.plantW, p.item.leaveSince.getD now, 0⟩

def Dev.unpend (d : Dev) (req : Nat) : Dev := d.onMar fun m => { m with pending := m.pending.filter (·.req ≠ req) }

/-- The stroke enters the oar's buffer; a run is bound to it (R107, R112), by a repair only where the oar is offered for the
members that remain (R83, R149). -/
def Dev.strokeGranted (d : Dev) (p : PendingItem) : Dev :=
  let s := p.item.stroke
  let b : BufStroke := ⟨p.item.unwait, p.plantW, p.finishPs⟩
  let keep : Bool := match s.run with
    | some r => s.repair.isNone || (d.runLeft s && (d.runOar r).isNone && (d.runG r s.seq).testBit p.oar)
    | none => false
  ((d.grantLeave (p.leave d.now)).unpend p.req).onMar fun m => { m with oars := upd m.oars p.oar fun o =>
    { o with buf := o.buf ++ [b], run := if keep then s.run else o.run } }

/-- The last stroke that oar k holds, has pending or in hand: its predicted finish and its end. -/
def Dev.lastHeld (d : Dev) (k : Nat) : Option (Rat × Stroke) :=
  let e := nth d.eng k
  let held := (e.cur.toList ++ (e.next.map (·.1)).toList ++ (nth d.mar.oars k).buf).map fun b => (b.finishPs, b.item.stroke)
  (held ++ (d.mar.pending.filter (·.oar = k)).map fun p => (p.finishPs, p.item.stroke)).getLast?

/-- The prediction of an oar as the strokes it still has give it. -/
def Dev.redrain (d : Dev) (k : Nat) : Dev :=
  match d.lastHeld k with
  | some (f, s) => d.onMar fun m => { m with oars := upd m.oars k fun o => { o with drain := f, lastX := s.qx, lastY := s.qy } }
  | none => d

/-- The stroke returns to the pool with the reason LEAVE; it waits on the budgets that it exceeded. -/
def Dev.strokeDeferred (d : Dev) (p : PendingItem) : Dev :=
  let l := p.leave d.now
  let r := d.noteReason p.item 9
  let j := { r.1 with
    leaveChip := ! d.chipFits l
    leavePlant := ! d.plantFits l
    leaveOar := some p.oar
    leaveSince := some (p.item.leaveSince.getD d.now) }
  let d1 := ({ r.2 with gov := r.2.gov.count p.prio fun c => { c with deferrals := c.deferrals + 1 } }).unpend p.req
  ((d1.onMar (·.enterPool j)).noteAge j).redrain p.oar

/-- The governor's answer to the request of a pending stroke. -/
def Dev.strokeAnswer (d : Dev) (req : Nat) : Dev :=
  match d.mar.pending.find? (·.req = req) with
  | none => d
  | some p =>
    if d.mayGrant (p.leave d.now) && ! d.seniorFirst p.item.stroke then (d.strokeGranted p).rt0Check
    else (d.strokeDeferred p).rt0Check

end Sys2Proof.Machine
end

