-- ==== Sys2Proof/Machine/MarshalRows.lean ====
section
/-! DEFINITION. Chapter 04: the Marshal's events, the `marshal` commands (R155 to R157), and the governor's answers to
requests for leave (R525 to R528). -/

namespace Sys2Proof.Machine

/-! ## Events of the pool -/

/-- R100: records read through RT0. -/
def execRt0BlockRead (ecc : EccOutcome) (s : State) : Out := onMemAny (fun m d => d.rt0Read m ecc) s

/-- R105. -/
def execDispatchCycle (s : State) : Out := onDev .dispatchCycle (fun _ d => d.dispatchCycle) s

/-- R106: the choices not issued leave nothing behind. -/
def execDispatchOverrun (s : State) : Out :=
  onDev .dispatchOverrun (fun _ d => (d.onMar fun m => { m with overruns := m.overruns + 1 }).layerStat fun t =>
    { t with overrun := t.overrun + 1 }) s

def Dev.makeSenior (d : Dev) (seq : Nat) : Dev :=
  d.onItem seq fun i => match i.deferred with
    | some t => if t + 50000000 < d.timeNs then { i with senior := true } else i
    | none => i

/-- R118. -/
def execStrokeSenior (seq : Nat) (s : State) : Out := onDevAny (fun _ d => d.makeSenior seq) s

def Dev.orphanOver (d : Dev) (seq : Nat) : Dev :=
  match (d.mar.window ++ d.mar.repairs).find? fun i => i.stroke.seq = seq with
  | some i =>
    let due := match i.orphanSince with | some t => decide (t + msT d.mar.inOrphan ≤ d.now) | none => false
    if due && (d.offeredSet i.stroke).isEmpty && (d.eligible i.stroke).all d.inT then (d.dropItem seq).unexposable i.stroke else d
  | none => d

/-- R113. -/
def execOrphanTimeout (seq : Nat) (s : State) : Out := onDevAny (fun _ d => d.orphanOver seq) s

/-- R125. -/
def execWakeSweep (s : State) : Out :=
  onDev .wakeSweep (fun _ d => d.onMar fun m => { m with
    wake := m.wake.map fun c => if 100000 ≤ wakeAge d.us32 c.2.1 then (c.1, c.2.1, c.2.2.1, 0) else c }) s

/-- R136. -/
def execThermalSweep (s : State) : Out :=
  onDev .thermalSweep (fun _ d => d.onMar fun m => { m with
    heat := m.heat.foldl (fun h c => setHeat h c.1 (d.heatNow c.1) d.stamp) m.heat }) s

/-- R145: a place in the repair list goes to the interruption that has waited longest. -/
def execRepairPlaceFreed (s : State) : Out :=
  onDev .repairPlaceFreed (fun _ d => d.onMar fun m => match m.waitRepairs with
    | i :: rest => if m.repairRoom then { m with repairs := m.repairs ++ [i], waitRepairs := rest } else m
    | [] => m) s

/-! ## Leave -/

/-- R107. -/
def execLeaveAnswer (req : Nat) (s : State) : Out := onDevAny (fun _ d => d.strokeAnswer req) s

def isTrace : Requester → Bool
  | .trace => true
  | _ => false

def isStream (k : Nat) : Requester → Bool
  | .stream j => j = k
  | _ => false

/-- What waited for leave begins (R387, R535, R341, R300, R261, R230); a pause or scrub read takes its leave as it runs. -/
def Dev.leaveTaken (d : Dev) (m : Dram) (w : Requester) : Dev × List DramOp :=
  match w with
  | .safety => (d, [])
  | .stroke _ _ => (d, [])
  | .move a => (d.axisBegin a, [])
  | .retraining _ => (d, [])
  | .scrub => (d, [])
  | .migration c => (d.onChan c fun ch => { ch with mig := ch.mig.map fun g => { g with granted := true } }, [])
  | .cal _ => ({ d with cal := { d.cal with run := d.cal.run.map fun r => { r with granted := true, startTick := d.now } } }, [])
  | .eyeProbe => (d.probeStart, [])
  | .eyescan n => d.scanGranted m n
  | .stream k => (d.onMelt k fun m => { m with grant := some d.now, waiting := false }, [])
  | .trace => ({ d with loops := { d.loops with traces := d.loops.traces.map fun t => { t with granted := true } } }, [])

/-- R527: a deferred request refused later ends what asked for it. -/
def Dev.leaveRefused (d : Dev) (w : Requester) (n : Nat) : Dev :=
  let note := fun (d : Dev) => d.healthRec 0x0C 1 0x0F 0xFF n 0 0 0
  match w with
  | .safety => d
  | .stroke _ _ => d
  | .move a => ((d.finishJobs (axisJob a) 0x11 n []).axisStop a 0x11).recoatFault a
  | .retraining c => (note d).finishJobs (retrainWaits c) 0x11 n []
  | .scrub => note d
  | .migration c =>
    if d.hasJob (fun k => match k with | .migrate b => b = c | _ => false) then
      d.finishJobs (fun k => match k with | .migrate b => b = c | _ => false) 0x11 n []
    else note d
  | .cal _ => match d.cal.run with | some r => d.calEnd r 0x11 n | none => d
  | .eyeProbe => note d
  | .eyescan p => d.finishJobs (fun k => match k with | .eyescan q _ _ _ _ _ _ => q = p | _ => false) 0x11 n []
  | .stream k => d.onMelt k fun m => { m with waiting := false }
  | .trace => d

/-- The count of a refusal by its reason (R533). -/
def Governor.refused (g : Governor) (prio n : Nat) : Governor :=
  g.count prio fun c =>
    if n = 1 then { c with refAlone := c.refAlone + 1 } else if n = 2 then { c with refMode := c.refMode + 1 }
    else { c with refCap := c.refCap + 1 }

/-- The waiting requests as they stand: one that is to be refused is refused, else the next is granted (R525, R528). -/
def Dev.leaveGrant (d : Dev) (m : Dram) : Dev × List DramOp :=
  match d.gov.waiting.find? fun l => d.refusal l ≠ 0 with
  | some l =>
    let n := d.refusal l
    (({ d with gov := { d.gov.refused l.prio n with waiting := d.gov.waiting.filter (·.id ≠ l.id) } }).leaveRefused l.who n, [])
  | none => match d.nextGrant with
    | some l => (d.grantLeave l).leaveTaken m l.who
    | none => (d, [])

/-- R525. -/
def execLeaveGrant (s : State) : Out := onMem .leaveGrant (fun m d => d.leaveGrant m) s

/-- What a revoked requester loses (R261, R526). -/
def Dev.revoked (d : Dev) (l : Leave) : Dev :=
  let d1 := d.revoke l
  match l.who with
  | .stream k => d1.onMelt k fun m => { m with grant := none, waiting := true }
  | .trace => { d1 with loops := { d1.loops with traces := d1.loops.traces.map fun t => { t with granted := false } } }
  | _ => d1

/-- The P5 grants to be revoked for the first P4 request that has waited 100 ms and that their end makes room for. -/
def Dev.p4Room (d : Dev) : List Leave :=
  (d.gov.waiting.findSome? fun l =>
    if l.prio = 4 && decide (l.since + msT 100 ≤ d.now) && ! d.mayGrant l then (d.revokeFor l).filter (· ≠ []) else none).getD []

/-- R526: for a P4 request that has waited 100 ms just enough of the P5 grants; in panic as far as panic requires. -/
def Dev.p5Revoke (d : Dev) : Dev :=
  let d1 := d.p4Room.foldl Dev.revoked d
  if d.mc.panic0 || d.mc.panic1 then
    let n := d1.draw (d1.gov.revocable.length + 1)
    (n.2.gov.revocable.take n.1).foldl Dev.revoked n.2
  else d1

/-- R526. -/
def execP5Revocation (s : State) : Out := onDev .p5Revocation (fun _ d => d.p5Revoke) s

/-! ## `marshal.config`, `marshal.thermal`, `marshal.thermtable` (R134, R138, R157) -/

def Marshal.cfgBytes (m : Marshal) : List Byte := u32 m.horizon ++ u32 m.balance ++ u32 m.orphanMs

def marshalConfigBody (horizon balance orphan : Nat) : Body := fun x _ d =>
  if horizon < 1000 ∨ 50000 < horizon ∨ 1000 < balance ∨ 10000 < orphan then badArg
  else
    let d1 := d.onMar fun m => { m with horizon := horizon, balance := balance, orphanMs := orphan }
    let r := if d.layers.released.isSome then u32 d.mar.inHorizon ++ u32 d.mar.inBalance ++ u32 d.mar.inOrphan else d1.mar.cfgBytes
    .done (d1.log x 0x10 0 d.mar.cfgBytes d1.mar.cfgBytes) r

def execMarshalConfig (mbx horizon balance orphan : Nat) (s : State) : Out :=
  runCmd (.marshalConfig mbx horizon balance orphan) (marshalConfigBody horizon balance orphan) s

def Dev.heatSizeAt (d : Dev) (edge : Nat) : Nat × Nat := (d.onMar fun m => { m with edge := edge }).heatSize

def marshalThermalBody (set : Option (Nat × Nat)) : Body := fun x _ d =>
  if ! d.queueEmpty then refusedBusy
  else match set with
    | none =>
      let n := d.heatSize
      .done ((d.onMar fun m => { m with heat := [] }).log x 0x10 1 (u32 d.mar.edge ++ u32 d.mar.energyLsb) (u32 d.mar.edge ++ u32 d.mar.energyLsb))
        (u32 n.1 ++ u32 n.2)
    | some (edge, lsb) =>
      let n := d.heatSizeAt edge
      if edge % 16000 ≠ 0 ∨ edge < 16000 ∨ 256000 < edge ∨ lsb < 1 ∨ 65535 < lsb ∨ 1048576 < n.1 * n.2 then badArg
      else
        let same : Bool := edge = d.mar.edge && lsb = d.mar.energyLsb
        let d1 := d.onMar fun m => { m with edge := edge, energyLsb := lsb, heat := if same then m.heat else [] }
        .done (d1.log x 0x10 1 (u32 d.mar.edge ++ u32 d.mar.energyLsb) (u32 edge ++ u32 lsb)) (u32 n.1 ++ u32 n.2)

def execMarshalThermal (mbx : Nat) (set : Option (Nat × Nat)) (s : State) : Out :=
  runCmd (.marshalThermal mbx set) (marshalThermalBody set) s

def marshalThermtableBody (first count addr crc : Nat) : Body := loadBody .tables first count addr crc

def execMarshalThermtable (mbx first count addr crc : Nat) (s : State) : Out :=
  runCmd (.marshalThermtable mbx first count addr crc) (marshalThermtableBody first count addr crc) s

/-! ## Reports (R111, R119, R150, R154) -/

/-- Buffer depth, predicted drain ahead in µs, the run that reserves the oar, the leave it holds in W. -/
def Dev.oarStatusBytes (d : Dev) (k : Nat) : List Byte :=
  let o := nth d.mar.oars k
  u32 o.buf.length ++ u32 (min (natOf ((d.drainOf k - d.psNow) / 1000000).floor) (2 ^ 32 - 1)) ++
  u32 (o.run.getD 0xFFFFFFFF) ++ u32 (natOf (roundRat (d.gov.oarDraw k)))

def marshalStatusBody : Body := fun _ _ d =>
  let pool := d.mar.pool
  let cnt := fun (c : Nat) => (pool.filter fun i => i.last = c).length
  let orphans := (pool.filter fun i => i.last = 5 && d.orphaned i.stroke).length
  .done d (((bitsOf 32 d.eMask).flatMap d.oarStatusBytes) ++
    ((List.range 9).flatMap fun c => u32 (cnt (c + 1))) ++ u32 (pool.filter (·.senior)).length ++
    u32 (min (pool.foldl (fun m i => max m (d.ageUs i)) 0) (2 ^ 32 - 1)) ++ u32 orphans)

def execMarshalStatus (mbx : Nat) (s : State) : Out := runCmd (.marshalStatus mbx) marshalStatusBody s

/-- A released or closed layer. -/
def Layers.kept (l : Layers) (layer : Nat) : Option LayerRec := (l.released.toList ++ l.closed).find? fun x => x.desc.layer = layer

def marshalStatsBody (layer : Nat) : Body := fun _ _ d =>
  match d.layers.kept layer with
  | some l => .done d (d.statBytes l)
  | none => badArg

def execMarshalStats (mbx layer : Nat) (s : State) : Out := runCmd (.marshalStats mbx layer) (marshalStatsBody layer) s

/-- The 32 bytes of R150. -/
def IntRec.bytes (r : IntRec) : List Byte :=
  u32 r.seq ++ u32 r.group ++ u8 r.oar ++ u8 r.cause ++ u8 r.iflags ++ u8 r.outcome ++ i32 r.finX ++ i32 r.finY ++
  u16 r.finS ++ u8 r.repairOar ++ u8 0 ++ u32 r.timeS ++ u32 r.timeNs

def marshalInterruptedBody (layer first count : Nat) : Body := fun _ _ d =>
  match d.layers.kept layer with
  | some l => .done d (listOf IntRec.bytes (((l.ints.drop first).take count).take 62))
  | none => badArg

def execMarshalInterrupted (mbx layer first count : Nat) (s : State) : Out :=
  runCmd (.marshalInterrupted mbx layer first count) (marshalInterruptedBody layer first count) s

/-! ## The two maps (R123, R133, R155, R156) -/

/-- Cells of a rectangle in row-major order. -/
def rectCells (nx col row w h : Nat) : List Nat :=
  (List.range h).flatMap fun j => (List.range w).map fun i => col + i + nx * (row + j)

/-- The 40 bits of R123. -/
def Marshal.wakeBytes (m : Marshal) (c : Nat) : List Byte :=
  let w := m.wakeAt c
  u32 w.1 ++ u8 (w.2.1 + 32 * w.2.2)

def marshalWakeBody (rect : Option (Nat × Nat × Nat × Nat)) : Body := fun x _ d =>
  match rect with
  | none =>
    if d.mode.mode != .ready then refusedMode 0xFF09
    else .done ((d.onMar fun m => { m with wake := [] }).log x 0x10 2 [] [])
  | some (col, row, w, h) =>
    if w = 0 ∨ h = 0 ∨ 256 < col + w ∨ 256 < row + h then badArg
    else .done d ((rectCells 256 col row w h).flatMap d.mar.wakeBytes)

def execMarshalWake (mbx : Nat) (rect : Option (Nat × Nat × Nat × Nat)) (s : State) : Out :=
  runCmd (.marshalWake mbx rect) (marshalWakeBody rect) s

def marshalHeatBody (col row w h addr write : Nat) : Body := fun x m d =>
  let n := d.heatSize
  let cs := rectCells n.1 col row w h
  let len := 4 * (w * h)
  if write = 1 && d.mode.mode != .ready then refusedMode 0xFF09
  else if w = 0 ∨ h = 0 ∨ n.1 < col + w ∨ n.2 < row + h ∨ ! d.rangeOk addr len ∨ 1 < write then badArg
  else if write = 0 then
    let w := d.coxWrite m addr (cs.flatMap fun c => u16 (d.heatNow c) ++ u16 d.stamp)
    .ok w.1 [] w.2
  else if ! d.queueEmpty then refusedBusy
  else
    let r := d.hostData m addr len
    match r.2.2 with
    | none => .refuseWith r.1 0x21 0 0 [] r.2.1
    | some bs =>
      let d1 := r.1.onMar fun m => { m with
        heat := (cs.zipIdx).foldl (fun g c => setHeat g c.1 (fieldOf bs (4 * c.2) 2) d.stamp) m.heat }
      .ok (d1.log x 0x10 3 [] bs) [] r.2.1

def execMarshalHeat (mbx col row w h addr write : Nat) (s : State) : Out :=
  runCmd (.marshalHeat mbx col row w h addr write) (marshalHeatBody col row w h addr write) s

end Sys2Proof.Machine
end

