-- ==== Sys2Proof/Machine/MeltOps.lean ====
section
/-! DEFINITION. The melt-pool engines: what records take from the exposure engine, photodiode features (R235, R236),
camera features (R237 to R239), camera correction (R243, R244), their records (R250 to R254) and frame streams (R261). -/

namespace Sys2Proof.Machine

/-! ## What a record's instant sees of the stroke (R247, R250) -/

/-- The predicted normalised distance of the original stroke times 65 535 (R181); the normalised mark time in COMPAT. -/
def Dev.recShare (d : Dev) (k : Nat) : Nat :=
  match (nth d.eng k).cur with
  | some b => natOf (roundRat (65535 * b.item.stroke.whole (d.powerShare k b.item.stroke d.psNow)))
  | none => 0

/-- A stroke whose camera frames are kept exposes: `REC_FULL`, or its layer's `REC_FULL_ALL`. -/
def Dev.fullNow (d : Dev) (k : Nat) : Bool :=
  let e := nth d.eng k
  e.exposing && ((match e.cur with | some b => b.item.stroke.recFull | none => false) || d.relDesc.recFullAll)

/-- The engine's view at this tick enters the history while anything may be recorded. -/
def Dev.midTick (d : Dev) (k : Nat) : Dev :=
  let m := nth d.melt k
  if d.recd.take = 0 ∧ m.cam.en = 0 then d
  else
    let e := nth d.eng k
    let h : Mid := ⟨d.now, e.spanSeq, (match e.span with | some s => s.repair.isSome | none => false), e.lgate, e.dac,
      e.trim, d.recShare k, d.fullNow k⟩
    d.onMelt k fun m => { m with hist := (h :: m.hist).take (max 64 (2 * m.cam.period + 64)) }

/-- The view at an instant of the frame clock. -/
def Melt.midAt (m : Melt) (ps : Rat) : Mid :=
  ((m.hist.find? fun h => (h.tick : Int) ≤ (ps / 250000).floor)).getD ⟨0, 0xFFFFFFFF, false, false, 0, 0, 0, false⟩

/-! ## Photodiodes (R235, R236, R251) -/

/-- The mean of a channel over the period: offset taken off, floor at 0, to the nearest. -/
def pdMean (off : Nat) (xs : List Nat) : Nat :=
  natOf (roundRat ((((xs.map fun x => x - off).sum : Nat) : Rat) / xs.length))

/-- PD1 / PD0 in Q4.12, saturating. -/
def pdRatio (p0 p1 : Nat) : Nat := if p0 = 0 then 0xFFFF else min 0xFFFF (natOf (roundRat ((p1 * 4096 : Nat) / (p0 : Rat))))

/-- A sample of a return frame; the latest four stay (R231). -/
def Dev.pdSample (d : Dev) (k : Nat) (x : Nat × Nat × Nat × Bool) : Dev :=
  d.onMelt k fun m => { m with samples := (m.samples ++ [x]).drop (m.samples.length - 3) }

/-- The channels that read 0xFFFF in the period. -/
def Melt.satMask (m : Melt) : Nat :=
  boolN (m.samples.any (·.1 = 0xFFFF)) + 2 * boolN (m.samples.any (·.2.1 = 0xFFFF)) + 4 * boolN (m.samples.any (·.2.2.1 = 0xFFFF))

/-- A channel's mean; a free value where a sample of the period is missing. -/
def Dev.pdChannel (d : Dev) (k c : Nat) : Nat × Dev :=
  let m := nth d.melt k
  let xs := m.samples.map fun x => if c = 0 then x.1 else if c = 1 then x.2.1 else x.2.2.1
  if xs.length < 4 then d.draw 65536 else (min 0xFFFF (pdMean (nth m.pdOffset c) xs), d)

/-- Photodiode features of the period that ends. -/
def Dev.pdForm (d : Dev) (k : Nat) : Dev :=
  let m := nth d.melt k
  let sat := m.satMask
  let bad : Bool := m.samples.length < 4 || m.samples.any (fun x => ! x.2.2.2) || sat ≠ 0
  let p0 := d.pdChannel k 0
  let p1 := p0.2.pdChannel k 1
  let p2 := p1.2.pdChannel k 2
  let d1 := p2.2.onMelt k fun m => { m with
    pd := (p0.1, p1.1, p2.1, pdRatio p0.1 p1.1), pdInvalid := bad, ratioInvalid := p0.1 < 64, pdSat := sat, samples := [],
    satCount := m.satCount + boolN (sat ≠ 0), invalidCount := m.invalidCount + boolN bad }
  if sat ≠ 0 then d1.eventNow k 0x14 (u8 sat) else d1

/-- The record of R251; its S is taken as the slot executes (DESIGN CHOICE, log 151). -/
def Dev.pdBytes (d : Dev) (k : Nat) : List Byte :=
  let m := nth d.melt k
  let e := nth d.eng k
  let mid := m.midAt e.obsPs
  let mon := m.monSamples
  let flags := boolN (e.lgate || (m.hist.take 4).any (·.gate)) + 2 * boolN (m.pdSat ≠ 0) + 4 * boolN m.pdInvalid +
    8 * boolN ((d.slot (96 + k)).st == .auto) + 16 * boolN mid.repair + 32 * boolN d.boot.compat
  recBytes mid.seq k 0x40 (u16 flags ++ u16 m.pd.1 ++ u16 m.pd.2.1 ++ u16 m.pd.2.2.1 ++ u16 m.pd.2.2.2 ++ i16 e.trim ++
    u16 e.dac ++ u16 (d.recShare k) ++ u16 (if mon = [] then 0 else natOf (roundRat ((mon.sum : Nat) / (mon.length : Rat)))))
    (d.timeOfPs e.obsPs)

/-- The record is kept from take FEATURES on, every Nth of an oar, within a span when GATED (R247, R248). -/
def Dev.pdRecord (d : Dev) (k : Nat) : Dev :=
  if d.recd.take < 2 then d
  else
    let m := nth d.melt k
    let n := m.sinceKept + 1
    let due : Bool := d.recd.decim ≤ n
    let d1 := d.onMelt k fun m => { m with sinceKept := if due then 0 else n }
    if due && (! d.recd.gated || (m.midAt (nth d.eng k).obsPs).seq ≠ 0xFFFFFFFF) then d1.intake .feature k (d1.pdBytes k) else d1

/-! ## Camera features (R237) -/

/-- A component: its label, sums and peak, and whether it touches an edge of the region. -/
structure Blob where
  id : Nat
  a : Nat
  sx : Nat
  sy : Nat
  sxx : Nat
  syy : Nat
  sxy : Nat
  pk : Nat
  edge : Bool
deriving DecidableEq, Repr, Inhabited

/-- Labelling in progress: components by rising label, labels opened, labels of the row above and of this row, newest first. -/
structure Labels where
  blobs : List Blob
  opened : Nat
  ovf : Bool
  sat : Bool
  prev : List (Option Nat)
  cur : List (Option Nat)
deriving DecidableEq, Repr, Inhabited

def Blob.join (p q : Blob) : Blob :=
  ⟨p.id, p.a + q.a, p.sx + q.sx, p.sy + q.sy, p.sxx + q.sxx, p.syy + q.syy, p.sxy + q.sxy, max p.pk q.pk, p.edge || q.edge⟩

/-- Two components become one under the lower label. -/
def Labels.join (l : Labels) (p q : Nat) : Labels :=
  let lo := min p q
  let hi := max p q
  if lo = hi then l
  else match l.blobs.find? (·.id = hi) with
    | none => l
    | some b =>
      let re := fun (o : Option Nat) => if o = some hi then some lo else o
      { l with
        blobs := (l.blobs.filter (·.id ≠ hi)).map fun x => if x.id = lo then x.join b else x
        prev := l.prev.map re
        cur := l.cur.map re }

/-- The label that a pixel takes from its left and upper neighbours, or a new one. -/
def Labels.pick (l : Labels) (left up : Option Nat) : Option Nat × Labels :=
  match left, up with
  | some p, some q => (some (min p q), l.join p q)
  | some p, none => (some p, l)
  | none, some q => (some q, l)
  | none, none =>
    if l.opened < 256 then
      (some l.opened, { l with blobs := l.blobs ++ [⟨l.opened, 0, 0, 0, 0, 0, 0, 0, false⟩], opened := l.opened + 1 })
    else (none, { l with ovf := true })

def Labels.pixel (w h thresh x y p : Nat) (l0 : Labels) : Labels :=
  if p < thresh then { l0 with cur := none :: l0.cur }
  else
    let c := l0.pick (l0.cur.head?.getD none) (l0.prev.getD x none)
    let l := c.2
    let one : Blob := ⟨0, 1, x, y, x * x, y * y, x * y, p, x = 0 || y = 0 || x + 1 = w || y + 1 = h⟩
    { l with
      blobs := l.blobs.map fun b => if c.1 = some b.id then b.join one else b
      sat := l.sat || p = 1023
      cur := c.1 :: l.cur }

/-- The whole frame, row by row. -/
def labelFrame (w h thresh : Nat) (pix : Nat → Nat) : Labels :=
  (List.range h).foldl (fun l y =>
    let r := (List.range w).foldl (fun l x => l.pixel w h thresh x y (pix (w * y + x))) l
    { r with prev := r.cur.reverse, cur := [] }) ⟨[], 0, false, false, [], []⟩

/-- The pixel stream as one number: word w holds bits 64 w to 64 w + 63 (R276). -/
def frameBits (words : List (Nat × Nat)) : Nat := words.foldl (fun n p => n ||| (p.2 <<< (64 * p.1))) 0

def pixelOf (bits i : Nat) : Nat := (bits >>> (10 * i)) % 1024

/-- arctan on 0 to 1: two half-angle steps, then the series (DESIGN CHOICE, log 14). -/
def atanUnit (x : Rat) : Rat :=
  let half := fun (v : Rat) => v / (1 + sqrtRat (1 + v * v))
  let y := half (half x)
  4 * ((List.range 12).map fun i => (if i % 2 = 0 then (1 : Rat) else -1) * y ^ (2 * i + 1) / (2 * i + 1 : Nat)).sum

/-- atan2 where an argument is not 0. -/
def atan2Q (y x : Rat) : Rat :=
  let ax := |x|
  let ay := |y|
  let base := if ay ≤ ax then atanUnit (ay / ax) else piQ / 2 - atanUnit (ax / ay)
  let a := if x < 0 then piQ - base else base
  if y < 0 then -a else a

/-- A feature in its 16-bit field; a free value where it does not fit. -/
def Dev.fit16 (d : Dev) (n : Nat) : Nat × Dev := if n < 65536 then (n, d) else d.draw 65536

def q88 (x : Rat) : Nat := natOf (roundRat (256 * x))

/-- Shape of the largest component: the features of R237 without numbers of the frame. -/
def Dev.shape (d : Dev) (cam : CameraArg) (m : Blob) : CamFeat × Dev :=
  let a : Rat := m.a
  let cx := m.sx / a
  let cy := m.sy / a
  let cxx := m.sxx / a - cx ^ 2
  let cyy := m.syy / a - cy ^ 2
  let cxy := m.sxy / a - cx * cy
  let mid := (cxx + cyy) / 2
  let r := sqrtRat (((cxx - cyy) / 2) ^ 2 + cxy ^ 2)
  let area := d.fit16 m.a
  let len := area.2.fit16 (q88 (4 * sqrtRat (mid + r)))
  let wid := len.2.fit16 (q88 (4 * sqrtRat (max (mid - r) 0)))
  let ori := if cxy = 0 ∧ cxx = cyy then wid.2.draw 256
    else (natOf (roundRat (atan2Q (2 * cxy) (cxx - cyy) / 2 * 256 / piQ) % 256), wid.2)
  (⟨0, area.1, m.pk, q88 (cx + cam.x0), q88 (cy + cam.y0), len.1, wid.1, ori.1, 0, 0, 0, 0⟩, ori.2)

/-- The largest component; the lowest label wins a tie. -/
def Labels.largest (l : Labels) : Option Blob :=
  l.blobs.foldl (fun (m : Option Blob) b => match m with
    | some x => if x.a < b.a then some b else m
    | none => some b) none

/-- Features of a frame; flags bit 0 VALID, 1 SAT, 2 CLIPPED, 3 INCOMPLETE, 4 LABEL_OVF (R237, R238, R252). -/
def Dev.camReduce (d : Dev) (cam : CameraArg) (r : CamRx) (incomplete : Bool) : CamFeat × Dev :=
  let bits := frameBits r.words
  let l := labelFrame cam.w cam.h cam.thresh (pixelOf bits)
  let f := match l.largest with
    | some m => d.shape cam m
    | none => (⟨0, 0, 0, 0, 0, 0, 0, 0, 0, 0, 0, 0⟩, d)
  let spat := match l.largest with
    | some m => min 255 (l.blobs.filter fun b => b.id ≠ m.id ∧ cam.spatMin ≤ b.a).length
    | none => 0
  let flags := boolN (! incomplete && l.largest.isSome) + 2 * boolN l.sat + 4 * boolN ((l.largest.map (·.edge)).getD false) +
    8 * boolN incomplete + 16 * boolN l.ovf
  ({ f.1 with frameNo := r.frameNo, spatter := spat, flags := flags, midPs := r.midPs, tick := d.now }, f.2)

def CamFeat.bit (c : CamFeat) (n : Nat) : Bool := c.flags.testBit n

/-- R239 for a target. -/
def CamFeat.ok (c : CamFeat) (t : TargetRec) : Bool := ! c.bit 3 && ! c.bit 2 && t.minArea ≤ c.area

/-- The camera feature that a target selects (R240, R245). -/
def CamFeat.pick (c : CamFeat) (n : Nat) : Nat := nth [c.area, c.peak, c.len, c.wid, c.cx, c.cy] n

/-- The stroke to which a frame contributes (R244). -/
def Dev.camStroke (d : Dev) (k : Nat) (midPs : Int) : Option Stroke :=
  let e := nth d.eng k
  if e.exposing && decide (e.catchPs ≤ (midPs : Rat)) then e.cur.map (·.item.stroke) else none

/-- R243. -/
def TargetRec.correction (t : TargetRec) (f : Nat) : Int :=
  clampI (-(t.camLim : Int)) t.camLim (roundRat (((t.camGain * ((t.camSp : Int) - f) : Int) : Rat) / 65536))

/-- What a frame's features do to the loop of its stroke: mode 2 gets a correction, unless the exposure began before the
catch (R244), mode 3 a new measurement. -/
def Dev.camToLoop (d : Dev) (k : Nat) (c : CamFeat) : Dev :=
  let whole : Bool := decide ((nth d.eng k).catchPs ≤ ((c.midPs - 500 * (nth d.melt k).rxCam.exposureNs : Int) : Rat))
  match d.camStroke k c.midPs with
  | some s =>
    let p := d.psetOf s
    match d.lib.target? p.target with
    | some t =>
      if d.loopApplies s then
        d.onMelt k fun m => { m with
          camNew := true, corrNext := if p.loopMode = 2 && whole && c.ok t then some (t.correction (c.pick t.camFeature)) else m.corrNext }
      else d
    | none => d
  | none => d

/-! ## Camera records (R252, R254) -/

def CamFeat.record (c : CamFeat) (k flags : Nat) (mid : Mid) (t : Nat × Nat) : List Byte :=
  recBytes mid.seq k 0x41 (u16 flags ++ u16 c.area ++ u16 c.peak ++ u16 c.cx ++ u16 c.cy ++ u16 c.len ++ u16 c.wid ++
    u8 c.orient ++ u8 c.spatter ++ u16 (c.frameNo % 65536)) t

/-- Pixel bytes of a frame; missing words are 0. -/
def framePixels (cam : CameraArg) (words : List (Nat × Nat)) : List Byte :=
  le (cam.w * cam.h * 10 / 8) (frameBits words)

def frameRecord (cam : CameraArg) (c : CamFeat) (k flags : Nat) (mid : Mid) (t : Nat × Nat) (pix : List Byte) : List Byte :=
  u32 mid.seq ++ u8 k ++ u8 0x42 ++ u16 flags ++ u16 cam.w ++ u16 cam.h ++ u16 cam.x0 ++ u16 cam.y0 ++ u32 c.frameNo ++
  u32 cam.exposureNs ++ u32 t.1 ++ u32 t.2 ++ u16 mid.dac ++ i16 mid.trim ++ u16 mid.s ++ u16 0 ++ u32 pix.length ++
  u32 (crc32c pix) ++ u32 (64 + pix.length) ++ List.replicate 12 0 ++ pix

/-! ## Frame streams (R261) -/

/-- Whether frames of oar k are due at this exposure (R247). -/
def Dev.streamDue (d : Dev) (k : Nat) : Bool := d.recd.take = 3 || (1 ≤ d.recd.take && d.fullNow k)

/-- The stream's grant is asked for at the first frame due (R261). -/
def Dev.streamAsk (d : Dev) (k : Nat) : Dev :=
  let m := nth d.melt k
  let d1 := d.onMelt k fun m => { m with lastDue := d.now }
  if m.grant.isSome ∨ m.waiting ∨ ! (nth d.recd.rings 2).configured then d1
  else
    let r := d1.request (.stream k) 5 200 0
    match r.1 with
    | .granted => r.2.onMelt k fun m => { m with grant := some d.now }
    | .deferred => r.2.onMelt k fun m => { m with waiting := true }
    | .refused _ => r.2

/-- The frame record, when the take of its exposure or its stroke keeps it; without leave it is dropped (R247, R261).
Whether it was kept. -/
def Dev.keepFrame (d : Dev) (k take : Nat) (cam : CameraArg) (r : CamRx) (c : CamFeat) (mid : Mid) : Bool × Dev :=
  let byStroke : Bool := 1 ≤ take && take < 3 && mid.full
  if ! (take = 3 || byStroke) ∨ ! (nth d.recd.rings 2).configured then (false, d)
  else
    let d1 := d.streamAsk k
    if (nth d1.melt k).grant.isNone then (false, d1.dropRec .frame k 4)
    else
      let flags := boolN (c.bit 3) + 2 * boolN (c.bit 1) + 4 * boolN mid.repair + 8 * boolN mid.gate + 16 * boolN byStroke +
        32 * boolN d.boot.compat
      let bs := frameRecord cam c k flags mid (d.timeOfPs c.midPs) (framePixels cam r.words)
      (d1.blocked .frame bs.length = 0, d1.intake .frame k bs)

/-- A frame ends: features, records, correction, counts. -/
def Dev.camFinish (d : Dev) (k : Nat) (r : CamRx) (broken : Bool) : Dev :=
  let m := nth d.melt k
  let cam := m.rxCam
  let inc := broken || r.incomplete || ! r.eof || decide (r.words.length < cam.w * cam.h * 10 / 64)
  let f := d.camReduce cam r inc
  let c := f.1
  let mid := m.midAt c.midPs
  let kept := f.2.keepFrame k m.rxTake cam r c mid
  let flags := c.flags + 32 * boolN kept.1 + 64 * boolN mid.gate + 128 * boolN d.boot.compat
  let d1 := kept.2.onMelt k fun m => { m with
    camFeat := some { c with flags := flags }, rx := none, camCount := m.camCount + 1,
    satCount := m.satCount + boolN (c.bit 1), incompleteCount := m.incompleteCount + boolN inc,
    labelOvf := m.labelOvf + boolN (c.bit 4) }
  let keepFeature : Bool := 2 ≤ d.recd.take && (! d.recd.gated || mid.seq ≠ 0xFFFFFFFF)
  let d2 := if keepFeature then d1.intake .feature k (c.record k flags mid (d1.timeOfPs c.midPs)) else d1
  let d3 := if inc then d2.eventRec k mid.seq 0x15 (u32 c.frameNo) (d2.timeOfPs c.midPs) else d2
  d3.camToLoop k c

/-! ## Rows -/

/-- Frames run where outbound frames reach the head, a relock of its return lane included (R232, R249, R290). -/
def Dev.camRuns (d : Dev) (k : Nat) : Bool :=
  (nth d.melt k).cam.en = 1 && d.oarExists k && (d.port k).linked && (d.port k).sleep = 0

/-- R232. -/
def execCameraExposureStart (oar : Nat) (s : State) : Out :=
  onDev (.cameraExposureStart oar) (fun _ d =>
    let m := nth d.melt oar
    if d.camRuns oar && d.now % max 1 m.cam.period = 0 && ! m.starts.any (·.1 = d.now) then
      let d1 := d.onMelt oar fun m => { m with starts := m.starts ++ [(d.now, d.recd.take, m.cam)] }
      if d1.streamDue oar then d1.streamAsk oar else d1
    else d) s

/-- R238: the frame whose last pixel has arrived is reduced. -/
def execCameraFeaturesReady (oar : Nat) (s : State) : Out :=
  onDev (.cameraFeaturesReady oar) (fun _ d =>
    match (nth d.melt oar).rx with
    | some r => if r.eof then d.camFinish oar r false else d
    | none => d) s

/-- A frame of which nothing arrived: number and delay of its midpoint are free. -/
def Dev.lostFrame (d : Dev) (k start take : Nat) (cam : CameraArg) : Dev :=
  let n := d.draw (2 ^ 32)
  let t := n.2.draw (250000 * max 1 cam.period)
  let mid : Int := 250000 * (start : Int) + 500 * cam.exposureNs + t.1
  let d1 := t.2.onMelt k fun m => { m with starts := m.starts.drop 1, rxTake := take, rxCam := cam }
  d1.camFinish k ⟨n.1, start, [], true, mid, false⟩ true

/-- R234: 2 × `CAM_PERIOD` after its exposure start a frame ends. -/
def execCameraFrameDeadline (oar : Nat) (s : State) : Out :=
  onDev (.cameraFrameDeadline oar) (fun _ d =>
    let m := nth d.melt oar
    match m.rx, m.starts with
    | some r, _ => if ! r.eof && decide (r.startTick + 2 * m.rxCam.period ≤ d.now) then d.camFinish oar r true else d
    | none, (t, take, cam) :: _ => if t + 2 * cam.period ≤ d.now then d.lostFrame oar t take cam else d
    | none, [] => d) s

/-- R261: a stream with no frame due for 1 ms gives its leave back. -/
def execFrameStreamRelease (oar : Nat) (s : State) : Out :=
  onDev (.frameStreamRelease oar) (fun _ d =>
    let m := nth d.melt oar
    if (m.grant.isSome || m.waiting) && decide (m.lastDue + msT 1 ≤ d.now) then
      (d.release (isStream oar)).onMelt oar fun m => { m with grant := none, waiting := false }
    else d) s

end Sys2Proof.Machine
end

