-- ==== Sys2Proof/Machine/LoopRows.lean ====
section
/-! DEFINITION. Chapter 06: the loop commands (R226 to R230), the execution of a slot (R201 to R219), overruns and
processor failure (R220 to R225). -/

namespace Sys2Proof.Machine

def Dev.onLoops (d : Dev) (f : Loops → Loops) : Dev := { d with loops := f d.loops }

/-! ## Descriptors (R211, R212, R226) -/

/-- Source and destination codes that a kind allows. -/
def spCodes : SlotKind → List Nat
  | .scanner => [2]
  | .melt => [4]
  | .slide => [1, 6, 7, 8, 9, 0xA, 0xB]
  | .heater => [1, 6, 0xB]
  | .general => [0, 1, 6, 7, 8, 9, 0xA, 0xB]

def pvCodes : SlotKind → List Nat
  | .scanner => [3]
  | .melt => [5]
  | .slide => [6, 7, 8, 9, 0xB]
  | .heater => [6, 0xB]
  | .general => [0, 6, 7, 8, 9, 0xB]

def dstCodes : SlotKind → List Nat
  | .scanner => [1]
  | .melt => [2]
  | .slide => [3, 6]
  | .heater => [4, 6]
  | .general => [0, 3, 4, 5, 6]

def srcIndexOk (src idx : Nat) : Bool :=
  if src = 0x0B then idx < 160 else if 6 ≤ src ∧ src ≤ 0xA then idx < 8 else true

def dstIndexOk (n dst idx : Nat) : Bool :=
  if dst = 3 then idx < 8 && (slotKind n != .slide || idx = n - 128)
  else if dst = 4 then idx < 8 && (slotKind n != .heater || idx = n - 136)
  else if dst = 5 then 144 ≤ idx && idx < 160
  else if dst = 6 then 128 ≤ idx && idx < 160
  else true

/-- A scanner or melt-pool slot of an oar in E (R60, R205, R227). A slot number names a slot and no oar: R6 lists what does. -/
def Dev.slotInE (d : Dev) (n : Nat) : Bool := match slotOar n with | some k => d.oarExists k | none => false

/-- In COMPAT the scanner and melt-pool slots of oars 12 to 31 stay OFF. -/
def Dev.slotBarred (d : Dev) (n : Nat) : Bool := d.boot.compat && (match slotOar n with | some k => 12 ≤ k | none => false)

/-- Every value of a descriptor within its range (R226). -/
def SlotDesc.ok (c : SlotDesc) : Bool :=
  let k := slotKind c.slot
  c.slot < 160 && c.mode ≤ 2 && (spCodes k).contains c.spSrc && srcIndexOk c.spSrc c.spIdx &&
  (pvCodes k).contains c.pvSrc && srcIndexOk c.pvSrc c.pvIdx && (dstCodes k).contains c.outDst &&
  dstIndexOk c.slot c.outDst c.outIdx && c.gainTable < 128 && (if k == .general then c.rate ≤ 5 else c.rate = 0) &&
  1 ≤ c.eNorm && c.eNorm < 2 ^ 31 && c.uMin < c.uMax && c.iMin ≤ c.iMax && 1 ≤ c.dFilt &&
  (k == .scanner || (c.kv = 0 && c.ka = 0))

/-- R227: a staged copy changes. -/
def loopConfigBody (ds : List SlotDesc) : Body := fun _ _ d =>
  match ds.find? fun c => ! SlotDesc.ok c with
  | some c => badArg c.slot
  | none => .done (ds.foldl (fun d c => d.onSlot c.slot fun s => { s with staged := some c }) d)

def execLoopConfig (mbx : Nat) (ds : List SlotDesc) (s : State) : Out := runCmd (.loopConfig mbx ds) (loopConfigBody ds) s

/-! ## Gain tables (R203 to R206) -/

def tablePoint (bs : List Byte) (j : Nat) : Nat × Int × Int × Int :=
  (fieldOf bs (16 * j) 2, fieldOfI bs (16 * j + 4) 4, fieldOfI bs (16 * j + 8) 4, fieldOfI bs (16 * j + 12) 4)

def gainTable (bs : List Byte) : GainTable := ⟨(List.range 32).map (tablePoint bs)⟩

/-- R204. -/
def GainTable.ok (t : GainTable) : Bool :=
  (nth t.pts 0).1 = 0 && (List.range 31).all fun i => (nth t.pts i).1 < (nth t.pts (i + 1)).1

def GainTable.bytes (t : GainTable) : List Byte :=
  t.pts.flatMap fun p => u16 p.1 ++ u16 0 ++ i32 p.2.1 ++ i32 p.2.2.1 ++ i32 p.2.2.2

/-- The slots that name a table. -/
def Loops.users (l : Loops) (t : Nat) : List Nat :=
  (List.range 160).filter fun n => match (nth l.slots n).desc with | some c => c.gainTable = t | none => false

/-- R205: the released layer references it. -/
def Dev.tableBusy (d : Dev) (t : Nat) : Bool := d.layers.released.isSome && (d.loops.users t).any d.slotInE

def Loops.putTable (l : Loops) (t : Nat) (g : GainTable) : Loops := { l with gains := l.gains.filter (·.1 ≠ t) ++ [(t, g)] }

/-- R206. -/
def Dev.bumpless (d : Dev) (t : Nat) : Dev :=
  (d.loops.users t).foldl (fun d n => d.onSlot n fun s =>
    if s.st == .auto && (match s.desc with | some c => lflag c 2 | none => false) then { s with preset := true } else s) d

def loopGainsBody (first count addr crc : Nat) : Body := fun x m d =>
  if count = 0 ∨ 128 < first + count ∨ ! d.rangeOk addr (512 * count) then badArg
  else match ((List.range count).map (first + ·)).find? d.tableBusy with
    | some t => .refuse 0x12 t 0xFFFFFFFF
    | none => withData m d addr (512 * count) crc 0 fun d bs ops =>
      let ts := (List.range count).map fun i => (first + i, gainTable (entryAt bs 512 i))
      match ts.find? fun p => ! p.2.ok with
      | some p => .refuseWith d 0x21 p.1 0 [] ops
      | none =>
        let old := ts.flatMap fun p => (d.loops.table p.1).bytes
        let d1 := ts.foldl (fun d p => (d.onLoops fun l => l.putTable p.1 p.2).bumpless p.1) d
        .ok (d1.log x 0x04 first old (ts.flatMap fun p => p.2.bytes)) [] ops

def execLoopGains (mbx first count addr crc : Nat) (s : State) : Out :=
  runCmd (.loopGains mbx first count addr crc) (loopGainsBody first count addr crc) s

/-! ## Commit (R200, R204, R213, R227, R228) -/

def LoopSlot.planned (s : LoopSlot) : Option SlotDesc := s.staged.orElse fun _ => s.desc
def LoopSlot.changes (s : LoopSlot) : Bool := s.staged.isSome && s.staged != s.desc

/-- Whether a slot is not OFF once the staged copy is in force. -/
def LoopSlot.willRun (s : LoopSlot) : Bool :=
  if s.changes then (match s.staged with | some c => c.mode ≠ 0 | none => false) else s.st != .off

/-- The destination instance of a descriptor, when it is one that has one writer at most. -/
def SlotDesc.target (c : SlotDesc) : Option (Nat × Nat) := if 3 ≤ c.outDst then some (c.outDst, c.outIdx) else none

/-- R213 over slots and their descriptors. -/
def clash (ws : List (Nat × Nat)) : Bool := ws.length ≠ ws.eraseDups.length

def Loops.committed (l : Loops) : List SlotDesc := l.slots.filterMap LoopSlot.planned

/-- R204, R212, R213 over the staged copy. A SLOT_SP writer may name a general slot that has no descriptor, of which R212 asks
nothing (DESIGN CHOICE, log 146). -/
def Loops.commitOk (l : Loops) : Bool :=
  (l.committed.all fun c => l.gains.any (·.1 = c.gainTable)) &&
  ! clash ((l.slots.filter LoopSlot.willRun).filterMap fun s => s.planned.bind SlotDesc.target) &&
  l.committed.all fun c => c.outDst ≠ 5 || match (nth l.slots c.outIdx).planned with
    | some t => t.spSrc ≤ 1
    | none => true

/-- The state in which a slot starts, that of TRACK behind it last (R215, R216, R228); OFF where COMPAT bars it. -/
def Dev.startState (d : Dev) (c : SlotDesc) : SlotState × SlotState :=
  let m : SlotState := if c.mode = 1 then .man else .auto
  if c.mode = 0 || d.slotBarred c.slot then (.off, .off)
  else match slotKind c.slot with
    | .scanner => if (d.port (c.slot / 3)).hearing then (m, m) else (.track, m)
    | .melt => (.man, .man)
    | _ => (m, m)

/-- A running slot goes OFF and its destination is released (R207, R213, R321); one that is OFF writes nothing. -/
def Dev.slotOff (d : Dev) (n : Nat) : Dev :=
  if (d.slot n).st == .off then d else ((d.loopLost n).onSlot n LoopSlot.toOff).drive n

/-- A slot starts under a descriptor; a slide speed whose writer the commit does not turn OFF is no loss (R321). -/
def Dev.startSlot (d : Dev) (n : Nat) (c : SlotDesc) : Dev :=
  let d1 := if c.mode = 0 ∨ (d.slot n).st == .off then d.slotOff n else (d.onSlot n LoopSlot.toOff).drive n
  let st := d1.startState c
  let cnt := (nth d1.slides.encs c.spIdx).edges
  d1.onSlot n fun s => { LoopSlot.reset with
    desc := some c, st := st.1, back := st.2, man := if slotKind n == .melt then 0 else c.manValue, cmd := s.cmd, proc := s.proc,
    lastRun := s.lastRun, phase := slotPhase n, pulse := s.pulse, pulseRem := s.pulseRem, pulseCount := cnt }

/-- R320: a writer of SLIDE_SPEED needs an axis whose LOOP_USE is not NONE. -/
def Dev.writersOk (d : Dev) : Bool :=
  (d.loops.slots.filter LoopSlot.willRun).all fun s => match s.planned with
    | some c => c.outDst ≠ 3 || (nth d.slides.axes c.outIdx).loopUse ≠ 0
    | none => true

/-- The staged copy comes into force; slots whose descriptor is unchanged keep their state. -/
def Dev.commitLoops (d : Dev) : Dev :=
  let d1 := (List.range 160).foldl (fun d n =>
    let s := d.slot n
    match s.staged with
    | some c => if s.changes then d.startSlot n c else d.onSlot n fun s => { s with staged := none }
    | none => d) d
  (d1.onLoops fun l => { l with storedDescs := l.slots.filterMap (·.desc), storedGains := l.gains }).commandHeads

def Loops.image (l : Loops) : List Byte := (l.slots.filterMap (·.desc)).flatMap slotBytes

/-- DETAIL of a schedule that does not fit: processor and frame offset (DESIGN CHOICE, log 12). -/
def overDetail (w : Nat × Nat × Nat) : Nat := w.1 * 8192 + w.2.1 % 8192

/-- The staged copy under its nine schedules: in force where every one fits, refused where one does not. -/
def Dev.commitFit (d : Dev) (x : Ctx) (loads : List (Nat × Nat × Nat)) : Res :=
  match loads.find? fun w => 240 < w.2.2 with
  | some w => .refuse 0x11 (overDetail w) 0
  | none =>
    let d1 := d.commitLoops.onLoops fun l => { l with loads := loads.map (·.2.2) }
    .done (d1.log x 0x04 0xFFFF d.loops.image d1.loops.image) (sha256 d1.loops.image ++ loads.flatMap fun w => u32 w.2.2)

def loopCommitBody : Body := fun x _ d =>
  let l := d.loops
  let busy : Bool := d.layers.released.isSome && (List.range 128).any fun n => (d.slot n).changes && d.slotInE n
  if busy then refusedBusy 0xFFFFFFFF
  else if ! l.commitOk ∨ ! d.writersOk then badArg
  else d.commitFit x (allLoads (l.committed.map fun c => (c.slot, c.rate)))

def execLoopCommit (mbx : Nat) (s : State) : Out := runCmd (.loopCommit mbx) loopCommitBody s

/-! ## `loop.mode`, `loop.setpoint` and the rest (R207 to R209, R218, R222, R225, R229, R230) -/

def SlotState.code : SlotState → Nat
  | .off => 0
  | .man => 1
  | .auto => 2
  | .track => 3
  | .fault => 4

/-- A slot enters a state by command. FAULT is left only after three good periods; a slot that COMPAT bars stays OFF. Pulse edges
that came while the slot was OFF are passed over (DESIGN CHOICE, log 146). -/
def Dev.slotMode (d : Dev) (n state : Nat) (man : Option Int) : Dev :=
  let s := d.slot n
  if (s.st == .fault && s.goodPeriods < 3) || d.slotBarred n then d
  else if state = 0 then d.slotOff n
  else
    let cnt := match s.desc with | some c => (nth d.slides.encs c.spIdx).edges | none => 0
    let d1 := d.onSlot n fun s => if s.st == .off then { s with pulseCount := cnt } else s
    match slotKind n with
    | .melt => d1.onSlot n fun s => if s.st == .auto then s else { s with st := .man, man := 0 }
    | .scanner =>
      if ! (d.port (n / 3)).hearing then d1.onSlot n fun s => (if state = 1 then s.toMan man else s.toAuto).toTrack
      else d1.onSlot n fun s => if state = 1 then s.toMan man else s.toAuto
    | _ => d1.onSlot n fun s => if state = 1 then s.toMan man else s.toAuto

/-- R213 once a command has turned slots on. -/
def Loops.clashes (l : Loops) : Bool :=
  clash ((l.slots.filter (·.st != .off)).filterMap fun s => s.desc.bind SlotDesc.target)

def loopModeBody (slots state : Nat) (man : Option Int) : Body := fun _ _ d =>
  let ns := bitsOf 160 slots
  if d.mode.mode != .ready ∧ ns.any (· < 128) then refusedMode 0xFF09
  else if 2 < state ∨ ns.any (fun n => (d.slot n).desc.isNone) then badArg
  else
    let d1 := ns.foldl (fun d n => d.slotMode n state man) d
    if d1.loops.clashes then badArg else .done d1.commandHeads (ns.flatMap fun n => u32 (d1.slot n).st.code)

def execLoopMode (mbx slots state : Nat) (man : Option Int) (s : State) : Out :=
  runCmd (.loopMode mbx slots state man) (loopModeBody slots state man) s

/-- R230. -/
def loopSetpointBody (n : Nat) (v : Int) : Body := fun _ _ d =>
  match (d.slot n).desc with
  | some c =>
    if 160 ≤ n ∨ c.spSrc ≠ 1 then badArg
    else if (d.loops.writer 5 n).isSome then refusedBusy 0xFFFFFFFF
    else .done (d.onSlot n fun s => { s with cmd := v })
  | none => badArg

def execLoopSetpoint (mbx slot : Nat) (value : Int) (s : State) : Out :=
  runCmd (.loopSetpoint mbx slot value) (loopSetpointBody slot value) s

def Loops.gearBytes (l : Loops) (e : Nat) : List Byte := i32 (nth l.gears e).1 ++ u32 (nth l.gears e).2

def loopGearBody (e : Nat) (num : Int) (den : Nat) : Body := fun x _ d =>
  if 8 ≤ e ∨ den = 0 ∨ 65535 < den then badArg
  else
    let d1 := d.onLoops fun l => { l with gears := l.gears.set e (num, den) }
    .done (d1.log x 0x04 e (d.loops.gearBytes e) (d1.loops.gearBytes e))

def execLoopGear (mbx enc : Nat) (num : Int) (den : Nat) (s : State) : Out :=
  runCmd (.loopGear mbx enc num den) (loopGearBody enc num den) s

def Loops.ioBytes (l : Loops) : List Byte := l.ain.flatMap (fun a => i32 a.1 ++ i32 a.2) ++ l.pwmHz.flatMap u32

def loopIoBody (ain : List (Int × Int)) (pwm : List Nat) : Body := fun x _ d =>
  if pwm.any fun f => f = 0 || 20000 < f then badArg
  else
    let d1 := d.onLoops fun l => { l with ain := ain, pwmHz := pwm }
    .done (d1.log x 0x04 0xFFFF d.loops.ioBytes d1.loops.ioBytes)

def execLoopIo (mbx : Nat) (ain : List (Int × Int)) (pwm : List Nat) (s : State) : Out :=
  runCmd (.loopIo mbx ain pwm) (loopIoBody ain pwm) s

def LoopSlot.status (s : LoopSlot) : List Byte :=
  u32 s.st.code ++ u32 s.proc ++ i32 s.eLast ++ i32 s.outNow ++ i64 s.integ ++ u32 s.overruns ++ u32 (boolN s.ovr)

def loopStatusBody (slots : Nat) : Body := fun _ _ d =>
  let ns := bitsOf 160 slots
  .done d (ns.flatMap (fun n => (d.slot n).status) ++ d.loops.inService.flatMap fun b => u32 (boolN (! b)))

def execLoopStatus (mbx slots : Nat) (s : State) : Out := runCmd (.loopStatus mbx slots) (loopStatusBody slots) s

/-- R230: one trace at a time, its records under priority P5 leave. -/
def loopTraceBody (slots : List Nat) (count addr : Nat) : Body := fun _ _ d =>
  if slots = [] ∨ slots.any (fun n => 160 ≤ n || (d.slot n).desc.isNone) ∨ clash (slots.map fun n => (n, 0)) ∨
      count = 0 ∨ 1048576 < count ∨ ! d.rangeOk addr (20 * slots.length * count) then badArg
  else if d.loops.traces ≠ [] then refusedBusy
  else
    let r := d.request .trace 5 100 0
    let start := fun (d : Dev) (g : Bool) => d.onLoops fun l => { l with traces := [⟨slots, count, addr, 0, g⟩] }
    match r.1 with
    | .granted => .done (start r.2 true)
    | .deferred => .done (start r.2 false)
    | .refused n => .refuseWith r.2 0x11 n 0 [] []

def execLoopTrace (mbx : Nat) (slots : List Nat) (count addr : Nat) (s : State) : Out :=
  runCmd (.loopTrace mbx slots count addr) (loopTraceBody slots count addr) s

/-! ## Processor failure (R221 to R225) -/

/-- The slots that lie on a processor. -/
def Loops.onProc (l : Loops) (p : Nat) : List Nat := (List.range 160).filter fun n => (nth l.slots n).proc = p

/-- The oars whose scanner or melt-pool slots lie on it. -/
def Dev.procOars (d : Dev) (p : Nat) : List Nat :=
  oars32.filter fun k => d.oarExists k && (d.loops.onProc p).any fun n => slotOar n = some k

/-- A stroke in hand that has not exposed goes back to its buffer: the engine plans anew from its observer. -/
def Dev.unhand (d : Dev) (k : Nat) : Dev :=
  match (nth d.eng k).cur with
  | none => d
  | some b =>
    (d.onMar fun m => { m with oars := upd m.oars k fun o => { o with buf := b :: o.buf } }).onEng k fun e =>
      { e.drop with fromObs := true }

/-- R223, first two rows, for one oar. -/
def Dev.procLost (d : Dev) (k : Nat) : Dev :=
  if (nth d.eng k).exposing then (d.cutStroke k 4).onEng k fun e => { e with fromObs := true } else d.unhand k

/-- A processor is declared failed, by criterion 1 to 5 of R221. -/
def Dev.procFail (d : Dev) (p criterion : Nat) : Dev :=
  if ! nth d.loops.inService p then d
  else
    let second := d.loops.inService.any (! ·)
    let d1 := (d.onLoops fun l => { l with inService := l.inService.set p false, failing := some (p, d.now) }).spoil 0x04 p 1 true criterion
    let d2 := (d1.procOars p).foldl Dev.procLost d1
    if second then d2.blockHold 1 p else d2

/-- The processor that takes a slot of p: the plan's, or the next one in service. -/
def Loops.hostFor (l : Loops) (p n : Nat) : Nat :=
  let q := migrateTo (homeProc n) n
  let r := if homeProc n = p then q else migrateTo p n
  (((List.range 8).map fun i => (r + i) % 8).find? fun q => nth l.inService q).getD r

/-- The survivors adopt the migration plan; each migrated slot presets. -/
def Dev.migrateLoops (d : Dev) : Dev :=
  if d.loops.failing.isNone then d
  else
    let d1 := (List.range 160).foldl (fun d n =>
      let p := (d.slot n).proc
      if nth d.loops.inService p then d
      else
        let q := d.loops.hostFor p n
        d.onSlot n fun s => { s with proc := q, preset := s.preset || s.st == .auto, consecutive := 0, recent := [] }) d
    d1.onLoops fun l => { l with failing := none }

/-- R223, third row. -/
def execLoopMigration (s : State) : Out := onDev .loopMigration (fun _ d => d.migrateLoops) s

/-- R225: the self-test of each processor out of service; those that pass get their home slots back, whatever becomes of the
others (DESIGN CHOICE, log 141). One that is held in reset cannot pass (R498). -/
def Dev.restoreProc (d : Dev) (p : Nat) : Bool × Dev :=
  let f := d.flip
  if f.1 && d.blockLive 1 p then
    let d1 := (f.2.onLoops fun l => { l with inService := l.inService.set p true })
    (true, ((List.range 160).filter (homeProc · = p)).foldl (fun d n =>
      d.onSlot n fun s => { s with proc := p, preset := s.preset || s.st == .auto, recent := [], consecutive := 0 }) d1)
  else (false, f.2)

/-- R225: each processor out of service is tested by itself, and one that passes comes back though another fails; the command then
ends in FAULT, which files its own spoil record (DESIGN CHOICE, log 141). -/
def loopRestoreBody : Body := fun _ _ d =>
  let r := ((List.range 8).filter fun p => ! nth d.loops.inService p).foldl (fun (a : Bool × Dev) p =>
    let q := a.2.restoreProc p
    (a.1 && q.1, q.2)) (true, d)
  if r.1 then .done r.2 else .refuseWith r.2 0x40 0 0 [] []

def execLoopRestore (mbx : Nat) (s : State) : Out := runCmd (.loopRestore mbx) loopRestoreBody s

/-- R221: the verdict on a processor is 0 where it is sound, or the criterion of R221 that fails: 3 its frame schedule
begins late, 4 the known-answer test, 5 an uncorrectable ECC error in its schedule memory (DESIGN CHOICE, log 119). -/
def execLoopSelfTest (proc verdict : Nat) (s : State) : Out :=
  onDev (.loopSelfTest proc verdict) (fun _ d =>
    if verdict = 3 ∨ verdict = 4 ∨ verdict = 5 then d.procFail proc verdict else d) s

/-! ## The trace of a period (R229, R230) -/

/-- Saturated to 32 bits. -/
def sat32 (x : Int) : Int := clampI (-2 ^ 31) (2 ^ 31 - 1) x

/-- R230: what a traced slot reports goes to its place, or its period is dropped. Terms are rounded to whole units, and a record
is complete with the last slot of the list, whatever the rates of the others (DESIGN CHOICE, log 146). -/
def Dev.traceSlot (d : Dev) (n : Nat) (t : LawTerms) : Dev :=
  match d.loops.traces with
  | tr :: _ =>
    if ! tr.slots.contains n then d
    else
      let i := tr.slots.idxOf n
      let size := 20 * tr.slots.length
      let fits : Bool := tr.granted && d.recd.level + size ≤ 524288
      let bs := i32 (sat32 t.e) ++ i32 (sat32 (q16 t.p)) ++ i32 (sat32 (q16 t.i)) ++ i32 (sat32 (q16 t.d)) ++ i32 (sat32 (q16 t.u))
      let last : Bool := i + 1 = tr.slots.length
      let d1 := if fits then
          { d with recd := { d.recd with staging := d.recd.staging ++ [(3, tr.addr + 20 * i, bs)] } }
        else d
      let left := if last then tr.left - 1 else tr.left
      let addr := if last && fits then tr.addr + size else tr.addr
      let dropped := tr.dropped + boolN (last && ! fits)
      if left = 0 then (d1.onLoops fun l => { l with traces := [] }).release isTrace
      else d1.onLoops fun l => { l with traces := [{ tr with left := left, addr := addr, dropped := dropped }] }
  | [] => d

/-! ## Overruns (R220, R221) -/

/-- R220, R221: a slot that should have run has not completed. -/
def Dev.slotOverrun (d : Dev) (n : Nat) : Dev :=
  if ! d.slotDue n then d
  else
    let p := (d.slot n).proc
    let d1 := (d.traceSlot n (d.slot n).idleTerms).onSlot n fun s => { s with
      ovr := true, overruns := s.overruns + 1, consecutive := s.consecutive + 1, recent := (true :: s.recent).take 256,
      lastRun := d.now + 1 }
    let s := d1.slot n
    if n < 128 ∧ 2 ≤ s.consecutive then d1.procFail p 1
    else if 16 ≤ (s.recent.filter (· == true)).length then d1.procFail p 2
    else d1

def execLoopSlotOverrun (slot : Nat) (s : State) : Out := onDev (.loopSlotOverrun slot) (fun _ d => d.slotOverrun slot) s

/-! ## Execution of a slot -/

/-- A slot's law executed: its new state, and the terms of the period. -/
def Dev.lawSlot (d : Dev) (n : Nat) (ds : SlotDesc) (x : LawIn) : Dev × Option LawTerms :=
  let r := (d.slot n).law ds x
  (d.onSlot n fun _ => r.1, some r.2)

/-- R215: a scanner slot in its frame; the terms of the law where it ran. -/
def Dev.runScanner (d : Dev) (n : Nat) (ds : SlotDesc) : Dev × Option LawTerms :=
  let k := n / 3
  let f := n % 3
  let e := nth d.eng k
  if ! d.scannerDelivers k then (d.onSlot n LoopSlot.toTrack, none)
  else
    let d1 := d.onSlot n fun s => s.fromTrack ((d.port k).holdCur.getD f 0)
    let t := (d.samplePs k e.latNow - e.obsPs) / 250000
    let ok := (d.port k).sampleOk.getD f false
    let y : Int := if ok then (d.port k).lastSample.getD f 0 else roundRat ((nth e.obs f).at t)
    match (d1.slot n).st with
    | .auto =>
      let ff := roundRat ((ds.kv : Rat) * e.refV.getD f 0 + (ds.ka : Rat) * e.refA.getD f 0)
      d1.lawSlot n ds ⟨diff32 (e.ref.getD f 0) y, y, ff, ds.uMin, ds.uMax, d.loops.table ds.gainTable, ! ok⟩
    | .man => (d1.onSlot n fun s => s.manual ds y, none)
    | _ => (d1, none)

/-- The measurement of the melt-pool loop and whether its period is valid (R236, R239, R242, R245). -/
def Dev.meltFeature (d : Dev) (k : Nat) (p : ParamSet) (t : TargetRec) : Nat × Bool :=
  let m := nth d.melt k
  if p.loopMode = 3 then
    match m.camFeat with
    | some c => (c.pick t.camFeature, m.camNew && c.tick < d.now && c.ok t)
    | none => (0, false)
  else (nth [m.pd.1, m.pd.2.1, m.pd.2.2.1, m.pd.2.2.2] t.pdFeature, ! m.pdInvalid && (t.pdFeature ≠ 3 || ! m.ratioInvalid))

/-- R246: the excursion first, then the trim limit, each once per stroke. -/
def Dev.meltEvents (d : Dev) (k : Nat) (t : TargetRec) (y : Nat) (valid : Bool) : Dev :=
  if ! t.evtEn then d
  else
    let m := nth d.melt k
    let out : Bool := y < t.evtLo || t.evtHi < y
    let exc := if ! valid then m.excursion else if out then m.excursion + 1 else 0
    let fileE : Bool := ! m.excDone && t.evtHold ≤ exc && valid && out
    let u := (d.slot (96 + k)).outNow
    let lim : Bool := u = -(t.trimDown : Int) || u = t.trimUp
    let tc := if lim then m.trimCount + 1 else 0
    let fileT : Bool := ! m.trimDone && 16 ≤ tc
    let d1 := d.onMelt k fun m => { m with
      excursion := exc, excDone := m.excDone || fileE, trimCount := tc, trimDone := m.trimDone || fileT }
    let d2 := if fileE then d1.eventNow k 0x12 (u16 y ++ u16 (if y < t.evtLo then t.evtLo else t.evtHi)) else d1
    if fileT then d2.eventNow k 0x13 (i16 u ++ u8 (boolN (u = t.trimUp))) else d2

/-- A melt-pool slot in MAN filters the feature that the target of the stroke in hand selects, or of the last one (R210). -/
def Dev.meltManual (d : Dev) (n : Nat) (ds : SlotDesc) : Dev :=
  let e := nth d.eng (n - 96)
  match (e.cur.map (·.item.stroke)).orElse fun _ => e.prev with
  | none => d
  | some s =>
    let p := d.psetOf s
    match d.lib.target? p.target with
    | none => d
    | some t =>
      let f := d.meltFeature (n - 96) p t
      (if f.2 then d.onSlot n fun s => s.filter ds f.1 else d).onMelt (n - 96) fun m => { m with camNew := false }

/-- R216, R242, R243. -/
def Dev.runMelt (d : Dev) (n : Nat) (ds : SlotDesc) : Dev × Option LawTerms :=
  let k := n - 96
  let e := nth d.eng k
  match e.exposing, e.cur, (d.slot n).st with
  | true, some b, .auto =>
    let s := b.item.stroke
    let p := d.psetOf s
    match d.lib.target? p.target with
    | none => (d, none)
    | some t =>
      let m := nth d.melt k
      let fresh : Bool := match m.camFeat with | some c => c.tick < d.now | none => false
      let d1 := d.onMelt k fun m => if fresh then { m with corr := m.corrNext.getD m.corr, corrNext := none } else m
      let f := d1.meltFeature k p t
      let ff : Int := if p.loopMode = 2 then (nth d1.melt k).corr * 65536 else 0
      let sp : Int := if p.loopMode = 3 then t.camSp else t.pdSp
      let y : Int := f.1
      let d2 := if f.2 then
          d1.lawSlot n ds ⟨sp - y, y, ff, -(t.trimDown : Int), t.trimUp, d.loops.table ds.gainTable, false⟩
        else (d1, none)
      ((d2.1.meltEvents k t f.1 f.2).onMelt k fun m => if fresh then { m with camNew := false } else m, d2.2)
  | _, _, .man => (d.meltManual n ds, none)
  | _, _, _ => (d, none)

/-- R218: three periods outside the window. A time in OFF or TRACK leaves their run as it is (DESIGN CHOICE, log 146). -/
def Dev.windowCheck (d : Dev) (n : Nat) (ds : SlotDesc) (y : Int) : Dev :=
  let inside : Bool := ds.pvLo ≤ y && y ≤ ds.pvHi
  let d1 := d.onSlot n fun s => { s with
    badPeriods := if inside then 0 else s.badPeriods + 1, goodPeriods := if inside then s.goodPeriods + 1 else 0 }
  let s := d1.slot n
  if 3 ≤ s.badPeriods ∧ (s.st == .auto ∨ s.st == .man) then
    let d2 := (d1.onSlot n fun s => s.toFault ds).spoil 0x04 n 2 false (wrapTo 32 y)
    (d2.loopLost n).drive n
  else d1

/-- The mean codes of the analogue inputs that a slot reads since its previous execution (R211): that of the measurement,
and that of the set-point where it is another input. -/
def Dev.readAin (d : Dev) (ds : SlotDesc) (pv sp : Nat) : Dev :=
  let put := fun (d : Dev) (src idx code : Nat) =>
    if src = 6 then d.onLoops fun l => { l with ainCode := l.ainCode.set idx code } else d
  put (put d ds.spSrc ds.spIdx sp) ds.pvSrc ds.pvIdx pv

/-- R207, R332: a slot that reads an encoder in WIRE_FAULT is in TRACK with its output held, until the flag clears. -/
def Dev.wireTrack (d : Dev) (n : Nat) (lost : Bool) : Dev :=
  d.onSlot n fun s => if lost then s.toTrack else s.fromTrack s.uPrev

/-- Slide, heater and general slots (R211 to R219); the terms of the law where it ran. -/
def Dev.runGeneral (d0 : Dev) (n : Nat) (ds : SlotDesc) (pv sp : Nat) : Dev × Option LawTerms :=
  let lost := d0.sourceLost ds.pvSrc ds.pvIdx || d0.sourceLost ds.spSrc ds.spIdx
  let d := (((d0.readAin ds pv sp).readPulse n).wireTrack n lost)
  let code := fun (i : Nat) => nth d.loops.ainCode i
  let r := d.setpoint n (code ds.spIdx)
  let y := d.source (d.slot n) ds.pvSrc ds.pvIdx (code ds.pvIdx)
  let d1 := if lost then d else d.windowCheck n ds y
  match d1.mode.mode == .safe, (d1.slot n).safeOut n with
  | true, some u => (((d1.onSlot n fun s => s.filter ds y).onSlot n fun s => { s with outNow := u, uPrev := u }).drive n, none)
  | _, _ =>
    match (d1.slot n).st with
    | .auto =>
      let q := d1.lawSlot n ds ⟨r - y, y, d1.feedForward n, ds.uMin, ds.uMax, d1.loops.table ds.gainTable, false⟩
      (q.1.drive n, q.2)
    | .man => ((d1.onSlot n fun s => s.manual ds y).drive n, none)
    | .fault => (d1.onSlot n fun s => s.filter ds y, none)
    | _ => (d1, none)

/-- The period of a slot ends: its trace, and the record that it ran (R221, R229). -/
def Dev.slotRan (r : Dev × Option LawTerms) (n now : Nat) : Dev :=
  (r.1.traceSlot n (r.2.getD (r.1.slot n).idleTerms)).onSlot n fun s => s.ran now

/-- A slot whose turn it is executes; one that is OFF leaves its trace alone. -/
def Dev.runSlot (d : Dev) (n pv sp : Nat) : Dev :=
  match (d.slot n).desc with
  | none => d
  | some ds =>
    if ! d.slotTurn n then d
    else if (d.slot n).st == .off then
      (d.traceSlot n (d.slot n).idleTerms).onSlot n fun s => { s with lastRun := d.now + 1 }
    else
      Dev.slotRan (match slotKind n with
        | .scanner => d.runScanner n ds
        | .melt => d.runMelt n ds
        | _ => d.runGeneral n ds pv sp) n d.now

/-- The melt-pool engine forms its features in the frames of its oar's slot, whatever the slot's state (R235). -/
def Dev.pdPeriod (d : Dev) (n : Nat) : Dev :=
  if 96 ≤ n ∧ n < 128 ∧ d.now % 4 = n % 4 ∧ (d.slot n).lastRun ≠ d.now + 1 ∧ d.oarExists (n - 96) then
    (d.pdForm (n - 96)).onSlot n fun s => if d.slotTurn n then s else { s with lastRun := d.now + 1 }
  else d

/-- R201. The record of the period is written with the trim that was in force (R251). -/
def execLoopSlotExecute (slot pv sp : Nat) (s : State) : Out :=
  onDev (.loopSlotExecute slot pv sp) (fun _ d =>
    let formed : Bool := 96 ≤ slot && slot < 128 && d.now % 4 = slot % 4 && (d.slot slot).lastRun ≠ d.now + 1 && d.oarExists (slot - 96)
    let d1 := d.pdPeriod slot
    let d2 := if formed then d1.pdRecord (slot - 96) else d1
    d2.runSlot slot pv sp) s

end Sys2Proof.Machine
end

