-- ==== Sys2Proof/Machine/RecRows.lean ====
section
/-! DEFINITION. The recorder's commands (R247, R248, R255, R258, R263) and its control blocks (R257). -/

namespace Sys2Proof.Machine

def Dev.onRec (d : Dev) (f : Recorder → Recorder) : Dev := { d with recd := f d.recd }

/-- Smallest and largest size of a ring (R255). -/
def ringSizes (r : Nat) : Nat × Nat := nth [(2 ^ 16, 2 ^ 30), (2 ^ 20, 2 ^ 34), (2 ^ 24, 2 ^ 36)] r

/-- DRAM ranges of the rings and control blocks but those of one ring. -/
def Recorder.ranges (r : Recorder) (but : Nat) : List (Nat × Nat) :=
  (r.rings.zipIdx.filter fun p => p.1.configured && p.2 ≠ but).flatMap fun p => [(p.1.base, p.1.size), (p.1.cb, 64)]

def ringBytes (g : Ring) : List Byte := u64 g.base ++ u64 g.size ++ u32 (boolN g.overwrite) ++ u64 g.cb ++ u64 g.level

def recRingBody (r base size mode cb level : Nat) : Body := fun x _ d =>
  let lim := ringSizes r
  let mine := [(base, size), (cb, 64)]
  let bad : Bool := 3 ≤ r || base % 65536 ≠ 0 || size % 65536 ≠ 0 || size < lim.1 || lim.2 < size || 1 < mode ||
    ! d.rangeOk base size || ! d.rangeOk cb 64 || overlap base size cb 64 ||
    (d.recd.ranges r).any fun p => mine.any fun q => overlap p.1 p.2 q.1 q.2
  if bad then badArg
  else
    let old := nth d.recd.rings r
    let g : Ring := { Ring.reset with configured := true, base := base, size := size, overwrite := mode = 1, cb := cb, level := level }
    .done ((d.onRec fun q => { q with rings := q.rings.set r g }).log x 0x0F r (ringBytes old) (ringBytes g))

/-- R255. -/
def execRecRing (mbx ring base size mode cb level : Nat) (s : State) : Out :=
  runCmd (.recRing mbx ring base size mode cb level) (recRingBody ring base size mode cb level) s

def takeBytes (t n : Nat) (g : Bool) : List Byte := u32 t ++ u32 n ++ u32 (boolN g)

/-- R247, R248: the take is in force from the next frame tick on. -/
def recTakeBody (take decim gated : Nat) : Body := fun x _ d =>
  if 3 < take ∨ decim = 0 ∨ 1000 < decim ∨ 1 < gated ∨ (List.range take).any (fun r => ! (nth d.recd.rings r).configured) then badArg
  else
    let new := takeBytes take decim (gated = 1)
    let d1 := d.onRec fun q => { q with next := some (take, decim, gated = 1) }
    .done (d1.log x 0x0F 0xFFFF (takeBytes d.recd.take d.recd.decim d.recd.gated) new) new

def execRecTake (mbx take decim gated : Nat) (s : State) : Out :=
  runCmd (.recTake mbx take decim gated) (recTakeBody take decim gated) s

/-- The frame tick at which a take comes into force. -/
def Dev.takeTick (d : Dev) : Dev :=
  match d.recd.next with
  | some (t, n, g) => d.onRec fun q => { q with take := t, decim := n, gated := g, next := none }
  | none => d

/-- R258. -/
def recConsumeBody (r total : Nat) : Body := fun _ _ d =>
  let g := nth d.recd.rings r
  if 3 ≤ r ∨ ! g.configured ∨ total < g.consumed ∨ g.written < total then badArg
  else .done (d.onRec fun q => { q with rings := upd q.rings r (·.consumeTo total) })

def execRecConsume (mbx ring total : Nat) (s : State) : Out :=
  runCmd (.recConsume mbx ring total) (recConsumeBody ring total) s

def recStatusBody : Body := fun _ _ d =>
  .done d (d.recd.rings.flatMap Ring.block ++ u64 d.recd.level ++ u32 (nth d.mc.panicCounts 1) ++ u32 d.recd.take)

/-- R263. -/
def execRecStatus (mbx : Nat) (s : State) : Out := runCmd (.recStatus mbx) recStatusBody s

/-- R253: HOST_MARK. -/
def execRecMark (mbx value : Nat) (s : State) : Out :=
  runCmd (.recMark mbx value) (fun _ _ d => .done (d.eventNow 0xFF 0x18 (u32 value))) s

/-- R257: what is staged reaches DRAM, then the block that counts it. -/
def execControlBlockUpdate (ring : Nat) (s : State) : Out :=
  onMem (.controlBlockUpdate ring) (fun m d =>
    let g := nth d.recd.rings ring
    let f := d.flushStaging
    recWrites m <| if ! g.configured ∨ g.dirtyTick.isNone then f
    else
      let g2 : Ring := { nth f.1.recd.rings ring with dirtyTick := none, updS := d.secLow, updNs := d.nsNow }
      (f.1.onRec fun q => { q with rings := q.rings.set ring g2 }, f.2 ++ [.write g2.cb g2.block])) s

end Sys2Proof.Machine
end

