-- ==== Sys2Proof/Machine/FrameRows.lean ====
section
/-! DEFINITION. A return frame of a Rigger port and a frame that is missed (R266 to R276, R281 to R285, R301 to R303,
R308): checks, head status, service answers, observer (R167, R168), settle samples and placement errors (R176 to R180),
the Umpire's position and region checks (R457, R458), photodiodes, camera and imager words. -/

namespace Sys2Proof.Machine

def bitsAt (x lo n : Nat) : Nat := (x >>> lo) % 2 ^ n

/-- Payload of block i of a frame. -/
def blockAt (bs : List Nat) (i : Nat) : Nat := bs.getD i 0 % 2 ^ 64

def blockBytes (bs : List Nat) (first n : Nat) : List Byte := (List.range n).flatMap fun i => u64 (blockAt bs (first + i))

/-! ## Checks (R266, R268, R272, R273, R275, R281) -/

/-- Sync headers of a frame into the window of 64: invalid headers, the window after them, block lock lost. -/
def syncScan (window : Nat) (bs : List Nat) : Nat × Nat × Bool :=
  bs.foldl (fun (a : Nat × Nat × Bool) b =>
    let h := b / 2 ^ 64 % 4
    let bad := h = 0 || h = 3
    let w := (a.2.1 * 2 + boolN bad) % 2 ^ 64
    (a.1 + boolN bad, w, a.2.2 || 16 ≤ (bitsOf 64 w).length)) (0, window, false)

/-- BTYPE and HCRC (R281). -/
def headerOk (bs : List Nat) : Bool :=
  let b := blockAt bs 0
  bitsAt b 0 8 = 0xD2 && bitsAt b 56 8 = crc8 ((u64 b).take 7)

def dataOk (bs : List Nat) : Bool :=
  bitsAt (blockAt bs 3) 48 16 = crc16 (blockBytes bs 1 2 ++ (u64 (blockAt bs 3)).take 6)

def camOk (bs : List Nat) : Bool := bitsAt (blockAt bs 38) 0 32 = crc32c (blockBytes bs 4 34)

def retSeq (bs : List Nat) : Nat := bitsAt (blockAt bs 0) 8 8
def retState (bs : List Nat) : Nat := bitsAt (blockAt bs 0) 24 4

/-- OSEQ_ECHO (R272). -/
def retEcho (bs : List Nat) : Nat := bitsAt (blockAt bs 0) 16 8

/-! ## Header contents (R272, R284, R285, R296, R302, R303) -/

/-- A head that parks itself while it is commanded to run (R285). -/
def Dev.selfPark (d : Dev) (n : Nat) : Dev := d.onPort n fun p => p.count 14 1

def Dev.headState (d : Dev) (n st : Nat) : Dev :=
  let p := d.port n
  let self : Bool := (p.hstate = 4 || p.hstate = 5) && (st = 2 || st = 3) && p.headCmd = 2
  let d1 := if self then d.selfPark n else d
  d1.onPort n fun p => { p with hstate := st }

/-- The head's rising CLK_FALLBACK is counted and starts a new measurement of L_link (R293, R294). -/
def Dev.headClock (d : Dev) (n : Nat) (on : Bool) : Dev :=
  d.onPort n fun p => { (if on && ! p.headFallback then (p.count 11 1).measure else p) with headFallback := on }

/-- SLEEP_ACK in 16 consecutive frames, the command sent in as many: the lanes go idle (R296). -/
def Dev.sleepAck (d : Dev) (n : Nat) (ack : Bool) : Dev :=
  let p := d.port n
  match p.sleepReq with
  | none => d
  | some s =>
    if s = 0 ∨ p.sleep ≠ 0 ∨ p.cmdFrames = 0 then d
    else if ! ack then d.onPort n fun p => { p with acks := 0 }
    else if p.acks + 1 < 16 ∨ p.cmdFrames < 16 then d.onPort n fun p => { p with acks := p.acks + 1 }
    else
      let d1 := d.onPort n fun p =>
        if s = 4 then p.goIdle
        else { (if s = 2 then p else p.unlocked) with sleep := s, sleepReq := none, cmdFrames := 0, acks := 0 }
      d1.powerJobs

/-- An answer that is complete: the request it answers ends, or is repeated where its check is bad (R302, R303). -/
def Dev.svcAnswer (d : Dev) (n : Nat) (bs : List Byte) : Dev :=
  let len := (bs.getD 3 0).toNat
  let body := (bs.drop 1).take (3 + len)
  let tag := (bs.getD 1 0).toNat
  if crc8 body ≠ (bs.getD (4 + len) 0).toNat then
    let d1 := d.onPort n fun p => p.count 17 1
    match (d1.port n).svc.find? fun r => ! r.due with
    | some r => d1.svcRepeat n r
    | none => d1
  else match (d.port n).svc.find? (·.tag = tag) with
    | some r =>
      let ok := (bs.getD 2 0).toNat = 0
      let d1 := d.onPort n fun p =>
        let q := { p with svc := p.svc.filter (·.tag ≠ tag) }
        if ok then q.declare r.op r.addr ((bs.drop 4).take len) else q
      d1.svcDone n tag 0 (u32 (bs.getD 2 0).toNat ++ (bs.drop 4).take len)
    | none => d

/-- A byte of the service stream. -/
def Dev.svcByte (d : Dev) (n : Nat) (b : Byte) : Dev :=
  let rx := (d.port n).svcRx ++ [b]
  if rx.head? ≠ some 0xA5 then d.onPort n fun p => { p with svcRx := [] }
  else if 4 ≤ rx.length ∧ rx.length = 5 + (rx.getD 3 0).toNat then (d.onPort n fun p => { p with svcRx := [] }).svcAnswer n rx
  else d.onPort n fun p => { p with svcRx := rx }

/-- What a good header says. -/
def Dev.retHeader (d : Dev) (n : Nat) (bs : List Nat) : Dev :=
  let b := blockAt bs 0
  let d1 := ((d.headState n (retState bs)).headClock n (b.testBit 31)).sleepAck n (b.testBit 30)
  let d2 := if b.testBit 28 then d1.svcByte n (BitVec.ofNat 8 (bitsAt b 32 8)) else d1
  if b.testBit 29 then d2.svcByte n (BitVec.ofNat 8 (bitsAt b 40 8)) else d2

/-! ## Status items (R43 to R45, R274) -/

/-- The working grid of an oar follows its head's temperature, held against the grid in use (R43, R45). -/
def Dev.headTempAt (d : Dev) (k : Nat) (t : Option Int) : Dev :=
  let o := nth d.geo.oars k
  match t with
  | none => d.headSilent k
  | some x =>
    let sets := ((nth d.geo.active.sets k).filter Option.isSome).length
    let far := match o.grid with | some w => 25 ≤ (x - w.temp).natAbs | none => true
    let begin' : Bool := 1 < sets && ! d.boot.compat && o.blending.isNone && far
    { d with geo := { d.geo with oars := upd d.geo.oars k fun o =>
      { o with invalidFiled := false, blending := if begin' then some (x, d.now) else o.blending } } }

/-- STAT_SEL and STAT_DATA of a valid frame. -/
def Dev.statItem (d : Dev) (n sel data : Nat) : Dev :=
  let p := d.port n
  let d1 := d.onPort n fun p => { p with statSel := sel }
  if sel = 0 then
    let t : Option Int := if data = 0x8000 then none else some (signed 16 data)
    let d2 := if n < 32 && d.awake then d1.headTempAt n t else d1
    d2.onPort n fun p => { p with headTemp := t.orElse fun _ => p.headTemp }
  else if sel = 7 then
    let more := match p.outErr with | some x => (data + 65536 - x) % 65536 | none => 0
    d1.onPort n fun p => { p.count 8 more with outErr := some data }
  else
    let a := (sel - 1) / 2
    if sel % 2 = 1 then d1.onPort n fun p => { p with holdLow := p.holdLow.set a data }
    else if p.statSel + 1 = sel then
      d1.onPort n fun p => { p with
        holdCur := p.holdCur.set a (signed 32 (65536 * data + p.holdLow.getD a 0)), holdValid := p.holdValid.set a true }
    else d1

/-! ## The observer (R167, R168) -/

/-- ω0 · Ts. -/
def Motion.w0 (m : Motion) : Rat := 2 * piQ * m.obsBw / 4000000

/-- Signed difference of a sample and a predicted angle. -/
def angleErr (meas : Int) (p : Rat) : Rat := (diff32 meas p.floor : Int) - (p - p.floor)

/-- One frame of one axis, in frames: the estimate after it and the innovation. -/
def AxisState.observe (a : AxisState) (w j : Rat) (meas : Option Int) : AxisState × Option Rat :=
  let th := a.th + a.om + a.al / 2 + j / 6
  let om := a.om + a.al + j / 2
  let al := a.al + j
  match meas with
  | some m =>
    let e := angleErr m th
    (⟨fine (th + 3 * w * e), fine (om + 3 * w ^ 2 * e), fine (al + w ^ 3 * e)⟩, some e)
  | none => (⟨fine th, fine om, fine al⟩, none)


/-- The observers of an oar run on: samples of X, Y and focus, or none where invalid. The innovations. -/
def Dev.observeAxes (d : Dev) (k : Nat) (meas : List (Option Int)) : List (Option Rat) × Dev :=
  let e := nth d.eng k
  let ts := d.samplePs k e.latNow
  let r1 := d.refAt k (ts / 250000)
  let r0 := d.refAt k (ts / 250000 - 1)
  let out := (List.range 3).map fun i =>
    (nth e.obs i).observe e.motion.w0 ((nth r1 i).al - (nth r0 i).al) (nth meas i)
  (out.map (·.2), d.onEng k fun e => { e with
    obs := out.map (·.1), obsPs := ts, coast := if meas.all Option.isSome then 0 else e.coast + 1 })

/-- The bed vector of an innovation at a point of the oar's field. -/
def Dev.innovBed (d : Dev) (k : Nat) (x y : Rat) (inn : List (Option Rat)) : Option (Rat × Rat) :=
  match nth inn 0, nth inn 1 with
  | some a, some b => ((d.view k (d.engTemp k)).jac x y).inv (a, b)
  | _, _ => none

def norm2 (v : Rat × Rat) : Rat := v.1 ^ 2 + v.2 ^ 2

/-- A valid sample enters the settle window of the stroke in hand (R176, R178). A missing one does not count, so that the
window waits for further valid samples; it breaks a DOT's run of consecutive ones (log 57). A sample counts as valid where
all three axes have one (log 57). So does one after a test jump (R171). -/
def Dev.settleSample (d : Dev) (k : Nat) (inn : List (Option Rat)) : Dev :=
  let e := nth d.eng k
  match e.phase, e.cur with
  | .leadIn, some b | .reapproach, some b | .settle, some b | .hold, some b =>
    let s := b.item.stroke
    let temp := d.engTemp k
    let j := (d.view k temp).jac s.x0 s.y0
    let v := d.markV s
    if ! inn.all Option.isSome then (if s.dot then d.onEng k fun e => { e with settle := [] } else d)
    else
      let item : Rat × Rat × Rat × Bool := match d.innovBed k s.x0 s.y0 inn, d.beamOff k temp s.x0 s.y0 e.obsPs,
          j.inv ((nth e.obs 0).om, (nth e.obs 1).om) with
        | some i, some o, some w =>
          let along := s.dir.1 * w.1 + s.dir.2 * w.2
          let slow := if s.dot then norm2 w < (v / 100) ^ 2 else |along - v| ≤ v / 50
          (e.obsPs, norm2 i, norm2 o, decide slow)
        | _, _, _ => (e.obsPs, 2 ^ 80, 2 ^ 80, false)
      d.onEng k fun e => { e with settle := (item :: e.settle).take (e.motion.nSettle + 1) }
  | .test, none =>
    (match e.test, inn.all Option.isSome with
    | some t, true =>
      let err := ((d.innovBed k t.x t.y inn).map norm2).getD (2 ^ 80)
      d.onEng k fun e => { e with settle := ((e.obsPs, err, 0, true) :: e.settle).take (e.motion.nSettle + 1) }
    | _, _ => d)
  | _, _ => d

/-- A prediction far from its measurement while LGATE is high (R179, R253). -/
def Dev.disagree (d : Dev) (k : Nat) (inn : List (Option Rat)) : Dev :=
  let e := nth d.eng k
  match e.lgate, e.cur with
  | true, some b =>
    let s := b.item.stroke
    let p := s.along (d.shareAt k s e.obsPs * s.len)
    match d.innovBed k p.1 p.2 inn with
    | some v =>
      if norm2 v ≤ (64 * (e.motion.predWarn : Rat)) ^ 2 then d
      else (d.onEng k fun e => { e with disagreed := true }).eventNow k 0x10
        (u16 (min 65535 (natOf (roundRat (sqrtRat (norm2 v) / 64)))) ++ u16 e.motion.predWarn)
    | none => d
  | _, _ => d

/-- ERR_ALONG and ERR_CROSS, or X and Y errors of a DOT (R180). -/
def Dev.placement (d : Dev) (k : Nat) (o : OpenEdge) : Option (Int × Int) :=
  (d.beamOff k o.gridTemp o.tx o.ty o.optPs).map fun v =>
    let sat := fun (x : Rat) => clampI (-32767) 32767 (roundRat x)
    if o.dot then (sat v.1, sat v.2) else (sat (o.ux * v.1 + o.uy * v.2), sat (o.ux * v.2 - o.uy * v.1))

/-- Open edges whose error the latest sample gives, and those for which 4 µs have passed (R180). -/
def Dev.closeEdges (d : Dev) (k : Nat) (valid : Bool) : Dev :=
  let e := nth d.eng k
  let late := fun (o : OpenEdge) => decide (o.optPs + 4000000 < e.obsPs)
  let ripe := fun (o : OpenEdge) => late o || (valid && decide (o.optPs + 500000 ≤ e.obsPs))
  let d1 := d.onEng k fun e => { e with openEdges := e.openEdges.filter fun o => ! ripe o }
  (e.openEdges.filter ripe).foldl (fun d o => d.closeEdge k o (if late o then none else d.placement k o)) d1

/-- What a frame does to an oar's engine, its encoder samples valid or not. -/
def Dev.samples (d : Dev) (k : Nat) (meas : List (Option Int)) : Dev :=
  let r := d.observeAxes k meas
  ((r.2.settleSample k r.1).disagree k r.1).closeEdges k (meas.all Option.isSome)

/-! ## The Umpire's checks (R457, R458) -/

/-- LGATE was high at the pad at an instant. -/
def Dev.gateAt (d : Dev) (k : Nat) (ps : Rat) : Bool :=
  let e := nth d.eng k
  let up := e.catchPs - e.latNow.gate
  let down := e.dacUntil - e.latNow.gate
  if e.exposing then decide (up ≤ ps) else decide (up ≤ ps) && decide (ps < down)

/-- The reference at an instant in frames, between the two that bracket it: X, Y, focus as whole part and fraction's share. -/
def OarSafe.refAt (o : OarSafe) (t : Rat) : Option (RefTap × RefTap × Rat) :=
  let n := t.floor
  match o.refs.find? (fun r => (r.tick : Int) = n), o.refs.find? (fun r => (r.tick : Int) = n + 1) with
  | some a, some b => some (a, b, t - n)
  | _, _ => none

/-- Sample minus reference. -/
def tapDiff (x a b : Int) (f : Rat) : Rat := (diff32 x a : Int) - f * (diff32 b a : Int)

/-- The position check on a valid sample. -/
def Dev.posCheck (d : Dev) (k : Nat) (s : SafetySet) (x y f : Int) : Dev :=
  let e := nth d.eng k
  let ps := d.samplePs k e.lat
  match (nth d.ump.oars k).refAt (ps / 250000) with
  | none => d
  | some (a, b, w) =>
    if ! d.gateAt k ps then d
    else
      let dev := (|tapDiff x a.x b.x w| + |tapDiff y a.y b.y w|) * (s.field k 8 4 : Rat) / 65536
      let tol : Nat := 1000 * s.field k 4 2
      let ft := s.field k 12 4
      let off : Bool := decide ((tol : Rat) < dev) || (ft ≠ 0 && decide ((ft : Rat) < |tapDiff f a.f b.f w|))
      let n := if off then (nth d.ump.oars k).posCnt + 1 else 0
      let d1 := d.onSafe k fun o => { o with posCnt := n }
      if off ∧ s.field k 3 1 ≤ n then d1.trip k 0x20 (roundRat dev) tol else d1

/-- The region check on a valid sample while LGATE is high. -/
def Dev.regionCheck (d : Dev) (k : Nat) (s : SafetySet) (x y : Int) : Dev :=
  if (nth d.eng k).lgate && ! inside (s.region k) ⟨x, y⟩ then d.trip k 0x21 x y else d

def Dev.umpSample (d : Dev) (k : Nat) (x y f : Int) : Dev :=
  match d.ump.active with
  | some s => if s.oarEn k then (d.posCheck k s x y f).regionCheck k s x y else d
  | none => d

/-! ## Missed frames (R168, R281, R282) -/

/-- A frame of port n is missed; the fourth in a row while LEN is high trips the oar. Under an asserted Soft reset the port and the
Umpire alone see it (R307, R495). -/
def Dev.missFrame (d : Dev) (n : Nat) : Dev :=
  let d1 := d.onPort n fun p => { p.count 6 1 with missed := p.missed + 1, statSel := 8, sampleOk := [false, false, false], acks := 0 }
  let d2 := if 32 ≤ n then d1 else d1.onSafe n fun o => { o with frameBadTick := d.now }
  if 32 ≤ n || ! d.awake then d2
  else
    let m := (d1.port n).missed
    let d3 := if m = 4 then d2.headTempAt n none else d2
    let d4 := d3.samples n [none, none, none]
    if 4 ≤ m && (nth d4.eng n).len then d4.trip n 0x22 m 4 else d4

/-- A slot passes without a frame: the descrambler and the sequence go on. -/
def Port.slotPast (line : Nat) (p : Port) : Port :=
  { p with dscr := line % 2 ^ 58, rseq := p.rseq.map fun x => (x + 1) % 256 }

/-- No frame arrived in its slot: the sequence moves on by one; a receiver that looks for lock starts over. The operand
gives the last 58 bits that the receiver saw there. -/
def Dev.lostSlot (d : Dev) (n line : Nat) : Dev :=
  let p := d.port n
  let d1 := d.onPort n (Port.slotPast line)
  let d2 := if p.locking then d1.onPort n fun p => { p with syncRun := 0, goodFrames := 0 } else d1
  if p.linked && (p.sleep = 0 || p.sleep = 2) then d2.missFrame n else if p.locking then d2 else d

/-- R281, R282. -/
def execReturnFrameMissed (port line : Nat) (s : State) : Out :=
  gateDev ((Instr.returnFrameMissed port line).wf && (s.dev.awake || s.dev.softHeld)) (fun _ d =>
    if d.portExists port then d.lostSlot port line else d) s

/-! ## Camera words (R234, R275, R276) -/

/-- Arrival frame of the return frame that MID_TICK names by the low bits of RSEQ: the one nearest to the expected midpoint among
those that have come (DEDUCED, log 47). -/
def midFrame (now seq midTick : Nat) (expected : Int) : Int :=
  let a0 : Int := (now : Int) - (((seq : Int) - midTick) % 256)
  min a0 (expected + (a0 - expected + 128) % 256 - 128)

/-- The midpoint in ps of the frame clock: MID_OFF after the sample instant of the frame that MID_TICK names, which like the
present one arrived `ps` into its tick (R270, R275). -/
def midPsOf (mid : Int) (ps off : Nat) (enc : Rat) : Int := roundRat (250000 * (mid : Rat) + ps - enc + 125 * off / 2)

/-- Expected midpoint of an exposure, as an arrival frame. -/
def midExpected (start : Nat × Nat × CameraArg) : Int := (start.1 : Int) + start.2.2.exposureNs / 500

/-- The arrival frame that MID_TICK names by its 16 bits, where the head's count is known, agrees with RSEQ and lies at one of the
exposures (DEDUCED, log 47). -/
def Port.midKnown (p : Port) (now seq midTick : Nat) (starts : List (Nat × Nat × CameraArg)) : Option Int :=
  p.midBase.bind fun b =>
    let a : Int := (now : Int) - (((b : Int) + now - midTick) % 65536)
    if (b + now) % 256 = seq ∧ starts.any (fun s => decide ((a - midExpected s).natAbs ≤ 128)) then some a else none

/-- How far the midpoint that MID_TICK names lies from that of an exposure, in frames. -/
def midMiss (known : Option Int) (now seq midTick : Nat) (start : Nat × Nat × CameraArg) : Nat :=
  let exp := midExpected start
  (known.getD (midFrame now seq midTick exp) - exp).natAbs

/-- Place of the exposure to which words belong: that of the nearest midpoint, the newest among equals (DEDUCED, log 47). -/
def nearestStart (known : Option Int) (now seq midTick : Nat) (starts : List (Nat × Nat × CameraArg)) : Nat :=
  (List.range starts.length).foldl (fun b i =>
    if midMiss known now seq midTick (nth starts i) ≤ midMiss known now seq midTick (nth starts b) then i else b) 0

/-- The words of a link frame, by offset. -/
def camWords (bs : List Nat) : List (Nat × Nat) :=
  let b := blockAt bs 36
  (List.range (min 32 (bitsAt b 48 6))).map fun i => (bitsAt b 32 16 + i, blockAt bs (4 + i))

/-- Words that extend a frame; an offset received before or beyond the frame is left. -/
def addWords (have' new : List (Nat × Nat)) (limit : Nat) : List (Nat × Nat) :=
  have' ++ new.filter fun w => w.1 < limit && ! have'.any (·.1 = w.1)

/-- The first words of a camera frame of an oar that arrive, the frame before it being done with, and those before it of
which nothing came; a frame that nothing started is not taken. -/
def Dev.camBegin (d0 : Dev) (k : Nat) (bs : List Nat) : Dev :=
  let b := blockAt bs 37
  let d := match (nth d0.melt k).rx with | some r => d0.camFinish k r false | none => d0
  let tick := bitsAt b 0 16
  let known := (d.port k).midKnown d.now (retSeq bs) tick (nth d.melt k).starts
  let skipped := (nth d.melt k).starts.take (nearestStart known d.now (retSeq bs) tick (nth d.melt k).starts)
  let d1 := skipped.foldl (fun d s => d.lostFrame k s.1 s.2.1 s.2.2) d
  match (nth d1.melt k).starts with
  | [] => d1
  | (t, take, cam) :: rest =>
    let at' := known.getD (midFrame d.now (retSeq bs) tick (midExpected (t, take, cam)))
    let mid := midPsOf at' (d.port k).arrPs (bitsAt b 16 16) (nth d.eng k).latNow.enc
    (d1.onPort k fun p => { p with midBase := some (natOf (((tick : Int) - at') % 65536)) }).onMelt k fun m => { m with
      starts := rest, rxTake := take, rxCam := cam, rx := some ⟨bitsAt (blockAt bs 36) 0 32, t, [], false, mid, false⟩ }

/-- Words of a camera frame begin it: SOF, or words of a frame whose first link frame failed its check (R276). -/
def Melt.opens (m : Melt) (sof : Bool) (no : Nat) : Bool :=
  sof || (m.rx.map (·.frameNo) ≠ some no && m.camFeat.map (·.frameNo) ≠ some no)

/-- A link frame's camera part on an oar's port. A failed check costs the words of that link frame only, and none where
the frame in hand is complete (R276). -/
def Dev.camFrame (d : Dev) (k : Nat) (bs : List Nat) : Dev :=
  if ! camOk bs then
    d.onMelt k fun m => { m with rx := m.rx.map fun r => { r with incomplete := r.incomplete || ! r.eof } }
  else
    let b := blockAt bs 36
    if bitsAt b 48 6 = 0 then d
    else
      let d1 := if (nth d.melt k).opens (b.testBit 54) (bitsAt b 0 32) then d.camBegin k bs else d
      d1.onMelt k fun m => match m.rx with
        | none => m
        | some r =>
          if r.startTick + 2 * m.rxCam.period < d.now then m
          else if r.frameNo ≠ bitsAt b 0 32 ∨ r.eof then { m with rx := some { r with incomplete := true } }
          else
            let ws := addWords r.words (camWords bs) (m.rxCam.w * m.rxCam.h * 10 / 64)
            { m with rx := some { r with words := ws, eof := b.testBit 55 } }

/-- A link frame's camera part on P32: words of the line in progress (R353, R354). Words under a failed check are left out, and
so are missing. -/
def Dev.lineFrame (d : Dev) (bs : List Nat) : Dev × List DramOp :=
  match d.img.line, d.img.cfg with
  | some l, some c =>
    if ! camOk bs then (d, [])
    else
      let b := blockAt bs 36
      if ! l.sent ∨ bitsAt b 48 6 = 0 ∨ bitsAt b 0 32 ≠ l.k % 2 ^ 32 then (d, [])
      else
        let p := d.port 32
        let enc : Rat := p.dHead + slotPs * p.lLinkMeas + 125000
        let exp : Int := (l.startTick : Int) + c.lineExp / 500
        let q := blockAt bs 37
        let mid := midPsOf (midFrame d.now (retSeq bs) (bitsAt q 0 16) exp) p.arrPs (bitsAt q 16 16) enc
        let l1 : LineRx := { l with
          words := addWords l.words (camWords bs) ((c.lineW * 10 + 63) / 64), eof := l.eof || b.testBit 55
          midPs := if b.testBit 54 then mid else l.midPs }
        let d1 := d.onImg fun m => { m with line := some l1 }
        if l1.eof then d1.lineEnd else (d1, [])
  | _, _ => (d, [])

/-- Block 1 of a valid frame of P32 (R352). -/
def Dev.lineStatus (d : Dev) (b : Nat) : Dev := d.onImg fun m => { m with lineEcho := bitsAt b 0 32, lineBusy := b.testBit 32 }

/-! ## A return frame -/

/-- Encoder and photodiode samples of a valid frame of an oar (R231, R273). -/
def Dev.oarFrame (d : Dev) (k : Nat) (bs : List Nat) : Dev :=
  let b1 := blockAt bs 1
  let b2 := blockAt bs 2
  let b3 := blockAt bs 3
  let ang := [signed 32 (bitsAt b1 0 32), signed 32 (bitsAt b1 32 32), signed 32 (bitsAt b2 0 32)]
  let meas := (List.range 3).map fun i => if b2.testBit (32 + i) then some (nth ang i) else none
  let d1 := d.onPort k fun p => { p with
    lastSample := (List.range 3).map fun i => (nth meas i).getD (p.lastSample.getD i 0), sampleOk := meas.map Option.isSome }
  let pd := (bitsAt b3 0 16, bitsAt b3 16 16, bitsAt b3 32 16, b2.testBit 35)
  let d2 := ((d1.samples k meas).pdSample k pd).darkSample k pd
  if meas.all Option.isSome then d2.umpSample k (nth ang 0) (nth ang 1) (nth ang 2) else d2

/-- RSEQ is the previous value plus 1 (R281). -/
def Port.seqOk (p : Port) (bs : List Nat) : Bool := match p.rseq with | some x => (x + 1) % 256 = retSeq bs | none => true

/-- R306: HDR_ERR and SEQ_ERR of a return header. -/
def Port.headTally (bs : List Nat) (p : Port) : Port :=
  if headerOk bs then (if p.seqOk bs then p else p.count 5 1) else p.count 3 1

/-- R306: a return frame's errors, DATA_ERR and CAM_ERR among them. -/
def Port.tally (bs : List Nat) (p : Port) : Port :=
  let p1 := p.headTally bs
  let p2 := if dataOk bs then p1 else p1.count 4 1
  if camOk bs then p2 else p2.count 7 1

/-- Counters and header of a frame that arrives some ps into the tick; whether the frame is valid (R281), and whether the
header can be read. -/
def Dev.frameChecks (d : Dev) (n ps : Nat) (bs : List Nat) : Dev × Bool × Bool :=
  let h := headerOk bs
  let d1 := d.onPort n fun p => { (if h then (p.tally bs).roundTrip (retEcho bs) ps else p.tally bs) with
    arrPs := ps, rseq := if h then some (retSeq bs) else p.rseq.map fun x => (x + 1) % 256 }
  let d2 := if h then d1.retHeader n bs else d1
  (d2, h && (d.port n).seqOk bs && dataOk bs && retState bs ≠ 5, h)

/-- A return frame, its blocks as they stand on the lane, on a port that hears. The words of a frame that is missed count for
nothing on P32 (R354). Under an asserted Soft reset the port alone takes it (R307). -/
def Dev.returnFrame (d : Dev) (n ps : Nat) (raw : List Nat) : Dev × List DramOp :=
  let r := descrambleAll (d.port n).dscr raw
  let bs := r.2
  let y := syncScan (d.port n).syncBits bs
  let d0 := d.onPort n fun p => { p.count 0 y.1 with syncBits := y.2.1, dscr := r.1 }
  if y.2.2 then (((d0.onPort n fun p => (p.tally bs).blockLost).portLost n).missFrame n, [])
  else
    let c := d0.frameChecks n ps bs
    if ! c.2.1 then
      let d1 := c.1.missFrame n
      (if c.2.2 && n ≠ 32 && d.awake then d1.camFrame n bs else d1, [])
    else
      let b2 := blockAt bs 2
      let d1 := (c.1.onPort n fun p => { p with missed := 0 }).statItem n (bitsAt b2 40 3) (bitsAt b2 48 16)
      if ! d.awake then (d1, [])
      else if n = 32 then (d1.lineStatus (blockAt bs 1)).lineFrame bs else ((d1.oarFrame n bs).camFrame n bs, [])

/-- Sync headers in a row. -/
def syncRunOf (run : Nat) (bs : List Nat) : Nat :=
  bs.foldl (fun r b => let h := b / 2 ^ 64 % 4; if h = 0 ∨ h = 3 then 0 else min 64 (r + 1)) run

/-- R306 on a receiver that looks for lock: sync headers and losses of block and frame lock always, the checks of frames under
block lock. A burst has no return headers (R297), and training frames carry no check codes but the header's (R287). -/
def Port.lockTally (y : Nat × Nat × Bool) (lock burst : Bool) (bs : List Nat) (p : Port) : Port :=
  let p1 := p.count 0 y.1
  let p2 := if p.blockLock && y.2.2 then p1.count 1 1 else p1
  let p3 := if p.frameLock && y.2.2 then p2.count 2 1 else p2
  if ! lock || burst then p3 else if p.trainingPhase.isSome then p3.headTally bs else p3.tally bs

/-- The slot of a return frame begins with a block of the burst (R297). -/
def isBurst (bs : List Nat) : Bool := bs.getD 0 0 = 2 * 2 ^ 64 + 0xE1

/-- R268: a frame on a receiver that looks for lock: block lock after 64 valid sync headers in a row, then valid frame
headers in a row. From T4 on, where frame lock stands, the header is read and the round trip taken (R287). A frame that a
relocking port does not hear is missed. -/
def Dev.lockFrame (d : Dev) (n ps : Nat) (raw : List Nat) : Dev :=
  let p := d.port n
  let r := descrambleAll p.dscr raw
  let bs := r.2
  let y := syncScan p.syncBits bs
  let run := syncRunOf p.syncRun bs
  let lock : Bool := (p.blockLock && ! y.2.2) || run = 64
  let good := lock && headerOk bs
  let burst : Bool := p.st == .trained && isBurst bs
  let frames := if good then p.goodFrames + 1 else 0
  let d1 := d.onPort n fun p => { (p.lockTally y lock burst bs) with
    dscr := r.1, syncBits := y.2.1, syncRun := run, blockLock := lock, goodFrames := frames
    frameLock := (p.frameLock && ! y.2.2) || (if p.trainingPhase.isSome then 4 else 2) ≤ frames
    arrPs := ps, rseq := if good then some (retSeq bs) else none }
  if p.st == .relock then d1.missFrame n
  else if good && (p.trainingPhase = some 4 || p.trainingPhase = some 5) then
    (d1.onPort n (Port.roundTrip (retEcho bs) ps)).retHeader n bs
  else d1

/-- R266 to R276, R307. The frame arrives `ps` after the frame tick. -/
def execReturnFrame (port ps : Nat) (blocks : List Nat) (s : State) : Out :=
  gate ((Instr.returnFrame port ps blocks).wf && (s.dev.awake || s.dev.softHeld)) (fun m d =>
    if ! d.portExists port then (d, [])
    else if (d.port port).hearing then recWrites m (d.returnFrame port ps blocks)
    else if (d.port port).locking then (d.lockFrame port ps blocks, [])
    else (d, [])) s

end Sys2Proof.Machine
end

