-- ==== Sys2Proof/Machine/ClkRows.lean ====
section
/-! DEFINITION. Clocks (R481 to R492), temperature and adaptive voltage (R514 to R516, R529 to R532), supplies (R562), Ethernet
ports (R429, R442), and the recovery of single blocks (R473, R498, R499). -/

namespace Sys2Proof.Machine

def Dev.onClk (d : Dev) (f : Clocks → Clocks) : Dev := { d with clk := f d.clk }

def Dev.onTherm (d : Dev) (f : Thermal → Thermal) : Dev := { d with therm := f d.therm }

/-! ## The clock commands (R483, R489, R490, R508) -/

def Clocks.plan (c : Clocks) : List Byte := u32 c.coxMHz ++ u32 c.divisor

/-- DETAIL of the ratio of R488 that a plan breaks: 1 peripheral bus, 3 Cox to fabric (DESIGN CHOICE, log 12). -/
def planBreak (cox divisor : Nat) : Option Nat :=
  if divisor ≠ 2 ∧ divisor ≠ 4 ∧ divisor ≠ 8 then some 1
  else if cox < 1500 then some 3
  else if cox ≠ 1500 ∧ cox ≠ 1600 then some 0
  else none

def sysClockplanBody (cox divisor : Nat) : Body := fun x _ d =>
  match planBreak cox divisor with
  | some n => badArg n
  | none =>
    let d1 := d.onClk fun c => { c with
      coxMHz := cox, divisor := divisor, storedCox := cox, storedDiv := divisor, raw := c.raw.map fun r => (cox, divisor, r.2.2)
      mux := if c.coxMHz = cox then c.mux else some (true, c.coxMHz, d.now) }
    .done (d1.log x 0x0A 0 d.clk.plan d1.clk.plan) d1.clk.plan

/-- `sys.clockplan`. -/
def execSysClockplan (mbx cox divisor : Nat) (s : State) : Out :=
  runCmd (.sysClockplan mbx cox divisor) (sysClockplanBody cox divisor) s

/-- R481, R442: a source that may be selected. -/
def Dev.selectable (d : Dev) (src : Nat) : Bool :=
  src < 3 && nth d.clk.qualified src && (src ≠ 1 || (d.time.recoveredRef && 2 ≤ d.time.gangSize))

/-- The clock-loss trigger stands while a source is lost or a pair has no PLL left (R454, R485, R486). -/
def Dev.liftClockCut (d : Dev) : Dev :=
  { d with ump := { d.ump with clockCut := d.clk.lost.isSome || d.clk.fabric.dead || d.clk.exposure.dead } }

/-- PLLs that lost lock with the reference lock again. -/
def Clocks.relock (c : Clocks) : Clocks :=
  if [0, 1, 2, 3, 4, 6].any fun i => nth c.locks i then c else { c with locks := c.locks.map fun _ => true }

/-- A source loses its qualification. -/
def Clocks.unqualify (src now : Nat) (c : Clocks) : Clocks :=
  { c with qualified := c.qualified.set src false, lossTick := c.lossTick.set src now }

/-- A source comes into force; a loss that stood is over (R487). -/
def Dev.takeSource (d : Dev) (src : Nat) : Dev :=
  let d1 := (d.onClk fun c => { c.relock with
    sel := src, lost := none, mux := if c.sel = src then c.mux else some (false, c.sel, d.now) }).liftClockCut
  if d.clk.lost.isSome then d1.holdCauseEnds (· == .clockLoss) else d1

def sysClocksrcBody (src : Nat) : Body := fun x _ d =>
  if ! d.selectable src then badArg
  else .done ((d.takeSource src).log x 0x0A 1 (u32 d.clk.sel) (u32 src)) (u32 src)

/-- `sys.clocksrc`: 0 REFCLK, 1 RECOVERED, 2 IRO. -/
def execSysClocksrc (mbx src : Nat) (s : State) : Out := runCmd (.sysClocksrc mbx src) (sysClocksrcBody src) s

/-- Whether member m of a pair is locked. -/
def PllPair.locked (p : PllPair) (m : Nat) : Bool := if m = p.active then ! p.dead else p.standby

def PllPair.report (p : PllPair) : List Byte := u32 p.active ++ u32 p.switchovers ++ u32 (boolN (p.locked 0)) ++ u32 (boolN (p.locked 1))

/-- Lock of PLL i; a pair is locked by its active member. -/
def Clocks.locked (c : Clocks) (i : Nat) : Bool := nth c.locks i && ! (i = 1 && c.fabric.dead) && ! (i = 2 && c.exposure.dead)

/-- Per source qualified and measured ppm; trim reference and last correction in ppb; locks; pairs; gate and bypass counts. -/
def Clocks.report (c : Clocks) : List Byte :=
  (List.range 3).flatMap (fun i => u32 (boolN (nth c.qualified i)) ++ i32 (nth c.ppm i)) ++ u32 c.trimRef ++ i32 c.lastCorrection ++
  (List.range 7).flatMap (fun i => u32 (boolN (c.locked i))) ++ c.fabric.report ++ c.exposure.report ++ u32 c.gateTimeouts ++ u32 c.bypasses

def sysClockstatBody : Body := fun _ _ d => .done d d.clk.report

/-- `sys.clockstat`. -/
def execSysClockstat (mbx : Nat) (s : State) : Out := runCmd (.sysClockstat mbx) sysClockstatBody s

def rawBytes (r : Option (Nat × Nat × Nat)) : List Byte :=
  match r with
  | some (a, b, c) => u32 a ++ u32 b ++ u32 c
  | none => []

/-- R490: the plan fields without the checks, until RSTn. -/
def sysClockrawBody (cox divisor frame : Nat) : Body := fun x _ d =>
  if cox < 400 ∨ 1600 < cox ∨ divisor = 0 ∨ 16 < divisor ∨ frame < 100 ∨ 400 < frame then badArg
  else
    let d1 := d.onClk fun c => { c with coxMHz := cox, divisor := divisor, raw := some (cox, divisor, frame) }
    .done (d1.log x 0x0A 2 (rawBytes d.clk.raw) (rawBytes d1.clk.raw))

/-- `sys.clockraw`, from USB service only. -/
def execSysClockraw (mbx cox divisor frame : Nat) (s : State) : Out :=
  runCmd (.sysClockraw mbx cox divisor frame) (sysClockrawBody cox divisor frame) s

/-! ## PLLs (R484, R485) -/

/-- Pair 0 is the fabric's, 1 the exposure clock's. -/
def Clocks.pair (c : Clocks) (i : Nat) : PllPair := if i = 0 then c.fabric else c.exposure

def Clocks.onPair (c : Clocks) (i : Nat) (f : PllPair → PllPair) : Clocks :=
  if i = 0 then { c with fabric := f c.fabric } else { c with exposure := f c.exposure }

def PllPair.swap (p : PllPair) : PllPair := { p with active := 1 - p.active, standby := false, switchovers := p.switchovers + 1 }

/-- R106, R152: the dispatch cycle in progress ends. -/
def Dev.cycleLost (d : Dev) : Dev :=
  (d.onMar fun m => { m with overruns := m.overruns + 1 }).layerStat fun t => { t with overrun := t.overrun + 1 }

/-- R190: which edges of the present frame lie within the switchover, and how far each then errs, is free within ±1.25 ns. -/
def Dev.edgesSwitch (d : Dev) (k : Nat) : Dev :=
  let r := (nth d.eng k).edges.foldl (fun (r : List Edge × Dev) e =>
    let hit := r.2.flip
    if e.frame = d.now ∧ hit.1 then
      let x := hit.2.drawInt (-1250) 1250
      (r.1 ++ [{ e with flags := e.flags ||| 16, optPs := e.optPs + x.1 }], x.2)
    else (r.1 ++ [e], hit.2)) ([], d)
  r.2.onEng k fun e => { e with edges := r.1 }

/-- The all-oar cut of code 0x08 (R454, R456). -/
def Dev.clockCutNow (d : Dev) : Dev :=
  (({ d with ump := { d.ump with clockCut := true } }).openAll 5).event 3 0x08 0xFF 0 0 0

/-- The active PLL of a pair fails. With the last of the exposure clock's the fabric PLL still rides, and the axes stop along their
ramps (R340). -/
def Dev.pllFails (d : Dev) (i : Nat) : Dev :=
  let p := d.clk.pair i
  if p.dead then d
  else
    let f := fun (q : PllPair) => { q with failTick := d.now, restartTick := some d.now }
    if p.standby then
      let d1 := (d.onClk (·.onPair i (f ∘ PllPair.swap))).spoil 0x0C i 0x001 false 0
      if i = 0 then d1.cycleLost else oars32.foldl Dev.edgesSwitch d1
    else
      let d1 := (d.onClk (·.onPair i fun q => { f q with dead := true })).clockCutNow
      (if i = 0 then d1.stepAbort else d1.stopAllAxes fun _ => true).enterHold .pllLoss false (some 5) 4

def execPllFailure (pair : Nat) (s : State) : Out := onDev (.pllFailure pair) (fun _ d => d.pllFails pair) s

/-- Every 60 s the Cox restarts the failed PLL. -/
def Dev.pllRestart (d : Dev) (i : Nat) : Dev :=
  match (d.clk.pair i).restartTick with
  | some t => if d.now < t + sT 60 || ! d.coxRuns then d else d.onClk (·.onPair i fun p => { p with restartTick := some d.now })
  | none => d

def execPllRestart (pair : Nat) (s : State) : Out := onDev (.pllRestart pair) (fun _ d => d.pllRestart pair) s

/-- 1 s of clean lock: it becomes the standby, or the active one where none was left. -/
def Dev.pllReady (d : Dev) (i : Nat) : Dev :=
  let p := d.clk.pair i
  match p.restartTick with
  | none => d
  | some t =>
    if t ≤ p.failTick ∨ d.now < t + sT 1 then d
    else if ! p.dead then d.onClk (·.onPair i fun q => { q with standby := true, restartTick := none })
    else
      let d1 := (d.onClk (·.onPair i fun q => { q.swap with dead := false, restartTick := some d.now })).liftClockCut
      if d1.clk.fabric.dead || d1.clk.exposure.dead then d1 else d1.holdCauseEnds (· == .pllLoss)

def execPllStandbyReady (pair : Nat) (s : State) : Out :=
  onDev (.pllStandbyReady pair) (fun _ d => d.pllReady pair) s

/-- R340, R442, R481: an Ethernet port goes down; its domain is lost, and with port A the recovered clock. -/
def Dev.ethDown (d : Dev) (p : Nat) : Dev :=
  if ! (nth d.time.eth p).up then d
  else
    let d1 := (d.onEth p fun e => { e with up := false }).spoil 0x09 p 0x001 false 0
    let d2 := ((List.range 2).filter fun k => (d.dom k).cfg.port = p).foldl Dev.loseDomain d1
    if p = 0 then d2.onClk (Clocks.unqualify 1 d.now) else d2

/-- Every port that hears loses frame lock (R290). -/
def Dev.linksLost (d : Dev) : Dev := (List.range 33).foldl Dev.lockGone d


/-! ## The reference (R481, R482, R486, R487, R492) -/

/-- R340, R486: no reference is left and the PLLs lose lock. -/
def Dev.clocksGone (d : Dev) : Dev :=
  (((d.stepAbort.linksLost).ethDown 0).ethDown 1).onClk fun c => { c with locks := c.locks.mapIdx fun i b => i = 5 && b }

/-- R486: the selected reference is lost; `ridden` tells whether every PLL rode the move to the IRO. -/
def Dev.refLost (d : Dev) (ridden : Bool) : Dev :=
  let src := d.clk.sel
  if d.clk.lost = some src ∨ ! nth d.clk.qualified src then d
  else
    let iro := src ≠ 2 && nth d.clk.qualified 2
    let d1 := (d.onClk fun c => { c.unqualify src d.now with
      lost := some src
      sel := if iro then 2 else src, mux := if iro then some (false, src, d.now) else c.mux }).clockCutNow
    let d2 := d1.spoil 0x0C src 0x004 true 0
    let d3 := if ridden && iro then d2.stopAllAxes fun _ => true
      else d2.clocksGone
    d3.enterHold .clockLoss false (some 5) 4

/-- R481, R486: the monitor of a source declares it lost; one that is not selected only ceases to be qualified. -/
def Dev.refMonitor (d : Dev) (ridden : Bool) (src : Nat) : Dev :=
  if src = d.clk.sel then d.refLost ridden
  else if nth d.clk.qualified src then d.onClk (Clocks.unqualify src d.now) else d

def execReferenceLoss (ridden : Bool) (src : Nat) (s : State) : Out :=
  onDevAny (fun _ d => d.refMonitor ridden src) s

/-- R442: port A is down: while RECOVERED was selected that is a source loss, ridden on the IRO. -/
def Dev.portADown (d : Dev) (ridden : Bool) : Dev :=
  if d.clk.sel = 1 ∧ (nth d.time.eth 0).up then (d.refLost ridden).ethDown 0 else d.ethDown 0

/-- R484: a PLL that is not duplicated loses lock: 0 Cox, 3 link, 4 DDR, 5 PCIe, 6 Ethernet. -/
def Dev.pllLost (d : Dev) (i : Nat) : Dev :=
  let d1 := d.onClk fun c => { c with locks := c.locks.set i false }
  if i = 3 then d1.linksLost.enterHold .pllLoss false none 4
  else if i = 4 then d1.blockHold 8 0
  else if i = 5 then (d1.linkChange 0 0).onClk fun c => { c with locks := c.locks.set 5 true }
  else if i = 6 then (d1.portADown true).ethDown 1
  else if i = 0 then d1
  else d

def execPllLockLoss (pll : Nat) (s : State) : Out := onDev (.pllLockLoss pll) (fun _ d => d.pllLost pll) s

/-- The bound of R481 on a source's frequency in ppm. -/
def qualBound (src : Nat) : Int := if src = 0 then 10000 else if src = 1 then 100 else 5000

/-- A source has met its condition of R481 for 10 ms; its measured frequency is free within the bound. -/
def Dev.refQualifies (d : Dev) (src : Nat) : Dev :=
  if nth d.clk.qualified src || (src = 1 && ! (nth d.time.eth 0).up) || d.now < nth d.clk.lossTick src + msT 10 then d
  else
    let v := d.drawInt (-(qualBound src)) (qualBound src)
    let d1 := v.2.onClk fun c => { c with qualified := c.qualified.set src true, ppm := c.ppm.set src v.1 }
    if d.clk.lost = some src then d1.takeSource src else d1

def execReferenceQualified (src : Nat) (s : State) : Out :=
  onDev (.referenceQualified src) (fun _ d => d.refQualifies src) s

/-- The second's trim: the error measured against the reference is taken out, by at most 1 ppm. -/
def Dev.trimIro (d : Dev) (errorPpb : Int) : Dev :=
  if d.clk.trimTick.any fun t => d.now < t + sT 1 then d
  else
  let r := d.trimReference
  let c := if r = 3 then 0 else clampI (-1000) 1000 (-errorPpb)
  ({ d with cal := { d.cal with iroSum := d.cal.iroSum + c } } : Dev).onClk fun k => { k with
    trimTick := some d.now, trimRef := r, lastCorrection := c, iroPpb := k.iroPpb + c
    ppm := if r = 3 then k.ppm else k.ppm.set 2 ((errorPpb + c) / 1000) }

def execIroTrim (errorPpb : Int) (s : State) : Out := onDevAny (fun _ d => d.trimIro errorPpb) s

/-- A switch is still in progress this long after its start. -/
def muxTicks : Nat := usT 20

/-- R492: the old clock has stopped; the switch completes after 64 cycles of the new one. -/
def Dev.muxBypass (d : Dev) : Dev :=
  match d.clk.mux with
  | some (_, _, t) =>
    if t + muxTicks < d.now then d
    else (d.onClk fun c => { c with mux := none, bypasses := c.bypasses + 1 }).spoil 0x0C 0xFF 0x002 false 0
  | none => d

def execMuxHandshakeBypass (s : State) : Out := onDev .muxHandshakeBypass (fun _ d => d.muxBypass) s

/-- R492: the new clock is absent for 10 µs; the old one is kept, lost where it had stopped. -/
def Dev.muxAbandon (d : Dev) : Dev :=
  match d.clk.mux with
  | some (cox, old, t) =>
    if t + muxTicks < d.now then d
    else
      let d1 := (d.onClk fun c => { c with mux := none, abandons := c.abandons + 1 }).spoil 0x0C 0xFF 0x003 false 0
      if cox then d1.onClk fun c => { c with coxMHz := old }
      else
        let d2 := d1.onClk fun c => { c with sel := old }
        if nth d2.clk.qualified old then d2
        else ((d2.onClk fun c => { c with lost := some old }).clockCutNow.clocksGone).enterHold .clockLoss false (some 5) 4
  | none => d

def execMuxSwitchAbandon (s : State) : Out := onDev .muxSwitchAbandon (fun _ d => d.muxAbandon) s

/-- R491: the access's master gets a bus error, which the host sees as an Unsupported Request, and the gate closes
(DESIGN CHOICE, log 136). Master 0 is the host; what a master inside the device does with it is its own. -/
def Dev.gateLate (d : Dev) (block master : Nat) : Dev :=
  let d1 := d.onClk fun c => { c with
    gateTimeouts := c.gateTimeouts + 1, gated := if c.gated.contains block then c.gated else c.gated ++ [block] }
  if master = 0 then { d1 with host := ({ d1.host with bus := ⟨true, false, []⟩ } : HostIf).aerSet false 20 } else d1

def execClockGateTimeout (block master : Nat) (s : State) : Out := onDevAny (fun _ d => d.gateLate block master) s

/-! ## Temperature (R529 to R532) -/

/-- Lower bound of a band, 0.01 °C. -/
def Dev.bandBound (d : Dev) (b : Nat) : Int :=
  if b = 1 then 0 else if b = 2 then d.cal.t2 else d.cal.t3

/-- The band a reading calls for: upward at a lower bound, downward 2 °C below it. -/
def Dev.bandFor (d : Dev) (c : Int) : Nat :=
  let hot := if d.bandBound 3 ≤ c then 3 else if d.bandBound 2 ≤ c then 2 else if d.bandBound 1 ≤ c then 1 else 0
  let keep := fun (b : Nat) (low : Nat) => if c ≤ d.bandBound b - 200 then low else b
  let b := d.therm.band
  if b ≤ hot then hot
  else if b = 3 then keep 3 (keep 2 (keep 1 0))
  else if b = 2 then keep 2 (keep 1 0)
  else keep 1 0

/-- A band change: THERMAL; on a rise the guard band moves at once, and wherever it grows (R515), else on a fall after 1 s. -/
def Dev.bandChange (d : Dev) (b : Nat) : Dev :=
  if b = d.therm.band then d
  else
    let rise := d.therm.guardBand ≤ b || bandGuard d.therm.guardBand ≤ bandGuard b
    ((d.onTherm fun t => { t with
      band := b, changes := t.changes + 1, guardBand := if rise then b else t.guardBand
      fallSince := if rise then none else some d.now }).raise 39).retarget

/-- R537: the reading has moved 1 °C since the last interpolation; a run in progress completes first. -/
def Dev.interpolate (d : Dev) (c : Int) : Dev :=
  if (c - d.therm.lastInterp).natAbs < 100 ∨ d.cal.run.isSome then d else d.reinterp

/-- R532: one health record per excursion. -/
def Dev.excursions (d : Dev) (c : Int) : Dev :=
  let hot := 11000 < c
  let cold := c < -4000
  let d1 := if hot && ! d.therm.hotFiled then d.healthRec 0x07 1 0x0F 0xFF c 11000 0 0 else d
  let d2 := if cold && ! d.therm.coldFiled then d1.healthRec 0x07 1 0x0F 0xFF c (-4000) 0 0 else d1
  d2.onTherm fun t => { t with hotFiled := hot, coldFiled := cold }

/-- A reading of the on-die sensor; none where the conversion or the converter failed. -/
def Dev.sampleTemp (d : Dev) (r : Option Int) : Dev :=
  match r.filter fun c => -5500 ≤ c ∧ c ≤ 15000 with
  | none => (d.onTherm fun t => { t with broken := true }).thermalShutdown 0x0A
  | some c =>
    let d1 := d.onTherm fun t => { t with c100 := c, broken := false, minC := min t.minC c, maxC := max t.maxC c }
    let d2 := ((d1.bandChange (d1.bandFor c)).excursions c).interpolate c
    if 12500 ≤ c then d2.thermalShutdown 0x09 else d2

def execTemperatureSample (c100 : Option Int) (s : State) : Out := onDevAny (fun _ d => d.sampleTemp c100) s

/-- R531: the cooler band has held for 1 s. -/
def Dev.stepDown (d : Dev) : Dev :=
  match d.therm.fallSince with
  | some t =>
    if d.now < t + sT 1 then d
    else (d.onTherm fun x => { x with guardBand := x.band, fallSince := none }).retarget
  | none => d

def execAvsStepDownHold (s : State) : Out := onDev .avsStepDownHold (fun _ d => d.stepDown) s

/-! ## Adaptive voltage (R514 to R516) -/

/-- R516: the bus or the regulator has failed: 0.88 V is written, the chip budget capped. -/
def Dev.avsFails (d : Dev) (value limit : Int) : Dev :=
  (({ d with
    therm := { d.therm with avsFault := true, avsFails := 0, setUv := 880000 }
    cal := { d.cal with marginLow := true } }).healthRec 0x02 1 0x0F 0xFF value limit 0 0).retarget

/-- A step of at most 5 mV towards the target. -/
def towards (set target : Nat) : Nat := if set < target then min target (set + 5000) else max target (set - 5000)

/-- R522: the power by a Current read, kept for 10 ms. -/
def Thermal.measure (now readUv : Nat) (ma : Option Nat) (t : Thermal) : Thermal :=
  match ma with
  | none => { t with power := [] }
  | some i => { t with power := (now, readUv * i / 1000000) :: t.power.filter fun p => now < p.1 + msT 10 }

/-- One AVSBus write and read-back, with a Status read, whose word the spec leaves open, and the Current read of a regulator that offers
it (R514). -/
def Dev.avsGo (d : Dev) (answered : Bool) (readUv : Nat) (ma : Option Nat) : Dev :=
  let t := d.therm
  if d.now < t.avsTick + usT 100 then d
  else if ! answered then
    let d1 := d.onTherm fun x => { x with avsTick := d.now, avsFails := x.avsFails + 1 }
    if 3 ≤ t.avsFails + 1 then d1.avsFails 0 t.targetUv else d1
  else
    let set := if t.avsFault then 880000 else towards t.setUv t.targetUv
    let st := d.draw 65536
    let d1 := st.2.onTherm fun x => { x.measure d.now readUv ma with
      avsTick := d.now, avsFails := 0, setUv := set, readUv := readUv, avsStatus := st.1 }
    if readUv + 15000 < set ∧ ! t.avsFault then d1.avsFails readUv set else d1

def execAvsStep (answered : Bool) (readUv : Nat) (currentMa : Option Nat) (s : State) : Out :=
  onDevAny (fun _ d => d.avsGo answered readUv currentMa) s

/-- R516. -/
def execCoreUndervoltage (s : State) : Out :=
  onDev .coreUndervoltage (fun _ d =>
    (d.onTherm fun t => { t with uvSince := some d.now }).enterHold .undervoltage false none 4) s

/-- R516, R517: within its target for 10 ms. -/
def Dev.coreBack (d : Dev) : Dev :=
  match d.therm.uvSince with
  | some t =>
    if d.now < t + msT 10 then d
    else (d.onTherm fun x => { x with uvSince := none }).holdCauseEnds (· == .undervoltage)
  | none => d

def execCoreVoltageRecovered (s : State) : Out := onDev .coreVoltageRecovered (fun _ d => d.coreBack) s

/-! ## Monitored rails (R562) -/

/-- Nominal mV of VDDA_LINK, VDDH_LINK, VDDQ_DDR, VDD_IO12, VDDA_MIX (R559). -/
def railNominal (r : Nat) : Nat := ([900, 1200, 1100, 1200, 1800] : List Nat).getD r 0

/-- R562: more than 5 % outside the nominal value. -/
def railOff (r mv : Nat) : Bool := 5 * railNominal r < 100 * ((mv : Int) - railNominal r).natAbs

def Dev.railOut (d : Dev) (r mv : Nat) : Dev :=
  if ! railOff r mv then d
  else if nth d.pins.railBad r then
    ({ d with pins := { d.pins with railTick := d.pins.railTick.set r d.now } } : Dev).enterHold .rail false none 4
  else (({ d with pins := { d.pins with railBad := d.pins.railBad.set r true, railTick := d.pins.railTick.set r d.now } }).spoil 0x0F r 0x001 true mv).enterHold .rail false none 4

def execRailOutOfWindow (rail mv : Nat) (s : State) : Out := onDev (.railOutOfWindow rail mv) (fun _ d => d.railOut rail mv) s

/-- The rail has been back for 10 ms. -/
def Dev.railBack (d : Dev) (r : Nat) : Dev :=
  if d.now < nth d.pins.railTick r + msT 10 then d
  else
  let d1 := { d with pins := { d.pins with railBad := d.pins.railBad.set r false } }
  if d1.pins.railBad.any id || ! d.awake then d1 else d1.holdCauseEnds (· == .rail)

def execRailRecovered (rail : Nat) (s : State) : Out := onAon (.railRecovered rail) (fun _ d => (d.railBack rail, [])) s

/-! ## Ethernet ports (R152, R429, R442) -/

/-- R442: port A going down while RECOVERED is selected is a source loss, which the clocks ride on the IRO. -/
def Dev.ethChange (d : Dev) (p : Nat) (up : Bool) : Dev :=
  if (nth d.time.eth p).up = up || (up && ! d.blockLive 6 p) then d
  else if up then
    let d1 := (d.onEth p fun e => { e with up := true }).spoil 0x09 p 0x002 false 0
    if p = 0 then d1.onClk fun c => { c with lossTick := c.lossTick.set 1 d.now } else d1
  else
    if p = 0 then d.portADown true else d.ethDown p

def execEthPortChange (port : Nat) (up : Bool) (s : State) : Out :=
  onDev (.ethPortChange port up) (fun _ d => d.ethChange port up) s

/-! ## Single blocks (R473, R498, R499) -/

/-- Instances of a block code. -/
def blockCount (code : Nat) : Nat :=
  if code = 1 ∨ code = 5 then 8 else if code = 2 then 33 else if code = 3 then 32 else if code = 6 then 2
  else if code = 4 ∨ code = 7 ∨ code = 8 then 1 else 0

/-- R499: the block reports idle. -/
def Dev.blockIdle (d : Dev) (code i : Nat) : Bool :=
  if code = 1 then ! nth d.loops.inService i
  else if code = 2 then (d.port i).st == .failed || ! d.portExists i
  else if code = 3 then
    (d.geo.disabled.getLsbD i || d.inT i || ! d.oarExists i) && (nth d.mar.oars i).buf.isEmpty && (nth d.eng i).cur.isNone
  else if code = 4 then d.recd.take = 0 && d.recd.next.isNone
  else if code = 5 then ! (nth d.host.dma i).running && (nth d.host.dma i).cur.isNone
  else if code = 6 then ! (nth d.time.eth i).up
  else if code = 7 then d.layers.released.isNone
  else d.mode.mode == .hold && d.mc.chans.all (·.mig.isNone)

/-- R498: clock-good of a block's domain. -/
def Dev.clockGood (d : Dev) (code : Nat) : Bool :=
  if code = 2 then nth d.clk.locks 3
  else if code = 3 then nth d.clk.locks 2 && ! d.clk.exposure.dead
  else if code = 6 then nth d.clk.locks 6
  else if code = 8 then nth d.clk.locks 4
  else nth d.clk.locks 1 && ! d.clk.fabric.dead

/-- A port as its configuration leaves it. -/
def Port.again (p : Port) : Port :=
  { Port.reset with
    eqWidth := p.eqWidth, eqHeight := p.eqHeight, outPreset := p.outPreset, autoSleep := p.autoSleep, presets := p.presets
    eqStart := p.eqStart, counters := p.counters, everTrained := p.everTrained, history := p.history, probe := p.probe }

/-- An engine with what flash keeps of its configuration. -/
def Flash.engine (f : Flash) (k : Nat) : Engine :=
  { Engine.reset with
    motion := nth f.motion k, lat := nth f.lat k, map := (nth f.map k).1, idleCode := (nth f.map k).2 }

def Flash.meltOf (f : Flash) (k : Nat) : Melt := { Melt.reset with pdOffset := nth f.pdOffset k }

/-- A block reset and re-initialised from its stored configuration. An engine keeps the latencies of R169, which trainings,
relocks, Start and `oar.measure` alone measure anew. -/
def Dev.blockAgain (d : Dev) (code i : Nat) : Dev :=
  if code = 1 then d
  else if code = 2 then d.onPort i Port.again
  else if code = 3 then (d.onEng i fun e => { d.flash.engine i with lat := e.lat }).onMelt i fun _ => d.flash.meltOf i
  else if code = 4 then d.onRec fun _ => Recorder.reset
  else if code = 5 then { d with host := { d.host with dma := upd d.host.dma i fun _ => DmaChan.reset } }
  else if code = 6 then d.onEth i fun e => { EthPort.reset e.mac with vlan := e.vlan, ipv4 := e.ipv4, txCorr := e.txCorr, rxCorr := e.rxCorr }
  else if code = 7 then
    d.rebuildPool
  else { d with mc := { d.mc with panic0 := false, panic1 := false } }

/-- The block comes out of reset (R498, R547). -/
def Dev.blockOut (d : Dev) (code i : Nat) : Dev :=
  let d1 := (d.blockAgain code i).spoil 0x0D code 0x002 false i
  { d1 with boot := { d1.boot with inReset := d1.boot.inReset.filter (· ≠ (code, i)) } }

/-- Whether a command may name instance i of a block: ports and oars that are fused off or taken out by COMPAT are
named by no command (R6, R9). -/
def Dev.blockNamed (d : Dev) (code i : Nat) : Bool :=
  i < blockCount code && (code ≠ 2 || d.portExists i) && (code ≠ 3 || d.oarExists i)

/-- `sys.blockreset`: at once with clock-good, otherwise after the wait of R498. -/
def sysBlockresetBody (code i : Nat) : Body := fun _ _ d =>
  if ! d.blockNamed code i then badArg
  else if ! d.blockIdle code i then refusedBusy 1000
  else if d.clockGood code then .done (d.blockOut code i) (u32 0)
  else .executing { d with boot := { d.boot with inReset := (code, i) :: d.boot.inReset.filter (· ≠ (code, i)) } } (.blockreset code i d.now) true

/-- `sys.blockreset`: 0 released, 1 left in reset. -/
def execSysBlockreset (mbx code index : Nat) (s : State) : Out :=
  runCmd (.sysBlockreset mbx code index) (sysBlockresetBody code index) s

/-- Object class under which the re-initialisation of a block is journalled (origin 5 of R421). -/
def blockObject (code : Nat) : Nat :=
  if code = 1 then 0x04 else if code = 4 then 0x0F else if code = 6 then 0x08 else if code = 7 then 0x10 else if code = 8 then 0x09 else 0x11

/-- What flash holds of a block's configuration, as the queries return it (R543). -/
def Dev.blockForm (d : Dev) (code i : Nat) : List Byte :=
  if code = 1 then d.loops.image
  else if code = 2 then (d.port i).linkBytes
  else if code = 3 then (nth d.eng i).lat.bytes
  else if code = 4 then takeBytes d.recd.take d.recd.decim d.recd.gated
  else if code = 6 then (nth d.time.eth i).bytes i
  else if code = 7 then d.mar.cfgBytes
  else d.mc.confBytes

def HoldCause.blockOf : HoldCause → Option (Nat × Nat)
  | .block c i => some (c, i)
  | _ => none

/-- R473: it stays in Hold; `safe.status` names the block, whose failure counts for the next one within 1 h. -/
def Dev.recoveryFails (d : Dev) (c i : Nat) : Dev :=
  let d1 := (({ d with ump := { d.ump with holdBlock := some (c, i), recoveries := (c, i, d.now) :: d.ump.recoveries } }).spoil 0x01 c 0x004 true i).raise 35
  if d.ump.holdBlock = some (c, i) then d1.assertWdog 0 else d1

/-- R473: the Cox resets the failed block, once it is idle, within 50 ms. A loop processor stays out of
service all the same, until `loop.restore` or a reset (R223). -/
def Dev.holdRecovery (d : Dev) (ok : Bool) : Dev :=
  match (if d.mode.mode == .hold then d.mode.holdCauses.findSome? HoldCause.blockOf else none) with
  | none => d
  | some (c, i) =>
    let recent := d.ump.recoveries.filter fun r => d.now < r.2.2 + sT 3600
    let again := recent.any fun r => r.1 = c && r.2.1 = i
    if ! ok || again || (c ≠ 8 && ! d.clockGood c) || d.mode.holdTick + msT 50 < d.now then d.recoveryFails c i
    else if c ≠ 1 && ! d.blockIdle c i then d
    else
      let d1 := if c = 8 then d.onClk fun k => { k with locks := k.locks.set 4 true } else d
      let d2 := d1.blockOut c i
      let d3 := ({ d2 with ump := { d2.ump with holdBlock := none, recoveries := (c, i, d.now) :: recent } }).logDevice 5 0 (blockObject c) i (d.blockForm c i) (d2.blockForm c i)
      d3.holdCauseEnds fun k => k.blockOf == some (c, i)

def execHoldRecovery (ok : Bool) (s : State) : Out := onDevAny (fun _ d => if d.coxRuns then d.holdRecovery ok else d) s

/-- R456: an uncorrectable error in the safety parameter set in force. -/
def Dev.setDamaged (d : Dev) : Dev := if d.ump.active.isNone then d else (d.enterSafe 0x0D 0xFF).assertWdog 0x0D

/-! ## The test access port (R558) -/

/-- JTAG is locked by fuse: ID.CAPS bit 2. -/
def Dev.jtagLocked (d : Dev) : Bool := d.fuses.caps.testBit 2

/-- TRST_N low (0) or high (1), or the update of an instruction: 2 BYPASS, 3 IDCODE, any other number an instruction of the port. A
locked port takes BYPASS and IDCODE alone; one held in reset takes none. -/
def Dev.tapEvent (d : Dev) (n : Nat) : Dev :=
  if n = 0 then { d with pins := { d.pins with trstLow := true, tapInstr := 3 } }
  else if n = 1 then { d with pins := { d.pins with trstLow := false } }
  else if d.pins.trstLow || (d.jtagLocked && n ≠ 2 && n ≠ 3) then d
  else { d with pins := { d.pins with tapInstr := n } }

/-- TDO drives: never while the port is locked or in reset. -/
def Dev.tdoDriven (d : Dev) : Bool := ! d.jtagLocked && ! d.pins.trstLow

/-- R472: the Marshal or the governor, the recorder, the DRAM controller; 0x0D tells of the loaded safety parameter set, and
0x100 + k of oar k's next reference set, damaged on its tap. -/
def Dev.unitFault (d : Dev) (code : Nat) : Dev :=
  if code = 4 ∨ code = 7 ∨ code = 8 then d.blockHold code 0
  else if code = 0x0D then d.setDamaged
  else if 0x100 ≤ code ∧ code < 0x120 then d.onSafe (code - 0x100) fun o => { o with tapNoise := 1 }
  else d

/-- A fault for which the table has no row of its own (DESIGN CHOICE, log 128): one of a unit; from 2^32 on an error that arises in
a burst of DRAM and is met by whatever reads it next, 2^32 + 2 × burst a corrected one and 1 more an uncorrectable one; from 2^33 on
the use of a burst of its own data by the Cox; from 2^34 on an event at the test access port. -/
def Dev.blockFault (d : Dev) (m : Dram) (code : Nat) : Dev × List DramOp :=
  if 2 ^ 34 ≤ code then (d.tapEvent (code - 2 ^ 34), [])
  else if 2 ^ 33 ≤ code then d.coxReads m (code - 2 ^ 33)
  else if 2 ^ 32 ≤ code then
    (d, if 64 * ((code - 2 ^ 32) / 2) < d.mc.capacity then [.inject ((code - 2 ^ 32) / 2) (code % 2 = 1)] else [])
  else (d.unitFault code, [])

def execBlockFault (code : Nat) (s : State) : Out := onMemAny (fun m d => d.blockFault m code) s

end Sys2Proof.Machine
end

