-- ==== Sys2Proof/Machine/ResetOps.lean ====
section
/-! DEFINITION. What each reset level keeps and clears (R495), and the Keep record (R504). -/

namespace Sys2Proof.Machine

/-! ## The Keep record (R504) -/

/-- Five bytes of a 33-bit mask. -/
def bytes5 (n : Nat) : List Byte := le 5 n

/-- Bytes 0 to 59. -/
def KeepRec.body (k : KeepRec) : List Byte :=
  u16 (if k.valid then 0x4B50 else 0) ++ u8 1 ++ u8 k.lastReset ++ u32 k.starts ++ u32 k.faultS ++ u8 k.faultCode ++ u8 k.faultFlags ++
  u8 k.lastStep ++ u8 k.bootInfo ++ k.steps.flatMap u8 ++ u8 0 ++ le 9 (k.portFail.foldr (fun c n => 4 * n + c) 0) ++
  bytes5 k.portSkip ++ List.replicate 14 0

/-- The 64 bytes of the record. -/
def KeepRec.bytes (k : KeepRec) : List Byte := k.body ++ u32 (crc32c k.body)

/-- Consecutive failures, skip flag of a step. -/
def KeepRec.fails (k : KeepRec) (i : Nat) : Nat := nth k.steps i % 4
def KeepRec.skips (k : KeepRec) (i : Nat) : Bool := (nth k.steps i).testBit 4

/-- The entry of a step. -/
def stepEntry (fails outcome : Nat) (skip : Bool) (alt : Nat) : Nat := fails + 4 * outcome + 16 * boolN skip + 32 * alt

/-- R504: a step starts; it has no outcome yet. -/
def KeepRec.begin (k : KeepRec) (i : Nat) : KeepRec := { k with steps := k.steps.set i (stepEntry (k.fails i) 0 false 0) }

def Dev.onBoot (d : Dev) (f : Boot → Boot) : Dev := { d with boot := f d.boot }

def Dev.onKeep (d : Dev) (f : KeepRec → KeepRec) : Dev := d.onBoot fun b => { b with keep := f b.keep }

/-! ## Block by block -/

/-- R399, R495: the host interface of a Soft reset stays linked; every other reset takes the link down. -/
def HostIf.again (l : Level) (h : HostIf) : HostIf :=
  let z := { HostIf.reset with msgs := h.msgs, hostOut := h.hostOut }
  match l with
  | .soft => { z with
      linkUp := h.linkUp, lanes := h.lanes, rate := h.rate, cfg := h.cfg, cfg1 := h.cfg1, link1Up := h.link1Up, aer0 := h.aer0, aer1 := h.aer1
      completions := h.completions, nextId := h.nextId, cqSeq := h.cqSeq
      badReads := h.badReads, badWrites := h.badWrites, denials := h.denials, bar2Base := h.bar2Base }
  | _ => z

/-- R495, R545, R548, R550: the chain goes on from flash after a Full reset. -/
def Logs.again (l : Level) (g : Logs) : Logs :=
  match l with
  | .full => { Logs.reset with
      restartDue := false, journal := g.journal, base := g.base, nextLog := g.flushed + 1, chain := (g.journal.getLast?.map (·.chain)).getD (List.replicate 32 0) }
  | .warm => { g with
      spoil := [], spoilNewest := 0, spoilRelease := 0, overflow := List.replicate 17 0, waitTick := g.waitTick.map fun _ => 0 }
  | .soft => g

/-- The Umpire restarts, or keeps running with every cut path open (R495). -/
def Umpire.again (l : Level) (p : Pins) (u : Umpire) : Umpire :=
  match l with
  | .soft => { u with thermalDown := false, closed := 0, proof := none, proofQueue := [], proofResults := [], round := false, hbWatch := false, hbMissing := [] }
  | _ => { Umpire.reset with
      copy1 := u.copy1, copy2 := u.copy2, disagreeSince := if p.estopA = p.estopB then none else some 0
      bothLow := ! p.estopA && ! p.estopB }

/-- Junction and supply go on as they are; what counts since a clear starts afresh. -/
def Thermal.again (t : Thermal) : Thermal :=
  { t with
    broken := false, minC := t.c100, maxC := t.c100, changes := 0, fallSince := none, guardBand := t.band, hotFiled := false
    coldFiled := false, avsFails := 0, avsFault := false, avsTick := 0, uvSince := none, power := [] }

/-- R489, R495: the stored plan is reapplied at every level. -/
def Clocks.again (l : Level) (c : Clocks) : Clocks :=
  let plan := fun (z : Clocks) => { z with
    storedCox := c.storedCox, storedDiv := c.storedDiv, coxMHz := c.storedCox, divisor := c.storedDiv, raw := none, mux := none }
  match l with
  | .soft => plan c
  | _ => plan Clocks.reset

/-- What flash keeps of calibration and ageing. -/
def Cal.again (c : Cal) : Cal := { c with run := none, pendingInterp := 0, replanSince := none, marginLow := false }

/-- R389: the rank map is in flash; a migration starts again from its first chunk. -/
def DramChan.again (c : DramChan) : DramChan :=
  { c with
    testing := none, mig := c.mig.map fun g => { g with first := none, copied := 0, granted := false, due := 0 }
    ce := [0, 0, 0], ue := [0, 0, 0], ceTicks := [[], [], []] }

/-- The address order is in flash (R373); the other settings stay with DRAM contents (DEDUCED, log 61). -/
def MemCtl.again (l : Level) (m : MemCtl) : MemCtl :=
  let z := { MemCtl.reset with chans := m.chans.map DramChan.again, margin := m.margin, deltas := m.deltas }
  match l with
  | .full => { z with order := m.order }
  | _ => { z with order := m.order, k := m.k, scrubH := m.scrubH, ceLimit := m.ceLimit, migRate := m.migRate, qos := m.qos }

/-- R64, R65. -/
def Geo.again (l : Level) (g : Geo) : Geo :=
  match l with
  | .soft => { Geo.reset with active := g.active, stored := g.stored, oars := g.oars }
  | _ => { Geo.reset with stored := g.stored }

/-- R223, R228: a Soft reset leaves a processor out of service where its failure put it. -/
def Loops.again (lv : Level) (l : Loops) : Loops :=
  let base := { Loops.reset with storedDescs := l.storedDescs, storedGains := l.storedGains, ainCode := l.ainCode }
  match lv with
  | .soft => { base with
      inService := l.inService, failing := l.failing, slots := l.slots.map fun (s : LoopSlot) => { LoopSlot.reset with proc := s.proc } }
  | _ => base

/-- R295, R307: a Soft reset leaves the training and sends PARK with the axis valid bits clear. -/
def Port.softReset (p : Port) : Port :=
  { p with headCmd := 1, holdValid := [false, false, false], sleepReq := none
           svc := if p.trainingPhase.isSome then p.svc else [], svcRx := [] }

def Links.again (lv : Level) (k : Links) : Links :=
  match lv with
  | .soft => { k with ports := k.ports.map Port.softReset, probing := none, nextProbe := 0, probeTick := 0 }
  | .warm => { Links.reset with ports := k.ports.map Port.again }
  | .full => { Links.reset with ports := k.ports.map fun (p : Port) =>
      { p.again with counters := List.replicate 18 0, everTrained := false } }

/-- R310: the levels at the input pins stay what they are, those of DIR and MS[2:0] too but at a Full reset (R497). An axis
that moved shows STEP_ABORT (R340). -/
def Slides.again (lv : Level) (s : Slides) : Slides :=
  let held : Bool := lv != .full
  { Slides.reset with
    axes := s.axes.mapIdx fun i (x : SlideAxis) => { SlideAxis.reset i with
      pinP := x.pinP, pinN := x.pinN, pinH := x.pinH, limP := ! x.pinP, limN := ! x.pinN, home := ! x.pinH
      dirHigh := held && x.dirHigh, micro := if held then x.micro else 0, msCode := if held then x.msCode else 0
      flags := if x.inMotion then flagSet 0 8 else 0 }
    encs := s.encs.mapIdx fun i (e : Encoder) => { Encoder.reset i with a := e.a, b := e.b, i := e.i } }

/-- R431, R495: from the Keep counter, or on without a break; no register of the snapshot keeps its value (R14, R401). -/
def Time.again (l : Level) (f : Fuses) (keepSec : Nat) (t : Time) : Time :=
  match l with
  | .soft => { t with snapTaken := false, snapSec := 0, snapNs := 0, snapFrac := 0, snapTick := 0, steps := 0 }
  | _ => { Time.reset keepSec f.macA f.macB with out := t.out }

/-- R497: outputs after release; the levels at the input pins stay. -/
def Pins.again (l : Level) (p : Pins) : Pins :=
  { p.safeStop with
    wdogOut := false, therm := false, pwrEn := true, vddAon := true, forced := false
    gpio := if l == .full then 0 else p.gpio }

/-- An interrupted pulse leaves its bit programmed or not (R496). -/
def Fuses.program (f : Fuses) (p : Nat × Nat) : Fuses :=
  if p.1 = 0 then { f with rstMap := f.rstMap ||| 2 ^ p.2 }
  else if p.1 = 1 then { f with compatLock := true }
  else if p.1 = 2 then { f with keyRevoke := f.keyRevoke ||| 2 ^ p.2 }
  else { f with svnMin := f.svnMin + 1 }

/-- The device after a reset at a level, its ladder at S0; what the table of R495 names as kept is kept. `exit` marks the
exit from Standby, which leaves RESET_CAUSE alone (R495, R511). -/
def Dev.afterReset (d0 : Dev) (l : Level) (exit : Bool) : Dev :=
  let r := d0.flip
  let d := match d0.boot.fusePulse with
    | p :: _ => if r.1 then { r.2 with fuses := r.2.fuses.program p } else r.2
    | [] => d0
  let b := d.boot
  let z := Dev.reset
  { z with
    host := d.host.again l
    logs := d.logs.again l
    fuses := d.fuses
    pins := d.pins.again l
    ump := d.ump.again l d.pins
    mode := { ModeCtl.reset with lastFrom := d.mode.mode, lastS := d.secLow, lastNs := d.nsNow }
    therm := d.therm.again
    clk := d.clk.again l
    boot := { b with
      level := l, standbyExit := exit, next := 0, stepTick := if l == .soft then d.now else 0, halted := false, skipped := false
      calFailed := false
      causeLevel := if exit then b.causeLevel else (match l with | .full => 0 | .warm => 1 | .soft => 2)
      causeSource := if exit then b.causeSource else b.resetSource
      causeBits := if exit then b.causeBits else boolN b.thermBefore + 2 * boolN b.wdogBefore + 8 * boolN b.delayedReset.isSome
      resetActive := none, delayedReset := none, fusePulse := [], thermBefore := false, wdogBefore := false
      running := if l == .full then none else b.running
      inReset := [], coxCores := 15, keep := b.keep.begin 0 }
    cal := d.cal.again
    mc := d.mc.again l
    geo := d.geo.again l
    loops := d.loops.again l
    eng := if l == .soft then d.eng.map fun e => { Engine.reset with lat := e.lat } else z.eng
    links := d.links.again l
    slides := d.slides.again l
    time := d.time.again l d.fuses b.keepSec
    flash := d.flash
    free := d.free }

/-- R456, R495: the Umpire that runs on over a Soft reset finds an ESTOP input low. -/
def Dev.estopStands (d : Dev) : Dev :=
  if ! d.pins.estopA then d.enterSafe 0x01 0xFF else if ! d.pins.estopB then d.enterSafe 0x02 0xFF else d

/-- Posted BAR2 writes that were not fenced land or are lost (R402); a Full reset loses DRAM (R370). -/
def Dev.resetNow (d : Dev) (m : Dram) (l : Level) (exit : Bool) : Dev × List DramOp :=
  let f := d.flip
  let w := if f.1 && l != .full then f.2.applyUnfenced m else (f.2, [])
  let e := w.1.afterReset l exit
  (if l == .soft then e.estopStands else e, if l == .full then [.wipe] else w.2)

end Sys2Proof.Machine
end

