-- ==== Sys2Proof/Machine/BootRows.lean ====
section
/-! DEFINITION. Resets and supplies (R493 to R497, R509, R517), the way out of Standby (R449, R511), the boot ladder (R498,
R500 to R505), fuses and firmware (R494, R496, R506 to R508). -/

namespace Sys2Proof.Machine

/-! ## Reset (R493 to R497) -/

/-- The level a source applies (R493, R494). -/
def Dev.levelOf (d : Dev) (s : ResetSource) : Level :=
  match s with
  | .porn | .porDetector => .full
  | .rstn => if d.fuses.rstMap = 1 then .full else if d.fuses.rstMap = 2 then .soft else .warm

def ResetSource.code : ResetSource → Nat
  | .porn => 0
  | .porDetector => 1
  | .rstn => 2

def Level.code : Level → Nat
  | .full => 0
  | .warm => 1
  | .soft => 2

/-- R307: at a Full or Warm reset the outbound lanes go idle and the forwarded clocks stop. -/
def Dev.lanesIdle (d : Dev) : Dev :=
  { d with links := { d.links with ports := d.links.ports.map Port.goIdle, out := d.links.out.map fun _ => [] } }

/-- R497: what is forced asynchronously at the assertion, whatever the level; WDOG_OUT_N and THERM_N are released, which
RESET_CAUSE remembers. DIR, MS[2:0], heater PWM and general GPIO go to the pin table at Full and are held otherwise. -/
def Dev.forcePins (d : Dev) (l : Level) : Dev :=
  let d1 := if l == .soft then d.outputsLow else d.outputsLow.lanesIdle
  let held : Bool := l != .full
  { d1 with
    loops := if held then d.loops else d1.loops
    pins := { d1.pins with wdogOut := false, therm := false, gpio := if held then d.pins.gpio else 0 }
    boot := { d1.boot with thermBefore := d1.boot.thermBefore || d.pins.therm, wdogBefore := d1.boot.wdogBefore || d.pins.wdogOut }
    slides := { d1.slides with axes := d1.slides.axes.map fun (x : SlideAxis) => { x with
      segs := [], vel := 0, acc := 0, trim := 0, lastEdgeNs := 0, dirHigh := held && x.dirHigh, msCode := if held then x.msCode else 0 } } }

/-- A reset takes effect; one of a higher level replaces one in progress. -/
def Dev.resetBegins (d : Dev) (s : ResetSource) : Dev :=
  let l := d.levelOf s
  let stronger : Bool := match d.boot.resetActive with | some a => decide (l.code < a.code) | none => true
  d.onBoot fun b => { b with
    resetActive := if stronger then some l else b.resetActive, resetSource := if stronger then ResetSource.code s else b.resetSource }

/-- A source becomes active; during a fuse pulse the reset waits for its end (R496). RSTn means nothing without VDD_AON; PORn low in
Off or Keep is that of a power-up, when VDD_AON and VDD_IO18 have come and PWR_EN rises (R561; DESIGN CHOICE, log 154). -/
def Dev.resetAssert (d0 : Dev) (s : ResetSource) : Dev :=
  let d := if d0.mode.mode.code < 2 ∧ s = .porn then { d0 with pins := { d0.pins with vddAon := true, pwrEn := true } } else d0
  if d.mode.mode.code < 2 ∧ s = .rstn then d
  else
    let d1 := d.forcePins (d.levelOf s)
    if d.boot.fusePulse ≠ [] ∧ ! d.ump.thermalDown then
      d1.onBoot fun b => { b with delayedReset := match b.delayedReset with | some .rstn | none => some s | o => o }
    else d1.resetBegins s

def execResetAssert (src : ResetSource) (s : State) : Out := onAonAny (fun _ d => (d.resetAssert src, [])) s

/-- The Keep counter has gone on, for a time that no command tells, while nothing but the Keep domain ran, as in thermal shutdown and
in a Full or Warm reset (DESIGN CHOICE, log 9). -/
def Dev.keepPast (d : Dev) : Dev :=
  let f := d.draw (2 ^ 32)
  let runs : Bool := 3 ≤ d.mode.mode.code && ! d.ump.thermalDown && (d.boot.resetActive == none || d.boot.resetActive == some .soft)
  if runs then d else f.2.onBoot fun b => { b with keepSec := b.keepSec + f.1 }

/-- R561: a Full reset does not end while a monitored rail is out of its window. -/
def Dev.railsUp (d : Dev) : Bool := ! (d.boot.resetActive == some .full && d.pins.railBad.any id)

def execResetRelease (s : State) : Out :=
  onAon .resetRelease (fun m d => match d.boot.resetActive with
    | some l => if d.railsUp then d.keepPast.resetNow m l false else (d, [])
    | none => (d, [])) s

/-! ## Supplies of Keep (R509, R517) -/

/-- VDD_AON below its threshold: Keep, or Off without VBAT, where record and counter are lost (R565; the counter's value is then free);
the internal POR detector holds the reset. -/
def Dev.aonLost (d : Dev) : Dev × List DramOp :=
  if d.mode.mode.code < 2 then (d, [])
  else
    let f := (d.forcePins .full).draw (2 ^ 64)
    let d1 := if d.pins.vbat then d.forcePins .full else f.2.onBoot fun b => { b with
      keepSec := f.1, keepSub := 0, keepPre := 0, keep := { b.keep with valid := false } }
    let d2 := d1.onBoot fun b => { b with resetActive := some .full, resetSource := 1, delayedReset := none }
    ({ d2 with
      mode := { d2.mode with mode := if d.pins.vbat then .keep else .off }
      host := { d2.host with linkUp := false, link1Up := false }
      pins := { d2.pins with vddAon := false, pwrEn := false } }, [.wipe])

def execVddAonLoss (s : State) : Out := onAon .vddAonLoss (fun _ d => d.aonLost) s

/-- VBAT comes or goes; the counter starts from a value that the spec leaves open. -/
def Dev.vbat (d : Dev) (applied : Bool) : Dev :=
  let d1 := { d with pins := { d.pins with vbat := applied } }
  if applied && d.mode.mode == .off then
    let f := d1.draw (2 ^ 64)
    { f.2.onBoot (fun b => { b with keepSec := f.1, keepSub := 0, keepPre := 0 }) with mode := { d.mode with mode := .keep } }
  else if ! applied && d.mode.mode == .keep then
    { d1.onKeep (fun k => { k with valid := false }) with mode := { d.mode with mode := .off } }
  else d1

def execVbatChange (applied : Bool) (s : State) : Out := onAonAny (fun _ d => (d.vbat applied, [])) s

/-- The flag holds until S0 reads it. -/
def execCrystalStop (s : State) : Out :=
  onAon .crystalStop (fun _ d => (if d.mode.mode == .off then d else d.onBoot fun b => { b with crystalStopped := true }, [])) s

/-! ## The way out of Standby (R449, R511, R512) -/

/-- R511: PWR_EN rises, the rails come up, and Start begins; WAKE# is asserted unless PERST# itself woke the device. WDOG_OUT_N and
THERM_N stay as they are until PORn or RSTn (R565). -/
def Dev.wake (d : Dev) (m : Dram) (src : Nat) : Dev × List DramOp :=
  if d.mode.mode == .standby && d.mode.wakeArmed.testBit src && d.boot.resetActive.isNone then
    let r := d.keepPast.resetNow m .full true
    ({ r.1 with pins := { r.1.pins with pewake := src ≠ 0, wdogOut := d.pins.wdogOut, therm := d.pins.therm } }, r.2)
  else (d, [])

/-- 0 PERST# deasserted, 1 WAKE_N low for 1 µs. -/
def Dev.standbyWake (d : Dev) (m : Dram) (src : Nat) : Dev × List DramOp :=
  if src = 0 then
    ({ d with pins := { d.pins with perst := false, pewake := false } }).wake m 0
  else if src = 1 then d.wake m 1
  else (d, [])

def execStandbyWake (src : Nat) (s : State) : Out := onAonAny (fun m d => d.standbyWake m src) s

/-- R449: a frame addressed to port A or to all that wakes the device; its bytes behind the Ethernet header are laid out as in
R444. -/
def Dev.wakeMatch (d : Dev) (frame : List Byte) : Bool :=
  let e := ethParts frame
  let f := e.2.2
  (e.1 = (nth d.time.eth 0).mac || e.1 = 2 ^ 48 - 1) && e.2.1 = gangType && fieldOf f 0 2 = 0x4347 && fieldOf f 3 1 = 0x0F &&
    fieldOf f 32 8 = d.fuses.serial

def Dev.wakeArrives (d : Dev) (m : Dram) (frame : List Byte) : Dev × List DramOp :=
  if d.mode.mode == .standby then (if d.wakeMatch frame then d.wake m 2 else (d, []))
  else if d.awake && (nth d.time.eth 0).up then (d.countDrop 0 3, [])
  else (d, [])

def execWakeFrame (frame : List Byte) (s : State) : Out := onAonAny (fun m d => d.wakeArrives m frame) s

/-! ## The steps of the ladder (R500) -/

/-- What a step comes to: the device, OUTCOME of R504 (1 pass, 2 alternative taken, 3 fail), the alternative, a halt. -/
structure StepEnd where
  dev : Dev
  ops : List DramOp
  outcome : Nat
  alt : Nat
  halt : Bool

def passed (d : Dev) : StepEnd := ⟨d, [], 1, 0, false⟩
def failed (d : Dev) : StepEnd := ⟨d, [], 3, 0, false⟩
def other (d : Dev) (alt : Nat) : StepEnd := ⟨d, [], 2, alt, false⟩
def haltedAt (d : Dev) : StepEnd := ⟨d, [], 3, 0, true⟩

/-- S0 (R505): the record is checked; this Start is counted in it. -/
def Dev.stepAon (d : Dev) (r : StepReport) : StepEnd :=
  let bad := ! d.boot.keep.valid || d.boot.crystalStopped || ! r.ok
  let d1 := d.onBoot fun b => { b with
    keep := if bad then KeepRec.reset else b.keep, crystalStopped := false
    causeBits := if bad ∧ ! b.standbyExit then b.causeBits ||| 4 else b.causeBits }
  let d2 := d1.onKeep fun k => { k with
    starts := (k.starts + 1) % 2 ^ 32
    lastReset := if d1.boot.standbyExit then k.lastReset else d1.boot.causeLevel + 4 * d1.boot.causeSource }
  if bad then other d2 1 else passed d2

/-- S1: the fuses; the COMPAT pin is sampled at a Full reset and at the exit from Standby, COMPAT_LOCK is read at every S1 (R8,
R495). -/
def Dev.stepFuses (d : Dev) (r : StepReport) : StepEnd :=
  if ! r.ok then haltedAt d
  else if d.boot.level == .full then
    passed (d.onBoot fun b => { b with compatPin := d.pins.compat, compat := d.pins.compat || d.fuses.compatLock })
  else passed (d.onBoot fun b => { b with compat := b.compatPin || d.fuses.compatLock })

/-- S2: the IRO, and REFCLK if it qualifies; the first trim against it corrects by a free value within R482's 1 ppm. -/
def Dev.stepIro (d : Dev) (r : StepReport) : StepEnd :=
  let ref := r.ok && r.mask.testBit 0
  let v := d.drawInt (-10000) 10000
  let w := v.2.drawInt (-1000) 1000
  let trim : Int := if ref then w.1 else 0
  let d1 := ({ w.2 with cal := { w.2.cal with iroSum := w.2.cal.iroSum + trim } } : Dev).onClk fun c => { c with
    qualified := [ref, false, true], sel := if ref then 0 else 2, trimRef := if ref then 0 else 3
    lastCorrection := trim, iroPpb := c.iroPpb + trim, trimTick := some d.now, ppm := if ref then c.ppm.set 0 v.1 else c.ppm }
  if ref then passed d1 else other d1 1

/-- A pair by the members that lock. -/
def PllPair.start (now : Nat) (a b : Bool) : PllPair :=
  { PllPair.reset with active := if a then 0 else 1, standby := a && b, failTick := now, restartTick := if a && b then none else some now }

/-- S3: PLLs and the stored plan; at a Soft reset the plan only. The PCIe PLL has no reference but REFCLK. -/
def Dev.stepPlls (d : Dev) (r : StepReport) : StepEnd :=
  let b := r.mask.testBit
  let pcie := b 7 || ! nth d.clk.qualified 0
  let d0 := d.onClk fun c => { c with coxMHz := c.storedCox, divisor := c.storedDiv, raw := none }
  if d.boot.level == .soft then passed d0
  else if ! (r.ok && b 0 && (b 1 || b 2) && (b 3 || b 4) && b 5 && b 6 && pcie && b 8) then haltedAt d0
  else
    let d1 := d0.onClk fun c => { c with
      locks := [true, true, true, true, true, b 7, true]
      fabric := PllPair.start d.now (b 1) (b 2), exposure := PllPair.start d.now (b 3) (b 4) }
    if b 1 && b 2 && b 3 && b 4 then passed d1 else other d1 1

/-- S4: the known-answer test of the Umpire's cores; two are enough (R453). From here the Umpire watches its inputs. -/
def Dev.stepUmpire (d : Dev) (r : StepReport) : StepEnd :=
  let good := (List.range 3).filter fun i => r.ok && r.mask.testBit i
  if good.length < 2 then haltedAt d
  else
    let cs := d.ump.cores.mapIdx fun i (c : UCore) => { c with inService := good.contains i, live := good.contains i, differs := 0 }
    let d1 := { d with ump := { d.ump with cores := cs, degraded := good.length < 3, hbWatch := false } }
    let d2 := match (List.range 3).find? fun i => ! good.contains i with
      | some c => ({ d1 with ump := { d1.ump with lastCore := c } }).event 4 0 0xFF 0 0 c
      | none => d1
    let d3 := if ! d.pins.estopA then d2.enterSafe 0x01 0xFF else if ! d.pins.estopB then d2.enterSafe 0x02 0xFF else d2
    if good.length < 3 then other d3 1 else passed d3

/-- R507: the first check that a slot fails, 1 to 5. -/
def FwSlot.failing (f : Fuses) (x : FwSlot) : Option Nat :=
  if nth f.keyHash x.keyIndex ≠ x.pubHash then some 1
  else if f.keyRevoke.testBit x.keyIndex then some 2
  else if ! x.sigOk then some 3
  else if ! x.bodyOk then some 4
  else if x.svn < f.svnMin then some 5
  else none

def Boot.slot (b : Boot) (i : Nat) : Option FwSlot := if i = 0 then b.slotA else b.slotB

/-- The first check that slot i fails; an empty slot fails the first. -/
def Dev.slotFails (d : Dev) (i : Nat) : Option Nat :=
  match d.boot.slot i with
  | some x => x.failing d.fuses
  | none => some 1

/-- The firmware of slot i runs. -/
def Dev.bootSlot (d : Dev) (i : Nat) : Dev :=
  d.onBoot fun b => { b with running := some i, keep := { b.keep with bootInfo := b.keep.bootInfo / 2 * 2 + i } }

/-- S5: the preferred slot, unless its time has run out, then the other. A slot that could not be read, or ran out of time,
fails check 0 (DESIGN CHOICE, log 11). -/
def Dev.stepFlash (d : Dev) (r : StepReport) : StepEnd :=
  let p := d.boot.preferred
  let fails := fun (i : Nat) => if ! r.ok && r.mask.testBit i then some 0 else d.slotFails i
  match (if d.boot.otherSlot then some 0 else fails p) with
  | none => passed (d.bootSlot p)
  | some n =>
    if (fails (1 - p)).isSome then haltedAt d
    else other (((d.spoil 0x0D p 0x003 true n).bootSlot (1 - p)).onBoot fun b => { b with skipped := true }) 1

/-- S6: the Cox; the heartbeat is supervised from here. -/
def Dev.stepCox (d : Dev) (r : StepReport) : StepEnd :=
  let good := if r.ok then r.mask % 16 else 0
  if good = 0 then haltedAt d
  else
    let d1 := { d with
      ump := { d.ump with heartbeats := List.replicate 4 d.now, hbWatch := true, hbMissing := (List.range 4).filter fun c => ! good.testBit c }
      boot := { d.boot with coxCores := good } }
    if good = 15 then passed d1
    else other (((List.range 4).filter fun c => ! good.testBit c).foldl (fun e c => e.spoil 0x01 c 0x003 false 0) d1) 1

/-- R368: width and density shared by the most of the ranks that answer, the first among equals. -/
def refDevice (rs : List Rank) : Nat × Nat :=
  let ks := rs.map fun (r : Rank) => (r.width, r.gbit)
  ks.foldl (fun best k => if ks.count best < ks.count k then k else best) (ks.headD (8, 16))

/-- A channel as flash's rank map has it, with the ranks that count at this start (R368, R389); a migration starts again from
its first chunk. -/
def DramChan.answer (c : DramChan) (here : Nat → Bool) (total now : Nat) : DramChan :=
  let rs := (List.range 3).map fun r => if here r then nth c.mapRanks r else RankState.absent
  let src := (List.range 3).find? fun r => nth rs r == .migrating
  { c with
    ranks := rs
    roles := c.mapRoles.filter here
    mig := if rs.contains .spare then src.map fun r => ⟨r, none, 0, total, false, (now : Rat)⟩ else none }

/-- R367: the devices that the controller supports, as width and Gbit. -/
def supportedDevices : List (Nat × Nat) := [(8, 16), (8, 32), (4, 16)]

/-- R367, R368: the memory controller with the ranks that answer; a rank that differs from the reference counts as absent. None
where they form no supported configuration. -/
def Dev.populate (d : Dev) (r : StepReport) : Option MemCtl :=
  let heard := fun (c i : Nat) => r.ok && r.mask.testBit (3 * c + i)
  let ref := refDevice (d.mc.chans.zipIdx.flatMap fun ch => (ch.1.chips.zipIdx.filter fun k => heard ch.2 k.2).map (·.1))
  let here := fun (c i : Nat) => let k := nth (nth d.mc.chans c).chips i; heard c i && (k.width, k.gbit) = ref
  let seen := { d.mc with chans := d.mc.chans.mapIdx fun c (ch : DramChan) =>
    { ch with chips := ch.chips.mapIdx fun i (k : Rank) => { k with present := here c i } } }
  let mc := { seen with
    chans := seen.chans.mapIdx fun c ch => ch.answer (here c) (seen.rankSpan / 2 ^ 21) d.now, lastPause := List.replicate 4 d.now }
  let n := (nth mc.chans 0).roles.length
  if supportedDevices.contains ref && 1 ≤ n && n ≤ 2 && (nth mc.chans 1).roles.length = n then some mc else none

/-- R369: the bin that trains: the saved training, made for the same ranks, where it succeeds within its second; else full
training, which is saved. With a saved training come the lanes' timings. -/
def Dev.trainedBin (d : Dev) (r : StepReport) (roles : List (List Nat)) : Option (Nat × Option (List (List Int))) :=
  match d.flash.training with
  | some (bin, ranks, lanes) =>
    if r.mask.testBit 6 && ranks = roles && d.now ≤ d.boot.stepTick + sT 1 then some (bin, some lanes)
    else if r.value ≤ 5 then some (r.value, none) else none
  | none => if r.value ≤ 5 then some (r.value, none) else none

/-- R500, R501: a full training that is reported has taken more than the 10 s of its bin and of each before it, after the second of a
saved training; the bin has failed, and the next lower one trains. -/
def Dev.binLate (d : Dev) (r : StepReport) : Bool :=
  let saved : Bool := match d.flash.training with | some _ => r.mask.testBit 6 && d.now ≤ d.boot.stepTick + sT 1 | none => false
  d.boot.next = 7 && r.ok && ! saved && r.value ≤ 5 &&
    d.boot.stepTick + sT (boolN d.flash.training.isSome + 10 * (r.value + 1)) < d.now

/-- S7: population, rank map, training (R367 to R369, R389). Ranks that are still there keep their contents (R370). -/
def Dev.stepDram (d : Dev) (r : StepReport) : StepEnd :=
  match d.populate r with
  | none => haltedAt d
  | some mc =>
    let roles := mc.chans.map (·.roles)
    match d.trainedBin r roles with
    | none => haltedAt d
    | some (bin, saved) =>
      let timing := saved.getD (List.replicate 4 (List.replicate ddrLanes 0))
      let d1 := { d with
        mc := { mc with bin := bin, timing := timing, deltas := List.replicate 4 [] }
        flash := { d.flash with training := some (bin, roles, timing) } }
      let missing := mc.chans.any fun ch => ch.ranks != ch.mapRanks
      let d2 := if missing then d1.healthRec 0x08 0 0x07 0xFF (nth roles 0).length 0 0 0 else d1
      let d3 := if mc.mapBytes = d.mc.mapBytes then d2 else d2.logDevice 5 0 0x09 0 d.mc.mapBytes mc.mapBytes
      let d4 := d3.onKeep fun k => { k with bootInfo := k.bootInfo % 2 + 2 * bin }
      let old := d.mc.chans.map (·.roles)
      let ops := if mc.device ≠ d.mc.device then [DramOp.wipe]
        else if roles = old then [] else [DramOp.rerole old roles d.mc.rankSpan]
      { (if saved.isSome ∨ bin = 0 then passed d4 else other d4 bin) with ops := ops }

/-- S8: the host interface opens; a link that has trained is up. -/
def Dev.stepHost (d : Dev) (r : StepReport) : StepEnd :=
  if ! r.ok then other d 1
  else passed (if r.mask = 0 then d else { d with host := { d.host with linkUp := true, link1Up := true, lanes := r.mask, rate := r.value } })

/-- S10 begins: every active port trains, but for those to be skipped, which count as FAILED (R502, R503). -/
def Dev.portsBegin (d : Dev) : Dev :=
  d.activePorts.foldl (fun d n =>
    if d.boot.keep.portSkip.testBit n then
      ((d.onPort n fun p => { p with st := .failed, attempt := 0 }).onBoot fun b =>
        { b with keep := b.keep.portOk n, skipped := true }).healthRec 0x09 2 0x0D n 10 0 0 0
    else if d.clockGood 2 then d.trainStart n
    else d.onPort n Port.goIdle) d

/-- R498: ports that S10 has kept in reset for want of their clock train once it is good. -/
def Dev.portsWait (d : Dev) : List Nat :=
  if d.boot.next = 10 then d.activePorts.filter fun n => (d.port n).st == .idle && d.blockLive 2 n else []

def Dev.portsOut (d : Dev) : Dev := if d.clockGood 2 then d.portsWait.foldl Dev.trainStart d else d

/-- S10 ends: failures are counted, and L_pad is measured for the oars whose ports trained (R169). -/
def Dev.stepPorts (d : Dev) : StepEnd :=
  let bad := d.activePorts.filter fun n => (d.port n).st == .failed && ((d.port n).attempt = 2 || d.boot.inReset.contains (2, n))
  let d1 := bad.foldl (fun d n => d.onKeep fun k =>
    let c := min 3 (nth k.portFail n + 1)
    { k with portFail := k.portFail.set n c, portSkip := if 2 ≤ c then k.portSkip ||| 2 ^ n else k.portSkip }) d
  let b := d1.draw 65532
  let d2 := (oars32.filter fun k => d.oarExists k && (d.port k).st == .trained).foldl Dev.padMeasure
    { b.2 with cal := { b.2.cal with padBase := b.1 } }
  if bad = [] then passed d2 else failed d2

/-- The measured terms of an oar's latencies stay; the others are loaded (R169). -/
def Latency.load (stored now : Latency) : Latency :=
  { now with lLaser := stored.lLaser, dacDelay := stored.dacDelay, jumpSettle := stored.jumpSettle }

/-- R359, R362: an LED channel with its stored configuration. -/
def LedChan.load (s : Option (Nat × Nat × Nat)) (c : LedChan) : LedChan :=
  match s with
  | some (r, i, v) => { c with configured := true, rsense := r, iSet := i, vShort := v }
  | none => c

/-- R476: the first copy that matches its digest. -/
def Umpire.loadable (u : Umpire) : Option SafetySet :=
  let good := fun (s : SafetySet) => sha256 s.image = s.digest
  (u.copy1.filter good).orElse fun _ => u.copy2.filter good

/-- S11: an oar's motion law, latencies and power map, each item with its defaults where it failed. No cut path is closed
yet, so the DAC stays at 0 mA (R23). -/
def Engine.load (f : Flash) (noLat noMap : Bool) (k : Nat) (e : Engine) : Engine :=
  let lat' := (if noLat then Latency.reset else nth f.lat k).load e.lat
  let map' := if noMap then linearMap else (nth f.map k).1
  let idle' := if noMap then 0 else (nth f.map k).2
  { e with motion := nth f.motion k, lat := lat', map := map', idleCode := idle', dac := 0 }

/-- S11: the imaging block's configuration, lamp and LED channels. -/
def Imaging.load (f : Flash) (i : Imaging) : Imaging :=
  { i with
    cfg := f.img, lamp := f.lamp, slots := match f.img with | some c => List.replicate c.slots ImageRun.blank | none => []
    leds := i.leds.mapIdx fun c (x : LedChan) => LedChan.load (nth f.leds c) x }

/-- S11, one item after the other; `bad i` tells that item i fails and its defaults stand. -/
def Dev.calLoad (d : Dev) (bad : Nat → Bool) : Dev :=
  let f := d.flash
  let d1 := if bad 0 then
      { d with cal := { d.cal with blocks := d.cal.blocks.map fun l => l.map fun (x : CalInst) =>
        if d.boot.compat then { x with failed := true } else x.factory } }
    else d
  let g := if bad 1 then Geometry.empty else d1.geo.stored
  let d2 := ({ d1 with geo := { d1.geo with active := g, staged := g } }).gridsInit
  let d3 := { d2 with eng := d2.eng.mapIdx fun k (e : Engine) => e.load f (bad 3) (bad 4) k }
  let d4 := { d3 with
    melt := d3.melt.mapIdx fun k (m : Melt) => { m with pdOffset := if bad 0 then [0, 0, 0] else nth f.pdOffset k }
    gov := { d3.gov with power := if bad 5 then d3.gov.power else f.power }
    img := if bad 6 then d3.img else d3.img.load f }
  let d5 := if bad 2 then d4 else
    d4.loops.storedDescs.foldl (fun e c => e.startSlot c.slot c) (d4.onLoops fun l => { l with gains := l.storedGains })
  if bad 7 then d5 else { d5 with ump := { d5.ump with active := d5.ump.active.orElse fun _ => d5.ump.loadable } }

/-- S11 ends: the load is journalled, and the first proofs are due (R466, R545). -/
def Dev.stepLoad (d : Dev) (r : StepReport) : StepEnd :=
  let bad := fun (i : Nat) => ! r.ok && r.mask.testBit i
  let d0 := { d with logs := { d.logs with restartDue := d.boot.level == Level.full } }
  let d1 := d0.calLoad bad
  let some' := (List.range 8).any bad || d1.ump.active.isNone
  let d2 := (d1.onBoot fun b => { b with calFailed := some' }).logDevice 5 0 0x0D 0xFFFF d.cal.form d1.cal.form
  let d3 := (d2.queueProofs (oars32.filter d2.provable)).safeStart
  if some' then other d3 1 else passed d3

/-- First bit of a calibration block's instances in the mask of S12. -/
def calBit (b : Nat) : Nat := ([0, 32, 64, 72, 73, 85] : List Nat).getD (b - 1) 0

/-- S12 begins: the oars whose ports are trained fly their test jumps (R171). -/
def Dev.testsBegin (d : Dev) : Dev :=
  (oars32.filter fun k => (d.port k).st == .trained && d.measurable k).foldl Dev.testBegin d

/-- S12: every block runs under its leave (R535; one without leave keeps what is stored), and JUMP_SETTLE as measured comes into
use and goes to flash (R171, R539). A step that fails leaves the stored values. -/
def Dev.stepSelfCal (d : Dev) (r : StepReport) : StepEnd :=
  if ! r.ok then failed (oars32.foldl (fun d k => (d.testEnd k false).takeSettle k) d)
  else
    let ks := oars32.filter d.testOk
    let d1 := (calOrder.foldl (fun d b =>
      let n := (nth d.cal.blocks (b - 1)).length
      let a := d.askLeave (.cal b) 4 1000
      (match a.1 with
        | .granted =>
          a.2.calEnter b (2 ^ n - 1) (d.calPasses (maskOf ((List.range n).filter fun i => ! r.mask.testBit (calBit b + i))))
        | _ => a.2).release (isCal b)) d).reinterp
    let d2 := d1.logDevice 5 0 0x0D 0xFFFF d.cal.form d1.cal.form
    let d3 := (oars32.foldl Dev.takeSettle d2).storeLat ks
    let forms := fun (e : Dev) => ks.flatMap fun k => (nth e.eng k).lat.bytes
    passed (if ks = [] then d3 else d3.logDevice 5 0 0x11 0xFFFF (forms d2) (forms d3))

/-- S13: the replicas measure the base voltage, and the device re-plans (R515, R541, R542). -/
def Dev.stepReplan (d : Dev) (r : StepReport) : StepEnd :=
  if ! r.ok then other d 1
  else
    let v := d.drawInt 720000 880000
    passed (v.2.onTherm fun t => { t with baseUv := natOf v.1 }).replanNow

/-- S14; an entry into Ready, which resynchronises the Umpire's cores (R453). -/
def Dev.stepReady (d : Dev) : StepEnd := passed (if d.mode.mode == .start then (d.setMode .ready 3).resyncCores.railWatch else d)

def Dev.runStep (d : Dev) (i : Nat) (r : StepReport) : StepEnd :=
  match i with
  | 0 => d.stepAon r
  | 1 => d.stepFuses r
  | 2 => d.stepIro r
  | 3 => d.stepPlls r
  | 4 => d.stepUmpire r
  | 5 => d.stepFlash r
  | 6 => d.stepCox r
  | 7 => d.stepDram r
  | 8 => d.stepHost r
  | 9 => if r.ok then passed d else failed d
  | 10 => d.stepPorts
  | 11 => d.stepLoad r
  | 12 => d.stepSelfCal r
  | 13 => d.stepReplan r
  | _ => d.stepReady

/-! ## From step to step (R500 to R503) -/

/-- Whether a step runs at a level. -/
def stepRuns (l : Level) (i : Nat) : Bool := l != .soft || ! [1, 2, 4, 9, 10, 12].contains i

/-- Steps that are skipped after two failures; S10 counts by port. -/
def optionalStep (i : Nat) : Bool := i = 9 || i = 12

/-- A step to be skipped: the skip consumes the count (R502). -/
def Dev.skipStep (d : Dev) (i : Nat) : Dev :=
  ((d.onKeep fun k => { k with steps := k.steps.set i (stepEntry 0 0 false 0) }).onBoot fun b => { b with skipped := true }).healthRec
    0x09 2 0x0D 0xFF i 0 0 0

/-- The ladder stands at the next step that runs, from i on. -/
def Dev.enterStep : Nat → Nat → Dev → Dev
  | 0, _, d => d.onBoot fun b => { b with next := 15 }
  | n + 1, i, d =>
    if ! stepRuns d.boot.level i then Dev.enterStep n (i + 1) d
    else if optionalStep i && d.boot.keep.skips i then Dev.enterStep n (i + 1) (d.skipStep i)
    else
      let d1 := d.onBoot fun b => { b with next := i, stepTick := d.now, otherSlot := false, keep := b.keep.begin i }
      if i = 10 then d1.portsBegin else if i = 12 then d1.testsBegin else d1

/-- A halt: Start, every cut path open, WDOG_OUT_N (R467, R501). -/
def Dev.haltLadder (d : Dev) : Dev :=
  (({ d.onBoot (fun b => { b with halted := true }) with ump := { d.ump with closed := 0 } }).assertWdog 0).keepFault fun k =>
    { k with faultFlags := k.faultFlags ||| 4 }

/-- A step ends: its entry in the Keep record, then the next step or the halt. -/
def Dev.endStep (i : Nat) (e : StepEnd) : Dev × List DramOp :=
  let d := e.dev
  let n := if e.outcome = 3 then min 3 (d.boot.keep.fails i + 1) else 0
  let d1 := d.onKeep fun k => { k with
    steps := k.steps.set i (stepEntry n e.outcome (optionalStep i && decide (2 ≤ n)) e.alt), lastStep := if e.halt then k.lastStep else i }
  let d2 := if e.outcome = 2 then d1.healthRec 0x09 1 0x0D 0xFF i 0 0 0 else d1
  (if e.halt then d2.haltLadder else Dev.enterStep (14 - i) (i + 1) d2, e.ops)

/-- The ladder runs, in Start, or in Safe where a condition of R456 has come about during Start. -/
def Dev.laddering (d : Dev) : Bool := (d.mode.mode == .start || d.mode.mode == .safe) && d.boot.next < 15 && ! d.boot.halted

/-- Ports still in training at S10. -/
def Dev.portsBusy (d : Dev) : Bool :=
  d.boot.next = 10 && d.activePorts.any fun n => (d.port n).trainingPhase.isSome || (d.port n).st == .retryWait || d.portsWait.contains n

/-- R498: the blocks that the present step releases wait for their clocks: fabric and Cox at S6, the DRAM controller, the host
interface, the Ethernet ports, and at S11 what it configures. S12 lasts until the last test jump (R171). -/
def Dev.stepWaits (d : Dev) : Bool :=
  if d.boot.next = 6 then ! nth d.clk.locks 0 || ! nth d.clk.locks 1 || d.clk.fabric.dead
  else if d.boot.next = 11 then ! [1, 3, 4, 7].all d.clockGood
  else if d.boot.next = 7 then ! d.clockGood 8
  else if d.boot.next = 8 then ! d.clockGood 5
  else if d.boot.next = 9 then ! d.clockGood 6
  else if d.boot.next = 12 then d.eng.any Engine.testing
  else false

/-- Timeouts in ticks: S5 has 2 s for each of two slots, S7 1 s and then 10 s for each of six bins; S10 ends by R289. -/
def stepLimit (i : Nat) : Option Nat :=
  (([10, 5, 50, 20, 100, 2000, 500, 61000, 1000, 1000] : List Nat).map msT)[i]?.orElse fun _ =>
    if i = 11 then some (sT 2) else if i = 12 then some (sT 5) else if i = 13 then some (sT 1) else none

/-- R501: the present step has exceeded its timeout, or the Cox has waited 10 ms for its clock (R498). -/
def Dev.stepLate (d : Dev) : Bool :=
  match stepLimit d.boot.next with
  | some t => d.boot.stepTick + t < d.now || (d.boot.next = 6 && d.stepWaits && d.boot.stepTick + msT 10 < d.now)
  | none => false

/-- What a step that runs out of time comes to: nothing answers, every item fails. -/
def lateReport : StepReport := ⟨false, 0xFF, 99⟩

/-- A step out of time fails; a preferred slot out of its 2 s leaves the other its own (R500, R501). -/
def Dev.lateStep (d : Dev) : Dev × List DramOp :=
  if d.boot.next = 5 && ! d.boot.otherSlot then (d.onBoot fun b => { b with otherSlot := true, stepTick := d.now }, [])
  else Dev.endStep d.boot.next (d.runStep d.boot.next lateReport)

/-- The present step ends as reported, unless it is out of time; it does not while a port trains, a clock is awaited, or a bin is late. -/
def Dev.bootStep (d : Dev) (r : StepReport) : Dev × List DramOp :=
  if ! d.laddering then (d, [])
  else if d.stepLate then d.lateStep
  else if d.portsBusy || d.stepWaits || d.binLate r then (d, [])
  else Dev.endStep d.boot.next (d.runStep d.boot.next r)

def execBootStep (r : StepReport) (s : State) : Out := onMemAny (fun _ d => d.bootStep r) s

def Dev.stepTimeout (d : Dev) : Dev × List DramOp := if d.laddering && d.stepLate then d.lateStep else (d, [])

def execBootStepTimeout (s : State) : Out := onMem .bootStepTimeout (fun _ d => d.stepTimeout) s

/-- The step that releases a block, the first that uses it: loop processors, engines, recorder and Marshal wait for S11 (DESIGN
CHOICE, log 92). -/
def blockStep (code : Nat) : Nat := if code = 8 then 7 else if code = 5 then 8 else if code = 6 then 9 else if code = 2 then 10 else 11

/-- A command that has waited 10 ms for a block's clock. -/
def JobKind.waitedFor (code i now : Nat) : JobKind → Bool
  | .blockreset c n t => c = code && n = i && t + msT 10 ≤ now
  | _ => false

/-- R498: clock-good has stayed false for 10 ms: the block is left in reset. -/
def Dev.releaseLate (d : Dev) (code i : Nat) : Dev × List DramOp :=
  let waits := d.hasJob (·.waitedFor code i d.now)
  let booting := d.laddering && d.boot.next = blockStep code && decide (d.boot.stepTick + msT 10 ≤ d.now)
  if blockCount code ≤ i || d.clockGood code || ! (waits || booting) then (d, [])
  else
    let d1 := (d.onBoot fun b => { b with inReset := (code, i) :: b.inReset.filter (· ≠ (code, i)) }).spoil 0x0D code 0x001 true i
    let d2 := d1.finishJobs (·.waitedFor code i d.now) 0 0 (u32 1)
    if ! booting then (d2, [])
    else if code = 2 then (d2.portFailed i 0, [])
    else Dev.endStep d.boot.next (d2.runStep d.boot.next lateReport)

def execBlockReleaseTimeout (code index : Nat) (s : State) : Out :=
  onMem (.blockReleaseTimeout code index) (fun _ d => d.releaseLate code index) s

/-- A block that waited for its clock comes out of reset (R498, R499). -/
def Dev.blocksOut (d : Dev) : Dev :=
  (d.host.jobs.filter fun j => match j.kind with | .blockreset c _ _ => d.clockGood c | _ => false).foldl (fun e j =>
    match j.kind with
    | .blockreset c i _ => (e.blockOut c i).finish j 0 0 (u32 0)
    | _ => e) d

/-! ## `sys.ladder` (R502, R504, R508) -/

/-- What is cleared: of a step (0) or port (1), the count (0) or the skip (1). -/
def KeepRec.clear (k : KeepRec) (kind i what : Nat) : KeepRec :=
  let e := nth k.steps i
  if kind = 1 then
    (if what = 0 then { k with portFail := k.portFail.set i 0 }
     else { k with portSkip := if k.portSkip.testBit i then k.portSkip - 2 ^ i else k.portSkip })
  else { k with steps := k.steps.set i (if what = 0 then e / 4 * 4 else if e.testBit 4 then e - 16 else e) }

/-- The record, then in Start the live step. -/
def Dev.ladderReport (d : Dev) : List Byte :=
  d.boot.keep.bytes ++ if d.mode.mode == .start then u32 d.boot.next else []

def sysLadderBody (clear : Option (Nat × Nat × Nat)) : Body := fun _ _ d =>
  match clear with
  | none => .done d d.ladderReport
  | some (kind, i, what) =>
    if 1 < kind ∨ 1 < what ∨ (kind = 0 ∧ 15 ≤ i) ∨ (kind = 1 ∧ ! d.portExists i) then badArg
    else
      let d1 := d.onKeep fun k => k.clear kind i what
      .done d1 d1.ladderReport

/-- `sys.ladder`. -/
def execSysLadder (mbx : Nat) (clear : Option (Nat × Nat × Nat)) (s : State) : Out :=
  runCmd (.sysLadder mbx clear) (sysLadderBody clear) s

/-! ## Fuses (R494, R496, R508) -/

/-- Present value of a field: 0 RST_MAP, 1 COMPAT_LOCK, 2 KEY_REVOKE. -/
def Fuses.field (f : Fuses) (n : Nat) : Nat := if n = 0 then f.rstMap else if n = 1 then boolN f.compatLock else f.keyRevoke

def fieldBits (n : Nat) : Nat := if n = 0 then 2 else if n = 1 then 1 else 4

/-- One pulse for each bit of a value that is not programmed yet. -/
def Fuses.pulses (f : Fuses) (n value : Nat) : List (Nat × Nat) :=
  ((List.range (fieldBits n)).filter fun i => value.testBit i && ! (f.field n).testBit i).map fun i => (n, i)

def sysFuseBody (n value : Nat) : Body := fun x _ d =>
  let old := d.fuses.field n
  if 2 < n ∨ 2 ^ fieldBits n ≤ value ∨ (n = 0 ∧ old ≠ 0) ∨ value ||| old ≠ value then badArg
  else if d.boot.fusePulse ≠ [] then refusedBusy 12
  else match d.fuses.pulses n value with
    | [] => .done d (u32 d.fuses.summary)
    | ps => .executing ((d.onBoot fun b => { b with fusePulse := ps }).log x 0x0B n (u32 old) (u32 value)) .fuse true

/-- `sys.fuse`, from PF0 only. -/
def execSysFuse (mbx field value : Nat) (s : State) : Out := runCmd (.sysFuse mbx field value) (sysFuseBody field value) s

/-- A pulse ends: its bit is programmed; after the last the command ends and a reset that waited takes effect. -/
def Dev.pulseEnd (d : Dev) : Dev :=
  match d.boot.fusePulse with
  | [] => d
  | p :: ps =>
    let d1 := { d.onBoot (fun b => { b with fusePulse := if d.boot.delayedReset.isSome then [] else ps }) with fuses := d.fuses.program p }
    match d.boot.delayedReset with
    | some s => d1.resetBegins s
    | none =>
      if ps ≠ [] then d1
      else (d1.host.jobs.filter fun j => j.kind == .fuse).foldl (fun e j =>
        e.finish j 0 0 (if j.opcode = 0x1204 then u32 e.fuses.svnMin else u32 e.fuses.summary)) d1

def execFusePulseEnd (s : State) : Out := onDev .fusePulseEnd (fun _ d => d.pulseEnd) s

/-! ## Firmware (R506 to R508) -/

/-- A slot as an image of R506 leaves it; none where the header itself is not one. -/
def FwSlot.ofImage (bs : List Byte) : Option FwSlot :=
  let w := fieldOf bs
  let body := w 16 4
  if w 0 4 ≠ 0x51434657 ∨ w 4 2 ≠ 1 ∨ 3 < w 6 1 ∨ 32 < w 12 4 ∨ body % 4096 ≠ 0 ∨ 58720256 - 512 < body ∨ bs.length ≠ 512 + body then none
  else
    let pub := (bs.drop 68).take 97
    some {
      header := bs.take 512
      fwVersion := w 8 3
      svn := w 12 4
      keyIndex := w 6 1
      pubHash := sha384 pub
      sigOk := ecdsaOk pub (sha384 (bs.take 256)) ((bs.drop 256).take 48) ((bs.drop 304).take 48)
      bodyOk := sha384 (bs.drop 512) = (bs.drop 20).take 48 }

/-- The slot that is not running. -/
def Boot.spareSlot (b : Boot) : Nat := 1 - b.running.getD 0

def Boot.setSlot (b : Boot) (i : Nat) (x : Option FwSlot) : Boot := if i = 0 then { b with slotA := x } else { b with slotB := x }

/-- Pass (1) or fail (0) of the five checks of R507. -/
def FwSlot.checks (f : Fuses) (x : FwSlot) : List Byte :=
  u32 (boolN (nth f.keyHash x.keyIndex = x.pubHash)) ++ u32 (boolN (! f.keyRevoke.testBit x.keyIndex)) ++ u32 (boolN x.sigOk) ++
  u32 (boolN x.bodyOk) ++ u32 (boolN (f.svnMin ≤ x.svn))

def slotDigest (o : Option FwSlot) : List Byte := (o.map (·.header)).getD []

/-- The image is written to the slot that is not running and verified there; one that fails leaves it empty. -/
def fwStageBody (addr len crc : Nat) : Body := fun x m d =>
  if len < 512 ∨ 58720256 < len ∨ ! d.rangeOk addr len then badArg
  else withData m d addr len crc 0 fun d bs ops =>
    let i := d.boot.spareSlot
    let new := FwSlot.ofImage bs
    let put := fun (o : Option FwSlot) => (d.onBoot fun b => b.setSlot i o).log x 0x0C i (slotDigest (d.boot.slot i)) (slotDigest o)
    match new with
    | none => .refuseWith (put none) 0x21 0 0 [] ops
    | some s => match s.failing d.fuses with
      | some n => .refuseWith (put none) 0x21 n 0 [] ops
      | none => .ok (put new) (s.checks d.fuses) ops

/-- `fw.stage`. -/
def execFwStage (mbx addr len crc : Nat) (s : State) : Out := runCmd (.fwStage mbx addr len crc) (fwStageBody addr len crc) s

def fwActivateBody (i : Nat) : Body := fun x _ d =>
  if 1 < i ∨ (d.boot.slot i).isNone then badArg
  else .done ((d.onBoot fun b => { b with preferred := i }).log x 0x0C 2 (u32 d.boot.preferred) (u32 i)) (u32 i)

/-- `fw.activate`. -/
def execFwActivate (mbx slot : Nat) (s : State) : Out := runCmd (.fwActivate mbx slot) (fwActivateBody slot) s

/-- The 512 bytes of a slot's header, then its checks; zeros for an empty slot. -/
def Dev.slotReport (d : Dev) (i : Nat) : List Byte :=
  match d.boot.slot i with
  | some x => x.header ++ x.checks d.fuses
  | none => List.replicate 532 0

def fwStatusBody : Body := fun _ _ d =>
  .done d (d.slotReport 0 ++ d.slotReport 1 ++ u32 (d.boot.running.getD 0xFFFFFFFF) ++ u32 d.fuses.svnMin ++
    (List.range 4).flatMap fun i => u32 (boolN (d.fuses.keyRevoke.testBit i)))

/-- `fw.status`. -/
def execFwStatus (mbx : Nat) (s : State) : Out := runCmd (.fwStatus mbx) fwStatusBody s

/-- SVN of the running image. -/
def Dev.runningSvn (d : Dev) : Nat := ((d.boot.running.bind d.boot.slot).map (·.svn)).getD 0

def fwCommitBody : Body := fun x _ d =>
  if d.boot.fusePulse ≠ [] then refusedBusy 12
  else if d.runningSvn ≤ d.fuses.svnMin then .done d (u32 d.fuses.svnMin)
  else
    let ps := (List.range (d.runningSvn - d.fuses.svnMin)).map fun i => (3, d.fuses.svnMin + i)
    .executing ((d.onBoot fun b => { b with fusePulse := ps }).log x 0x0B 3 (u32 d.fuses.svnMin) (u32 d.runningSvn)) .fuse true

/-- `fw.commit`. -/
def execFwCommit (mbx : Nat) (s : State) : Out := runCmd (.fwCommit mbx) fwCommitBody s

end Sys2Proof.Machine
end

