-- ==== Sys2Proof/Machine/TickRows.lean ====
section
/-! DEFINITION. The frame tick (R27): device time, outbound frames (R266, R267, R277 to R280, R284, R285, R296 to R298, R301),
engines, axes, the reference tap (R451), what waits for a tick. -/

namespace Sys2Proof.Machine

/-! ## Outbound frames -/

/-- Blocks of a fast-exit burst (R297). -/
def burstLen : Nat := 32

/-- Frame j of the four that carry the burst of R297 from a frame boundary on; the eight blocks after its end, up to the
next boundary, are data blocks of zeros (DESIGN CHOICE, log 75). -/
def burstFrame (j : Nat) : List Nat := (List.range 10).map fun i => if 10 * j + i < burstLen then 0xE1 else 0

/-- Block i of a port's present frame is a control block: block 0, and all of a burst. -/
def Port.control (p : Port) (i : Nat) : Bool :=
  if 1 ≤ p.burst && p.burst ≤ 4 then 10 * (p.burst - 1) + i < burstLen else i = 0

/-- R266: the 66-bit blocks of port n's present frame on the lane, sync header in bits 65 and 64. -/
def Dev.onLane (d : Dev) (n : Nat) : List Nat :=
  (scrambleAll (d.port n).scr (nth d.links.out n)).2.mapIdx fun i w => 2 ^ 64 * (if (d.port n).control i then 2 else 1) + w

/-- The device sends on the port's outbound data lane. -/
def Port.sends (p : Port) : Bool :=
  match p.st with
  | .training k => 1 ≤ k
  | .trained => (p.sleep ≠ 2 && p.sleep ≠ 3 && p.sleep ≠ 4) || (p.sleepReq.isSome && p.sleepReq ≠ some p.sleep)
  | .relock => true
  | _ => false

/-- A sleep or idle command is being sent (R296). -/
def Port.asking (p : Port) : Option Nat := if p.st == .trained && p.sleep = 0 then p.sleepReq.filter (· ≠ 0) else none

/-- HEAD_CMD of the frame. -/
def Dev.cmdNow (d : Dev) (n : Nat) : Nat :=
  let p := d.port n
  match p.asking with
  | some t => sleepCmd t
  | none => if p.waking then 5 else d.headCmdFor n

/-- R298: AUTO_SLEEP puts a disabled oar's port into RET_SLEEP in Ready. -/
def Dev.autoSleep (d : Dev) (n : Nat) : Dev :=
  let p := d.port n
  if d.awake && d.mode.mode == .ready && d.mode.entry.isNone && n < 32 && p.autoSleep && d.inD n && p.sleep = 0 && p.sleepReq.isNone &&
      d.maySleep n then
    d.onPort n fun p => { p with sleepReq := some 1, cmdFrames := 0, acks := 0, burst := 0 }
  else d

/-- R213, R215: a scanner slot in AUTO or MAN writes its axis. -/
def LoopSlot.writes (s : LoopSlot) : Bool := s.st == .auto || s.st == .man

/-- Blocks 1 to 3 (R278), zero during training (R287), every axis bit clear under an asserted Soft reset (R307); on P32 they are
free for a line (R352). -/
def Dev.outMiddle (d : Dev) (n : Nat) : List Nat :=
  if (d.port n).trainingPhase.isSome then [0, 0, 0]
  else if n < 32 && ! d.softHeld then
    let s := fun (a : Nat) => d.slot (3 * n + a)
    outCurrents ((List.range 3).map fun a => (s a).outNow) ((List.range 3).map fun a => (s a).writes)
      (d.camRuns n && d.now % max 1 (nth d.melt n).cam.period = 0) (d.lenPad n)
  else outCurrents [] [] false false

/-- The port as it is once a frame with a command and a request has left. -/
def Port.sent (cmd now : Nat) (svc : Option SvcReq) (p : Port) : Port :=
  { p with
    oseq := (p.oseq + 1) % 256
    headCmd := cmd
    cmdFrames := if p.asking.isSome then p.cmdFrames + 1 else p.cmdFrames
    svc := p.svc.map fun q => if svc.map (·.tag) = some q.tag then { q with due := false, sentTick := now } else q }

/-- The service request of the frame: the first of the four outstanding that waits; none but T4's leaves in training. -/
def Port.request (p : Port) : Option SvcReq :=
  if p.st == .trained || p.trainingPhase = some 4 then (p.svc.take 4).find? (·.due) else none

/-- Blocks 4 to 9; zero in training without a request (R287, R301). -/
def Port.slot (p : Port) : List Nat :=
  if p.trainingPhase.isSome && p.request.isNone then List.replicate 6 0 else svcBlocks p.request

/-- R305: the camera registers that a head could not be written are written once its port sends again. -/
def Dev.camOwed (d : Dev) (n : Nat) : Dev :=
  let p := d.port n
  if p.camDue && p.st == .trained && p.sleep < 2 && p.svc.length < 4 then
    (d.onPort n fun p => { p with camDue := false }).sendCamera n
  else d

/-- The outbound frame of a port leaves at the frame tick; none leaves an idle lane, or without the link PLL (R307). -/
def Dev.portTick (d0 : Dev) (n : Nat) : Dev :=
  let d := (d0.autoSleep n).camOwed n
  let p := d.port n
  let scr := (scrambleAll p.scr (nth d.links.out n)).1
  let put := fun (bs : List Nat) (q : Port) =>
    { d with links := { d.links with ports := d.links.ports.set n { q with scr := scr }, out := d.links.out.set n bs } }
  if ! d.portExists n || ! p.sends || ! nth d.clk.locks 3 then put [] p
  else if p.waking && p.sleep ≠ 1 && p.burst < 4 then put (burstFrame p.burst) { p with burst := p.burst + 1 }
  else
    let q := { p.sent (d.cmdNow n) d.now p.request with burst := if 0 < p.burst then 5 else 0 }
    let r := put (outHeader q d.now :: d.outMiddle n ++ p.slot) q
    if n < 32 && d.cmdNow n = 1 && p.headCmd ≠ 1 then r.safetyLeave else r

/-! ## The Umpire's taps (R451, R456, R457, R459) -/

/-- An exposure engine that is clocked and out of reset. -/
def Dev.engineRuns (d : Dev) (k : Nat) : Bool := d.oarExists k && nth d.clk.locks 2 && d.blockLive 3 k

/-- The bytes of a reference set that its CRC-8 covers (DESIGN CHOICE, log 135). -/
def RefTap.bytes (r : RefTap) : List Byte := i32 r.x ++ i32 r.y ++ i32 r.f

/-- A set as the tap delivers it: its CRC-8, of which `noise` has flipped bits on the way (R451). -/
def RefTap.sent (tick : Nat) (x y f : Int) (noise : Nat) : RefTap :=
  let r : RefTap := ⟨tick, x, y, f, 0⟩
  { r with crc := crc8 r.bytes ^^^ noise }

/-- The set passes its CRC-8. -/
def RefTap.sound (r : RefTap) : Bool := r.crc = crc8 r.bytes

/-- R456: a set is missing or fails its check; the second in a row trips the oar. -/
def Dev.tapFails (d : Dev) (k : Nat) : Dev :=
  let d1 := d.onSafe k fun o => { o with tapBad := o.tapBad + 1, tapBadTick := d.now }
  if d1.oarEn k && 2 ≤ (nth d1.ump.oars k).tapBad then d1.trip k 0x26 0 0 else d1

/-- From S11 on a reference set comes with every tick; two in a row that are missing or damaged trip the oar. -/
def Dev.tapTick (d : Dev) (k : Nat) : Dev :=
  let e := nth d.eng k
  let d1 := d.onSafe k fun o => { o with dacLine := (d.dacPad k :: o.dacLine).take 401 }
  if d.boot.next < 11 then d1
  else if d.engineRuns k then
    let r := RefTap.sent (d.now + 1) (nth e.ref 0) (nth e.ref 1) (nth e.ref 2) (nth d.ump.oars k).tapNoise
    let d2 := d1.onSafe k fun o => { o with tapNoise := 0 }
    if r.sound then d2.onSafe k fun o => { o with tapBad := 0, refs := (r :: o.refs).take 32 } else d2.tapFails k
  else d1.tapFails k

/-! ## What waits for a tick -/

/-- R509: a tick of the Keep counter of seconds: 32768 cycles of its crystal, which the 15-bit prescaler counts, make 4 000 000 ticks. -/
def Boot.keepTick (b : Boot) : Boot :=
  let f := b.keepSub + 32768
  if b.crystalStopped then b
  else if f < sT 1 then { b with keepSub := f }
  else if b.keepPre + 1 < 32768 then { b with keepSub := f - sT 1, keepPre := b.keepPre + 1 }
  else { b with keepSub := f - sT 1, keepPre := 0, keepSec := b.keepSec + 1 }

/-- R519, R473, R487: the transition into Hold is complete; a resume that waited for it goes on. -/
def Dev.holdTick (d : Dev) : Dev :=
  if ! (d.mode.mode == .hold) || d.mode.entry.isSome || (d.mode.transition && ! d.holdSettled) then d
  else
    let d1 := ({ d with mode := { d.mode with transition := false, resumeDue := false } }).showMode d
    if d.mode.resumeDue then (match d1.buildRefusal with | none => d1.beginBuild 3 | some _ => d1)
    else if d1.mode.holdCauses.isEmpty && d1.mode.holdFrom == .ready then d1.toReady 3
    else d1

/-- R533, R537, R540: time in each mode and in Build; coefficients that waited for a finish. -/
def Dev.modeTicks (d : Dev) : Dev :=
  ({ d with
    mode := { d.mode with ticksIn := upd d.mode.ticksIn d.mode.mode.code (· + 1) }
    cal := { d.cal with buildTicks := d.cal.buildTicks + boolN (d.mode.mode == .build) } } : Dev).interpTick

/-- R359: a strobe's gate falls at the end of its pulse. -/
def LedChan.tick (now : Nat) (c : LedChan) : LedChan :=
  match c.pulses.head? with
  | some p => if c.gate && p.1 + p.2 ≤ 250 * now then { c with gate := false } else c
  | none => c

def Dev.ledTick (d : Dev) : Dev := d.onImg fun m => { m with leds := m.leds.map (LedChan.tick d.now) }

/-- R214: what other slots see of a slot until the next boundary. -/
def Dev.boundary (d : Dev) : Dev :=
  d.onLoops fun l => { l with slots := l.slots.map fun (s : LoopSlot) => { s with outPrev := s.outNow } }

/-- R491: the Cox gates the clock of a block whose instances are all idle, and opens the gate of one that is not; the DRAM
controller, which refreshes, is never gated (DESIGN CHOICE, log 136). -/
def Dev.gatesTick (d : Dev) : Dev :=
  if ! d.coxRuns then d
  else
    let idle := fun (b : Nat) => (List.range (blockCount b)).all (d.blockIdle b)
    let gs := ([1, 2, 3, 4, 5, 6, 7] : List Nat).filter idle
    if gs = d.clk.gated then d else d.onClk fun c => { c with gated := gs }

/-- R545: a record of a device origin reaches flash within 50 ms. -/
def Dev.logTick (d : Dev) : Dev := if d.logs.overdue d.now then { d with logs := d.logs.flush } else d

/-- The oars whose engines are clocked. -/
def Dev.engines (d : Dev) : List Nat := oars32.filter d.engineRuns

/-- The frame tick. -/
def Dev.frameTick (d : Dev) : Dev :=
  let d1 := (d.advance.onBoot Boot.keepTick).takeTick.closeCuts
  let d2 := d1.engines.foldl Dev.engTick d1
  let d3 := ((oars32.filter d2.oarExists).foldl Dev.tapTick d2)
  let d4 := (((List.range 8).foldl Dev.axisTick d3).recoatWatch).ledTick
  let d5 := ({ d4 with pins := d4.pins.safeTick }).holdTick.proofCheck.measureCheck.blocksOut.portsOut.gatesTick.boundary.modeTicks
  let d6 := ((List.range 33).foldl Dev.portTick d5).logTick
  (d6.engines.foldl Dev.midTick d6).imageTick

/-- R307: while a Soft reset is asserted time runs on, and the ports go on: those that are trained send PARK with all axis valid
bits clear. -/
def Dev.softTick (d : Dev) : Dev := (List.range 33).foldl Dev.portTick (d.advance.onBoot Boot.keepTick)

/-- R27, R307. -/
def execFrameTick (s : State) : Out :=
  gateDev true (fun _ d =>
    if d.awake then d.frameTick
    else if d.softHeld then d.softTick
    else d) s

end Sys2Proof.Machine
end

