-- ==== Sys2Proof/Machine/Dispatch.lean ====
section
/-! DEFINITION. One arm per row of spec/opcode_table.json: the command's meaning. -/

namespace Sys2Proof.Machine

/-- The effect of a command on everything but the queue of commands that wait. -/
def exec (i : Instr) (s : State) : Host.Outcome State Fault Refusal :=
  match i with
  | .oarEnable mbx mask => Sys2Proof.Machine.execOarEnable mbx mask s
  | .oarDisable mbx mask => Sys2Proof.Machine.execOarDisable mbx mask s
  | .oarStatus mbx => Sys2Proof.Machine.execOarStatus mbx s
  | .oarMotion mbx mask m => Sys2Proof.Machine.execOarMotion mbx mask m s
  | .oarLatency mbx set => Sys2Proof.Machine.execOarLatency mbx set s
  | .oarPowermap mbx mask codes idle => Sys2Proof.Machine.execOarPowermap mbx mask codes idle s
  | .oarPlacement mbx mask clear => Sys2Proof.Machine.execOarPlacement mbx mask clear s
  | .oarMeasure mbx mask => Sys2Proof.Machine.execOarMeasure mbx mask s
  | .oarCamera mbx mask c => Sys2Proof.Machine.execOarCamera mbx mask c s
  | .oarDark mbx mask => Sys2Proof.Machine.execOarDark mbx mask s
  | .oarSense mbx mask => Sys2Proof.Machine.execOarSense mbx mask s
  | .oarLink mbx ports width height preset autoSleep => Sys2Proof.Machine.execOarLink mbx ports width height preset autoSleep s
  | .oarLinkstat mbx ports clear => Sys2Proof.Machine.execOarLinkstat mbx ports clear s
  | .oarRetrain mbx ports => Sys2Proof.Machine.execOarRetrain mbx ports s
  | .oarPower mbx ports state => Sys2Proof.Machine.execOarPower mbx ports state s
  | .oarEyescan mbx port ph0 ph1 v0 v1 n addr => Sys2Proof.Machine.execOarEyescan mbx port ph0 ph1 v0 v1 n addr s
  | .oarSvc mbx port op addr len data => Sys2Proof.Machine.execOarSvc mbx port op addr len data s
  | .fieldBed mbx x0 y0 w h => Sys2Proof.Machine.execFieldBed mbx x0 y0 w h s
  | .fieldGrid mbx g => Sys2Proof.Machine.execFieldGrid mbx g s
  | .fieldPolygon mbx oar vs => Sys2Proof.Machine.execFieldPolygon mbx oar vs s
  | .fieldKeepout mbx zone mask vs => Sys2Proof.Machine.execFieldKeepout mbx zone mask vs s
  | .fieldStitch mbx pairs => Sys2Proof.Machine.execFieldStitch mbx pairs s
  | .fieldMasks mbx addr count crc => Sys2Proof.Machine.execFieldMasks mbx addr count crc s
  | .fieldCommit mbx => Sys2Proof.Machine.execFieldCommit mbx s
  | .fieldDiscard mbx => Sys2Proof.Machine.execFieldDiscard mbx s
  | .fieldQuery mbx which item index => Sys2Proof.Machine.execFieldQuery mbx which item index s
  | .fieldEligible mbx p q maskIndex => Sys2Proof.Machine.execFieldEligible mbx p q maskIndex s
  | .layerParams mbx first count addr crc => Sys2Proof.Machine.execLayerParams mbx first count addr crc s
  | .layerProfiles mbx first count addr crc => Sys2Proof.Machine.execLayerProfiles mbx first count addr crc s
  | .layerTargets mbx first count addr crc => Sys2Proof.Machine.execLayerTargets mbx first count addr crc s
  | .layerCommit mbx addr => Sys2Proof.Machine.execLayerCommit mbx addr s
  | .layerCancel mbx layer => Sys2Proof.Machine.execLayerCancel mbx layer s
  | .layerAbandon mbx layer => Sys2Proof.Machine.execLayerAbandon mbx layer s
  | .layerReload mbx layer first count => Sys2Proof.Machine.execLayerReload mbx layer first count s
  | .layerStatus mbx layer => Sys2Proof.Machine.execLayerStatus mbx layer s
  | .layerReport mbx layer => Sys2Proof.Machine.execLayerReport mbx layer s
  | .layerLibrary mbx kind index => Sys2Proof.Machine.execLayerLibrary mbx kind index s
  | .marshalConfig mbx horizon balance orphan => Sys2Proof.Machine.execMarshalConfig mbx horizon balance orphan s
  | .marshalThermal mbx set => Sys2Proof.Machine.execMarshalThermal mbx set s
  | .marshalThermtable mbx first count addr crc => Sys2Proof.Machine.execMarshalThermtable mbx first count addr crc s
  | .marshalStatus mbx => Sys2Proof.Machine.execMarshalStatus mbx s
  | .marshalStats mbx layer => Sys2Proof.Machine.execMarshalStats mbx layer s
  | .marshalInterrupted mbx layer first count => Sys2Proof.Machine.execMarshalInterrupted mbx layer first count s
  | .marshalWake mbx rect => Sys2Proof.Machine.execMarshalWake mbx rect s
  | .marshalHeat mbx col row w h addr write => Sys2Proof.Machine.execMarshalHeat mbx col row w h addr write s
  | .loopConfig mbx ds => Sys2Proof.Machine.execLoopConfig mbx ds s
  | .loopGains mbx first count addr crc => Sys2Proof.Machine.execLoopGains mbx first count addr crc s
  | .loopCommit mbx => Sys2Proof.Machine.execLoopCommit mbx s
  | .loopMode mbx slots state man => Sys2Proof.Machine.execLoopMode mbx slots state man s
  | .loopSetpoint mbx slot value => Sys2Proof.Machine.execLoopSetpoint mbx slot value s
  | .loopGear mbx enc num den => Sys2Proof.Machine.execLoopGear mbx enc num den s
  | .loopIo mbx ain pwm => Sys2Proof.Machine.execLoopIo mbx ain pwm s
  | .loopStatus mbx slots => Sys2Proof.Machine.execLoopStatus mbx slots s
  | .loopTrace mbx slots count addr => Sys2Proof.Machine.execLoopTrace mbx slots count addr s
  | .loopRestore mbx => Sys2Proof.Machine.execLoopRestore mbx s
  | .slideConfig mbx ds => Sys2Proof.Machine.execSlideConfig mbx ds s
  | .slideEncoder mbx ds => Sys2Proof.Machine.execSlideEncoder mbx ds s
  | .slideMove mbx axis target vMax => Sys2Proof.Machine.execSlideMove mbx axis target vMax s
  | .slideStop mbx mask => Sys2Proof.Machine.execSlideStop mbx mask s
  | .slideHome mbx axis h => Sys2Proof.Machine.execSlideHome mbx axis h s
  | .slideLimits mbx axis v a d j => Sys2Proof.Machine.execSlideLimits mbx axis v a d j s
  | .slideSetpos mbx axis pos => Sys2Proof.Machine.execSlideSetpos mbx axis pos s
  | .slideRecoat mbx r => Sys2Proof.Machine.execSlideRecoat mbx r s
  | .slideStatus mbx mask => Sys2Proof.Machine.execSlideStatus mbx mask s
  | .slideClear mbx mask => Sys2Proof.Machine.execSlideClear mbx mask s
  | .imageConfig mbx c => Sys2Proof.Machine.execImageConfig mbx c s
  | .imageStatus mbx => Sys2Proof.Machine.execImageStatus mbx s
  | .imageLine mbx dir addr => Sys2Proof.Machine.execImageLine mbx dir addr s
  | .ledConfig mbx ch rsense iSet vShort => Sys2Proof.Machine.execLedConfig mbx ch rsense iSet vShort s
  | .ledPattern mbx pattern steps => Sys2Proof.Machine.execLedPattern mbx pattern steps s
  | .ledSet mbx mask pattern phase map => Sys2Proof.Machine.execLedSet mbx mask pattern phase map s
  | .ledLamp mbx a => Sys2Proof.Machine.execLedLamp mbx a s
  | .ledStatus mbx => Sys2Proof.Machine.execLedStatus mbx s
  | .ledClear mbx mask => Sys2Proof.Machine.execLedClear mbx mask s
  | .recRing mbx ring base size mode cb level => Sys2Proof.Machine.execRecRing mbx ring base size mode cb level s
  | .recTake mbx take decim gated => Sys2Proof.Machine.execRecTake mbx take decim gated s
  | .recConsume mbx ring total => Sys2Proof.Machine.execRecConsume mbx ring total s
  | .recStatus mbx => Sys2Proof.Machine.execRecStatus mbx s
  | .recMark mbx value => Sys2Proof.Machine.execRecMark mbx value s
  | .memFence mbx => Sys2Proof.Machine.execMemFence mbx s
  | .memConfig mbx order k scrub ceLimit rate => Sys2Proof.Machine.execMemConfig mbx order k scrub ceLimit rate s
  | .memQos mbx dma bar2 cox => Sys2Proof.Machine.execMemQos mbx dma bar2 cox s
  | .memStatus mbx => Sys2Proof.Machine.execMemStatus mbx s
  | .memErrlog mbx first count clear => Sys2Proof.Machine.execMemErrlog mbx first count clear s
  | .memMigrate mbx channel rank => Sys2Proof.Machine.execMemMigrate mbx channel rank s
  | .memUnretire mbx channel rank => Sys2Proof.Machine.execMemUnretire mbx channel rank s
  | .memRetrain mbx mask => Sys2Proof.Machine.execMemRetrain mbx mask s
  | .memInject mbx addr kind => Sys2Proof.Machine.execMemInject mbx addr kind s
  | .sysIdentify mbx => Sys2Proof.Machine.execSysIdentify mbx s
  | .sysCq mbx base entries => Sys2Proof.Machine.execSysCq mbx base entries s
  | .sysCompletions mbx first count => Sys2Proof.Machine.execSysCompletions mbx first count s
  | .sysDma mbx ch base entries pollUs run => Sys2Proof.Machine.execSysDma mbx ch base entries pollUs run s
  | .sysDmastatus mbx mask => Sys2Proof.Machine.execSysDmastatus mbx mask s
  | .sysAperture mbx base => Sys2Proof.Machine.execSysAperture mbx base s
  | .sysAbort mbx target tag => Sys2Proof.Machine.execSysAbort mbx target tag s
  | .sysMbxstat mbx clear => Sys2Proof.Machine.execSysMbxstat mbx clear s
  | .sysService mbx on => Sys2Proof.Machine.execSysService mbx on s
  | .sysClockplan mbx cox divisor => Sys2Proof.Machine.execSysClockplan mbx cox divisor s
  | .sysClocksrc mbx src => Sys2Proof.Machine.execSysClocksrc mbx src s
  | .sysClockstat mbx => Sys2Proof.Machine.execSysClockstat mbx s
  | .sysClockraw mbx cox divisor frame => Sys2Proof.Machine.execSysClockraw mbx cox divisor frame s
  | .sysBlockreset mbx code index => Sys2Proof.Machine.execSysBlockreset mbx code index s
  | .sysLadder mbx clear => Sys2Proof.Machine.execSysLadder mbx clear s
  | .sysFuse mbx field value => Sys2Proof.Machine.execSysFuse mbx field value s
  | .fwStage mbx addr len crc => Sys2Proof.Machine.execFwStage mbx addr len crc s
  | .fwActivate mbx slot => Sys2Proof.Machine.execFwActivate mbx slot s
  | .fwStatus mbx => Sys2Proof.Machine.execFwStatus mbx s
  | .fwCommit mbx => Sys2Proof.Machine.execFwCommit mbx s
  | .modeHold mbx urgent => Sys2Proof.Machine.execModeHold mbx urgent s
  | .modeSet mbx target => Sys2Proof.Machine.execModeSet mbx target s
  | .modeStandby mbx wake => Sys2Proof.Machine.execModeStandby mbx wake s
  | .modeStatus mbx => Sys2Proof.Machine.execModeStatus mbx s
  | .modeBudget mbx chip rest => Sys2Proof.Machine.execModeBudget mbx chip rest s
  | .modeLeave mbx clear => Sys2Proof.Machine.execModeLeave mbx clear s
  | .modeThermal mbx clear => Sys2Proof.Machine.execModeThermal mbx clear s
  | .timePort mbx a => Sys2Proof.Machine.execTimePort mbx a s
  | .timeDomain mbx a => Sys2Proof.Machine.execTimeDomain mbx a s
  | .timeServo mbx bw step lock slew blend => Sys2Proof.Machine.execTimeServo mbx bw step lock slew blend s
  | .timeGang mbx size device ports recovered skew => Sys2Proof.Machine.execTimeGang mbx size device ports recovered skew s
  | .timeSet mbx sec ns => Sys2Proof.Machine.execTimeSet mbx sec ns s
  | .timeSelect mbx sel => Sys2Proof.Machine.execTimeSelect mbx sel s
  | .timeStatus mbx clear => Sys2Proof.Machine.execTimeStatus mbx clear s
  | .timePeers mbx clear => Sys2Proof.Machine.execTimePeers mbx clear s
  | .safeEnter mbx => Sys2Proof.Machine.execSafeEnter mbx s
  | .safeStop mbx mask => Sys2Proof.Machine.execSafeStop mbx mask s
  | .safeClear mbx => Sys2Proof.Machine.execSafeClear mbx s
  | .safeRearm mbx mask => Sys2Proof.Machine.execSafeRearm mbx mask s
  | .safeStage mbx addr len crc => Sys2Proof.Machine.execSafeStage mbx addr len crc s
  | .safeCommit mbx digest => Sys2Proof.Machine.execSafeCommit mbx digest s
  | .safeDiscard mbx => Sys2Proof.Machine.execSafeDiscard mbx s
  | .safeStatus mbx => Sys2Proof.Machine.execSafeStatus mbx s
  | .safeEvents mbx first count => Sys2Proof.Machine.execSafeEvents mbx first count s
  | .safeProof mbx mask => Sys2Proof.Machine.execSafeProof mbx mask s
  | .safeHoldpolicy mbx resume => Sys2Proof.Machine.execSafeHoldpolicy mbx resume s
  | .safeQuery mbx which => Sys2Proof.Machine.execSafeQuery mbx which s
  | .logRead mbx first count => Sys2Proof.Machine.execLogRead mbx first count s
  | .logVerify mbx first last => Sys2Proof.Machine.execLogVerify mbx first last s
  | .logSpoilstat mbx clear => Sys2Proof.Machine.execLogSpoilstat mbx clear s
  | .logNote mbx data => Sys2Proof.Machine.execLogNote mbx data s
  | .logDescribe mbx source code => Sys2Proof.Machine.execLogDescribe mbx source code s
  | .calRun mbx blocks instances => Sys2Proof.Machine.execCalRun mbx blocks instances s
  | .calStatus mbx => Sys2Proof.Machine.execCalStatus mbx s
  | .calFactory mbx blocks => Sys2Proof.Machine.execCalFactory mbx blocks s
  | .healthRecords mbx first count => Sys2Proof.Machine.execHealthRecords mbx first count s
  | .healthReport mbx => Sys2Proof.Machine.execHealthReport mbx s
  | .healthReplan mbx => Sys2Proof.Machine.execHealthReplan mbx s
  | .modeReq value => Sys2Proof.Machine.execModeReq value s
  | .hostStop value => Sys2Proof.Machine.execHostStop value s
  | .doorbell mbx tag => Sys2Proof.Machine.execDoorbell mbx tag s
  | .mbxAck mask => Sys2Proof.Machine.execMbxAck mask s
  | .irqTest pf1 hi value => Sys2Proof.Machine.execIrqTest pf1 hi value s
  | .irqEnable pf1 hi value => Sys2Proof.Machine.execIrqEnable pf1 hi value s
  | .registerWrite pf1 offset value => Sys2Proof.Machine.execRegisterWrite pf1 offset value s
  | .bar2Write offset data ecc => Sys2Proof.Machine.execBar2Write offset data ecc s
  | .bar2Read offset len ecc => Sys2Proof.Machine.execBar2Read offset len ecc s
  | .recordApertureRead offset len => Sys2Proof.Machine.execRecordApertureRead offset len s
  | .usbCommand data => Sys2Proof.Machine.execUsbCommand data s
  | .classDeadlineExpiry mbx => Sys2Proof.Machine.execClassDeadlineExpiry mbx s
  | .coxTaskWatchdog core task => Sys2Proof.Machine.execCoxTaskWatchdog core task s
  | .irqHoldoffExpiry pf1 vector => Sys2Proof.Machine.execIrqHoldoffExpiry pf1 vector s
  | .pcieLinkChange lanes rate cfg msix => Sys2Proof.Machine.execPcieLinkChange lanes rate cfg msix s
  | .dmaPoll ch desc => Sys2Proof.Machine.execDmaPoll ch desc s
  | .dmaDescriptorComplete ch data ecc => Sys2Proof.Machine.execDmaDescriptorComplete ch data ecc s
  | .dmaTimeout ch => Sys2Proof.Machine.execDmaTimeout ch s
  | .drainWaitExpiry ch => Sys2Proof.Machine.execDrainWaitExpiry ch s
  | .lgateTransition oar => Sys2Proof.Machine.execLgateTransition oar s
  | .finishBackstop oar => Sys2Proof.Machine.execFinishBackstop oar s
  | .dotSettleTimeout oar => Sys2Proof.Machine.execDotSettleTimeout oar s
  | .jumpPlanning oar => Sys2Proof.Machine.execJumpPlanning oar s
  | .jumpEnd oar => Sys2Proof.Machine.execJumpEnd oar s
  | .catchHoldLimit oar => Sys2Proof.Machine.execCatchHoldLimit oar s
  | .lenRise oar => Sys2Proof.Machine.execLenRise oar s
  | .lenSettleExpiry oar => Sys2Proof.Machine.execLenSettleExpiry oar s
  | .gridBlendComplete oar => Sys2Proof.Machine.execGridBlendComplete oar s
  | .inPosition axis => Sys2Proof.Machine.execInPosition axis s
  | .loopSlotExecute slot pv sp => Sys2Proof.Machine.execLoopSlotExecute slot pv sp s
  | .loopSlotOverrun slot => Sys2Proof.Machine.execLoopSlotOverrun slot s
  | .loopSelfTest proc verdict => Sys2Proof.Machine.execLoopSelfTest proc verdict s
  | .cameraExposureStart oar => Sys2Proof.Machine.execCameraExposureStart oar s
  | .cameraFeaturesReady oar => Sys2Proof.Machine.execCameraFeaturesReady oar s
  | .cameraFrameDeadline oar => Sys2Proof.Machine.execCameraFrameDeadline oar s
  | .controlBlockUpdate ring => Sys2Proof.Machine.execControlBlockUpdate ring s
  | .frameStreamRelease oar => Sys2Proof.Machine.execFrameStreamRelease oar s
  | .returnFrame port ps blocks => Sys2Proof.Machine.execReturnFrame port ps blocks s
  | .returnFrameMissed port line => Sys2Proof.Machine.execReturnFrameMissed port line s
  | .linkLockLoss port => Sys2Proof.Machine.execLinkLockLoss port s
  | .relockComplete port => Sys2Proof.Machine.execRelockComplete port s
  | .relockTimeout port => Sys2Proof.Machine.execRelockTimeout port s
  | .trainingPhaseEnd port r => Sys2Proof.Machine.execTrainingPhaseEnd port r s
  | .trainingPhaseTimeout port => Sys2Proof.Machine.execTrainingPhaseTimeout port s
  | .trainingRetry port => Sys2Proof.Machine.execTrainingRetry port s
  | .lLinkMeasured port => Sys2Proof.Machine.execLLinkMeasured port s
  | .forwardedClockLoss port shadowLocked => Sys2Proof.Machine.execForwardedClockLoss port shadowLocked s
  | .sleepAckTimeout port => Sys2Proof.Machine.execSleepAckTimeout port s
  | .fastExit port outbound => Sys2Proof.Machine.execFastExit port outbound s
  | .eyeProbeComplete phases volts => Sys2Proof.Machine.execEyeProbeComplete phases volts s
  | .serviceTimeout port tag => Sys2Proof.Machine.execServiceTimeout port tag s
  | .limitActive axis positive => Sys2Proof.Machine.execLimitActive axis positive s
  | .limitClear axis positive => Sys2Proof.Machine.execLimitClear axis positive s
  | .homeEdgeQualified axis => Sys2Proof.Machine.execHomeEdgeQualified axis s
  | .homingQualWinEnd axis => Sys2Proof.Machine.execHomingQualWinEnd axis s
  | .encoderEdge enc wire high => Sys2Proof.Machine.execEncoderEdge enc wire high s
  | .wireFault enc => Sys2Proof.Machine.execWireFault enc s
  | .wireFaultClear enc => Sys2Proof.Machine.execWireFaultClear enc s
  | .indexStuck enc => Sys2Proof.Machine.execIndexStuck enc s
  | .speedObserver enc => Sys2Proof.Machine.execSpeedObserver enc s
  | .encoderStill enc => Sys2Proof.Machine.execEncoderStill enc s
  | .strobeSenseSample ch senseUv stringMv limiting => Sys2Proof.Machine.execStrobeSenseSample ch senseUv stringMv limiting s
  | .lampTemperature code => Sys2Proof.Machine.execLampTemperature code s
  | .retrainingPause subch deltas check => Sys2Proof.Machine.execRetrainingPause subch deltas check s
  | .retrainLate subch => Sys2Proof.Machine.execRetrainLate subch s
  | .migrationChunkCopy channel found => Sys2Proof.Machine.execMigrationChunkCopy channel found s
  | .ptpSync domain m => Sys2Proof.Machine.execPtpSync domain m s
  | .ptpDelayResp domain t4 => Sys2Proof.Machine.execPtpDelayResp domain t4 s
  | .ptpAnnounce domain m => Sys2Proof.Machine.execPtpAnnounce domain m s
  | .ptpDelayReq domain requester rx => Sys2Proof.Machine.execPtpDelayReq domain requester rx s
  | .ptpMasterTx domain announce => Sys2Proof.Machine.execPtpMasterTx domain announce s
  | .domainLost domain => Sys2Proof.Machine.execDomainLost domain s
  | .ethPortChange port up => Sys2Proof.Machine.execEthPortChange port up s
  | .arpRequest port ip => Sys2Proof.Machine.execArpRequest port ip s
  | .otherFrame port kind => Sys2Proof.Machine.execOtherFrame port kind s
  | .marksReceived port frame => Sys2Proof.Machine.execMarksReceived port frame s
  | .helloReceived port frame rx => Sys2Proof.Machine.execHelloReceived port frame rx s
  | .peerLost device => Sys2Proof.Machine.execPeerLost device s
  | .lalmLow oar low => Sys2Proof.Machine.execLalmLow oar low s
  | .monitorSample oar code => Sys2Proof.Machine.execMonitorSample oar code s
  | .coxHeartbeat core => Sys2Proof.Machine.execCoxHeartbeat core s
  | .voteLivenessLoss core => Sys2Proof.Machine.execVoteLivenessLoss core s
  | .proofStart oar => Sys2Proof.Machine.execProofStart oar s
  | .proofStep oar pass delayNs => Sys2Proof.Machine.execProofStep oar pass delayNs s
  | .railOutOfWindow rail mv => Sys2Proof.Machine.execRailOutOfWindow rail mv s
  | .railRecovered rail => Sys2Proof.Machine.execRailRecovered rail s
  | .pllFailure pair => Sys2Proof.Machine.execPllFailure pair s
  | .pllRestart pair => Sys2Proof.Machine.execPllRestart pair s
  | .pllStandbyReady pair => Sys2Proof.Machine.execPllStandbyReady pair s
  | .referenceQualified src => Sys2Proof.Machine.execReferenceQualified src s
  | .blockReleaseTimeout code index => Sys2Proof.Machine.execBlockReleaseTimeout code index s
  | .pllLockLoss pll => Sys2Proof.Machine.execPllLockLoss pll s
  | .coxCoreMissing core => Sys2Proof.Machine.execCoxCoreMissing core s
  | .homingSwitchToggle axis => Sys2Proof.Machine.execHomingSwitchToggle axis s
  | .encoderGlitch enc wire => Sys2Proof.Machine.execEncoderGlitch enc wire s
  | .unretireTestComplete channel pass => Sys2Proof.Machine.execUnretireTestComplete channel pass s
  | .pcieCompletionTimeout ch => Sys2Proof.Machine.execPcieCompletionTimeout ch s
  | .commandAreaWrite mbx offset data => Sys2Proof.Machine.execCommandAreaWrite mbx offset data s
  | .layerChecksComplete => Sys2Proof.Machine.execLayerChecksComplete s
  | .perstAssert => Sys2Proof.Machine.execPerstAssert s
  | .frameTick => Sys2Proof.Machine.execFrameTick s
  | .dispatchCycle => Sys2Proof.Machine.execDispatchCycle s
  | .dispatchOverrun => Sys2Proof.Machine.execDispatchOverrun s
  | .leaveGrant => Sys2Proof.Machine.execLeaveGrant s
  | .p5Revocation => Sys2Proof.Machine.execP5Revocation s
  | .wakeSweep => Sys2Proof.Machine.execWakeSweep s
  | .thermalSweep => Sys2Proof.Machine.execThermalSweep s
  | .repairPlaceFreed => Sys2Proof.Machine.execRepairPlaceFreed s
  | .fenceRelease => Sys2Proof.Machine.execFenceRelease s
  | .fenceClose => Sys2Proof.Machine.execFenceClose s
  | .recoatStart => Sys2Proof.Machine.execRecoatStart s
  | .loopMigration => Sys2Proof.Machine.execLoopMigration s
  | .eyeProbe => Sys2Proof.Machine.execEyeProbe s
  | .lineStartSend => Sys2Proof.Machine.execLineStartSend s
  | .strobePulseStart => Sys2Proof.Machine.execStrobePulseStart s
  | .lineDeadline => Sys2Proof.Machine.execLineDeadline s
  | .ledPatternTick => Sys2Proof.Machine.execLedPatternTick s
  | .dramRefresh => Sys2Proof.Machine.execDramRefresh s
  | .preferredRelockHold => Sys2Proof.Machine.execPreferredRelockHold s
  | .keepSecondsWrite => Sys2Proof.Machine.execKeepSecondsWrite s
  | .marksSend => Sys2Proof.Machine.execMarksSend s
  | .helloSend => Sys2Proof.Machine.execHelloSend s
  | .discrepancyLatch => Sys2Proof.Machine.execDiscrepancyLatch s
  | .heartbeatLoss => Sys2Proof.Machine.execHeartbeatLoss s
  | .heartbeatAbsent1s => Sys2Proof.Machine.execHeartbeatAbsent1s s
  | .umpireTimeResync => Sys2Proof.Machine.execUmpireTimeResync s
  | .avsStepDownHold => Sys2Proof.Machine.execAvsStepDownHold s
  | .coreUndervoltage => Sys2Proof.Machine.execCoreUndervoltage s
  | .muxHandshakeBypass => Sys2Proof.Machine.execMuxHandshakeBypass s
  | .muxSwitchAbandon => Sys2Proof.Machine.execMuxSwitchAbandon s
  | .resetRelease => Sys2Proof.Machine.execResetRelease s
  | .fusePulseEnd => Sys2Proof.Machine.execFusePulseEnd s
  | .bootStepTimeout => Sys2Proof.Machine.execBootStepTimeout s
  | .vddAonLoss => Sys2Proof.Machine.execVddAonLoss s
  | .crystalStop => Sys2Proof.Machine.execCrystalStop s
  | .logbookFlush => Sys2Proof.Machine.execLogbookFlush s
  | .replanComplete => Sys2Proof.Machine.execReplanComplete s
  | .coreVoltageRecovered => Sys2Proof.Machine.execCoreVoltageRecovered s
  | .timeTake value => Sys2Proof.Machine.execTimeTake value s
  | .functionLevelReset pf1 => Sys2Proof.Machine.execFunctionLevelReset pf1 s
  | .busTimeout master => Sys2Proof.Machine.execBusTimeout master s
  | .leaveAnswer req => Sys2Proof.Machine.execLeaveAnswer req s
  | .rt0BlockRead ecc => Sys2Proof.Machine.execRt0BlockRead ecc s
  | .strokeSenior seq => Sys2Proof.Machine.execStrokeSenior seq s
  | .orphanTimeout seq => Sys2Proof.Machine.execOrphanTimeout seq s
  | .patrolScrubRead ecc => Sys2Proof.Machine.execPatrolScrubRead ecc s
  | .wakeFrame frame => Sys2Proof.Machine.execWakeFrame frame s
  | .estopInputChange channelB high => Sys2Proof.Machine.execEstopInputChange channelB high s
  | .intlkInputChange high => Sys2Proof.Machine.execIntlkInputChange high s
  | .voteComparison differing => Sys2Proof.Machine.execVoteComparison differing s
  | .holdRecovery ok => Sys2Proof.Machine.execHoldRecovery ok s
  | .temperatureSample c100 => Sys2Proof.Machine.execTemperatureSample c100 s
  | .avsStep answered readUv currentMa => Sys2Proof.Machine.execAvsStep answered readUv currentMa s
  | .referenceLoss ridden src => Sys2Proof.Machine.execReferenceLoss ridden src s
  | .iroTrim errorPpb => Sys2Proof.Machine.execIroTrim errorPpb s
  | .clockGateTimeout block master => Sys2Proof.Machine.execClockGateTimeout block master s
  | .resetAssert src => Sys2Proof.Machine.execResetAssert src s
  | .bootStep r => Sys2Proof.Machine.execBootStep r s
  | .standbyWake src => Sys2Proof.Machine.execStandbyWake src s
  | .vbatChange applied => Sys2Proof.Machine.execVbatChange applied s
  | .calBlockComplete passMask => Sys2Proof.Machine.execCalBlockComplete passMask s
  | .blockFault code => Sys2Proof.Machine.execBlockFault code s
  | .unsupportedRegisterAccess pf1 read => Sys2Proof.Machine.execUnsupportedRegisterAccess pf1 read s
  | .spoilRelease value => Sys2Proof.Machine.execSpoilRelease value s

end Sys2Proof.Machine
end

