-- ==== Sys2Proof/Safety.lean ====
section
/-! DEFINITION. What counts as a safe state and a safe run, and the few predicates and states in which claims about
commands and events are stated. -/

namespace Sys2Proof.Safety

open Sys2Proof.Machine

/-- Device DRAM keeps its canonical form (DESIGN CHOICE, log 6). -/
abbrev MemOk (s : State) : Prop := Memory.wf s.dram.mem

/-- A step that neither faults nor refuses. -/
def Completes (s : State) : Prop := ∃ t, step s = .next t

/-- The command stands in its mailbox as issuer `x`, it may start, and the checks of steps 8 and 9 pass (R407 to R412). -/
abbrev Starts (c : Instr) (s : State) (x : Ctx) : Prop := s.dev.startOf c = some x ∧ s.dev.startRefusal x = none

/-- An event the running device takes: its operands fit and the device is out of reset, supplied and not in Standby. -/
abbrev Live (c : Instr) (s : State) : Prop := c.wf = true ∧ s.dev.awake = true

/-- The state in which the command is answered OK: the device `d` of its effect, its mailbox DONE with STATUS 0 and the
result `r`. Nothing else differs from `s`. -/
def answered (s : State) (x : Ctx) (d : Dev) (r : List Byte := []) : State := { s with dev := d.respond x.mbx 0 0 0 0 r }

/-- The state in which the command is refused (R417): the device is as it was but for the mailbox that says so, and for a
FAULT its spoil record. -/
def turnedAway (s : State) (x : Ctx) (status detail hint : Nat) : State :=
  { s with dev := (s.dev.faultRec x.mbx status).respond x.mbx status detail hint 0 [] }

/-- The state in which the command is ACCEPTED: the device `d` of its beginning, a job that stands for it, its
completion number given (R415). -/
def taken (s : State) (x : Ctx) (d : Dev) (hint : Nat) (kind : JobKind) : State :=
  { s with dev := (settle x s.dev (.accepted d hint kind [])).1 }

/-- The state in which the command goes on executing: its mailbox EXECUTING, a job that stands for it. -/
def running (s : State) (x : Ctx) (d : Dev) (kind : JobKind) (effect : Bool) : State :=
  { s with dev := (settle x s.dev (.executing d kind effect)).1 }

/-- The state with another device. -/
def withDev (s : State) (d : Dev) : State := { s with dev := d }

/-- The state with another device and DRAM operations done. -/
def withMem (s : State) (r : Dev × List DramOp) : State := { s with dev := r.1, dram := applyOps s.dram r.2 }

/-- A Full or Warm reset is asserted, its release is not among the commands that wait, and the outputs are at their levels of
R307 and R497. -/
def HeldInReset (s : State) : Prop :=
  (s.dev.boot.resetActive = some .full ∨ s.dev.boot.resetActive = some .warm) ∧ .resetRelease ∉ s.pending ∧
    s.dev.ump.closed = 0 ∧ (∀ e ∈ s.dev.eng, e.len = false ∧ e.lgate = false ∧ e.dac = 0) ∧
    ∀ p ∈ s.dev.links.ports, p.st = .idle

/-- A run of library entries in device memory that may be loaded (R88, R89): in range, sound, unreferenced, each entry
within its limits. -/
abbrev Loadable (k : LibKind) (s : State) (first count addr crc : Nat) : Prop :=
  1 ≤ count ∧ first + count ≤ k.held ∧ addr + k.size * count ≤ s.dev.mc.hostLimit ∧
    s.dram.marked addr (k.size * count) = [] ∧ crc32c (memBytes s.dram.mem addr (k.size * count)) = crc ∧
    ∀ i < count, s.dev.layers.refCount k (first + i) = 0 ∧
      k.ok (entryAt (memBytes s.dram.mem addr (k.size * count)) k.size i) = true

/-- The device once those entries have been read (R379), are held and the change is logged. -/
def loaded (k : LibKind) (s : State) (x : Ctx) (first count addr : Nat) : Dev :=
  let bs := memBytes s.dram.mem addr (k.size * count)
  { s.dev.activate addr (k.size * count) with
    lib := (List.range count).foldl (fun l i => l.put k (first + i) (entryAt bs k.size i)) s.dev.lib }.log x 0x02
    0xFFFF ((List.range count).flatMap fun i => s.dev.lib.form k (first + i)) bs

end Sys2Proof.Safety
end

