-- ==== Sys2Proof/Certificates/Slice0/Obligations.lean ====
section
/-! DEFINITION. The statements for the provers. A completion statement gives, for every row it names, the whole next
state: what the update does not name is as it was. -/

open Sys2Proof Sys2Proof.Machine Sys2Proof.Safety

/-- The block's step (log 1): the command at the front of the queue runs with the rest of the queue; with none the block
idles, which is the model's choice. -/
def Obligations.StepTakesTheFront : Prop :=
  (∀ c rest s, s.pending = c :: rest → step s = exec c { s with pending := rest }) ∧
  ∀ s, s.pending = [] → step s = .next s

/-- Every command and event is answered with a next state, which has the queue that it was given: no run stops. -/
def Obligations.EveryCommandAnswersNext : Prop :=
  ∀ c s, ∃ t, exec c s = .next t ∧ t.pending = s.pending

/-- Device DRAM is a canonical list of cells in every state that a step reaches from one in which it is (log 6). And a
device held in a Full or Warm reset stays held, whatever command or event comes but the release: every cut path open, LEN
and LGATE low, the DACs at 0, every lane idle (R307, R497). -/
def Obligations.StepKeepsMemoryCanonical : Prop :=
  (∀ s t, MemOk s → step s = .next t → MemOk t) ∧
  ∀ s t, HeldInReset s → step s = .next t → HeldInReset t

/-- State.reset has canonical memory, which lists nothing (log 6). R454, R493, R495, R500: the machine right after a Full
reset: in Start at S0, every cut path open, nothing commanded, no layer held, no oar exposing, LEN and LGATE low, no
interrupt cause. -/
def Obligations.ResetState : Prop :=
  (MemOk State.reset ∧ State.reset.dram.mem = [] ∧ State.reset.pending = []) ∧
  (let d := State.reset.dev
  d.mode.mode = .start ∧ d.boot.next = 0 ∧ d.boot.halted = false ∧ d.ump.closed = 0 ∧ d.host.jobs = [] ∧
  d.host.irq0.cause = 0 ∧ d.host.irq1.cause = 0 ∧ d.layers.queue = [] ∧ d.layers.released = none ∧
  (∀ e ∈ d.eng, e.exposing = false ∧ e.len = false ∧ e.lgate = false) ∧ d.eng.length = 32 ∧
  (∀ b ∈ d.host.mbx, b.st = .free) ∧ d.host.mbx.length = 17)

/-- R424: the `sys` commands of the interface answer OK with the effect and the result their rows give. R424: `sys.abort`
ends another mailbox's command that has not begun: that mailbox is DONE with ABORTED, and the command itself answers with
that status. -/
def Obligations.SysCommandsComplete : Prop :=
  (-- `sys.identify` changes nothing
  (∀ m s x, Starts (.sysIdentify m) s x → exec (.sysIdentify m) s = .next (answered s x s.dev s.dev.identity)) ∧
  -- `sys.cq`: no queue for ENTRIES 0, else the queue from the present position on
  (∀ m b n s x, Starts (.sysCq m b n) s x → (n = 0 ∨ b % 4096 = 0 ∧ ∃ k, 6 ≤ k ∧ k ≤ 16 ∧ n = 2 ^ k) →
    exec (.sysCq m b n) s = .next (answered s x
      { s.dev with host := { s.dev.host with cq := if n = 0 then none else some (b, n, s.dev.host.cqSeq) } })) ∧
  -- `sys.completions`: the records held of ids FIRST to FIRST + COUNT - 1
  (∀ m f n s x, Starts (.sysCompletions m f n) s x → 1 ≤ n → n ≤ 15 →
    exec (.sysCompletions m f n) s = .next (answered s x s.dev
      (listOf Completion.bytes (s.dev.host.completions.filter fun c => f ≤ c.id ∧ c.id < f + n)))) ∧
  -- `sys.dma` STOP lets the descriptor in progress complete; START sets a stopped channel up from its first entry
  (∀ m c b n p s x, Starts (.sysDma m c b n p 1) s x → c < 8 → b % 4096 = 0 → isPow2 4 16 n = true → 1 ≤ p → p ≤ 1000 →
    exec (.sysDma m c b n p 1) s = .next (answered s x (s.dev.onDma c fun q => { q with running := false })
      (u32 (nth (s.dev.onDma c fun q => { q with running := false }).host.dma c).state))) ∧
  (∀ m c b n p s x, Starts (.sysDma m c b n p 0) s x → c < 8 → b % 4096 = 0 → isPow2 4 16 n = true → 1 ≤ p → p ≤ 1000 →
    (nth s.dev.host.dma c).running = false → (nth s.dev.host.dma c).cur = none →
    exec (.sysDma m c b n p 0) s = .next (answered s x (s.dev.onDma c (DmaChan.start b n p))
      (u32 (nth (s.dev.onDma c (DmaChan.start b n p)).host.dma c).state))) ∧
  -- `sys.dmastatus` reports the channels of its mask
  (∀ m k s x, Starts (.sysDmastatus m k) s x → k < 256 →
    exec (.sysDmastatus m k) s = .next (answered s x s.dev ((bitsOf 8 k).flatMap fun c => (nth s.dev.host.dma c).report))) ∧
  -- `sys.aperture` moves the BAR2 window
  (∀ m b s x, Starts (.sysAperture m b) s x → b % s.dev.host.bar2Size = 0 → b < s.dev.mc.hostLimit →
    exec (.sysAperture m b) s = .next (answered s x { s.dev with host := { s.dev.host with bar2Base := b } } (u64 b))) ∧
  -- `sys.mbxstat` reports, and clears the counters it reports when asked
  (∀ m s x, Starts (.sysMbxstat m 0) s x → exec (.sysMbxstat m 0) s = .next (answered s x s.dev
    ((s.dev.host.mbx.take 16).flatMap Mailbox.report ++ u32 s.dev.host.badReads ++ u32 s.dev.host.badWrites ++
      u32 s.dev.host.denials))) ∧
  (∀ m s x, Starts (.sysMbxstat m 1) s x → exec (.sysMbxstat m 1) s = .next (answered s x
    { s.dev with host := { s.dev.host with
      mbx := s.dev.host.mbx.map fun b => { b with accepted := 0, timeouts := 0, errs := 0, longest := 0 }
      badReads := 0, badWrites := 0, denials := 0 } }
    ((s.dev.host.mbx.take 16).flatMap Mailbox.report ++ u32 s.dev.host.badReads ++ u32 s.dev.host.badWrites ++
      u32 s.dev.host.denials))) ∧
  -- `sys.service` ON and OFF
  (∀ m s x, Starts (.sysService m 0) s x →
    exec (.sysService m 0) s = .next (answered s x { s.dev with host := { s.dev.host with serviceOn := true } } (u32 0))) ∧
  ∀ m s x, Starts (.sysService m 1) s x → s.dev.host.serviceOn = true → (nth s.dev.host.mbx 16).st ≠ .queued →
    (nth s.dev.host.mbx 16).st ≠ .executing →
    exec (.sysService m 1) s = .next (answered s x { s.dev with host := { s.dev.host with serviceOn := false } } (u32 1))) ∧
  (∀ m target tag s x, Starts (.sysAbort m target tag) s x → target < 16 → target ≠ x.mbx →
    (nth s.dev.host.mbx target).st = .queued → (s.dev.hdr target).tag = tag → (nth s.dev.host.mbx target).effect = false →
    (∀ j ∈ s.dev.host.jobs, j.mbx ≠ target) →
    exec (.sysAbort m target tag) s = .next (answered s x (s.dev.respond target 0x31 0 0 0 []) (u32 0x31)))

/-- R401, R405, R407, R414, R548: the writes to the registers of the host interface. R401: `registerWrite` is the write at
its offset: what the registers of BAR0 take, and that read-only registers and gaps take nothing. -/
def Obligations.RegisterWritesComplete : Prop :=
  (-- HOST_STOP: bit 0 brings the device to Safe, any other write nothing
  (∀ v s, Live (.hostStop v) s → s.dev.host.linkUp = true →
    exec (.hostStop v) s = .next (withDev s (if v % 2 = 1 then
      ({ s.dev with host := { s.dev.host with hostStop := true } }).enterSafe 0x04 0xFF else s.dev))) ∧
  -- a doorbell over a FREE mailbox with the tag of its header; mailbox 0 is mirrored to the Umpire
  (∀ n tag s, Live (.doorbell n tag) s → s.dev.host.linkUp = true → s.dev.hostOpen = true →
    (nth s.dev.host.mbx n).st = .free → (s.dev.hdr n).tag = tag →
    exec (.doorbell n tag) s =
      .next (withDev s (if n = 0 then (s.dev.acceptCmd 0).mirror else s.dev.acceptCmd n))) ∧
  -- MBX_ACK frees the DONE mailboxes of its mask
  (∀ k s, Live (.mbxAck k) s → s.dev.host.linkUp = true →
    exec (.mbxAck k) s = .next (withDev s { s.dev with host := { s.dev.host with
      mbx := s.dev.host.mbx.mapIdx fun i b =>
        if i < 16 && Nat.testBit k i && b.st == .done then { b with st := .free } else b } })) ∧
  -- TIME.TAKE
  (∀ v s, s.dev.awake = true → s.dev.host.linkUp = true → v % 2 = 1 →
    exec (.timeTake v) s = .next (withDev s { s.dev with time := { s.dev.time with
      snapTaken := true, snapSec := s.dev.time.sec, snapNs := s.dev.nsNow
      snapFrac := natOf ((s.dev.time.ns - s.dev.nsNow) * 256).floor, snapTick := s.dev.time.tick } })) ∧
  -- SPOIL.RELEASE, ignored outside OLDEST to NEWEST + 1
  (∀ v s, s.dev.awake = true → s.dev.host.linkUp = true →
    exec (.spoilRelease v) s = .next (withDev s (
      if s.dev.logs.spoilOldest ≤ v ∧ v ≤ s.dev.logs.spoilNewest + 1 then
        { s.dev with logs := { s.dev.logs with spoilRelease := v } } else s.dev))) ∧
  -- a write to a command area of a FREE mailbox: a byte, an aligned pair, or aligned words, at most 128 bytes
  (∀ n o ds s, Live (.commandAreaWrite n o ds) s → s.dev.host.linkUp = true →
    (ds.length = 1 ∨ ds.length = 2 ∧ o % 2 = 0 ∨ 4 ≤ ds.length ∧ ds.length ≤ 128 ∧ ds.length % 4 = 0 ∧ o % 4 = 0) →
    (nth s.dev.host.mbx n).st = .free →
    exec (.commandAreaWrite n o ds) s = .next (withDev s { s.dev with host := { s.dev.host with
      mbx := upd s.dev.host.mbx n fun b => { b with cmd := memWrite b.cmd o ds } } })) ∧
  -- an access the map does not support: a read is answered Unsupported Request, a write dropped; both are counted (the AER
  -- bit is log 16)
  (∀ p s, s.dev.awake = true → s.dev.host.answers p = true →
    exec (.unsupportedRegisterAccess p true) s = .next (withDev s { s.dev with host := ({ s.dev.host with
      badReads := s.dev.host.badReads + 1, bus := ⟨true, false, []⟩ } : HostIf).aerSet p 20 })) ∧
  ∀ p s, s.dev.awake = true → s.dev.host.answers p = true →
    exec (.unsupportedRegisterAccess p false) s = .next (withDev s { s.dev with host := { s.dev.host with
      badWrites := s.dev.host.badWrites + 1 } })) ∧
  (∀ v s,
    (∀ pf1, Live (.registerWrite pf1 0x4000 v) s → s.dev.host.answers pf1 = true →
      exec (.registerWrite pf1 0x4000 v) s = .next (withDev s (s.dev.onIrqRegs pf1 fun q =>
        { q with cause := q.cause &&& ~~~ BitVec.ofNat 64 v }))) ∧
    (∀ pf1, Live (.registerWrite pf1 0x4004 v) s → s.dev.host.answers pf1 = true →
      exec (.registerWrite pf1 0x4004 v) s = .next (withDev s (s.dev.onIrqRegs pf1 fun q =>
        { q with cause := q.cause &&& ~~~ BitVec.ofNat 64 (v * 2 ^ 32) }))) ∧
    (∀ pf1, Live (.registerWrite pf1 0x4010 v) s → s.dev.host.answers pf1 = true →
      exec (.registerWrite pf1 0x4010 v) s = .next (withDev s (s.dev.onIrqRegs pf1 fun q => { q with holdoff := v % 1024 }))) ∧
    (Live (.registerWrite false 0x3048 v) s → s.dev.host.linkUp = true →
      exec (.registerWrite false 0x3048 v) s = .next (withDev s { s.dev with host := { s.dev.host with
        mbxErr := s.dev.host.mbxErr &&& ~~~ BitVec.ofNat 16 v } })) ∧
    (Live (.registerWrite false 0x30008 v) s → s.dev.host.linkUp = true →
      exec (.registerWrite false 0x30008 v) s = .next (withDev s { s.dev with host := { s.dev.host with logSelect := v } })) ∧
    (Live (.registerWrite false 0x38008 v) s → s.dev.host.linkUp = true →
      exec (.registerWrite false 0x38008 v) s = .next (withDev s { s.dev with host := { s.dev.host with spoilSelect := v } })) ∧
    -- each of these writes is the row of its own
    (Live (.registerWrite false 0x1004 v) s → s.dev.host.linkUp = true → exec (.registerWrite false 0x1004 v) s = exec (.modeReq v) s) ∧
    (Live (.registerWrite false 0x2010 v) s → s.dev.host.linkUp = true → exec (.registerWrite false 0x2010 v) s = exec (.hostStop v) s) ∧
    (∀ n, n < 16 → Live (.registerWrite false (0x3000 + 4 * n) v) s → s.dev.host.linkUp = true →
      exec (.registerWrite false (0x3000 + 4 * n) v) s = exec (.doorbell n v) s) ∧
    (Live (.registerWrite false 0x3044 v) s → s.dev.host.linkUp = true → exec (.registerWrite false 0x3044 v) s = exec (.mbxAck v) s) ∧
    (∀ pf1, Live (.registerWrite pf1 0x4008 v) s → s.dev.host.answers pf1 = true → exec (.registerWrite pf1 0x4008 v) s = exec (.irqEnable pf1 false v) s) ∧
    (∀ pf1, Live (.registerWrite pf1 0x4018 v) s → s.dev.host.answers pf1 = true → exec (.registerWrite pf1 0x4018 v) s = exec (.irqTest pf1 true v) s) ∧
    (Live (.registerWrite false 0x20000 v) s → s.dev.host.linkUp = true → exec (.registerWrite false 0x20000 v) s = exec (.timeTake v) s) ∧
    (Live (.registerWrite false 0x3800C v) s → s.dev.host.linkUp = true → exec (.registerWrite false 0x3800C v) s = exec (.spoilRelease v) s) ∧
    -- identity, mode, reset cause and a gap take nothing, nor does PF1 outside its IRQ block
    (∀ o ∈ [0x0, 0x4, 0x18, 0x1000, 0x100C, 0x2000, 0x2004, 0x304C, 0x5000, 0x20004, 0x30000, 0x38000],
      Live (.registerWrite false o v) s → s.dev.host.linkUp = true → exec (.registerWrite false o v) s = .next s) ∧
    ∀ o, o < 0x4000 → Live (.registerWrite true o v) s → s.dev.host.link1Up = true → exec (.registerWrite true o v) s = .next s)

/-- R413: a write to IRQ_TEST sets the cause bits of its half as their events would; nothing of the device but the host
interface changes. R413: a write to IRQ_ENABLE gives the enable bits of its half the bits written, and changes no cause.
R15: the reserved bits 44 to 63 take nothing.
R413: the message held for IRQ.HOLDOFF goes out once the hold-off since the vector's latest message has passed, and not
before. -/
def Obligations.InterruptRegisters : Prop :=
  (∀ pf1 hi v s, Live (.irqTest pf1 hi v) s → s.dev.host.answers pf1 = true →
    ∃ h, exec (.irqTest pf1 hi v) s = .next (withDev s { s.dev with host := h }) ∧
      (if pf1 then h.irq0 = s.dev.host.irq0 else h.irq1 = s.dev.host.irq1) ∧ h.mbx = s.dev.host.mbx ∧
      ∀ b, b < 64 →
        (if pf1 then h.irq1 else h.irq0).cause.getLsbD b =
          ((if pf1 then s.dev.host.irq1 else s.dev.host.irq0).cause.getLsbD b ||
            (if hi then 32 ≤ b && b < 44 && v.testBit (b - 32) else b < 32 && v.testBit b))) ∧
  (∀ pf1 hi v s, Live (.irqEnable pf1 hi v) s → s.dev.host.answers pf1 = true →
    ∃ h, exec (.irqEnable pf1 hi v) s = .next (withDev s { s.dev with host := h }) ∧
      (if pf1 then h.irq0 = s.dev.host.irq0 else h.irq1 = s.dev.host.irq1) ∧ h.mbx = s.dev.host.mbx ∧
      (if pf1 then h.irq1 else h.irq0).cause = (if pf1 then s.dev.host.irq1 else s.dev.host.irq0).cause ∧
      ∀ b, b < 64 →
        (if pf1 then h.irq1 else h.irq0).enable.getLsbD b =
          (if (if hi then 32 ≤ b ∧ b < 44 else b < 32) then v.testBit (if hi then b - 32 else b)
           else (if pf1 then s.dev.host.irq1 else s.dev.host.irq0).enable.getLsbD b)) ∧
  ((∀ v l s, Live (.irqHoldoffExpiry false v) s → v ∈ s.dev.host.irq0.held → s.dev.host.irq0.masked v = false →
    s.dev.host.irq0.last.find? (fun p => p.1 = v) = some l → l.2 + usT s.dev.host.irq0.holdoff ≤ s.dev.now →
    exec (.irqHoldoffExpiry false v) s = .next (withDev s { s.dev with host := { s.dev.host with
      msgs := (false, v) :: s.dev.host.msgs
      irq0 := { s.dev.host.irq0 with
        held := s.dev.host.irq0.held.filter (· ≠ v)
        last := (v, s.dev.now) :: s.dev.host.irq0.last.filter (fun p => p.1 ≠ v) } } })) ∧
  (∀ v l s, Live (.irqHoldoffExpiry true v) s → v ∈ s.dev.host.irq1.held → s.dev.host.irq1.masked v = false →
    s.dev.host.irq1.last.find? (fun p => p.1 = v) = some l → l.2 + usT s.dev.host.irq1.holdoff ≤ s.dev.now →
    exec (.irqHoldoffExpiry true v) s = .next (withDev s { s.dev with host := { s.dev.host with
      msgs := (true, v) :: s.dev.host.msgs
      irq1 := { s.dev.host.irq1 with
        held := s.dev.host.irq1.held.filter (· ≠ v)
        last := (v, s.dev.now) :: s.dev.host.irq1.last.filter (fun p => p.1 ≠ v) } } })) ∧
  -- the message of a vector that BAR4 masks pends instead (R396)
  (∀ v l s, Live (.irqHoldoffExpiry false v) s → v ∈ s.dev.host.irq0.held → s.dev.host.irq0.masked v = true →
    s.dev.host.irq0.last.find? (fun p => p.1 = v) = some l → l.2 + usT s.dev.host.irq0.holdoff ≤ s.dev.now →
    exec (.irqHoldoffExpiry false v) s = .next (withDev s { s.dev with host := { s.dev.host with
      irq0 := { s.dev.host.irq0 with
        held := s.dev.host.irq0.held.filter (· ≠ v), pba := s.dev.host.irq0.pba ||| BitVec.ofNat 64 (2 ^ v) } } })) ∧
  ∀ p v l s, Live (.irqHoldoffExpiry p v) s →
    (if p then s.dev.host.irq1 else s.dev.host.irq0).last.find? (fun p => p.1 = v) = some l →
    s.dev.now < l.2 + usT (if p then s.dev.host.irq1 else s.dev.host.irq0).holdoff →
    exec (.irqHoldoffExpiry p v) s = .next s)

/-- R402, R403, R421: the apertures and the USB exchange. R402: what the host writes through BAR2 below HOST_LIMIT it
reads back there, whether the write has reached DRAM or still waits for a fence. -/
def Obligations.AperturesComplete : Prop :=
  (-- a read of device memory below HOST_LIMIT through BAR2 returns what the host has written there
  (∀ o n s, Live (.bar2Read o n .clean) s → s.dev.host.linkUp = true → s.dev.hostOpen = true → 1 ≤ n →
    o + n ≤ s.dev.host.bar2Size → s.dev.host.bar2Base + o + n ≤ s.dev.mc.hostLimit →
    (s.dev.posted s.dram).marked (s.dev.host.bar2Base + o) n = [] →
    exec (.bar2Read o n .clean) s = .next (withDev s { s.dev.activate (s.dev.host.bar2Base + o) n with host := { s.dev.host with
      bus := ⟨false, false, s.dev.hostView s.dram (s.dev.host.bar2Base + o) n⟩ } })) ∧
  -- PF1 reads zero outside the recording rings, their control blocks and the image buffer, and the read is counted
  (∀ o n s, Live (.recordApertureRead o n) s → s.dev.host.link1Up = true → 1 ≤ n →
    (∀ i < n, ∀ r ∈ s.dev.recordRegions, ¬ (r.1 ≤ s.dev.host.bar2Base + o + i ∧ s.dev.host.bar2Base + o + i < r.1 + r.2)) →
    exec (.recordApertureRead o n) s = .next (withDev s { s.dev with host := { s.dev.host with
      denials := s.dev.host.denials + 1, bus := ⟨false, false, List.replicate n 0⟩ } })) ∧
  -- inside them it reads as BAR2 does
  (∀ o n s, Live (.recordApertureRead o n) s → s.dev.host.link1Up = true → s.dev.hostOpen = true → 1 ≤ n →
    o + n ≤ s.dev.host.bar2Size → s.dev.host.bar2Base + o + n ≤ s.dev.mc.hostLimit →
    (s.dev.posted s.dram).marked (s.dev.host.bar2Base + o) n = [] →
    (∀ i < n, ∃ r ∈ s.dev.recordRegions, r.1 ≤ s.dev.host.bar2Base + o + i ∧ s.dev.host.bar2Base + o + i < r.1 + r.2) →
    exec (.recordApertureRead o n) s = .next (withDev s { s.dev.activate (s.dev.host.bar2Base + o) n with host := { s.dev.host with
      bus := ⟨false, false, s.dev.hostView s.dram (s.dev.host.bar2Base + o) n⟩ } })) ∧
  -- partly inside, each byte by its own place, and the read is counted once
  (∀ o n i j s, Live (.recordApertureRead o n) s → s.dev.host.link1Up = true → s.dev.hostOpen = true → i < n → j < n →
    o + n ≤ s.dev.host.bar2Size → s.dev.host.bar2Base + o + n ≤ s.dev.mc.hostLimit →
    (s.dev.posted s.dram).marked (s.dev.host.bar2Base + o) n = [] →
    (∃ r ∈ s.dev.recordRegions, r.1 ≤ s.dev.host.bar2Base + o + i ∧ s.dev.host.bar2Base + o + i < r.1 + r.2) →
    (∀ r ∈ s.dev.recordRegions, ¬ (r.1 ≤ s.dev.host.bar2Base + o + j ∧ s.dev.host.bar2Base + o + j < r.1 + r.2)) →
    ∃ t, exec (.recordApertureRead o n) s = .next t ∧ t.dev.host.denials = s.dev.host.denials + 1 ∧
      nth t.dev.host.bus.data i = nth (s.dev.hostView s.dram (s.dev.host.bar2Base + o) n) i ∧ nth t.dev.host.bus.data j = 0) ∧
  -- the USB exchange takes a command once it is FREE or DONE, where its capability is fused in
  ∀ ds s, Live (.usbCommand ds) s → s.dev.fuses.caps.testBit 1 = true → s.dev.hostOpen = true →
    ((nth s.dev.host.mbx 16).st = .free ∨ (nth s.dev.host.mbx 16).st = .done) →
    exec (.usbCommand ds) s = .next (withDev s ({ s.dev with host := { s.dev.host with
      mbx := upd s.dev.host.mbx 16 fun b => { b with cmd := memWrite [] 0 ds } } }.acceptCmd 16))) ∧
  (∀ o ds e s, Live (.bar2Write o ds e) s → MemOk s → s.dev.host.linkUp = true → s.dev.hostOpen = true →
    o + ds.length ≤ s.dev.host.bar2Size → s.dev.host.bar2Base + o + ds.length ≤ s.dev.mc.hostLimit →
    ∃ t, exec (.bar2Write o ds e) s = .next t ∧ t.dev.host.bar2Base = s.dev.host.bar2Base ∧
      t.dev.hostView t.dram (s.dev.host.bar2Base + o) ds.length = ds)

/-- R399, R400, R410, R422, R423: deadlines, watchdog, resets of the interface and the link. -/
def Obligations.HostEventsComplete : Prop :=
  -- a command past its class deadline that has no effect yet ends with TIMEOUT: what it has begun is undone
  (∀ n s t, Live (.classDeadlineExpiry n) s → (nth s.dev.host.mbx n).startTick = some t →
    t + s.dev.deadlineOf n ≤ s.dev.now →
    ((nth s.dev.host.mbx n).st = .queued ∨ (nth s.dev.host.mbx n).st = .executing ∧ (nth s.dev.host.mbx n).effect = false) →
    exec (.classDeadlineExpiry n) s = .next (withDev s
      (let e := (s.dev.running n).foldl Dev.undo s.dev
      ({ e with host := { e.host with
        jobs := s.dev.host.jobs.filter fun j => ! (j.mbx = n && j.completionId = 0) } }.onMbx n fun b =>
          { b with timeouts := b.timeouts + 1 }).respond n 0x30 0xFF0A 0 0 []))) ∧
  -- past its effect point it files a spoil record too, and its late response is discarded
  (∀ n s t, Live (.classDeadlineExpiry n) s → (nth s.dev.host.mbx n).startTick = some t →
    t + s.dev.deadlineOf n ≤ s.dev.now →
    (nth s.dev.host.mbx n).st = .executing → (nth s.dev.host.mbx n).effect = true →
    exec (.classDeadlineExpiry n) s = .next (withDev s
      ((({ s.dev with host := { s.dev.host with jobs := s.dev.host.jobs.map (Job.orphan (· = n)) } }.spoil 0x01
        (if n < 16 then n else 0xFF) 0x002 true (nth s.dev.host.mbx n).logSeq).onMbx n fun b =>
          { b with timeouts := b.timeouts + 1 }).respond n 0x30 0xFF0A 0 0 []))) ∧
  -- a Cox task watchdog files a spoil record; a task that runs no command before its effect point has no other effect (the
  -- mailbox that a task number names is the model's choice, log 153)
  (∀ c k s, Live (.coxTaskWatchdog c k) s → ((nth s.dev.host.mbx k).effect = true ∨ s.dev.running k = []) →
    exec (.coxTaskWatchdog c k) s = .next (withDev s (s.dev.spoil 0x01 c 0x001 false k))) ∧
  -- a command before its effect point is run again from its beginning: `oar.dark` begins its averages anew, `oar.measure` its
  -- test jumps
  (∀ c k mask s, Live (.coxTaskWatchdog c k) s → (nth s.dev.host.mbx k).effect = false → s.dev.running k = [.dark mask] →
    exec (.coxTaskWatchdog c k) s = .next (withDev s
      (((bitsOf 32 mask).foldl Dev.darkBegin (s.dev.undo (.dark mask))).spoil 0x01 c 0x001 false k))) ∧
  (∀ c k mask s, Live (.coxTaskWatchdog c k) s → (nth s.dev.host.mbx k).effect = false → s.dev.running k = [.measure mask] →
    exec (.coxTaskWatchdog c k) s = .next (withDev s
      (((bitsOf 32 mask).foldl Dev.testBegin (s.dev.undo (.measure mask))).spoil 0x01 c 0x001 false k))) ∧
  -- FLR of PF1 resets its IRQ block (log 18)
  (∀ s, s.dev.awake = true → s.dev.host.link1Up = true →
    exec (.functionLevelReset true) s = .next (withDev s { s.dev with host := { s.dev.host with irq1 := Irq.reset } })) ∧
  -- FLR of PF0 frees the mailboxes, stops DMA and clears the IRQ block and the completion queue
  (∀ s, s.dev.awake = true → s.dev.host.linkUp = true →
    ∃ t, exec (.functionLevelReset false) s = .next t ∧ t.dev.host.irq0 = Irq.reset ∧ t.dev.host.cq = none ∧
      (∀ n < 16, (nth t.dev.host.mbx n).st = .free) ∧
      -- where no descriptor is cut, only the host interface changes
      ((∀ c < 8, (nth s.dev.host.dma c).cur = none) → t = withDev s { s.dev with host := t.dev.host })) ∧
  -- PERST# takes the link down and resets both functions
  (∀ s, s.dev.awake = true →
    ∃ t, exec .perstAssert s = .next t ∧ t.dev.host.linkUp = false ∧ t.dev.host.link1Up = false ∧
      t.dev.host.irq0 = Irq.reset ∧ t.dev.host.irq1 = Irq.reset ∧ (∀ n < 16, (nth t.dev.host.mbx n).st = .free) ∧
      ((∀ c < 8, (nth s.dev.host.dma c).cur = none) →
        t = withDev s { s.dev with host := t.dev.host, pins := { s.dev.pins with perst := true } })) ∧
  -- a link that trains at full width and rate sets its cause; a lost or degraded one files a spoil record too; a function in
  -- D3hot stays down (log 16)
  (∀ l r s, Live (.pcieLinkChange l r none []) s → ¬ (l = s.dev.host.lanes ∧ r = s.dev.host.rate) →
    exec (.pcieLinkChange l r none []) s = .next (withDev s (
      let d := { s.dev with
        host := { s.dev.host with
          linkUp := l ≠ 0 && ! s.dev.host.cfg.d3hot, link1Up := l ≠ 0 && ! s.dev.host.cfg1.d3hot, lanes := l, rate := r }
        pins := { s.dev.pins with perst := s.dev.pins.perst && l = 0, pewake := s.dev.pins.pewake && l = 0 } }.raise 42
      if l = 0 ∨ l < 8 ∨ r < 32 then d.spoil 0x08 0xFF 0x001 false (l + 256 * r) else d))) ∧
  -- on a link that stays as it is, the platform sets the configuration space of one function (R395), which takes no request
  -- in D3hot (the model's choice, log 16)
  (∀ c s, Live (.pcieLinkChange s.dev.host.lanes s.dev.host.rate (some c) []) s → s.dev.host.lanes ≠ 0 →
    (s.dev.host.linkUp = true ∨ s.dev.host.cfg.d3hot = true) →
    exec (.pcieLinkChange s.dev.host.lanes s.dev.host.rate (some c) []) s = .next (withDev s
      (if c.pf1 then { s.dev with host := { s.dev.host with
        cfg1 := c, link1Up := ! c.d3hot, aer1 := s.dev.host.aer1 - (s.dev.host.aer1 &&& c.aerClear) } }
      else { s.dev with host := { s.dev.host with
        cfg := c, linkUp := ! c.d3hot, aer0 := s.dev.host.aer0 - (s.dev.host.aer0 &&& c.aerClear) } }))) ∧
  -- and the entries of the MSI-X table in BAR4 (R396)
  (∀ v a w s, Live (.pcieLinkChange s.dev.host.lanes s.dev.host.rate none [⟨false, v, a, w, true⟩]) s → s.dev.host.linkUp = true →
    exec (.pcieLinkChange s.dev.host.lanes s.dev.host.rate none [⟨false, v, a, w, true⟩]) s = .next (withDev s
      { s.dev with host := { s.dev.host with irq0 := { s.dev.host.irq0 with
        table := s.dev.host.irq0.table.set v (a, w, true) } } })) ∧
  -- a bus time-out changes nothing in the block
  ∀ k s, s.dev.awake = true → exec (.busTimeout k) s = .next s

/-- R425: DMA. R425: a descriptor that completes frees its channel: the ring position advances, or wraps with the phase
inverted, and the entry is written back with DONE. -/
def Obligations.DmaComplete : Prop :=
  (-- a poll of an entry whose phase is not the channel's waits for the next poll
  (∀ c bs s, Live (.dmaPoll c bs) s → (nth s.dev.host.dma c).running = true → (nth s.dev.host.dma c).cur = none →
    s.dev.host.linkUp = true → s.dev.blockLive 5 c = true → (nth s.dev.host.dma c).pollTick ≤ s.dev.now →
    (bs.headD 0).getLsbD 0 ≠ (nth s.dev.host.dma c).phase →
    exec (.dmaPoll c bs) s = .next (withDev s (s.dev.onDma c fun q => { q with pollTick := s.dev.now + usT q.pollUs }))) ∧
  -- a valid entry is taken; one with fields out of range completes at once with BAD_ARG
  (∀ c bs s, Live (.dmaPoll c bs) s → (nth s.dev.host.dma c).running = true → (nth s.dev.host.dma c).cur = none →
    s.dev.host.linkUp = true → s.dev.blockLive 5 c = true → (nth s.dev.host.dma c).pollTick ≤ s.dev.now →
    (bs.headD 0).getLsbD 0 = (nth s.dev.host.dma c).phase →
    exec (.dmaPoll c bs) s = .next (withDev s (
      let e := dmaParse bs s.dev.host.cfg.relaxed s.dev.now
      let d := s.dev.onDma c fun q => { q with cur := some e }
      if d.dmaOk e then d else d.dmaFinish c 0x21 0))) ∧
  -- a descriptor that brings data into device memory opens its rows (R379): the data stands there, DSTATUS is OK
  (∀ c bs ecc e s, Live (.dmaDescriptorComplete c bs ecc) s → s.dev.host.linkUp = true →
    (nth s.dev.host.dma c).cur = some e → e.op = 1 → bs.length = e.length →
    exec (.dmaDescriptorComplete c bs ecc) s =
      .next (withMem s ((s.dev.activate e.devAddr e.length).dmaFinish c 0 e.length, [.write e.devAddr bs]))) ∧
  -- a descriptor that takes sound data to the host
  (∀ c bs e s, Live (.dmaDescriptorComplete c bs .clean) s → s.dev.host.linkUp = true →
    (nth s.dev.host.dma c).cur = some e → e.op = 2 → s.dram.marked e.devAddr e.length = [] →
    exec (.dmaDescriptorComplete c bs .clean) s =
      .next (withDev s (let d := s.dev.activate e.devAddr e.length
        { d with host := d.host.toHostAs e.relaxed e.hostAddr (memBytes s.dram.mem e.devAddr e.length) }.dmaFinish
          c 0 e.length))) ∧
  -- 100 ms after its start a descriptor is cut with DSTATUS TIMEOUT
  (∀ c e s, Live (.dmaTimeout c) s → (nth s.dev.host.dma c).cur = some e → e.startTick + msT 100 ≤ s.dev.now →
    exec (.dmaTimeout c) s = .next (withMem s (s.dev.dmaCut s.dram c 0x30))) ∧
  -- a read of host memory without completion in the time of Device Control 2 ends with DSTATUS FAULT (the AER bit is log 16)
  (∀ c e s, Live (.pcieCompletionTimeout c) s → (nth s.dev.host.dma c).cur = some e → e.op = 1 →
    e.startTick + usT s.dev.host.cfg.completionUs ≤ s.dev.now →
    exec (.pcieCompletionTimeout c) s =
      .next (withMem s ({ s.dev with host := s.dev.host.aerSet false 14 }.dmaCut s.dram c 0x40))) ∧
  -- a DRAIN that has waited for `WAIT_US` moves the whole records there are, unless an earlier one has the ring
  ∀ c e s, Live (.drainWaitExpiry c) s → (nth s.dev.host.dma c).cur = some e → e.op = 3 → s.dev.host.linkUp = true →
    e.startTick + usT e.waitUs ≤ s.dev.now →
    exec (.drainWaitExpiry c) s = .next (withMem s (s.dev.drain s.dram c e
      (if s.dev.drainWaits c e then 0 else wholeRecords e.length (nth s.dev.recd.rings e.ring).lens) 0 .clean))) ∧
  (∀ (d : Dev) c st n e, (nth d.host.dma c).cur = some e → c < d.host.dma.length →
    ∃ q, nth (d.dmaFinish c st n).host.dma c = q ∧ q.cur = none ∧
      q.index = (if (nth d.host.dma c).entries ≤ (nth d.host.dma c).index + 1 then 0 else (nth d.host.dma c).index + 1) ∧
      q.phase = ((nth d.host.dma c).phase != decide ((nth d.host.dma c).entries ≤ (nth d.host.dma c).index + 1)) ∧
      q.done = (nth d.host.dma c).done + 1 ∧ q.bytes = (nth d.host.dma c).bytes + n ∧
      (∀ k < 8, k ≠ c → nth (d.dmaFinish c st n).host.dma k = nth d.host.dma k) ∧
      (d.dmaFinish c st n).host.hostOut.head? =
        some ((nth d.host.dma c).base + 64 * (nth d.host.dma c).index, false, u8 (boolN (nth d.host.dma c).phase + 2)))

/-- R517 to R522, R533, R534: the mode commands. R404: a write to MODE.MODE_REQ answers in the register itself: BUSY while
an earlier one runs, BAD_ARG for a target that is no mode to request, MODE where the mode does not accept it, and Ready
from Build once no layer is released. -/
def Obligations.ModeCommandsComplete : Prop :=
  (-- `mode.hold` from Build or Ready enters Hold and is logged; in Hold, URGENT raises a standard Hold still in progress
  (∀ m u s x, Starts (.modeHold m u) s x → u ≤ 1 → s.dev.mode.mode ≠ .hold →
    exec (.modeHold m u) s = .next (answered s x ((s.dev.enterHold .command (u = 1) none 1).logMode x s.dev.mode.mode))) ∧
  (∀ m u s x, Starts (.modeHold m u) s x → u ≤ 1 → s.dev.mode.mode = .hold →
    exec (.modeHold m u) s = .next (answered s x 
      (if u = 1 ∧ (s.dev.mode.transition = true ∨ s.dev.mode.urgent = false) then s.dev.urgentHold else s.dev))) ∧
  -- `mode.set` Ready from Build with no layer released, or from Hold with no exposure left and every rail in its window
  (∀ m s x, Starts (.modeSet m 4) s x → s.dev.mode.transition = false →
    (s.dev.mode.mode = .build ∧ s.dev.layers.released = none ∨
      s.dev.mode.mode = .hold ∧ true ∉ s.dev.pins.railBad ∧ ∀ k < 32, (nth s.dev.eng k).exposing = false) →
    exec (.modeSet m 4) s = .next (withDev s
      (((s.dev.toReady 1).logMode x s.dev.mode.mode).respond x.mbx 0 0 0 0 (u32 4)).startBuild)) ∧
  -- `mode.set` Hold from Build
  (∀ m s x, Starts (.modeSet m 6) s x → s.dev.mode.transition = false → s.dev.mode.mode = .build →
    exec (.modeSet m 6) s = .next (withDev s
      (((s.dev.enterHold .command false none 1).logMode x .build).respond x.mbx 0 0 0 0
        (u32 6)).startBuild)) ∧
  -- `mode.set` Build from Ready or Hold, its conditions met: logged, executing, and the entry begins
  (∀ m s x, Starts (.modeSet m 5) s x → s.dev.mode.transition = false → s.dev.mode.mode ≠ .build →
    (s.dev.mode.mode = .hold → true ∉ s.dev.pins.railBad) → s.dev.buildRefusal = none →
    exec (.modeSet m 5) s = .next (withDev s
      ((running s x (s.dev.log x 0x07 0 (u8 s.dev.mode.mode.code) (u8 5)) (.modeSet 5) true).dev.startBuild))) ∧
  -- `mode.standby` with no layer, no transition and no service
  (∀ m w s x, Starts (.modeStandby m w) s x → w < 8 → s.dev.layers.released = none → s.dev.layers.queue = [] →
    s.dev.host.serviceOn = false → s.dev.mode.transition = false →
    exec (.modeStandby m w) s = .next (withMem s
      ((((s.dev.enterStandby s.dram w).1.logMode x s.dev.mode.mode).respond x.mbx 0 0 0 0 []),
        (s.dev.enterStandby s.dram w).2))) ∧
  -- `mode.status`
  (∀ m s x, Starts (.modeStatus m) s x → exec (.modeStatus m) s = .next (answered s x s.dev s.dev.modeReport)) ∧
  -- `mode.budget`: the chip budget alone, in every mode that accepts it
  (∀ m c s x, Starts (.modeBudget m c none) s x → 30000 ≤ c → c ≤ 55000 →
    exec (.modeBudget m c none) s = .next (answered s x
      ({ s.dev with gov := { s.dev.gov with chipBudget := c } }.log x 0x07 1 (s.dev.gov.budgetBytes s.dev.gov.plantBudget)
        ({ s.dev.gov with chipBudget := c }.budgetBytes s.dev.gov.plantBudget))
      ({ s.dev.gov with chipBudget := c }.budgetBytes { s.dev with gov := { s.dev.gov with chipBudget := c } }.plantBudget))) ∧
  -- with the plant budget and factors, in Ready with no layer queued
  (∀ m c p os s x, Starts (.modeBudget m c (some (p, os))) s x → 30000 ≤ c → c ≤ 55000 → s.dev.mode.mode = .ready →
    1000 ≤ p → p ≤ 200000 → (∀ o ∈ os, OarPowerArg.ok s.dev o = true) → s.dev.layers.queue = [] →
    ∃ t, exec (.modeBudget m c (some (p, os))) s = .next t ∧ t.dev.gov.chipBudget = c ∧ t.dev.gov.plantBudget = p ∧
      t.dev.gov.grants = s.dev.gov.grants ∧ t.dev.mode = s.dev.mode ∧ t.dev.layers = s.dev.layers ∧ t.dram = s.dram ∧
      t.dev.gov.power = os.foldl (fun (l : List (Nat × Nat)) o => l.set o.oar (o.rated, o.wallPlug)) s.dev.gov.power ∧
      t.dev.flash.power = t.dev.gov.power) ∧
  -- `mode.leave` and `mode.thermal` report, and clear what they report when asked
  (∀ m c s x, Starts (.modeLeave m c) s x → c ≤ 1 →
    exec (.modeLeave m c) s = .next (answered s x
      (if c = 1 then { s.dev with gov := { s.dev.gov with counts := List.replicate 6 LeaveCount.reset } } else s.dev)
      (u32 s.dev.chipAcct ++ u32 (natOf (ceilRat s.dev.plantAcct)) ++ u32 s.dev.gov.chipBudget ++ u32 s.dev.plantBudget ++
        s.dev.gov.counts.flatMap LeaveCount.bytes))) ∧
  ∀ m c s x, Starts (.modeThermal m c) s x → c ≤ 1 →
    exec (.modeThermal m c) s = .next (answered s x
      (if c = 1 then { s.dev with therm := { s.dev.therm with
        minC := s.dev.therm.c100, maxC := s.dev.therm.c100, changes := 0 } } else s.dev) s.dev.therm.report)) ∧
  (∀ v s, Live (.modeReq v) s → s.dev.host.linkUp = true →
    (s.dev.host.modeReq.busy = true →
      exec (.modeReq v) s = .next (withDev s { s.dev with host := { s.dev.host with
        modeReq := { s.dev.host.modeReq with status := 0x12, detail := 0 } } })) ∧
    (s.dev.host.modeReq.busy = false → v % 16 ∉ [4, 5, 6] →
      exec (.modeReq v) s = .next (withDev s ({ s.dev with host := { s.dev.host with
        modeReq := ⟨v % 16, 0x21, 0, false⟩ } }.raise 35))) ∧
    (s.dev.host.modeReq.busy = false → v % 16 ∈ [4, 5, 6] → s.dev.mode.mode ∈ [.start, .safe] →
      exec (.modeReq v) s = .next (withDev s ({ s.dev with host := { s.dev.host with
        modeReq := ⟨v % 16, 0x10, 0xFF09, false⟩ } }.raise 35))) ∧
    (s.dev.host.modeReq.busy = false → v % 16 = 4 → s.dev.mode.mode = .build → s.dev.mode.transition = false →
      s.dev.layers.released = none →
      exec (.modeReq v) s = .next (withDev s
        ((({ s.dev with host := { s.dev.host with modeReq := ⟨4, 0, 0, true⟩ } }.toReady 2).logMode ⟨17, 0x0C02, 0, 0⟩
          .build).modeReqDone 0 0))))

/-- R543 to R549: the Logbook and spoil commands, and the journal's write to flash. -/
def Obligations.LogCommandsComplete : Prop :=
  -- the records not yet in flash are appended in order; the journal keeps its latest 8192
  (∀ s, Live .logbookFlush s →
    ∃ j, exec .logbookFlush s = .next (withDev s { s.dev with logs := { s.dev.logs with journal := j } }) ∧
      j.length ≤ 8192 ∧ j <:+ s.dev.logs.journal ++ s.dev.logs.chip.filter fun r => s.dev.logs.flushed < r.seq) ∧
  (∀ m f n s x, Starts (.logRead m f n) s x → 1 ≤ n → n ≤ 15 →
    exec (.logRead m f n) s = .next (answered s x s.dev
      (listOf LogRec.bytes ((List.range n).filterMap fun i => s.dev.logs.find (f + i))))) ∧
  -- `log.verify` answers with the first record whose CHAIN does not follow, or all ones
  (∀ m f l s x, Starts (.logVerify m f l) s x → f ≤ l →
    ∃ n, exec (.logVerify m f l) s = .next (answered s x s.dev (u32 n)) ∧
      ((∀ r ∈ s.dev.logs.journal, f ≤ r.seq → r.seq ≤ l → s.dev.logs.chainOk r = true) → n = 0xFFFFFFFF) ∧
      (n ≠ 0xFFFFFFFF → ∃ r ∈ s.dev.logs.journal, r.seq = n ∧ f ≤ n ∧ n ≤ l ∧ s.dev.logs.chainOk r = false)) ∧
  (∀ m c s x, Starts (.logSpoilstat m c) s x → c ≤ 1 →
    exec (.logSpoilstat m c) s = .next (answered s x
      (if c = 1 then { s.dev with logs := { s.dev.logs with overflow := List.replicate 17 0 } } else s.dev)
      ((s.dev.logs.overflow.drop 1).flatMap u32 ++ u32 (s.dev.logs.spoilUsed false) ++ u32 (s.dev.logs.spoilUsed true)))) ∧
  -- a note becomes the newest record, with the host's 32 bytes as its new digest
  (∀ m ds s x, Starts (.logNote m ds) s x →
    exec (.logNote m ds) s = .next (answered s x (s.dev.logDigest x 0 0x13 0 (List.replicate 32 0) ds)
      (u32 s.dev.logs.nextLog))) ∧
  ∀ m so c s x, Starts (.logDescribe m so c) s x → 1 ≤ so → so ≤ 16 →
    exec (.logDescribe m so c) s = .next (answered s x s.dev (textBytes (describe so c)))

/-- R543 to R545: a record created takes the next number and the time, its CHAIN covers its first 96 bytes and the CHAIN
before it, and a record of PF0 or USB is in flash at once. R547 to R549: an error event merges into the newest record of
its kind that is not released; else, with a general place free, it opens a record behind those held, and with no place it
is counted as overflow. -/
def Obligations.LogbookChainsAndSpoilCoalesces : Prop :=
  (∀ (d : Dev) (a : LogArg),
    ∃ r, (d.logRaw a).logs.chip.getLast? = some r ∧ (d.logRaw a).logs.chip.length ≤ 1024 ∧ r.seq = d.logs.nextLog ∧
      (d.logRaw a).logs.nextLog = d.logs.nextLog + 1 ∧ r.timeS = d.time.sec ∧ r.origin = a.origin ∧ r.opcode = a.opcode ∧
      r.oldDigest = a.oldDigest ∧ r.newDigest = a.newDigest ∧
      r.chain = sha256 (r.head ++ d.logs.chain) ∧ (d.logRaw a).logs.chain = r.chain ∧
      ((a.origin = 1 ∨ a.origin = 4) → d.logs.flushed < r.seq → (d.logRaw a).logs.journal.getLast? = some r)) ∧
  (∀ (d : Dev) source inst code info,
    (∀ r, d.logs.spoilMatch source inst code = some r →
      ∃ l, d.spoil source inst code false info = { d with logs := { d.logs with spoil := l } } ∧
        l.length = d.logs.spoil.length ∧ ∀ y ∈ l, ∃ z ∈ d.logs.spoil, y.seq = z.seq ∧
          (if z.seq = r.seq then y.count = min (z.count + 1) 0xFFFFFFFF ∧ y.lastS = d.secLow ∧ y.lastNs = d.nsNow
           else y = z)) ∧
    (d.logs.spoilMatch source inst code = none → d.logs.spoilPlace false = none →
      d.spoil source inst code false info =
        { d with logs := { d.logs with overflow := upd d.logs.overflow source (· + 1) } }) ∧
    (d.logs.spoilMatch source inst code = none → d.logs.spoilUsed false < 4032 →
      (d.spoil source inst code false info).logs.spoilNewest = d.logs.spoilNewest + 1 ∧
      (d.spoil source inst code false info).logs.spoil = d.logs.spoil ++
        [⟨d.logs.spoilNewest + 1, source, inst, code, false, 1, d.secLow, d.nsNow, d.secLow, d.nsNow, info, false⟩]))

/-- R535 to R542, R550, R554: calibration and health. -/
def Obligations.CalCommandsComplete : Prop :=
  -- a run with leave for its first block is ACCEPTED; its record comes at its end (the model's choice, log 156)
  (∀ m k i s x, Starts (.calRun m k i) s x → calBlocks k ≠ [] → k % 2 = 0 → k < 128 → s.dev.layers.released = none →
    s.dev.cal.run = none → (s.dev.request (.cal ((calBlocks k).headD 0)) 4 1000 0).1 = .granted →
    exec (.calRun m k i) s = .next (taken s x
      (let d := (s.dev.request (.cal ((calBlocks k).headD 0)) 4 1000 0).2
       { d with cal := { d.cal with run := some ⟨calBlocks k, i, true, [], s.dev.now, s.dev.cal.blocks⟩ } })
      0 .cal)) ∧
  -- a block that has leave ends: its results stand, its leave is given back, the next block asks
  (∀ p b bs run s, s.dev.awake = true → s.dev.cal.run = some run → run.granted = true → run.blocks = b :: bs →
    run.startTick + msT (calMs b) ≤ s.dev.now → s.dev.mode.mode = .ready →
    exec (.calBlockComplete p) s = .next (withDev s
      (((s.dev.release (isCal b)).calEnter b run.instances (s.dev.calPasses p)).calNext
        { run with blocks := bs, granted := false, results := run.results ++ [(b, s.dev.calPasses p)] }))) ∧
  -- out of Ready it changes no coefficient, and the run ends (the model's choice, log 156)
  (∀ p b bs run s, s.dev.awake = true → s.dev.cal.run = some run → run.granted = true → run.blocks = b :: bs →
    run.startTick + msT (calMs b) ≤ s.dev.now → s.dev.mode.mode ≠ .ready →
    exec (.calBlockComplete p) s = .next (withDev s ((s.dev.release (isCal b)).calEnd run 0x31 0))) ∧
  -- in COMPAT no instance passes while the current through REXT is off; else those of the mask do (R552)
  (∀ (d : Dev) p, d.calPasses p = if d.boot.compat = true ∧ d.pins.rextOff = true then 0 else p) ∧
  -- a working coefficient lies on the line between the sets that bracket the temperature, and stays within the outer ones
  (∀ (cs : List Int) (i : Nat) (c : Int), i < 4 → -2000 + 3000 * (i : Int) ≤ c → c ≤ -2000 + 3000 * ((i : Int) + 1) →
    calLine cs c = ((nth cs i : Int) : Rat) +
      ((nth cs (i + 1) - nth cs i : Int) : Rat) * ((c : Rat) - (-2000 + 3000 * (i : Rat))) / 3000) ∧
  (∀ (cs : List Int) (c : Int), (c ≤ -2000 → calLine cs c = ((nth cs 0 : Int) : Rat)) ∧
    (10000 ≤ c → calLine cs c = ((nth cs 4 : Int) : Rat))) ∧
  (∀ m s x, Starts (.calStatus m) s x →
    exec (.calStatus m) s = .next (answered s x s.dev (s.dev.cal.blocks.flatMap fun l => l.flatMap CalInst.bytes))) ∧
  -- `cal.factory` restores every temperature set of the blocks named
  (∀ m k s x, Starts (.calFactory m k) s x → calBlocks k ≠ [] → k % 2 = 0 → k < 128 → s.dev.layers.released = none →
    s.dev.cal.run = none →
    ∃ t, exec (.calFactory m k) s = .next t ∧ t.dram = s.dram ∧ t.dev.cal.wearUv = 0 ∧ t.dev.eng = s.dev.eng ∧
      t.dev.logs.nextLog = s.dev.logs.nextLog + 1 ∧
      t.dev.cal.blocks = ({ s.dev.cal with
        blocks := s.dev.cal.blocks.mapIdx fun i (l : List CalInst) => if k.testBit (i + 1) then l.map CalInst.factory else l }.interp
          s.dev.therm.c100 fun i => (nth s.dev.eng i).exposing).blocks) ∧
  (∀ m f n s x, Starts (.healthRecords m f n) s x → 1 ≤ n → n ≤ 31 →
    exec (.healthRecords m f n) s = .next (answered s x s.dev
      (listOf HealthRec.bytes (s.dev.logs.health.filter fun r => f ≤ r.seq ∧ r.seq < f + n)))) ∧
  (∀ m s x, Starts (.healthReport m) s x → exec (.healthReport m) s = .next (answered s x s.dev s.dev.healthReport)) ∧
  -- `health.replan` is ACCEPTED when none runs, and the plan changes when it is done
  (∀ m s x, Starts (.healthReplan m) s x → s.dev.cal.replanSince = none →
    exec (.healthReplan m) s = .next (taken s x { s.dev with cal := { s.dev.cal with replanSince := some s.dev.now } }
      1000000 .replan)) ∧
  ∀ s, Live .replanComplete s → s.dev.coxRuns = true → s.dev.cal.replanSince ≠ none →
    exec .replanComplete s = .next (withDev s s.dev.replanNow)

/-- R376 to R394: the `mem` commands. -/
def Obligations.MemCommandsComplete : Prop :=
  -- `mem.fence` puts every posted write into DRAM
  (∀ m s x, Starts (.memFence m) s x →
    ∃ t, exec (.memFence m) s = .next t ∧ t = withMem s (((s.dev.applyUnfenced s.dram).1.respond x.mbx 0 0 0 0 []),
      (s.dev.applyUnfenced s.dram).2) ∧ t.dev.host.unfenced = []) ∧
  -- `mem.config` with no layer: the settings, logged; a new order moves the contents to their new addresses
  (∀ m o k sc ce r s x, Starts (.memConfig m o k sc ce r) s x → o ≤ 3 → 6 ≤ k → k ≤ 16 → 1 ≤ sc → sc ≤ 168 →
    (ce = 0 ∨ 10 ≤ ce ∧ ce ≤ 1000000) → 1 ≤ r → r ≤ 8 → s.dev.queueEmpty = true →
    (o = s.dev.mc.order ∨ ∀ g ∈ s.dev.recd.rings, g.configured = false) →
    exec (.memConfig m o k sc ce r) s = .next (
      let mc := { s.dev.mc with order := o, k := k, scrubH := sc, ceLimit := ce, migRate := r }
      withMem s ((({ s.dev with mc := mc }.log x 0x09 0 s.dev.mc.confBytes mc.confBytes).respond x.mbx 0 0 0 0 mc.confBytes),
        if o = s.dev.mc.order then [] else [.remap s.dev.mc.order o s.dev.mc.rowBits, .renew (s.dev.mc.hostLimit / 64)]))) ∧
  (∀ m a b c s x, Starts (.memQos m a b c) s x → 1 ≤ a → a ≤ 15 → 1 ≤ b → b ≤ 15 → 1 ≤ c → c ≤ 15 →
    exec (.memQos m a b c) s = .next (answered s x
      ({ s.dev with mc := { s.dev.mc with qos := [a, b, c] } }.log x 0x09 1 (s.dev.mc.qos.flatMap u32) ([a, b, c].flatMap u32))
      ([a, b, c].flatMap u32))) ∧
  (∀ m s x, Starts (.memStatus m) s x → exec (.memStatus m) s = .next (answered s x s.dev s.dev.mc.report)) ∧
  (∀ m f n c s x, Starts (.memErrlog m f n c) s x → c ≤ 1 → 1 ≤ n → n ≤ 62 →
    exec (.memErrlog m f n c) s = .next (answered s x
      (if c = 1 then { s.dev with mc := { s.dev.mc with errs := [] } } else s.dev)
      (listOf ErrRec.bytes ((s.dev.mc.errs.drop f).take n)))) ∧
  -- `mem.migrate` of a working rank with leave: the rank is MIGRATING, the command ACCEPTED
  (∀ m c r s x, Starts (.memMigrate m c r) s x → c < 2 → r < (nth s.dev.mc.chans c).roles.length →
    (nth s.dev.mc.chans c).hasSpare = true → (s.dev.request (.migration c) 4 s.dev.mc.migDraw 0).1 = .granted →
    exec (.memMigrate m c r) s = .next (taken s x
      (let d := (s.dev.request (.migration c) 4 s.dev.mc.migDraw 0).2.markMigration c ((nth s.dev.mc.chans c).roles.getD r 0)
          none true
       d.log x 0x09 c s.dev.mc.mapBytes d.mc.mapBytes) 0 (.migrate c))) ∧
  -- `mem.unretire` of a RETIRED rank begins its test
  (∀ m c r s x, Starts (.memUnretire m c r) s x → c < 2 → r < 3 → nth (nth s.dev.mc.chans c).ranks r = .retired →
    s.dev.queueEmpty = true → (nth s.dev.mc.chans c).mig = none → (nth s.dev.mc.chans c).testing = none →
    exec (.memUnretire m c r) s = .next (taken s x (s.dev.onChan c fun ch => { ch with testing := some r }) 0 (.unretire c))) ∧
  -- `mem.retrain` whose pauses all have leave or wait for it
  (∀ m k s x, Starts (.memRetrain m k) s x → 1 ≤ k → k < 16 → (s.dev.askPauses (bitsOf 4 k)).1 = none →
    exec (.memRetrain m k) s = .next (taken s x (s.dev.askPauses (bitsOf 4 k)).2.2
      (if (s.dev.askPauses (bitsOf 4 k)).2.1 then
        ((((s.dev.askPauses (bitsOf 4 k)).2.2.gov.waiting.find? fun l => (bitsOf 4 k).any fun c => isRetraining c l.who).map
          (s.dev.askPauses (bitsOf 4 k)).2.2.leaveHint).getD 0) else 0) (.retrain (17 * k)))) ∧
  -- `mem.inject` lays an error into a burst of host memory
  ∀ m a k s x, Starts (.memInject m a k) s x → (k = 1 ∨ k = 2) → a + 64 ≤ s.dev.mc.hostLimit →
    exec (.memInject m a k) s = .next (withMem s
      (((s.dev.log x 0x09 2 [] (u64 a ++ u32 k)).respond x.mbx 0 0 0 0 []), [.inject (burstOf a) (k = 2)]))

/-- R377 to R389: what the DRAM controller does of its own. -/
def Obligations.MemEventsComplete : Prop :=
  -- a refresh that is due, at the rate of the temperature band; the next one is due 3.9 µs later at 1×
  (∀ s, Live .dramRefresh s → s.dev.mc.refreshDue ≤ (s.dev.now : Rat) → s.dev.blockLive 8 0 = true →
    exec .dramRefresh s = .next (withDev s { s.dev with mc := { s.dev.mc with
      refresh := refreshRate s.dev.therm.band
      refreshCount := s.dev.mc.refreshCount + 1
      refreshDue := pace s.dev.mc.refreshDue s.dev.now (78 / (5 * refreshRate s.dev.therm.band)) } })) ∧
  (∀ b, refreshRate b = if b < 2 then 1 else if b = 2 then 2 else 4) ∧
  -- a patrol read of a working rank that has leave and meets nothing: the burst's row opens, the patrol moves on, round the
  -- end; the leave is given back
  (∀ s, s.dev.awake = true → s.dev.mc.scrubDue ≤ (s.dev.now : Rat) → s.dev.blockLive 8 0 = true → s.dev.holdsLeave isScrub = true →
    s.dev.mc.scrubPos < s.dev.mc.workBursts → burstOf (64 * s.dev.mc.scrubPos) ∉ s.dram.poison →
    (∀ e ∈ s.dram.injected, e.1 ≠ burstOf (64 * s.dev.mc.scrubPos)) →
    exec (.patrolScrubRead .clean) s = .next (withDev s ((({ s.dev with mc := { s.dev.mc with
      scrubPos := if s.dev.mc.scrubPos + 1 < s.dev.mc.allBursts then s.dev.mc.scrubPos + 1 else 0
      scrubDue := pace s.dev.mc.scrubDue s.dev.now
        ((s.dev.mc.scrubH * sT 3600 : Nat) / (max 1 s.dev.mc.allBursts : Nat)) } }.activate
          (64 * s.dev.mc.scrubPos) 64)).release isScrub))) ∧
  -- a pause that is due and has leave, outside panic
  (∀ c ds s, Live (.retrainingPause c ds none) s → s.dev.pauseDue c = true → s.dev.blockLive 8 0 = true →
    s.dev.mc.panic0 = false → s.dev.mc.panic1 = false → s.dev.holdsLeave (isRetraining c) = true →
    exec (.retrainingPause c ds none) s = .next (withDev s (s.dev.pause c ds))) ∧
  -- one whose check meets an uncorrectable error in its subchannel (R386)
  (∀ c ds a s, Live (.retrainingPause c ds (some a)) s → s.dev.pauseDue c = true → s.dev.blockLive 8 0 = true →
    s.dev.mc.panic0 = false → s.dev.mc.panic1 = false → s.dev.holdsLeave (isRetraining c) = true →
    a / 64 % 4 = c → a < s.dev.mc.capacity →
    exec (.retrainingPause c ds (some a)) s = .next (withMem s ((s.dev.pause c ds).uncorrectable 7 a))) ∧
  -- in panic it is postponed
  (∀ c ds k s, Live (.retrainingPause c ds k) s → s.dev.pauseDue c = true → s.dev.blockLive 8 0 = true →
    (s.dev.mc.panic0 = true ∨ s.dev.mc.panic1 = true) →
    exec (.retrainingPause c ds k) s = .next (withDev s (s.dev.postpone c))) ∧
  -- a pause postponed for more than 1 s is taken outside the panic of port 0, counted and recorded; its deltas are free
  (∀ c t s, Live (.retrainLate c) s → nth s.dev.mc.dueSince c = some t → t + sT 1 < s.dev.now → s.dev.mc.panic0 = false →
    ∃ (d : Dev) (ds : List Int), ds.length = 40 ∧ d = { s.dev with free := d.free } ∧
      exec (.retrainLate c) s = .next (withDev s
        (({ d with mc := { d.mc with retrainLate := d.mc.retrainLate + 1 } }.errRec 6 7 (2 ^ 64 - 1) 0xFF
          ⟨c, 0, 0, 0, 0⟩).pause c ds))) ∧
  -- a chunk of a migration with leave, at its time, is copied; the last one completes the migration
  (∀ c f g s, Live (.migrationChunkCopy c f) s → (nth s.dev.mc.chans c).mig = some g → s.dev.blockLive 8 0 = true →
    s.dev.holdsLeave (isMigration c) = true → g.due ≤ (s.dev.now : Rat) →
    exec (.migrationChunkCopy c f) s = .next (withMem s (
      let r := (s.dev.openChunk c (g.chunk g.copied) g.rank).copyErrors s.dram c (g.chunk g.copied) g.rank f
      let d := r.1.onChan c fun ch => { ch with mig := ch.mig.map fun x =>
        { x with copied := x.copied + 1, due := pace x.due s.dev.now s.dev.mc.chunkTicks } }
      (if g.copied + 1 < g.total then d else d.migrated c g.rank, r.2)))) ∧
  -- where its reads find no error and none is injected, the copy meets none
  (∀ (d : Dev) (m : Dram) c n r, m.injected = [] → d.copyErrors m c n r [] = (d, [])) ∧
  -- the test of a RETIRED rank ends
  ∀ c p r s, Live (.unretireTestComplete c p) s → (nth s.dev.mc.chans c).testing = some r → c < s.dev.mc.chans.length →
    (∀ j ∈ s.dev.host.jobs, j.kind ≠ .unretire c) →
    ∃ t, exec (.unretireTestComplete c p) s = .next t ∧ t = withDev s { s.dev with mc := t.dev.mc } ∧
      (nth t.dev.mc.chans c).testing = none ∧
      (nth t.dev.mc.chans c).ranks = (if p then (nth s.dev.mc.chans c).ranks.set r .spare else (nth s.dev.mc.chans c).ranks)

/-- R456, R464, R469, R475, R480: the `safe` commands. -/
def Obligations.SafeCommandsComplete : Prop :=
  -- `safe.enter`: from every other mode the device goes to Safe; in Safe nothing is left to do
  (∀ m s x, Starts (.safeEnter m) s x →
    exec (.safeEnter m) s =
      .next (answered s x (if s.dev.mode.mode = .safe then s.dev else s.dev.enterSafe 0x05 0xFF))) ∧
  -- `safe.stop` trips the oars of its mask with cause 0x25
  (∀ m k s x, Starts (.safeStop m k) s x → s.dev.badOarMask k = false →
    exec (.safeStop m k) s = .next (answered s x
      ((bitsOf 32 k).foldl (fun d i => if d.oarExists i then d.trip i 0x25 0 0 else d) s.dev))) ∧
  -- `safe.rearm`: the oars of the mask in T leave T once every one's cause is gone
  (∀ m k s x, Starts (.safeRearm m k) s x → s.dev.badOarMask k = false →
    (∀ i < 32, Nat.testBit k i = true → s.dev.inT i = true → s.dev.causeGone i = true) →
    exec (.safeRearm m k) s = .next (answered s x
      ((s.dev.leaveT ((bitsOf 32 k).filter s.dev.inT)).logTrips x s.dev.ump.trip)
      (u32 (maskOf ((bitsOf 32 k).filter s.dev.inT))))) ∧
  -- `safe.clear` with no condition left: HOST_STOP ends, and the clock cut unless a PLL pair is dead; the device goes to
  -- Ready, trips end whose cause is gone
  (∀ m s x, Starts (.safeClear m) s x → s.dev.clearRefusal = none →
    exec (.safeClear m) s = .next (answered s x
      (((((({ s.dev with
          host := { s.dev.host with hostStop := false }
          ump := { s.dev.ump with clockCut := s.dev.clk.fabric.dead || s.dev.clk.exposure.dead } }).toReady 1).leaveT
        ((oars32.filter s.dev.inT).filter s.dev.causeGone)).event 9 0 0xFF 0 0 0).safeStart).logTrips x s.dev.ump.trip))) ∧
  -- `safe.stage` of a sound image
  (∀ m a c s x, Starts (.safeStage m a 8256 c) s x → a + 8256 ≤ s.dev.mc.hostLimit → s.dram.marked a 8256 = [] →
    crc32c (memBytes s.dram.mem a 8256) = c →
    s.dev.imageFailure ⟨memBytes s.dram.mem a 8256, sha256 (memBytes s.dram.mem a 8256)⟩ = none →
    exec (.safeStage m a 8256 c) s = .next (answered s x
      { s.dev.activate a 8256 with ump := { s.dev.ump with
        staged := some ⟨memBytes s.dram.mem a 8256, sha256 (memBytes s.dram.mem a 8256)⟩ } }
      (sha256 (memBytes s.dram.mem a 8256)))) ∧
  -- `safe.commit` of the staged set under its digest adopts it
  (∀ m g set s x, Starts (.safeCommit m g) s x → s.dev.layers.released = none → s.dev.ump.staged = some set →
    s.dev.commitRefusal set g = none →
    exec (.safeCommit m g) s = .next (answered s x
      ((s.dev.adoptSet set).logDigest x 2 0x06 0 ((s.dev.ump.active.map (·.digest)).getD (sha256 [])) set.digest) set.digest)) ∧
  (∀ m s x, Starts (.safeDiscard m) s x →
    exec (.safeDiscard m) s = .next (answered s x { s.dev with ump := { s.dev.ump with staged := none } })) ∧
  -- reports
  (∀ m w s x, Starts (.safeQuery m w) s x → w ≤ 1 →
    exec (.safeQuery m w) s = .next (answered s x s.dev
      (((if w = 0 then s.dev.ump.active else s.dev.ump.staged).map (·.image)).getD []))) ∧
  (∀ m s x, Starts (.safeStatus m) s x → exec (.safeStatus m) s = .next (answered s x s.dev s.dev.safeReport)) ∧
  (∀ m f n s x, Starts (.safeEvents m f n) s x → 1 ≤ n → n ≤ 62 →
    exec (.safeEvents m f n) s = .next (answered s x s.dev
      (listOf UmpEvent.bytes ((List.range n).filterMap fun i => s.dev.ump.events.find? (·.seq = f + i))))) ∧
  (∀ m r s x, Starts (.safeHoldpolicy m r) s x → r ≤ 1 →
    exec (.safeHoldpolicy m r) s = .next (answered s x
      ({ s.dev with ump := { s.dev.ump with faultResume := r = 1 } }.log x 0x07 2 (u32 (boolN s.dev.ump.faultResume)) (u32 r))
      (u32 r))) ∧
  -- `safe.proof` queues the oars that can be proved and waits for them; with none it answers at once
  (∀ m k s x, Starts (.safeProof m k) s x → s.dev.badOarMask k = false →
    ((bitsOf 32 k).filter fun i => s.dev.unprovable i = 0) = [] →
    exec (.safeProof m k) s = .next (answered s x s.dev (s.dev.proofReport k))) ∧
  ∀ m k ks s x, Starts (.safeProof m k) s x → s.dev.badOarMask k = false →
    ((bitsOf 32 k).filter fun i => s.dev.unprovable i = 0) = ks → ks ≠ [] →
    exec (.safeProof m k) s = .next (running s x
      (let d := s.dev.queueProofs ks
       { d with ump := { d.ump with proofResults := d.ump.proofResults.filter fun r => ! ks.contains r.1 } }) (.proof k) true)

/-- R456, R460, R461: the safety inputs. R19, R24, R452, R453, R467, R470 to R472: heartbeats, votes and proofs. -/
def Obligations.UmpireEventsComplete : Prop :=
  (-- an ESTOP input that goes low brings the running device to Safe with its own cause
  (∀ b s, s.dev.awake = true → (if b then s.dev.pins.estopB else s.dev.pins.estopA) = true →
    exec (.estopInputChange b false) s = .next (withDev s
      ((({ s.dev with pins := if b then { s.dev.pins with estopB := false } else { s.dev.pins with estopA := false } }).discrepancy).enterSafe
        (if b then 0x02 else 0x01) 0xFF))) ∧
  -- one that goes high changes the pin and the discrepancy watch alone
  (∀ b s, (if b then s.dev.pins.estopB else s.dev.pins.estopA) = false →
    exec (.estopInputChange b true) s = .next (withDev s
      (({ s.dev with pins := if b then { s.dev.pins with estopB := true } else { s.dev.pins with estopA := true } }).discrepancy))) ∧
  -- inputs that disagree for longer than DISC_MS latch
  (∀ t s, Live .discrepancyLatch s → s.dev.ump.disagreeSince = some t → s.dev.ump.latched = false →
    t + msT s.dev.ump.discMs < s.dev.now →
    exec .discrepancyLatch s = .next (withDev s
      ({ s.dev with ump := { s.dev.ump with latched := true, bothLow := false } }.event 0xB 0x0B 0xFF 0 0 0))) ∧
  -- the interlock opening in Build or Hold brings Safe; in Ready every cut path opens and Safe is not entered
  (∀ s, s.dev.awake = true → s.dev.pins.intlk = true → (s.dev.mode.mode = .build ∨ s.dev.mode.mode = .hold) →
    exec (.intlkInputChange false) s = .next (withDev s
      ({ s.dev with pins := { s.dev.pins with intlk := false } }.enterSafe 0x03 0xFF))) ∧
  (∀ s, s.dev.awake = true → s.dev.pins.intlk = true → s.dev.mode.mode = .ready → s.dev.mode.entry = none →
    ∃ t, exec (.intlkInputChange false) s = .next t ∧ t.dev.mode.mode = .ready ∧ t.dev.pins.intlk = false ∧
      t.dev.ump.closed = 0 ∧ t.dram = s.dram) ∧
  (∀ s, s.dev.pins.intlk = false →
    exec (.intlkInputChange true) s = .next (withDev s { s.dev with pins := { s.dev.pins with intlk := true } })) ∧
  -- a laser alarm trips an oar whose entry enables it
  (∀ k set s, Live (.lalmLow k true) s → s.dev.ump.active = some set → s.dev.oarExists k = true → set.oarEn k = true →
    (set.field k 1 1).testBit 1 = true →
    exec (.lalmLow k true) s = .next (withDev s
      ((s.dev.onSafe k fun o => { o with lalmLow := true, lalmSince := s.dev.now }).trip k 0x24 0 0))) ∧
  -- its end trips nothing
  (∀ k s, Live (.lalmLow k false) s →
    exec (.lalmLow k false) s = .next (withDev s (s.dev.onSafe k fun o => { o with lalmLow := false, lalmSince := s.dev.now }))) ∧
  -- a monitor sample within tolerance clears the count; the 80th in a row outside trips with cause 0x23
  (∀ k c s, Live (.monitorSample k c) s → s.dev.ump.active = none →
    exec (.monitorSample k c) s = .next (withDev s { s.dev with
      melt := upd s.dev.melt k fun m => { m with monSamples := (c :: m.monSamples).take 4 } })) ∧
  ∀ k c set tol exp s, Live (.monitorSample k c) s → s.dev.ump.active = some set → s.dev.oarExists k = true →
    set.oarEn k = true → (set.field k 1 1).testBit 2 = true →
    exp = set.expected k ((nth s.dev.ump.oars k).dacLine.getD (set.field k 18 2) 0) →
    tol = (set.field k 6 2 : Rat) + (set.field k 16 1 : Rat) * exp / 100 →
    exec (.monitorSample k c) s = .next (withDev s (
      let n := if tol < |(c : Rat) - exp| then (nth s.dev.ump.oars k).monCnt + 1 else 0
      let d := ({ s.dev with melt := upd s.dev.melt k fun m => { m with monSamples := (c :: m.monSamples).take 4 } }).onSafe k
        fun o => { o with monCnt := n }
      if 80 ≤ n then d.trip k 0x23 (roundRat ((c : Rat) - exp)) (roundRat tol) else d))) ∧
  ((∀ c s, Live (.coxHeartbeat c) s → s.dev.coxClocked = false → exec (.coxHeartbeat c) s = .next s) ∧
  (∀ c s, Live (.coxHeartbeat c) s → s.dev.coxClocked = true →
    exec (.coxHeartbeat c) s = .next (withDev s { s.dev with ump := { s.dev.ump with
      heartbeats := s.dev.ump.heartbeats.set c s.dev.now, hbMissing := s.dev.ump.hbMissing.filter (· ≠ c) } })) ∧
  -- no core's heartbeat for 100 µs: Safe with cause 6; for 1 s: the watchdog output
  (∀ s, Live .heartbeatLoss s → s.dev.ump.hbWatch = true → (∀ t ∈ s.dev.ump.heartbeats, t + usT 100 < s.dev.now) →
    s.dev.mode.mode ≠ .safe → exec .heartbeatLoss s = .next (withDev s (s.dev.enterSafe 0x06 0xFF))) ∧
  (∀ s, Live .heartbeatAbsent1s s → s.dev.ump.hbWatch = true → (∀ t ∈ s.dev.ump.heartbeats, t + sT 1 < s.dev.now) →
    exec .heartbeatAbsent1s s = .next (withDev s (s.dev.assertWdog 0x06))) ∧
  -- a single core's heartbeat missing: the core leaves service, with an event and a spoil record
  (∀ c s, Live (.coxCoreMissing c) s → s.dev.ump.hbWatch = true → c ∉ s.dev.ump.hbMissing →
    nth s.dev.ump.heartbeats c + usT 100 < s.dev.now →
    exec (.coxCoreMissing c) s = .next (withDev s
      ((({ s.dev with
        ump := { s.dev.ump with hbMissing := s.dev.ump.hbMissing ++ [c] }
        boot := { s.dev.boot with
          coxCores := if s.dev.boot.coxCores.testBit c then s.dev.boot.coxCores - 2 ^ c else s.dev.boot.coxCores } }).event
            0xD 0 0xFF 0 0 c).spoil 0x01 c 0x003 false 0))) ∧
  -- a core whose liveness is lost leaves service; a core that differs leaves at its third comparison in a row
  (∀ c s, Live (.voteLivenessLoss c) s → (nth s.dev.ump.cores c).inService = true →
    exec (.voteLivenessLoss c) s = .next (withDev s (s.dev.coreLeaves c))) ∧
  (∀ s, s.dev.awake = true →
    exec (.voteComparison none) s = .next (withDev s ({ s.dev with ump := { s.dev.ump with
      cores := s.dev.ump.cores.map fun x => { x with differs := 0 } } } : Dev).castVotes.openUnvoted)) ∧
  (∀ c s, s.dev.awake = true → (nth s.dev.ump.cores c).differs < 2 → c < s.dev.ump.cores.length →
    exec (.voteComparison (some c)) s = .next (withDev s ({ s.dev with ump := { s.dev.ump with
      cores := s.dev.ump.cores.mapIdx fun i x => { x with differs := if i = c then x.differs + 1 else 0 } } } : Dev).castVotes.openUnvoted)) ∧
  (∀ c s, s.dev.awake = true → (nth s.dev.ump.cores c).differs = 2 → (nth s.dev.ump.cores c).inService = true →
    c < s.dev.ump.cores.length →
    exec (.voteComparison (some c)) s = .next (withDev s (({ s.dev with ump := { s.dev.ump with
      cores := s.dev.ump.cores.mapIdx fun i x => { x with differs := if i = c then x.differs + 1 else 0 } } } : Dev).castVotes.openUnvoted.coreLeaves
        c))) ∧
  -- R452: a path for which fewer than two live votes say closed opens, every other stays as it is
  (∀ (d : Dev) k, k < 32 → d.openUnvoted.ump.closed.getLsbD k = (d.ump.closed.getLsbD k && d.ump.votesClosed k)) ∧
  (∀ s, Live .umpireTimeResync s →
    exec .umpireTimeResync s = .next (withDev s { s.dev with ump := { s.dev.ump with timeSkew := 0 } })) ∧
  -- a proof that is due starts with its first step: the path opens and LEN, LGATE and the DAC go low
  (∀ k s, Live (.proofStart k) s → s.dev.ump.proof = none → s.dev.provable k = true → s.dev.proofDue k = true →
    s.dev.allOpen = false → (nth s.dev.eng k).cur = none →
    ∃ t, exec (.proofStart k) s = .next t ∧ t.dev.ump.proof = some ⟨k, 1⟩ ∧
      t.dev.ump.closed = s.dev.ump.closed &&& ~~~ BitVec.ofNat 32 (2 ^ k) ∧ t.dev.ump.trip = s.dev.ump.trip ∧
      t.dev.mode = s.dev.mode ∧ t.dram = s.dram ∧
      t.dev.eng = upd s.dev.eng k fun e =>
        { e with len := false, lenTick := s.dev.now, lenSettled := false, lgate := false, dac := 0 }) ∧
  -- each of its steps that passes in time leads to the next, the fifth to its end
  (∀ k n d s, Live (.proofStep k true d) s → s.dev.ump.proof = some ⟨k, n⟩ → n < 5 → (2 ≤ n → n ≤ 4 → d ≤ proofLimit n) →
    exec (.proofStep k true d) s =
      .next (withDev s { s.dev with ump := { s.dev.ump with proof := some ⟨k, n + 1⟩ } })) ∧
  (∀ k d s, Live (.proofStep k true d) s → s.dev.ump.proof = some ⟨k, 5⟩ →
    exec (.proofStep k true d) s = .next (withDev s (s.dev.proofPassed k))) ∧
  -- a failed step ends in Safe with the watchdog
  (∀ k n d s, Live (.proofStep k false d) s → s.dev.ump.proof = some ⟨k, n⟩ →
    exec (.proofStep k false d) s = .next (withDev s (s.dev.proofFailed k n d))) ∧
  -- R19: with the engine's outputs low, P2 alone raises LGATE, P4 alone LEN, and P3 alone drives the DAC
  ∀ k n (d : Dev), d.ump.proof = some ⟨k, n⟩ → (nth d.eng k).lgate = false → (nth d.eng k).len = false →
    (nth d.eng k).dac = 0 →
    d.lgatePad k = decide (n = 2) ∧ d.lenPad k = decide (n = 4) ∧ d.dacPad k = if n = 3 then d.ump.proofCode else 0)

/-- R428 to R450: the `time` commands. -/
def Obligations.TimeCommandsComplete : Prop :=
  (∀ m a s x, Starts (.timePort m a) s x → TimePortArg.ok a = true →
    exec (.timePort m a) s = .next (
      let d := s.dev.onEth a.port fun e =>
        { e with mac := a.mac, vlan := a.vlan, ipv4 := a.ipv4, txCorr := a.txCorr, rxCorr := a.rxCorr }
      answered s x (d.log x 0x08 a.port ((nth s.dev.time.eth a.port).bytes a.port) ((nth d.time.eth a.port).bytes a.port))
        ((nth d.time.eth a.port).bytes a.port))) ∧
  -- a domain starts afresh with its new setting, and the steering domain is chosen again
  (∀ m a s x, Starts (.timeDomain m a) s x → TimeDomainArg.ok a = true →
    exec (.timeDomain m a) s = .next (answered s x
      ((s.dev.setDomain a).log x 0x08 (0x10 + a.domain) (TimeDomainArg.bytes (s.dev.dom a.domain).cfg)
        (TimeDomainArg.bytes a)) (TimeDomainArg.bytes a))) ∧
  (∀ m b st l w n s x, Starts (.timeServo m b st l w n) s x → 10 ≤ b → b ≤ 10000 → 1000 ≤ st → st ≤ 1000000000 →
    10 ≤ l → l ≤ 100000 → 1 ≤ w → w ≤ 500 → 1 ≤ n → n ≤ 100 →
    exec (.timeServo m b st l w n) s = .next (
      let t := { s.dev.time with servoBw := b, stepNs := st, lockNs := l, slewPpm := w, blendS := n }
      answered s x ({ s.dev with time := t }.log x 0x08 0x20 s.dev.time.servoBytes t.servoBytes) t.servoBytes)) ∧
  -- `time.gang` with no layer: the gang, its ports, its skew limit; what was known of others is forgotten
  (∀ m n k p r w s x, Starts (.timeGang m n k p r w) s x → 1 ≤ n → n ≤ 4 → k < n → p ≤ 2 → r ≤ 1 → 100 ≤ w →
    w ≤ 100000 → s.dev.boot.compat = false → s.dev.queueEmpty = true →
    exec (.timeGang m n k p r w) s = .next (
      let t := { s.dev.time with
        gangSize := n, deviceNo := k, gangPorts := p, recoveredRef := decide (r = 1), skewMax := w
        peers := s.dev.time.peers.mapIdx fun i q => if i < n && i ≠ k then q else Peer.reset }
      answered s x ({ s.dev with time := t }.log x 0x08 0x21 s.dev.time.gangBytes t.gangBytes) t.gangBytes)) ∧
  -- `time.set` where no domain can steer: device time takes the value at once, its record has the origin of a step (R439)
  (∀ m sec ns s x, Starts (.timeSet m sec ns) s x → ns < 1000000000 → s.dev.time.gangSize ≤ 2 →
    (∀ k < 2, s.dev.time.canSteer k = false) → s.dev.layers.released = none →
    exec (.timeSet m sec ns) s = .next (answered s x
      (let d := s.dev.stepTime ((sec : Rat) * 1000000000 + ns - s.dev.time.ns64)
       d.logAs x 5 0 0x08 0 (sha256 s.dev.time.bytes) (sha256 d.time.bytes)) (u64 sec ++ u32 ns))) ∧
  -- with a layer released it waits for the close of the fence
  (∀ m sec ns l s x, Starts (.timeSet m sec ns) s x → ns < 1000000000 → s.dev.time.gangSize ≤ 2 →
    (∀ k < 2, s.dev.time.canSteer k = false) → s.dev.layers.released = some l →
    exec (.timeSet m sec ns) s = .next (answered s x
      { s.dev with time := { s.dev.time with
        deferredStep := some (roundRat (((sec : Rat) * 1000000000 + ns - s.dev.time.ns64) * 256)) } } (u64 sec ++ u32 ns))) ∧
  (∀ m k s x, Starts (.timeSelect m k) s x → k ≤ 2 →
    exec (.timeSelect m k) s = .next (
      let d := ({ s.dev with time := { s.dev.time with select := k } }).chooseSteer
      answered s x (d.log x 0x08 0x23 (u32 s.dev.time.select) (u32 k)) (u32 d.time.steerCode))) ∧
  (∀ m c s x, Starts (.timeStatus m c) s x → c ≤ 1 →
    exec (.timeStatus m c) s = .next (answered s x
      (if c = 1 then { s.dev with time := { s.dev.time with eth := s.dev.time.eth.map EthPort.cleared } } else s.dev)
      s.dev.time.report)) ∧
  ∀ m c s x, Starts (.timePeers m c) s x → c ≤ 1 →
    exec (.timePeers m c) s = .next (answered s x
      (if c = 1 then { s.dev with time := { s.dev.time with
        peers := s.dev.time.peers.map fun p => { p with applied := 0, discarded := 0, dropped := 0 } } } else s.dev)
      s.dev.peerReport)

/-- R433 to R441: PTP messages and the events of a domain. R428, R443 to R448: gang frames and the rest of what an
Ethernet port carries. -/
def Obligations.EthernetEventsComplete : Prop :=
  (-- a one-step Sync of a SLAVE domain's master gives an offset and asks for the delay
  (∀ k (y : SyncMsg) s, Live (.ptpSync k y) s → y.kind = .oneStep → (s.dev.dom k).slave = true → (s.dev.dom k).follows y = true →
    (nth s.dev.time.eth (s.dev.dom k).cfg.port).up = true →
    exec (.ptpSync k y) s = .next (withDev s (
      let e := nth s.dev.time.eth (s.dev.dom k).cfg.port
      ((((s.dev.countRx (s.dev.dom k).cfg.port 0).onDom k fun c =>
        { c with t1 := y.t1, t2 := stampOf y.t2 e.rxCorr, t3 := stampOf y.t3 e.txCorr, await := false, asked := true }).sendDelayReq
          k).newOffset k (stampOf y.t2 e.rxCorr - y.t1 - (s.dev.dom k).mpd))))) ∧
  -- a two-step Sync waits for its Follow_Up, which gives the offset
  (∀ k (y : SyncMsg) s, Live (.ptpSync k y) s → y.kind = .twoStep → (s.dev.dom k).slave = true → (s.dev.dom k).follows y = true →
    (nth s.dev.time.eth (s.dev.dom k).cfg.port).up = true →
    exec (.ptpSync k y) s = .next (withDev s (
      let e := nth s.dev.time.eth (s.dev.dom k).cfg.port
      ((s.dev.countRx (s.dev.dom k).cfg.port 0).onDom k fun c =>
        { c with t2 := stampOf y.t2 e.rxCorr, t3 := stampOf y.t3 e.txCorr, await := true, asked := false }).sendDelayReq k))) ∧
  -- one of another master is passed over (the model's reading, logs 43 and 102)
  (∀ k (y : SyncMsg) s, Live (.ptpSync k y) s → (s.dev.dom k).slave = true → (s.dev.dom k).follows y = false →
    (nth s.dev.time.eth (s.dev.dom k).cfg.port).up = true →
    exec (.ptpSync k y) s = .next (withDev s (s.dev.countRx (s.dev.dom k).cfg.port 0))) ∧
  (∀ k (y : SyncMsg) s, Live (.ptpSync k y) s → y.kind = .followUp → (s.dev.dom k).slave = true → (s.dev.dom k).follows y = true →
    (nth s.dev.time.eth (s.dev.dom k).cfg.port).up = true → (s.dev.dom k).await = true →
    exec (.ptpSync k y) s = .next (withDev s (((s.dev.countRx (s.dev.dom k).cfg.port 0).onDom k fun c =>
      { c with t1 := y.t1, await := false, asked := true }).newOffset k
        ((s.dev.dom k).t2 - y.t1 - (s.dev.dom k).mpd)))) ∧
  -- a Delay_Resp that was asked for enters the average of the latest 16
  (∀ k t4 s, Live (.ptpDelayResp k t4) s → (s.dev.dom k).slave = true → (s.dev.dom k).asked = true →
    s.dev.portUp (s.dev.dom k).cfg.port = true →
    exec (.ptpDelayResp k t4) s = .next (withDev s ((s.dev.countRx (s.dev.dom k).cfg.port 0).onDom k fun c =>
      let w := (((c.t2 - c.t1) + (t4 - c.t3)) / 2 :: c.window).take 16
      { c with window := w, mpd := w.foldl (· + ·) 0 / w.length, asked := false }))) ∧
  -- an Announce takes the place of the one its master sent before, and a SLAVE domain chooses its master anew
  (∀ k y s, Live (.ptpAnnounce k y) s → (s.dev.dom k).slave = true → s.dev.portUp (s.dev.dom k).cfg.port = true →
    exec (.ptpAnnounce k y) s = .next (withDev s ((s.dev.countRx (s.dev.dom k).cfg.port 0).onDom k fun c =>
      { c with masters := (y, s.dev.now) :: c.masters.filter fun a => a.1.source ≠ y.source }.bestMaster s.dev.now))) ∧
  -- the master chosen has been heard within three intervals, and none such stands before it in the order of R433
  (∀ now (c : Domain) g, (c.bestMaster now).gm = some g →
    ∃ t, (g, t) ∈ c.masters ∧ now < t + 3 * c.announceTicks ∧
      ∀ a ∈ c.masters, now < a.2 + 3 * c.announceTicks → lexLe (AnnounceMsg.rank g) (AnnounceMsg.rank a.1) = true) ∧
  (∀ now (c : Domain), (c.bestMaster now).gm = none → ∀ a ∈ c.masters, a.2 + 3 * c.announceTicks ≤ now) ∧
  -- a MASTER domain answers a Delay_Req with its stamp; the bytes of each message are in the model's own form (log 102)
  (∀ k r t s, Live (.ptpDelayReq k r t) s → (s.dev.dom k).slave = false → s.dev.portUp (s.dev.dom k).cfg.port = true →
    exec (.ptpDelayReq k r t) s = .next (withDev s ((s.dev.countRx (s.dev.dom k).cfg.port 0).sendFrame (s.dev.dom k).cfg.port
      (ptpBytes 9 (s.dev.dom k).cfg.number
        (u64 r ++ stampBytes (stampOf t (nth s.dev.time.eth (s.dev.dom k).cfg.port).rxCorr)))))) ∧
  -- a MASTER domain sends its Announce, and its one-step Sync, when they are due, in the model's own form (log 102)
  (∀ k s, Live (.ptpMasterTx k true) s → (s.dev.dom k).slave = false → s.dev.portUp (s.dev.dom k).cfg.port = true →
    s.dev.turnOf (s.dev.dom k).announceTicks ≠ (s.dev.dom k).announceTurn →
    exec (.ptpMasterTx k true) s = .next (withDev s ((s.dev.sendFrame (s.dev.dom k).cfg.port
      (ptpBytes 0xB (s.dev.dom k).cfg.number (u32 128 ++ u32 248 ++ u32 128))).onDom k fun c =>
        { c with announceTurn := s.dev.turnOf (s.dev.dom k).announceTicks }))) ∧
  (∀ k s, Live (.ptpMasterTx k false) s → (s.dev.dom k).slave = false → s.dev.portUp (s.dev.dom k).cfg.port = true →
    s.dev.turnOf (s.dev.dom k).syncTicks ≠ (s.dev.dom k).syncTurn → (s.dev.dom k).cfg.oneStep = 1 →
    exec (.ptpMasterTx k false) s = .next (withDev s ((s.dev.sendFrame (s.dev.dom k).cfg.port
      (ptpBytes 0 (s.dev.dom k).cfg.number
        (stampBytes (s.dev.stampNow (nth s.dev.time.eth (s.dev.dom k).cfg.port).txCorr)))).onDom k fun c =>
          { c with syncTurn := s.dev.turnOf (s.dev.dom k).syncTicks }))) ∧
  -- a domain silent for three intervals is lost
  (∀ k s, Live (.domainLost k) s → s.dev.domainSilent k = true →
    exec (.domainLost k) s = .next (withDev s (s.dev.loseDomain k))) ∧
  (∀ s, Live .preferredRelockHold s →
    exec .preferredRelockHold s = .next (withDev s s.dev.chooseSteer)) ∧
  ∀ s, Live .keepSecondsWrite s → s.dev.time.locked = true → s.dev.coxRuns = true →
    exec .keepSecondsWrite s = .next (withDev s { s.dev with boot := { s.dev.boot with keepSec := s.dev.time.sec } })) ∧
  ((∀ p i s, Live (.arpRequest p i) s → (nth s.dev.time.eth p).up = true → (nth s.dev.time.eth p).ipv4 = some i →
    exec (.arpRequest p i) s = .next (withDev s (((s.dev.countRx p 1).onEth p fun e => { e with arp := e.arp + 1 }).sendFrame p
      (u64 (nth s.dev.time.eth p).mac ++ u32 i)))) ∧
  (∀ p k s, Live (.otherFrame p k) s → s.dev.portUp p = true →
    exec (.otherFrame p k) s = .next (withDev s (s.dev.countDrop p (min k 4)))) ∧
  -- every 20 µs of device time the newest marks of the interval leave, 91 to a frame
  (∀ s, Live .marksSend s → s.dev.turnOf (usT 20) ≠ s.dev.mar.marksTurn → 2 ≤ s.dev.time.gangSize →
    ∃ t, exec .marksSend s = .next t ∧ t = withDev s { s.dev with mar := t.dev.mar, time := t.dev.time } ∧
      t.dev.mar = { s.dev.mar with gangMarks := [], marksTurn := s.dev.turnOf (usT 20) } ∧
      t.dev.time.gseq % 2 ^ 32 = (s.dev.time.gseq + ((newestMarks s.dev.mar.gangMarks).length + 90) / 91) % 2 ^ 32) ∧
  (∀ s, Live .helloSend s → 2 ≤ s.dev.time.gangSize → s.dev.turnOf (msT 1) ≠ s.dev.time.helloTurn →
    exec .helloSend s = .next (withDev s
      ((s.dev.sendGang 1 0 fun p => stampBytes (s.dev.stampNow (nth s.dev.time.eth p).txCorr) ++ u8 s.dev.timeStatus ++
        List.replicate 3 0 ++ s.dev.time.peers.flatMap Peer.apparentField).onTime fun t =>
          { t with helloTurn := s.dev.turnOf (msT 1) }))) ∧
  -- R444: each frame carries the gang's destination and EtherType, with the port's tag where it has one
  (∀ (e : EthPort) bs, e.mac < 2 ^ 48 → (∀ v ∈ e.vlan, v.1 < 4096 ∧ v.2 < 8) → gangPayload (e.gangHead ++ bs) = some bs) ∧
  -- a MARKS frame of a present peer with this gang's size and bed is applied; one heard before is discarded
  (∀ p f bs s, Live (.marksReceived p f) s → gangPayload f = some bs → s.dev.portUp p = true →
    s.dev.gangFrameOk p bs 2 = true → fieldAt bs 4 1 < s.dev.time.gangSize →
    fieldAt bs 8 4 ∉ (nth s.dev.time.peers (fieldAt bs 4 1)).gseq → s.dev.marksOk bs = true →
    exec (.marksReceived p f) s = .next (withDev s
      ((((s.dev.countRx p 2).onPeer (fieldAt bs 4 1) fun q => { q.heard (fieldAt bs 8 4) with applied := q.applied + 1 })).onMar
        fun m => { m with openMarks := m.openMarks ++ (List.range (fieldAt bs 6 2)).flatMap (s.dev.peerMarks bs) }))) ∧
  (∀ p f bs s, Live (.marksReceived p f) s → gangPayload f = some bs → s.dev.portUp p = true →
    s.dev.gangFrameOk p bs 2 = true → fieldAt bs 4 1 < s.dev.time.gangSize →
    fieldAt bs 8 4 ∈ (nth s.dev.time.peers (fieldAt bs 4 1)).gseq →
    exec (.marksReceived p f) s = .next (withDev s
      ((s.dev.countRx p 2).onPeer (fieldAt bs 4 1) fun q => { q with discarded := q.discarded + 1 }))) ∧
  -- one that fails another condition of R446 is dropped, and its copy on the other port is known for one
  (∀ p f bs s, Live (.marksReceived p f) s → gangPayload f = some bs → s.dev.portUp p = true →
    s.dev.gangFrameOk p bs 2 = true → fieldAt bs 4 1 < s.dev.time.gangSize →
    fieldAt bs 8 4 ∉ (nth s.dev.time.peers (fieldAt bs 4 1)).gseq → s.dev.marksOk bs = false →
    exec (.marksReceived p f) s = .next (withDev s
      ((s.dev.countDrop p 2).onPeer (fieldAt bs 4 1) fun q => { q.heard (fieldAt bs 8 4) with dropped := q.dropped + 1 }))) ∧
  -- a frame of another destination or EtherType is none of the gang's
  (∀ p f s, Live (.marksReceived p f) s → gangPayload f = none → s.dev.portUp p = true →
    exec (.marksReceived p f) s = .next (withDev s (s.dev.countDrop p 4))) ∧
  -- a HELLO of another gang size: its sender does not count, and the first is a health record
  (∀ p f bs r s, Live (.helloReceived p f r) s → gangPayload f = some bs → s.dev.portUp p = true →
    s.dev.gangFrameOk p bs 1 = true → bs.length = 64 → fieldAt bs 5 1 ≠ s.dev.time.gangSize →
    (nth s.dev.time.peers (fieldAt bs 4 1)).mismatch = false →
    exec (.helloReceived p f r) s = .next (withDev s
      (((s.dev.countDrop p 2).onPeer (fieldAt bs 4 1) fun q => { q with present := false, mismatch := true }).healthRec 0xB 1 0x09
        (fieldAt bs 4 1) (fieldAt bs 4 1) 0 0 0))) ∧
  -- a HELLO of this gang makes its sender present
  (∀ p f bs r s, Live (.helloReceived p f r) s → gangPayload f = some bs → s.dev.portUp p = true →
    s.dev.gangFrameOk p bs 1 = true → bs.length = 64 → fieldAt bs 4 1 < s.dev.time.gangSize →
    fieldAt bs 5 1 = s.dev.time.gangSize → fieldAt bs 8 4 ∉ (nth s.dev.time.peers (fieldAt bs 4 1)).gseq →
    signed 32 (fieldAt bs (48 + 4 * s.dev.time.deviceNo) 4) = -2 ^ 31 →
    exec (.helloReceived p f r) s = .next (withDev s ((s.dev.countRx p 2).onPeer (fieldAt bs 4 1) fun q =>
      { q.heard (fieldAt bs 8 4) with
        present := true, known := true, mismatch := false, helloTick := s.dev.now
        apparent := some (clampI (-2 ^ 31 + 1) (2 ^ 31 - 1) (stampOf r (nth s.dev.time.eth p).rxCorr / 256 -
          ((fieldAt bs 32 8 : Int) * 1000000000 + fieldAt bs 40 4))) }))) ∧
  -- a peer silent for 10 ms is lost
  ∀ k s, Live (.peerLost k) s → (nth s.dev.time.peers k).present = true →
    (nth s.dev.time.peers k).helloTick + msT 10 ≤ s.dev.now →
    exec (.peerLost k) s = .next (withDev s ((s.dev.onPeer k fun q => { q with present := false }).spoil 0x09 k 0x004 false 0)))

/-- R441: the choice of the steering domain leaves device time, both domains and the mode as they were; a domain that is
selected steers exactly when it is a locked SLAVE, and only such a one is ever chosen. R27, R28: the frame tick does
everything that waits for one; device time goes on by the length of a tick, the tick count by one. -/
def Obligations.TimeGoesOnAndSteers : Prop :=
  (∀ (d : Dev), d.chooseSteer.time.steer = d.time.chosen ∧ d.chooseSteer.time.doms = d.time.doms ∧
    d.chooseSteer.time.sec = d.time.sec ∧ d.chooseSteer.time.ns = d.time.ns ∧ d.chooseSteer.mode = d.mode ∧
    (d.time.select < 2 → (d.chooseSteer.time.steer = some d.time.select ↔
      ((nth d.time.doms d.time.select).slave && (nth d.time.doms d.time.select).locked) = true)) ∧
    (∀ k, d.time.chosen = some k → d.time.canSteer k = true)) ∧
  ((∀ s, Live .frameTick s → exec .frameTick s = .next (withDev s s.dev.frameTick)) ∧
  ∀ (t : Time) n, (t.advance n).tick = t.tick + 1 ∧
    (0 ≤ t.ns64 + t.tickNs n → t.ns64 + t.tickNs n < 2 ^ 64 * 1000000000 → (t.advance n).ns64 = t.ns64 + t.tickNs n) ∧
    (t.advance n).doms = t.doms ∧ (t.advance n).steer = t.steer ∧ (t.advance n).select = t.select ∧
    -- 250 ns at the nominal rate and the plan's 200 cycles of the exposure clock
    (t.rate = 0 → t.tickNs 200 = 250))

/-- R35 to R67: the `field` commands stage a part of the geometry and change nothing else; `field.commit` makes a sound
staged geometry active. -/
def Obligations.FieldCommandsComplete : Prop :=
  (∀ m x0 y0 w h s x, Starts (.fieldBed m x0 y0 w h) s x → 64000 ≤ w → w ≤ 65536000 → 64000 ≤ h → h ≤ 65536000 →
    exec (.fieldBed m x0 y0 w h) s = .next (answered s x
      { s.dev with geo := { s.dev.geo with staged := { s.dev.geo.staged with bed := some (x0, y0, w, h) } } })) ∧
  -- a correction set from device memory under its check code
  (∀ m (g : GridArg) s x, Starts (.fieldGrid m g) s x → g.oar < 32 → s.dev.oarExists g.oar = true → g.set < 4 →
    64000 ≤ g.pitch → g.pitch ≤ 1024000 → g.len = 50700 → g.addr + 50700 ≤ s.dev.mc.hostLimit →
    s.dram.marked g.addr 50700 = [] → crc32c (memBytes s.dram.mem g.addr 50700) = g.crc →
    exec (.fieldGrid m g) s = .next (answered s x ((s.dev.activate g.addr 50700).onStaged fun y =>
      { y with sets := upd y.sets g.oar fun ss => ss.set g.set (some
        ⟨g.temp, g.gx0, g.gy0, g.pitch, g.focusGain, nodesOf (memBytes s.dram.mem g.addr 50700)⟩) }))) ∧
  (∀ m k vs s x, Starts (.fieldPolygon m k vs) s x → s.dev.oarExists k = true →
    exec (.fieldPolygon m k vs) s =
      .next (answered s x (s.dev.onStaged fun g => { g with fields := g.fields.set k (ccw vs) }))) ∧
  (∀ m z k vs s x, Starts (.fieldKeepout m z k vs) s x → z < 64 →
    exec (.fieldKeepout m z k vs) s = .next (answered s x (s.dev.onStaged fun g =>
      { g with zones := g.zones.set z (if vs = [] then none else some ⟨k, ccw vs⟩) }))) ∧
  (∀ m ps s x, Starts (.fieldStitch m ps) s x →
    (∀ p ∈ ps, (p.a < 32 → s.dev.oarExists p.a = true) ∧ (p.b < 32 → s.dev.oarExists p.b = true)) →
    exec (.fieldStitch m ps) s = .next (answered s x (s.dev.onStaged fun g => { g with stitch := ps }))) ∧
  (∀ m a n c s x, Starts (.fieldMasks m a n c) s x → 1 ≤ n → n ≤ 65535 → a + 4 * n ≤ s.dev.mc.hostLimit →
    s.dram.marked a (4 * n) = [] → crc32c (memBytes s.dram.mem a (4 * n)) = c →
    exec (.fieldMasks m a n c) s = .next (answered s x
      ((s.dev.activate a (4 * n)).onStaged fun g => { g with masks := words32 (memBytes s.dram.mem a (4 * n)) }))) ∧
  -- `field.commit` of a geometry that passes the checks, with no layer: active, stored, logged
  (∀ m ts s x, Starts (.fieldCommit m) s x → s.dev.queueEmpty = true →
    ts = stitchTrans s.dev.boot.compat s.dev.geo.staged.stitch → s.dev.geoFailure s.dev.geo.staged ts = none →
    exec (.fieldCommit m) s = .next (
      let g := { s.dev.geo.staged with trans := ts, resid := stitchResid s.dev.geo.staged.stitch ts }
      answered s x ((({ s.dev with geo := { s.dev.geo with active := g, staged := g, stored := g } }).gridsInit).logDigest
        x 0 0x01 0xFFFF s.dev.geo.active.digest g.digest) (g.digest ++ u32 g.resid ++ ts.flatMap ptBytes))) ∧
  (∀ m s x, Starts (.fieldDiscard m) s x →
    exec (.fieldDiscard m) s = .next (answered s x
      { s.dev with geo := { s.dev.geo with staged := s.dev.geo.active } })) ∧
  (∀ m w i n bs s x, Starts (.fieldQuery m w i n) s x → w ≤ 1 → (i = 2 → s.dev.oarExists n = true) →
    (if w = 0 then s.dev.geo.active else s.dev.geo.staged).item i n = some bs →
    exec (.fieldQuery m w i n) s = .next (answered s x s.dev
      (bs ++ (if w = 0 then s.dev.geo.active else s.dev.geo.staged).digest))) ∧
  -- `field.eligible`: the oars that may reach both points, and those of them offered work
  (∀ m p q i g s x, Starts (.fieldEligible m p q i) s x → s.dev.geo.active.eligibility p q (i.getD 0xFFFF) = some g →
    exec (.fieldEligible m p q i) s = .next (answered s x s.dev (u32 g ++ u32 (g &&& s.dev.offered)))) ∧
  -- a blend done becomes the working grid, at once where there was none
  ∀ k b s, Live (.gridBlendComplete k) s → (nth s.dev.geo.oars k).blending = some b → k < s.dev.geo.oars.length →
    exec (.gridBlendComplete k) s = .next (withDev s { s.dev with geo := { s.dev.geo with
      oars := upd s.dev.geo.oars k fun o =>
        if o.grid.isNone then { o with grid := some ⟨b.1⟩, blending := none }
        else { o with ready := some ⟨b.1⟩, blending := none } } })

/-- R60, R65, R143, R169 to R171, R183, R192 to R194, R232 to R235: the commands of an oar. R65, R66: what `oar.enable`
and `oar.disable` make of the set of disabled oars: exactly the oars of the mask change. -/
def Obligations.OarCommandsComplete : Prop :=
  (-- `oar.enable` of linked oars within the latency limit whose cut paths are closed; `oar.disable` withdraws the oars it adds
  (∀ m k s x, Starts (.oarEnable m k) s x → s.dev.badOarMask k = false →
    (∀ i < 32, Nat.testBit k i = true →
      (s.dev.port i).linked = true ∧ s.dev.ump.closed.getLsbD i = true ∧ (nth s.dev.eng i).lat.tooLong = false) →
    exec (.oarEnable m k) s = .next (
      let d := s.dev.setDisabled (s.dev.geo.disabled &&& ~~~ BitVec.ofNat 32 k)
      answered s x (d.log x 0x11 0xFFFF (u32 s.dev.disabledWord) (u32 d.disabledWord))
        (u32 (d.log x 0x11 0xFFFF (u32 s.dev.disabledWord) (u32 d.disabledWord)).offered))) ∧
  (∀ m k s x, Starts (.oarDisable m k) s x → s.dev.badOarMask k = false →
    exec (.oarDisable m k) s = .next (
      let d := ((bitsOf 32 k).filter fun i => ! s.dev.geo.disabled.getLsbD i).foldl (fun d i => d.withdraw i false)
        (s.dev.setDisabled (s.dev.geo.disabled ||| BitVec.ofNat 32 k))
      answered s x (d.log x 0x11 0xFFFF (u32 s.dev.disabledWord) (u32 d.disabledWord)) (u32 d.disabledWord))) ∧
  (∀ m s x, Starts (.oarStatus m) s x →
    exec (.oarStatus m) s = .next (answered s x s.dev (oars32.flatMap s.dev.oarStatus))) ∧
  -- `oar.motion` with no layer released: every engine of the mask, and flash, hold the settings
  (∀ m k (a : MotionArg) s x, Starts (.oarMotion m k a) s x → s.dev.badOarMask k = false → MotionArg.ok a = true →
    (∀ i < 32, ∀ p, Nat.testBit k i = true → s.dev.posTol i = some p → a.predWarn < p) → s.dev.layers.released = none →
    exec (.oarMotion m k a) s = .next (
      let e := s.dev.onEngs k fun e => { e with motion := MotionArg.toMotion a }
      let d := { e with flash := { e.flash with
        motion := (bitsOf 32 k).foldl (fun l i => l.set i (MotionArg.toMotion a)) e.flash.motion } }
      answered s x (d.log x 0x11 0xFFFF (s.dev.oarForms k (·.motion.bytes)) (d.oarForms k (·.motion.bytes)))
        (d.oarForms k (·.motion.bytes)))) ∧
  -- `oar.latency` reads in every mode it is accepted in, and sets in Ready
  (∀ m s x, Starts (.oarLatency m none) s x → exec (.oarLatency m none) s = .next (answered s x s.dev s.dev.latencies)) ∧
  (∀ m k l c s x, Starts (.oarLatency m (some (k, l, c))) s x → s.dev.mode.mode = .ready → s.dev.badOarMask k = false →
    l ≤ 3500000 → c ≤ 100000 →
    (∀ i ∈ bitsOf 32 k, Latency.tooLong { (nth s.dev.eng i).lat with lLaser := l } = false) → s.dev.layers.released = none →
    exec (.oarLatency m (some (k, l, c))) s = .next (
      let d := ((bitsOf 32 k).foldl (fun d i => d.setLat i fun t => { t with lLaser := l, dacDelay := c }) s.dev).storeLat
        (bitsOf 32 k)
      answered s x (d.log x 0x11 0xFFFF (s.dev.oarForms k (·.lat.bytes)) (d.oarForms k (·.lat.bytes))) d.latencies)) ∧
  (∀ m k cs i s x, Starts (.oarPowermap m k cs i) s x → s.dev.badOarMask k = false → (∀ c ∈ cs, c < 65536) → i < 65536 →
    rising cs = true → s.dev.layers.released = none →
    exec (.oarPowermap m k cs i) s = .next (
      let e := s.dev.onEngs k fun e => { e with map := cs, idleCode := i }
      let d := { e with flash := { e.flash with map := (bitsOf 32 k).foldl (fun l j => l.set j (cs, i)) e.flash.map } }
      answered s x (d.log x 0x11 0xFFFF (s.dev.oarForms k fun e => mapBytes e.map e.idleCode)
        (d.oarForms k fun e => mapBytes e.map e.idleCode)) (sha256 (mapBytes cs i)))) ∧
  (∀ m k c s x, Starts (.oarPlacement m k c) s x → s.dev.badOarMask k = false → c ≤ 1 →
    exec (.oarPlacement m k c) s = .next (answered s x (if c = 1 then s.dev.onEngs k Engine.clearStats else s.dev)
      (s.dev.oarForms k Engine.placement))) ∧
  -- `oar.measure` of oars that can fly: 16 test jumps of each are due from here on; with one that cannot, FAULT (log 143)
  (∀ m k s x, Starts (.oarMeasure m k) s x → s.dev.badOarMask k = false → s.dev.layers.released = none →
    (∀ i ∈ bitsOf 32 k, (nth s.dev.eng i).test = none) →
    exec (.oarMeasure m k) s = .next (if ∀ i ∈ bitsOf 32 k, s.dev.measurable i = true
      then running s x ((bitsOf 32 k).foldl Dev.testBegin s.dev) (.measure k) false
      else turnedAway s x 0x40 0 0)) ∧
  -- `oar.dark` of hearing heads runs from here on, over the samples to come
  (∀ m k s x, Starts (.oarDark m k) s x → s.dev.badOarMask k = false → s.dev.layers.released = none → bitsOf 32 k ≠ [] →
    (∀ i ∈ bitsOf 32 k, (s.dev.port i).hearing = true) →
    exec (.oarDark m k) s = .next (running s x ((bitsOf 32 k).foldl (fun d i =>
      d.onMelt i fun q => { q with dark := some (0, 0, 0, 0) }) s.dev) (.dark k) false)) ∧
  -- `oar.camera`: kept, and written to the head of every port of the mask that is trained or has passed T3
  (∀ m k (c : CameraArg) s x, Starts (.oarCamera m k c) s x → s.dev.badOarMask k = false → CameraArg.ok c = true →
    s.dev.layers.released = none →
    exec (.oarCamera m k c) s = .next (
      let d := (bitsOf 32 k).foldl (fun d i =>
        let e := d.onMelt i fun q => { q with cam := c }
        if (e.port i).linked ∨ (e.port i).trainingPhase = some 4 ∨ (e.port i).trainingPhase = some 5 then e.sendCamera i
        else e) s.dev
      answered s x (d.log x 0x11 0xFFFF (s.dev.meltForms k fun q => cameraBytes q.cam) (d.meltForms k fun q => cameraBytes q.cam))
        (d.meltForms k fun q => cameraBytes q.cam))) ∧
  ∀ m k s x, Starts (.oarSense m k) s x → s.dev.badOarMask k = false →
    exec (.oarSense m k) s = .next (answered s x s.dev (s.dev.meltForms k Melt.sense))) ∧
  ((∀ m k s x, Starts (.oarEnable m k) s x → s.dev.badOarMask k = false →
    (∀ i < 32, Nat.testBit k i = true →
      (s.dev.port i).linked = true ∧ s.dev.ump.closed.getLsbD i = true ∧ (nth s.dev.eng i).lat.tooLong = false) →
    ∃ t, exec (.oarEnable m k) s = .next t ∧ t.dram = s.dram ∧ t.dev.eng = s.dev.eng ∧ t.dev.layers = s.dev.layers ∧
      ∀ i < 32, t.dev.geo.disabled.getLsbD i = (s.dev.geo.disabled.getLsbD i && ! Nat.testBit k i)) ∧
  -- an oar of the mask that fails one of the three turns the command away, DEFERRED with the hint 0 (the model's choice, log 112)
  ∀ m k s x, Starts (.oarEnable m k) s x → s.dev.badOarMask k = false →
    (∃ i < 32, Nat.testBit k i = true ∧ ((s.dev.port i).linked = false ∨ s.dev.ump.closed.getLsbD i = false ∨
      (nth s.dev.eng i).lat.tooLong = true)) →
    exec (.oarEnable m k) s = .next (turnedAway s x 0x02 0 0))

/-- R88 to R103, R138: library loads and the commands of a layer. R100: a reload whose damaged block is sound again lifts
the damage; one that is not names the block. -/
def Obligations.LayerCommandsComplete : Prop :=
  (-- the four loads install their entries and log the change
  (∀ m f n a c s x, Starts (.layerParams m f n a c) s x → Loadable .params s f n a c →
    exec (.layerParams m f n a c) s = .next (answered s x (loaded .params s x f n a))) ∧
  (∀ m f n a c s x, Starts (.layerProfiles m f n a c) s x → Loadable .profiles s f n a c →
    exec (.layerProfiles m f n a c) s = .next (answered s x (loaded .profiles s x f n a))) ∧
  (∀ m f n a c s x, Starts (.layerTargets m f n a c) s x → Loadable .targets s f n a c →
    exec (.layerTargets m f n a c) s = .next (answered s x (loaded .targets s x f n a))) ∧
  (∀ m f n a c s x, Starts (.marshalThermtable m f n a c) s x → Loadable .tables s f n a c →
    exec (.marshalThermtable m f n a c) s = .next (answered s x (loaded .tables s x f n a))) ∧
  (∀ m k i kind s x, Starts (.layerLibrary m k i) s x → libKindOf k = some kind → i < kind.held →
    exec (.layerLibrary m k i) s = .next (answered s x s.dev
      (s.dev.lib.form kind i ++ u32 (s.dev.layers.refCount kind i) ++ sha256 (s.dev.lib.form kind i)))) ∧
  -- `layer.commit` is ACCEPTED at once; its checks begin when none runs
  (∀ m a l s x, Starts (.layerCommit m a) s x → l = unle (memBytes s.dram.mem (a + 4) 4) →
    exec (.layerCommit m a) s = .next (taken s x
      (let d := { s.dev with layers := { s.dev.layers with checking := s.dev.layers.checking ++ [LayerRec.ofAddr a l] } }
       if s.dev.layers.checking = [] then d.nextCheck else d)
      (commitHint (min (unle (memBytes s.dram.mem (a + 24) 4)) 67108864)) (.layerCommit l))) ∧
  -- `layer.cancel` of a queued layer takes it, those after it and every commit being checked
  (∀ m l n s x, Starts (.layerCancel m l) s x → (∀ r, s.dev.layers.released = some r → r.desc.layer ≠ l) →
    n = s.dev.layers.queue.findIdx (fun r => r.desc.layer = l) → n < s.dev.layers.queue.length →
    exec (.layerCancel m l) s = .next (
      let ls := { (s.dev.abortChecks 0).layers with queue := s.dev.layers.queue.take n }
      let d := { s.dev.abortChecks 0 with layers := if n = 0 then ls.dropRecoat else ls }
      answered s x (d.log x 0x03 0xFFFF (layersForm (s.dev.layers.queue ++ s.dev.layers.checking))
        (layersForm (s.dev.layers.queue.take n))) (layersForm (s.dev.layers.queue.drop n ++ s.dev.layers.checking)))) ∧
  -- `layer.abandon` of the released layer: what is not settled is reported not exposed and the fence closes
  (∀ m l r s x, Starts (.layerAbandon m l) s x → (s.dev.mode.mode = .ready → s.dev.layers.afterSafe = true) →
    s.dev.layers.released = some r → r.desc.layer = l →
    exec (.layerAbandon m l) s = .next (answered s x (((s.dev.abandonAll r).closeFence).log x 0x03 0xFFFF r.digest [])
      (u32 (r.strokeCount - r.settled)))) ∧
  -- `layer.reload` of blocks none of which is damaged changes nothing
  (∀ m l f n r s x, Starts (.layerReload m l f n) s x →
    s.dev.layers.committed.find? (fun q => q.desc.layer = l) = some r → 1 ≤ n → f + n ≤ r.blocks.length → r.damaged = [] →
    exec (.layerReload m l f n) s = .next (answered s x s.dev (listOf u32 []))) ∧
  (∀ m s x, Starts (.layerStatus m none) s x →
    exec (.layerStatus m none) s = .next (answered s x s.dev
      (listOf (fun (l : Nat × LayerRec) => l.2.statusBytes l.1) s.dev.layers.all))) ∧
  (∀ m l s x, Starts (.layerStatus m (some l)) s x → (∃ q ∈ s.dev.layers.all, q.2.desc.layer = l) →
    exec (.layerStatus m (some l)) s = .next (answered s x s.dev
      (listOf (fun (q : Nat × LayerRec) => q.2.statusBytes q.1) (s.dev.layers.all.filter fun q => q.2.desc.layer = l)))) ∧
  ∀ m l r s x, Starts (.layerReport m l) s x → s.dev.layers.closed.find? (fun q => q.desc.layer = l) = some r →
    exec (.layerReport m l) s = .next (answered s x s.dev (s.dev.reportBytes r))) ∧
  ((∀ m l b r s x, Starts (.layerReload m l b 1) s x →
    s.dev.layers.committed.find? (fun q => q.desc.layer = l) = some r → b < r.blocks.length → b ∈ r.damaged →
    s.dram.marked (r.desc.listAddr + 65536 * b) (r.blockLen b) = [] →
    crc32c (memBytes s.dram.mem (r.desc.listAddr + 65536 * b) (r.blockLen b)) = (nth r.blocks b).crc →
    exec (.layerReload m l b 1) s = .next (answered s x
      ((s.dev.activate (r.desc.listAddr + 65536 * b) (r.blockLen b)).onCommitted l fun q =>
        { q with damaged := q.damaged.filter fun i => ! [b].contains i }) (listOf u32 [b]))) ∧
  ∀ m l b r s x, Starts (.layerReload m l b 1) s x →
    s.dev.layers.committed.find? (fun q => q.desc.layer = l) = some r → b < r.blocks.length → b ∈ r.damaged →
    s.dram.marked (r.desc.listAddr + 65536 * b) (r.blockLen b) = [] →
    crc32c (memBytes s.dram.mem (r.desc.listAddr + 65536 * b) (r.blockLen b)) ≠ (nth r.blocks b).crc →
    ∃ t, exec (.layerReload m l b 1) s = .next t ∧ t.dram = s.dram ∧
      t.dev.layers.released.map (·.damaged) = s.dev.layers.released.map (·.damaged) ∧
      t.dev.layers.queue.map (·.damaged) = s.dev.layers.queue.map (·.damaged) ∧
      ∀ q ∈ t.dev.host.mbx[x.mbx]?, ∃ p ∈ q.resp, p.status = 0x21 ∧ p.detail = b)

/-- R29 to R32, R93 to R98: the checks of a commit, release and close of a layer's fence. -/
def Obligations.LayerEventsComplete : Prop :=
  -- checks that end in failure leave the queue as it was, and the command ends with the check's STATUS
  (∀ c rest j f d ops s, Live .layerChecksComplete s → s.dev.coxRuns = true → s.dev.layers.checking = c :: rest → s.dev.commitJob = some j →
    s.dev.checkLayer s.dram s.dev.layers.early c.descAddr = (d, ops, .inl f) →
    exec .layerChecksComplete s = .next (withMem s
      ((({ d with layers := { d.layers with checking := rest } }.finish j (checkStatus f.1).1 (checkStatus f.1).2
        (u32 f.2)).nextCheck), ops))) ∧
  -- checks passed put the layer at the end of the queue
  (∀ c rest j l d ops s, Live .layerChecksComplete s → s.dev.coxRuns = true → s.dev.layers.checking = c :: rest → s.dev.commitJob = some j →
    s.dev.checkLayer s.dram s.dev.layers.early c.descAddr = (d, ops, .inr l) →
    exec .layerChecksComplete s = .next (withMem s (
      let e := { d with layers := { d.layers with
        checking := rest, queue := d.layers.queue ++ [{ l with descAddr := c.descAddr }] } }
      ((((e.logLayer j l).finish j 0 0 (l.outcome e.layers.queue.length)).nextCheck), ops)))) ∧
  -- release, when its conditions hold: the head of the queue leaves it, its strokes are to be read from the first
  (∀ l rest s, Live .fenceRelease s → s.dev.layers.queue = l :: rest → s.dev.mode.mode = .build →
    s.dev.layers.released = none →
    (s.dev.layers.recoatDone = true ∧ s.dev.img.ready = true ∨
      s.dev.layers.firstSinceReset = true ∧ l.desc.noRecoat = true) →
    ∃ t, exec .fenceRelease s = .next t ∧ t.dram = s.dram ∧ t.dev.layers.queue = rest ∧
      (t.dev.layers.released.map (·.desc)) = some l.desc ∧ t.dev.mode = s.dev.mode ∧ t.dev.mar.nextRec = 0 ∧
      t.dev.mar.window = [] ∧ t.dev.mar.repairs = [] ∧ t.dev.gov.layerPlant = l.desc.plantBudget ∧
      t.dev.layers.firstSinceReset = false) ∧
  -- no release where they do not
  (∀ s, Live .fenceRelease s → (s.dev.mode.mode ≠ .build ∨ s.dev.layers.released ≠ none ∨ s.dev.layers.queue = []) →
    exec .fenceRelease s = .next s) ∧
  -- close, when every stroke is settled and no block is damaged
  ∀ l s, Live .fenceClose s → s.dev.layers.released = some l → l.settled = l.strokeCount → l.damaged = [] →
    exec .fenceClose s = .next (withDev s s.dev.closeFence)

/-- R130, R163, R165, R175, R178, R186 to R188: the events of an exposure engine, each where its own effect is had. -/
def Obligations.ExposureEventsComplete : Prop :=
  -- the committed catch leaves the LGATE pad in its frame, with LEN high and the path closed: the light is on from its optical
  -- time on
  (∀ k ed es b s, Live (.lgateTransition k) s → (nth s.dev.eng k).edges = ed :: es → (nth s.dev.eng k).cur = some b →
    ed.frame ≤ s.dev.now → ed.finish = false → (nth s.dev.eng k).exposing = false → s.dev.lightable k = true →
    exec (.lgateTransition k) s = .next (withDev s (s.dev.fireCatch k b.item.stroke ed))) ∧
  -- with LEN low or the path open it is discarded, and no light comes of it
  (∀ k ed es b s, Live (.lgateTransition k) s → (nth s.dev.eng k).edges = ed :: es → (nth s.dev.eng k).cur = some b →
    ed.frame ≤ s.dev.now → ed.finish = false → (nth s.dev.eng k).exposing = false → s.dev.lightable k = false →
    exec (.lgateTransition k) s = .next (withDev s (s.dev.onEng k fun e => { e with edges := [] }))) ∧
  -- so does the finish, of an engine that exposes
  (∀ k ed es b s, Live (.lgateTransition k) s → (nth s.dev.eng k).edges = ed :: es → (nth s.dev.eng k).cur = some b →
    ed.frame ≤ s.dev.now → ed.finish = true → (nth s.dev.eng k).exposing = true →
    exec (.lgateTransition k) s = .next (withDev s (s.dev.fireFinish k b ed))) ∧
  -- the backstop commits a finish with its own flag in the next frame
  (∀ k b s, Live (.finishBackstop k) s → (nth s.dev.eng k).cur = some b → s.dev.backstopDue k b.item.stroke = true →
    exec (.finishBackstop k) s = .next (withDev s
      (s.dev.commitFinish k b.item.stroke (800 * (s.dev.now + 1)) 4 none))) ∧
  -- a DOT that has not settled in DOT_SETTLE_MAX is caught at slot 0 of the next frame with a flag
  (∀ k b s, Live (.dotSettleTimeout k) s → (nth s.dev.eng k).cur = some b → b.item.stroke.dot = true →
    (nth s.dev.eng k).phase = .settle → s.dev.boot.compat = false → s.dev.dotReady k b.item.stroke ≤ s.dev.now →
    (nth s.dev.eng k).jumpEndPs + 1000000 * ((nth s.dev.eng k).motion.dotSettleMax : Rat) ≤ s.dev.psNow →
    exec (.dotSettleTimeout k) s = .next (withDev s
      ((s.dev.commitEdge k b.item.stroke false (s.dev.now + 1) 0 1 none).onEng k Engine.toMark))) ∧
  -- the head of the buffer is taken and its jump planned; an idle engine starts it at the next tick
  (∀ k b rest s, Live (.jumpPlanning k) s → s.dev.planDue k = true → (nth s.dev.mar.oars k).buf = b :: rest →
    exec (.jumpPlanning k) s = .next (withDev s (
      let d1 := (s.dev.onMar fun m => { m with oars := upd m.oars k fun o => { o with buf := rest } }).keepEntry k
      let r := d1.planInto k b
      if (nth r.2.eng k).exposing then r.2.onEng k fun e => { e with next := some (b, r.1) }
      else r.2.startJump k b r.1 (max (s.dev.now + 1) (nth r.2.eng k).t0)))) ∧
  -- the beam arrives at the lead-in start with the wake clear and LEN settled: the lead-in begins
  (∀ k b p s, Live (.jumpEnd k) s → (nth s.dev.eng k).cur = some b → (nth s.dev.eng k).plan = some p →
    (nth s.dev.eng k).phase = .jump → (nth s.dev.eng k).jumpEndPs ≤ s.dev.psNow → p.hold = false →
    (s.dev.boot.compat = true → (nth s.dev.eng k).exposing = false ∧ (nth s.dev.eng k).edges = []) →
    s.dev.catchClear k b.item.stroke = true →
    exec (.jumpEnd k) s = .next (withDev s (s.dev.beginLead k b.item.stroke false))) ∧
  -- planned for a hold, or brought to rest, it holds; the check's failing counts from here on
  (∀ k b p s, Live (.jumpEnd k) s → (nth s.dev.eng k).cur = some b → (nth s.dev.eng k).plan = some p →
    (nth s.dev.eng k).jumpEndPs ≤ s.dev.psNow →
    ((nth s.dev.eng k).phase = .stopping ∨ (nth s.dev.eng k).phase = .jump ∧ p.hold = true ∧ b.item.stroke.dot = false ∧
      s.dev.boot.compat = false) →
    exec (.jumpEnd k) s = .next (withDev s
      ((s.dev.onEng k fun e => { e with phase := .hold, holdSince := none }).checkHold k b.item.stroke))) ∧
  -- what holds for LEN alone does not age: the tick since which the catch check has failed
  (∀ (d : Dev) k s, k < d.eng.length → (nth (d.checkHold k s).eng k).holdSince =
    if d.wakeClear s k = true then none else some ((nth d.eng k).holdSince.getD d.now)) ∧
  -- a hold of WAKE_LIFE with the wake still live: the stroke goes back to the pool, counted for the wake
  (∀ k b t s, Live (.catchHoldLimit k) s → (nth s.dev.eng k).phase = .hold → (nth s.dev.eng k).cur = some b →
    (nth s.dev.eng k).holdSince = some t → s.dev.wakeClear b.item.stroke k = false →
    t + usT s.dev.relDesc.wakeLife ≤ s.dev.now →
    exec (.catchHoldLimit k) s = .next (withDev s (
      let p := if b.item.stroke.dot then ((b.item.stroke.x0 : Rat), (b.item.stroke.y0 : Rat))
        else b.item.stroke.along (-(s.dev.ellLsb k b.item.stroke : Rat))
      let r := (s.dev.onEng k fun e =>
        { e.drop with fromObs := false, loose := false, posX := roundRat p.1, posY := roundRat p.2 }).noteReason b.item 7
      r.2.returnStroke k true { b with item := r.1 }))) ∧
  -- LEN rises where it is wanted, and settles after LEN_SETTLE
  (∀ k s, Live (.lenRise k) s → s.dev.lenWanted k = true → (nth s.dev.eng k).len = false →
    exec (.lenRise k) s = .next (withDev s (s.dev.onEng k fun e =>
      { e with len := true, lenTick := s.dev.now, lenSettled := e.motion.lenSettle = 0 }))) ∧
  ∀ k s, Live (.lenSettleExpiry k) s → (nth s.dev.eng k).len = true →
    (nth s.dev.eng k).lenTick + usT (nth s.dev.eng k).motion.lenSettle ≤ s.dev.now →
    exec (.lenSettleExpiry k) s = .next (withDev s (s.dev.onEng k fun e => { e with lenSettled := true }))

/-- R188, R191: what the firing of a catch does to its engine: LGATE rises, the edge leaves the commitment and waits for
its placement error; energy and cells are counted from its optical time on; no other engine changes. -/
def Obligations.CatchOpensTheGate : Prop :=
  ∀ (d : Dev) k (s : Stroke) (ed : Edge), k < d.eng.length →
    let e := nth (d.fireCatch k s ed).eng k
    e.lgate = true ∧ e.exposing = true ∧ e.edges = (nth d.eng k).edges.drop 1 ∧ e.catchPs = ed.optPs ∧
    e.openEdges.length = (nth d.eng k).openEdges.length + 1 ∧ e.stepIdx = 0 ∧ e.stepEnergy = 0 ∧ e.cellShare = 0 ∧
    e.cellPs = ed.optPs ∧
    ∀ j, j ≠ k → nth (d.fireCatch k s ed).eng j = nth d.eng j

/-- R100, R105, R106, R113, R118, R125, R136, R145: the Marshal's own events. -/
def Obligations.MarshalEventsComplete : Prop :=
  -- records of a sound block enter the window; the reader stands behind the last
  (∀ o l d ops q n s, s.dev.awake = true → s.dev.layers.released = some l → s.dev.mar.places .window < 16384 →
    (∀ p ∈ s.dev.mar.skipped, p.1 ∈ l.damaged) → s.dev.mar.nextRec < l.desc.listCount →
    s.dev.mar.nextRec / 2048 ∉ l.damaged → s.dev.blockLive 7 0 = true →
    s.dev.readBlock s.dram l (s.dev.mar.nextRec / 2048) s.dev.mar.nextRec s.dev.mar.parse o = (d, ops, some (q, n)) →
    exec (.rt0BlockRead o) s = .next (withMem s ((d.onMar fun m => { m with nextRec := n, parse := q }).rt0Check, ops))) ∧
  -- a damaged one is named, and the list goes on behind it
  (∀ o l d ops s, s.dev.awake = true → s.dev.layers.released = some l → s.dev.mar.places .window < 16384 →
    (∀ p ∈ s.dev.mar.skipped, p.1 ∈ l.damaged) → s.dev.mar.nextRec < l.desc.listCount →
    s.dev.mar.nextRec / 2048 ∉ l.damaged → s.dev.blockLive 7 0 = true →
    s.dev.readBlock s.dram l (s.dev.mar.nextRec / 2048) s.dev.mar.nextRec s.dev.mar.parse o = (d, ops, none) →
    exec (.rt0BlockRead o) s = .next (withMem s
      (((((d.onLayer (LayerRec.damage (s.dev.mar.nextRec / 2048))).damageReport (s.dev.mar.nextRec / 2048)).skipBlock l
        (s.dev.mar.nextRec / 2048) s.dev.mar.nextRec s.dev.mar.parse)).rt0Check, ops))) ∧
  (∀ s, Live .dispatchCycle s → exec .dispatchCycle s = .next (withDev s s.dev.dispatchCycle)) ∧
  (∀ s, Live .dispatchOverrun s →
    exec .dispatchOverrun s = .next (withDev s
      ((s.dev.onMar fun m => { m with overruns := m.overruns + 1 }).layerStat fun t => { t with overrun := t.overrun + 1 }))) ∧
  -- a stroke deferred for more than 50 ms is senior
  (∀ q s, s.dev.awake = true →
    exec (.strokeSenior q) s = .next (withDev s (s.dev.onItem q fun i => { i with
      senior := i.senior || match i.deferred with | some t => decide (t + 50000000 < s.dev.timeNs) | none => false }))) ∧
  -- an orphan whose time is out is reported as not exposable
  (∀ q i t s, s.dev.awake = true → (s.dev.mar.window ++ s.dev.mar.repairs).find? (fun i => i.stroke.seq = q) = some i →
    i.orphanSince = some t → t + msT s.dev.mar.inOrphan ≤ s.dev.now → s.dev.offeredSet i.stroke = [] →
    (∀ k ∈ s.dev.eligible i.stroke, s.dev.inT k = true) →
    exec (.orphanTimeout q) s = .next (withDev s ((s.dev.dropItem q).unexposable i.stroke))) ∧
  -- the sweep makes the cells whose mark is 100 ms old cells without a mark
  (∀ s, Live .wakeSweep s →
    exec .wakeSweep s = .next (withDev s (s.dev.onMar fun m =>
      { m with wake := m.wake.map fun c => if 100000 ≤ wakeAge s.dev.us32 c.2.1 then (c.1, c.2.1, c.2.2.1, 0) else c }))) ∧
  -- the thermal sweep brings every cell to the present
  (∀ s, Live .thermalSweep s →
    exec .thermalSweep s = .next (withDev s (s.dev.onMar fun m => { m with
      heat := m.heat.foldl (fun h c => setHeat h c.1 (s.dev.heatNow c.1) s.dev.stamp) m.heat }))) ∧
  ∀ i rest s, Live .repairPlaceFreed s → s.dev.mar.waitRepairs = i :: rest → s.dev.mar.repairRoom = true →
    exec .repairPlaceFreed s = .next (withDev s (s.dev.onMar fun m =>
      { m with repairs := m.repairs ++ [i], waitRepairs := rest }))

/-- R104, R105: a dispatch cycle sends at most four requests, and never one beyond eight pending. -/
def Obligations.DispatchCycleIsBounded : Prop :=
  ∀ d : Dev, d.mar.pending.length ≤ d.dispatchCycle.mar.pending.length ∧
    d.dispatchCycle.mar.pending.length ≤ d.mar.pending.length + 4 ∧
    d.dispatchCycle.mar.pending.length ≤ max 8 d.mar.pending.length

/-- R107, R112, R118, R525 to R528: leave. -/
def Obligations.LeaveEventsComplete : Prop :=
  -- leave given: the stroke enters the oar's buffer with its power
  (∀ r p s, s.dev.awake = true → s.dev.mar.pending.find? (·.req = r) = some p →
    s.dev.mayGrant (p.leave s.dev.now) = true → s.dev.seniorFirst p.item.stroke = false →
    exec (.leaveAnswer r) s = .next (withDev s (s.dev.strokeGranted p).rt0Check)) ∧
  -- leave deferred: it returns to the pool with the reason LEAVE
  (∀ r p s, s.dev.awake = true → s.dev.mar.pending.find? (·.req = r) = some p →
    (s.dev.mayGrant (p.leave s.dev.now) = false ∨ s.dev.seniorFirst p.item.stroke = true) →
    exec (.leaveAnswer r) s = .next (withDev s (s.dev.strokeDeferred p).rt0Check)) ∧
  -- the next waiting request that fits is granted and begins
  (∀ l s, Live .leaveGrant s → (∀ w ∈ s.dev.gov.waiting, s.dev.refusal w = 0) → s.dev.nextGrant = some l →
    exec .leaveGrant s = .next (withMem s ((s.dev.grantLeave l).leaveTaken s.dram l.who))) ∧
  -- one that can no longer be granted is refused with its reason
  (∀ l s, Live .leaveGrant s → s.dev.gov.waiting.find? (fun l => s.dev.refusal l ≠ 0) = some l →
    exec .leaveGrant s = .next (withDev s
      (({ s.dev with gov := { s.dev.gov.refused l.prio (s.dev.refusal l) with
        waiting := s.dev.gov.waiting.filter (·.id ≠ l.id) } }).leaveRefused l.who (s.dev.refusal l)))) ∧
  -- the first P4 request that has waited 100 ms and can be made room for takes just enough of the P5 grants
  (∀ l x xs s, Live .p5Revocation s → s.dev.mc.panic0 = false → s.dev.mc.panic1 = false →
    s.dev.gov.waiting.find? (fun l => l.prio = 4 && decide (l.since + msT 100 ≤ s.dev.now) && ! s.dev.mayGrant l &&
      (s.dev.revokeFor l).any (· ≠ [])) = some l → s.dev.revokeFor l = some (x :: xs) →
    exec .p5Revocation s = .next (withDev s ((x :: xs).foldl Dev.revoked s.dev))) ∧
  -- with no such request, and no panic, nothing is revoked
  (∀ s, Live .p5Revocation s → s.dev.mc.panic0 = false → s.dev.mc.panic1 = false →
    (∀ l ∈ s.dev.gov.waiting, l.prio = 4 → l.since + msT 100 ≤ s.dev.now → s.dev.mayGrant l = false →
      s.dev.revokeFor l = none ∨ s.dev.revokeFor l = some []) →
    exec .p5Revocation s = .next s) ∧
  -- in panic P5 grants end besides, how many is free (the model's choice, log 8)
  ∀ s, Live .p5Revocation s → (s.dev.mc.panic0 = true ∨ s.dev.mc.panic1 = true) →
    (∀ l ∈ s.dev.gov.waiting, l.prio ≠ 4) →
    exec .p5Revocation s = .next (withDev s (
      let n := s.dev.draw (s.dev.gov.revocable.length + 1)
      (n.2.gov.revocable.take n.1).foldl Dev.revoked n.2))

/-- R107, R525: a stroke enters an oar's buffer by the answer to its request only where its chip draw and its plant draw
fit (P0 asks for nothing that could fail to fit); its request is then answered. -/
def Obligations.GrantedStrokeFits : Prop :=
  ∀ r p s t, s.dev.mar.pending.find? (·.req = r) = some p → exec (.leaveAnswer r) s = .next t → s.dev.awake = true →
    (nth t.dev.mar.oars p.oar).buf ≠ (nth s.dev.mar.oars p.oar).buf →
    (p.prio = 0 ∨ s.dev.chipFits (p.leave s.dev.now) = true ∧ s.dev.plantFits (p.leave s.dev.now) = true) ∧
    t.dev.mar.pending = s.dev.mar.pending.filter (·.req ≠ r)

/-- R123, R133, R138, R150, R154 to R157: the `marshal` commands. -/
def Obligations.MarshalCommandsComplete : Prop :=
  (∀ m h b o s x, Starts (.marshalConfig m h b o) s x → 1000 ≤ h → h ≤ 50000 → b ≤ 1000 → o ≤ 10000 →
    exec (.marshalConfig m h b o) s = .next (
      let d := s.dev.onMar fun m => { m with horizon := h, balance := b, orphanMs := o }
      answered s x (d.log x 0x10 0 s.dev.mar.cfgBytes d.mar.cfgBytes)
        (if s.dev.layers.released.isSome then u32 s.dev.mar.inHorizon ++ u32 s.dev.mar.inBalance ++ u32 s.dev.mar.inOrphan
         else d.mar.cfgBytes))) ∧
  -- a map reset, with no layer: the whole map is empty
  (∀ m s x, Starts (.marshalThermal m none) s x → s.dev.queueEmpty = true →
    exec (.marshalThermal m none) s = .next (answered s x
      ((s.dev.onMar fun m => { m with heat := [] }).log x 0x10 1 (u32 s.dev.mar.edge ++ u32 s.dev.mar.energyLsb)
        (u32 s.dev.mar.edge ++ u32 s.dev.mar.energyLsb)) (u32 s.dev.heatSize.1 ++ u32 s.dev.heatSize.2))) ∧
  -- a new cell size or unit empties it too
  (∀ m e l s x, Starts (.marshalThermal m (some (e, l))) s x → s.dev.queueEmpty = true → e % 16000 = 0 → 16000 ≤ e →
    e ≤ 256000 → 1 ≤ l → l ≤ 65535 → (s.dev.heatSizeAt e).1 * (s.dev.heatSizeAt e).2 ≤ 1048576 →
    exec (.marshalThermal m (some (e, l))) s = .next (answered s x
      ((s.dev.onMar fun m => { m with
        edge := e, energyLsb := l, heat := if e = s.dev.mar.edge ∧ l = s.dev.mar.energyLsb then m.heat else [] }).log x 0x10 1
        (u32 s.dev.mar.edge ++ u32 s.dev.mar.energyLsb) (u32 e ++ u32 l))
      (u32 (s.dev.heatSizeAt e).1 ++ u32 (s.dev.heatSizeAt e).2))) ∧
  (∀ m s x, Starts (.marshalStatus m) s x → ∃ r, exec (.marshalStatus m) s = .next (answered s x s.dev r)) ∧
  (∀ m l r s x, Starts (.marshalStats m l) s x → s.dev.layers.kept l = some r →
    exec (.marshalStats m l) s = .next (answered s x s.dev (s.dev.statBytes r))) ∧
  (∀ m l f n r s x, Starts (.marshalInterrupted m l f n) s x → s.dev.layers.kept l = some r →
    exec (.marshalInterrupted m l f n) s = .next (answered s x s.dev
      (listOf IntRec.bytes (((r.ints.drop f).take n).take 62)))) ∧
  -- the wake map emptied in Ready, or a rectangle of it read
  (∀ m s x, Starts (.marshalWake m none) s x → s.dev.mode.mode = .ready →
    exec (.marshalWake m none) s = .next (answered s x ((s.dev.onMar fun m => { m with wake := [] }).log x 0x10 2 [] []))) ∧
  (∀ m c r w h s x, Starts (.marshalWake m (some (c, r, w, h))) s x → 1 ≤ w → 1 ≤ h → c + w ≤ 256 → r + h ≤ 256 →
    exec (.marshalWake m (some (c, r, w, h))) s = .next (answered s x s.dev
      ((rectCells 256 c r w h).flatMap s.dev.mar.wakeBytes))) ∧
  -- a rectangle of the thermal map written to device memory, each cell as it is now
  (∀ m c r w h a s x, Starts (.marshalHeat m c r w h a 0) s x → 1 ≤ w → 1 ≤ h → c + w ≤ s.dev.heatSize.1 →
    r + h ≤ s.dev.heatSize.2 → s.dev.rangeOk a (4 * (w * h)) = true →
    exec (.marshalHeat m c r w h a 0) s = .next (withMem s (
      let bs := (rectCells s.dev.heatSize.1 c r w h).flatMap fun c => u16 (s.dev.heatNow c) ++ u16 s.dev.stamp
      ((((s.dev.activate a bs.length).partialPoison s.dram 4 a bs.length).respond x.mbx 0 0 0 0 []), [.write a bs])))) ∧
  -- and loaded from it in Ready with no layer, the cells stamped with the present
  ∀ m c r w h a s x, Starts (.marshalHeat m c r w h a 1) s x → 1 ≤ w → 1 ≤ h → c + w ≤ s.dev.heatSize.1 →
    r + h ≤ s.dev.heatSize.2 → a + 4 * (w * h) ≤ s.dev.mc.hostLimit → s.dev.mode.mode = .ready →
    s.dev.queueEmpty = true → s.dram.marked a (4 * (w * h)) = [] →
    exec (.marshalHeat m c r w h a 1) s = .next (
      let bs := memBytes s.dram.mem a (4 * (w * h))
      answered s x (((s.dev.activate a (4 * (w * h))).onMar fun m => { m with
        heat := ((rectCells s.dev.heatSize.1 c r w h).zipIdx).foldl (fun g c =>
          setHeat g c.1 (fieldOf bs (4 * c.2) 2) s.dev.stamp) m.heat }).log x 0x10 3 [] bs))

/-- R310, R316 to R329, R337, R343 to R345: the `slide` commands. -/
def Obligations.SlideCommandsComplete : Prop :=
  -- the descriptor of an axis at rest is installed: its limits are in force and its state of rest is its own; the resolution
  -- follows at a later step boundary (the model's choice, log 142); the Logbook has a record (R346)
  (∀ m c s x, Starts (.slideConfig m [c]) s x → AxisDesc.ok c = true → (s.dev.axis c.axis).busy = false →
    c.axis < s.dev.slides.axes.length →
    ∃ t, exec (.slideConfig m [c]) s = .next t ∧ t.dram = s.dram ∧
      (t.dev.axis c.axis).desc = some c ∧ (t.dev.axis c.axis).lims = [c.vMax, c.aMax, c.dMax, c.jMax] ∧
      (t.dev.axis c.axis).micro = (s.dev.axis c.axis).micro ∧ (t.dev.axis c.axis).pos = (s.dev.axis c.axis).pos ∧
      (t.dev.axis c.axis).st = (t.dev.axis c.axis).restState ∧ t.dev.logs.nextLog = s.dev.logs.nextLog + 1 ∧
      (∀ a, a ≠ c.axis → t.dev.axis a = s.dev.axis a) ∧ t.dev.slides.encs = s.dev.slides.encs) ∧
  -- one of an axis in motion waits for its end
  (∀ m c s x, Starts (.slideConfig m [c]) s x → AxisDesc.ok c = true → (s.dev.axis c.axis).busy = true →
    ∃ t, exec (.slideConfig m [c]) s = .next t ∧ t.dram = s.dram ∧
      t.dev.slides = (s.dev.onAxis c.axis fun y => { y with pendingDesc := some c }).slides) ∧
  -- encoder descriptors: count 0, observer in STILL; the record in the journal is the model's reading (log 129)
  (∀ m cs s x, Starts (.slideEncoder m cs) s x → (∀ c ∈ cs, EncDesc.ok c = true) → (∀ c ∈ cs, s.dev.encBusy c.enc = false) →
    exec (.slideEncoder m cs) s = .next (answered s x ((cs.foldl (fun d c => d.onEnc c.enc fun e => { e with
      desc := c, count := 0, rem := 0, conv := 0, indexPhase := none, pHat := 0, vHat := 0, still := true
      stillPair := none }) s.dev).log x 0x05 ((cs.head?.map (·.enc)).getD 0)
        (cs.flatMap fun c => encBytes (nth s.dev.slides.encs c.enc).desc) (cs.flatMap encBytes)))) ∧
  -- a move, taken under leave
  (∀ m a p v d s x, Starts (.slideMove m a p v) s x → a < 8 → fits40 p = true → (∀ n ∈ v, 1 ≤ n ∧ n ≤ 1024000000) →
    (s.dev.axis a).targetDetail p = 0 → (s.dev.axis a).loopUse ≠ 2 →
    (s.dev.mode.mode = .build ∨ s.dev.mode.mode = .hold → s.dev.slides.recoat.hasRole a = false) →
    ((s.dev.axis a).st = .idle ∨ (s.dev.axis a).st = .moving ∨ (s.dev.axis a).st = .pending) →
    (s.dev.onAxis a fun y => y.aim p v).axisRequest a = (.granted, d) →
    exec (.slideMove m a p v) s = .next (taken s x d 0 (.move a))) ∧
  -- a stop of the axes of a mask
  (∀ m k s x, Starts (.slideStop m k) s x → k < 256 →
    exec (.slideStop m k) s = .next (answered s x ((bitsOf 8 k).foldl (fun d a =>
      (d.axisStop a 0x31).onAxis a fun y => if y.loopUse = 2 then { y with heldStop := true } else y) s.dev))) ∧
  -- a search, taken under leave
  (∀ m a (h : HomeArg) d s x, Starts (.slideHome m a h) s x → a < 8 → (s.dev.axis a).st = .idle →
    HomeArg.ok h (s.dev.axis a) = true → ((s.dev.axis a).limP && (s.dev.axis a).limN) = false →
    (s.dev.onAxis a fun y => { y with
      homing := some ⟨h, false, none, 0, 0, false, false⟩, toTarget := false, vUse := none, inPosSince := none,
      stopStatus := 0 }).axisRequest a = (.granted, d) →
    exec (.slideHome m a h) s = .next (taken s x d 0 (.home a))) ∧
  (∀ m a v c d j s x, Starts (.slideLimits m a v c d j) s x → a < 8 → 1 ≤ v → v ≤ 1024000000 → 1 ≤ c → 1 ≤ d → 1 ≤ j →
    (∀ e ∈ (s.dev.axis a).desc, pulseOk v e.microCoarse e.stepW = true) →
    exec (.slideLimits m a v c d j) s = .next (
      let t := s.dev.onAxis a fun y => y.newLims v c d j
      answered s x (t.log x 0x05 a ((s.dev.axis a).lims.flatMap u32) ((t.axis a).lims.flatMap u32))
        ((t.axis a).lims.flatMap u32))) ∧
  -- a position set at rest, where an axis is that waits for leave
  (∀ m a p s x, Starts (.slideSetpos m a p) s x → a < 8 → fits40 p = true →
    ((s.dev.axis a).busy = false ∨ (s.dev.axis a).st = .pending) → (s.dev.axis a).atRest = true →
    exec (.slideSetpos m a p) s = .next (answered s x ((s.dev.onAxis a fun y => { y with
      pos := p, off := 0, target := if y.st = .pending then y.target else p, stepPos := y.stepPos + (p - y.units), flags := flagSet y.flags 0
      inPosSince := none }).log x 0x05 a (i64 (s.dev.axis a).units) (i64 p)))) ∧
  (∀ m (r : RecoatArg) s x, Starts (.slideRecoat m r) s x → RecoatArg.ok s.dev r = true → s.dev.queueEmpty = true →
    exec (.slideRecoat m r) s = .next (answered s x ((s.dev.onRecoat fun c => { c with arg := some r }).log x 0x05 r.recoater
      ((s.dev.slides.recoat.arg.map recoatBytes).getD []) (recoatBytes r)))) ∧
  (∀ m k s x, Starts (.slideStatus m k) s x → k < 256 →
    exec (.slideStatus m k) s = .next (answered s x s.dev
      ((bitsOf 8 k).flatMap s.dev.axisReport ++ u32 s.dev.slides.recoat.step))) ∧
  -- faults whose cause is gone are cleared, and reported
  (∀ m k s x, Starts (.slideClear m k) s x → k < 256 →
    (∀ a ∈ bitsOf 8 k, (s.dev.axis a).faulted = true → s.dev.faultStands a = false) →
    exec (.slideClear m k) s = .next (answered s x ((bitsOf 8 k).foldl (fun d a => d.onAxis a SlideAxis.clear) s.dev)
      ((bitsOf 8 k).flatMap fun a => u32 ((s.dev.axis a).flags &&& clearFlags)))) ∧
  -- and not where it stands
  ∀ m k s x, Starts (.slideClear m k) s x → k < 256 →
    (∃ a ∈ bitsOf 8 k, (s.dev.axis a).faulted = true ∧ s.dev.faultStands a = true) →
    exec (.slideClear m k) s = .next (turnedAway s x 0x12 0 0)

/-- R323 to R328: limit switches and homing. R330 to R336: encoder inputs. -/
def Obligations.AxisEventsComplete : Prop :=
  (-- a limit reached stops the motion of its axis
  (∀ a s, Live (.limitActive a true) s → (s.dev.axis a).limP = false → (s.dev.axis a).limN = false →
    (s.dev.axis a).homing = none → (s.dev.axis a).busy = true → a < s.dev.slides.axes.length →
    exec (.limitActive a true) s = .next (withDev s
      ((((s.dev.onAxis a (SlideAxis.setLimit true true)).onAxis a fun y => { y with flags := flagSet y.flags 1 }).axisStop a
        0x31).recoatFault a))) ∧
  (∀ a s, Live (.limitActive a false) s → (s.dev.axis a).limP = false → (s.dev.axis a).limN = false →
    (s.dev.axis a).homing = none → (s.dev.axis a).busy = true → a < s.dev.slides.axes.length →
    exec (.limitActive a false) s = .next (withDev s
      ((((s.dev.onAxis a (SlideAxis.setLimit false true)).onAxis a fun y => { y with flags := flagSet y.flags 2 }).axisStop a
        0x31).recoatFault a))) ∧
  (∀ a p s, Live (.limitClear a p) s →
    exec (.limitClear a p) s = .next (withDev s (s.dev.onAxis a fun y =>
      { y.setLimit p false with flags := flagClear y.flags (if p then 1 else 2) }))) ∧
  -- a limit's level and that of its pin, which its INV bit turns over
  (∀ (y : SlideAxis) l, (y.setLimit true l).limP = l ∧ (y.setLimit true l).pinP = (l == y.inv 2) ∧
    (y.setLimit true l).limN = y.limN ∧ (y.setLimit false l).limN = l ∧ (y.setLimit false l).pinN = (l == y.inv 3) ∧
    (y.setLimit false l).limP = y.limP) ∧
  -- the qualified edge of a search takes its latch
  (∀ a h s, Live (.homeEdgeQualified a) s → (s.dev.axis a).homing = some h → (s.dev.axis a).searching = true →
    h.qualified = false → h.arg.mode ≠ 2 → a < s.dev.slides.axes.length →
    (((s.dev.axis a).setSwitch true).limP && ((s.dev.axis a).setSwitch true).limN) = false →
    exec (.homeEdgeQualified a) s = .next (withDev s ((s.dev.onAxis a fun y =>
      { y.setSwitch true with homing := some { h with qualified := true } }).takeLatch a))) ∧
  -- a toggle near the latch is counted
  (∀ a h l s, Live (.homingSwitchToggle a) s → (s.dev.axis a).homing = some h → h.latch = some l →
    (s.dev.axis a).searching = true → |(s.dev.axis a).cmd - l.1| ≤ (h.arg.lockout : Rat) → h.toggles < 8 →
    exec (.homingSwitchToggle a) s = .next (withDev s (s.dev.onAxis a fun y =>
      { y.setSwitch (! y.switch) with homing := some { h with toggles := h.toggles + 1 } }))) ∧
  -- more than eight within QUAL_WIN end the search
  (∀ a h l s, Live (.homingSwitchToggle a) s → (s.dev.axis a).homing = some h → h.latch = some l →
    (s.dev.axis a).searching = true → |(s.dev.axis a).cmd - l.1| ≤ (h.arg.lockout : Rat) → 8 ≤ h.toggles →
    s.dev.now ≤ h.latchTick + msT h.arg.qualWin →
    exec (.homingSwitchToggle a) s = .next (withDev s ((s.dev.onAxis a fun y =>
      { y.setSwitch (! y.switch) with homing := some { h with toggles := h.toggles + 1 } }).homingFault a))) ∧
  -- the window ends: the axis is homed where its switch is still active, else the search fails
  ∀ a h l s, Live (.homingQualWinEnd a) s → (s.dev.axis a).homing = some h → h.latch = some l →
    (s.dev.axis a).searching = true → h.latchTick + msT h.arg.qualWin ≤ s.dev.now →
    exec (.homingQualWinEnd a) s = .next (withDev s
      (if (s.dev.axis a).switch then s.dev.homed a h l.1 else s.dev.homingFault a))) ∧
  (-- a change of A or B of a quiet input that no imaged recoat uses counts by its quadrature (a sound input, in motion)
  (∀ n h s, Live (.encoderEdge n 0 h) s → s.dev.recoatEnc ≠ some n → (nth s.dev.slides.encs n).a ≠ h →
    (nth s.dev.slides.encs n).wireFault = false → (nth s.dev.slides.encs n).still = false →
    (nth s.dev.slides.encs n).edgeA h ≠ 0 → (nth s.dev.slides.encs n).desc.eflags.testBit 0 = false →
    exec (.encoderEdge n 0 h) s = .next (withDev s ((s.dev.onEnc n fun e =>
      e.counted ((nth s.dev.slides.encs n).edgeA h) s.dev.now 250).onEnc n fun e => { e with a := h }))) ∧
  (∀ n h s, Live (.encoderEdge n 1 h) s → s.dev.recoatEnc ≠ some n → (nth s.dev.slides.encs n).b ≠ h →
    (nth s.dev.slides.encs n).wireFault = false → (nth s.dev.slides.encs n).still = false →
    (nth s.dev.slides.encs n).edgeB h ≠ 0 → (nth s.dev.slides.encs n).desc.eflags.testBit 0 = false →
    exec (.encoderEdge n 1 h) s = .next (withDev s ((s.dev.onEnc n fun e =>
      e.counted ((nth s.dev.slides.encs n).edgeB h) s.dev.now 250).onEnc n fun e => { e with b := h }))) ∧
  -- a simultaneous change in quadrature mode is an error and no count
  (∀ n h s, Live (.encoderEdge n 3 h) s → s.dev.recoatEnc ≠ some n → (nth s.dev.slides.encs n).desc.emode = 0 →
    exec (.encoderEdge n 3 h) s = .next (withDev s
      (((s.dev.onEnc n fun e => { e with a := ! e.a, b := ! e.b }).onEnc n fun e =>
        { e with quadErr := e.quadErr + 1 }).spoil 0x0A n 0x003 false 0))) ∧
  (∀ n w s, Live (.encoderGlitch n w) s →
    exec (.encoderGlitch n w) s = .next (withDev s
      ((s.dev.onEnc n fun e => { e with glitch := e.glitch + 1 }).spoil 0x0A n 0x002 false 0))) ∧
  -- a wire fault freezes the input; the axes that check it are faulted
  (∀ n s, Live (.wireFault n) s → (nth s.dev.slides.encs n).wireFault = false →
    (∀ a < 8, (s.dev.axis a).enc ≠ some n) →
    ∃ t, exec (.wireFault n) s = .next t ∧ t.dram = s.dram ∧
      t.dev.slides = (s.dev.onEnc n fun e => { e with wireFault := true, wireTick := s.dev.now }).slides) ∧
  (∀ n s, Live (.wireFaultClear n) s → (nth s.dev.slides.encs n).wireTick + msT 1 ≤ s.dev.now →
    exec (.wireFaultClear n) s = .next (withDev s (s.dev.onEnc n fun e =>
      if s.dev.now < e.wireTick + msT 1 then e else { e with wireFault := false }))) ∧
  (∀ n s, Live (.indexStuck n) s → (nth s.dev.slides.encs n).i = true → (nth s.dev.slides.encs n).stuck = false →
    (nth s.dev.slides.encs n).iSince + usT (nth s.dev.slides.encs n).desc.idxMaxOn < s.dev.now →
    exec (.indexStuck n) s = .next (withDev s
      ((s.dev.onEnc n fun e => { e with stuck := true }).spoil 0x0A n 0x005 false 0))) ∧
  -- the observer's period: speed and position follow the count; in STILL the speed is 0
  (∀ n s, Live (.speedObserver n) s → (nth s.dev.slides.encs n).obsUs < s.dev.now / usT 1 →
    exec (.speedObserver n) s = .next (withDev s (
      let e := nth s.dev.slides.encs n
      let rev := decide (e.vHat * e.observe.vHat < 0)
      (s.dev.onEnc n fun _ => { e.observe with
        obsUs := s.dev.now / usT 1, revCount := e.observe.revCount + (if rev then 1 else 0) }).encFlag n 10 rev))) ∧
  -- it has run already in this µs
  (∀ n s, Live (.speedObserver n) s → s.dev.now / usT 1 ≤ (nth s.dev.slides.encs n).obsUs →
    exec (.speedObserver n) s = .next s) ∧
  (∀ e : Encoder, e.still = true → e.observe.vHat = 0 ∧ e.observe.pHat = e.count) ∧
  ∀ n s, Live (.encoderStill n) s → (nth s.dev.slides.encs n).still = false →
    (nth s.dev.slides.encs n).lastCountTick + usT (nth s.dev.slides.encs n).desc.stillTime ≤ s.dev.now →
    exec (.encoderStill n) s = .next (withDev s (s.dev.onEnc n fun e => { e with still := true, stillPair := none })))

/-- R334: what a count does to the converted position is exact: count by count, position and remainder carry ENC_NUM /
ENC_DEN. -/
def Obligations.EncoderRatioIsExact : Prop :=
  ∀ (e : Encoder) (ns : List Int), 0 < e.desc.den →
    (ns.foldl Encoder.move e).conv * e.desc.den + (ns.foldl Encoder.move e).rem =
      e.conv * e.desc.den + e.rem + ns.sum * e.desc.num ∧
    (ns ≠ [] → 0 ≤ (ns.foldl Encoder.move e).rem ∧ (ns.foldl Encoder.move e).rem < e.desc.den)

/-- R351, R359 to R366: the `image` and `led` commands. -/
def Obligations.ImagingCommandsComplete : Prop :=
  -- imaging as configured: its slots are blank, the setting is held in flash and logged
  (∀ m (c : ImageArg) s x, Starts (.imageConfig m c) s x → s.dev.imageOk c = true → s.dev.queueEmpty = true →
    s.dev.imagingBusy = false →
    exec (.imageConfig m c) s = .next (answered s x
      (let d := { s.dev with
        img := { s.dev.img with cfg := some c, slots := List.replicate c.slots ImageRun.blank, run := none }
        flash := { s.dev.flash with img := some c } }
       (if (s.dev.port 32).linked then d.sendCamera 32 else d).log x 0x0E 0xFFFF (imageStored s.dev.img.cfg) (imageBytes c))
      (u32 (s.dev.lineMin c) ++ u64 (imgSlotBytes c)))) ∧
  (∀ m s x, Starts (.imageStatus m) s x →
    exec (.imageStatus m) s = .next (answered s x s.dev
      (s.dev.img.slots.flatMap ImageRun.header ++ u32 (s.dev.port 32).stateCode))) ∧
  -- one line, with the recoater at rest
  (∀ m k a c s x, Starts (.imageLine m k a) s x → s.dev.img.cfg = some c → k < c.dirs.length →
    s.dev.rangeOk a (imgRecBytes c) = true → s.dev.recoaterMoves = false → s.dev.img.line = none →
    (s.dev.port 32).hearing = true →
    ∃ l : LineRx, l.dir = k ∧ l.sent = false ∧ l.startTick = s.dev.now ∧ l.words = [] ∧
      exec (.imageLine m k a) s = .next (running s x
        { s.dev with img := { s.dev.img with line := some l, single := some (k, a) } } .imageLine true)) ∧
  (∀ m k r i v s x, Starts (.ledConfig m k r i v) s x → k < 12 → 1 ≤ r → r ≤ 1000 → 1 ≤ i →
    i ≤ (if k < 8 then 2000 else 300) → v ≤ 1600 → r * i ≤ 20000 → s.dev.imagingBusy = false →
    exec (.ledConfig m k r i v) s = .next (answered s x (
      let d1 := s.dev.onLed k fun c => { c with configured := true, rsense := r, iSet := i, vShort := v }
      { d1 with flash := { d1.flash with leds := d1.flash.leds.set k (some (r, i, v)) } }.log x 0x0E k
        (ledStored ((s.dev.led k).rsense, (s.dev.led k).iSet, (s.dev.led k).vShort)) (ledStored (r, i, v))))) ∧
  (∀ m n ps s x, Starts (.ledPattern m n ps) s x → n < 16 → ps ≠ [] → ps.length ≤ 32 → (∀ p ∈ ps, PatternStep.ok p = true) →
    exec (.ledPattern m n ps) s = .next (answered s x
      ({ s.dev with img := { s.dev.img with patterns := s.dev.img.patterns.set n ps } }.log x 0x0E n
        (patternBytes (nth s.dev.img.patterns n)) (patternBytes ps)))) ∧
  -- the channels of the mask take the pattern; the time of all four general channels restarts
  (∀ m k n p ms s x, Starts (.ledSet m k n p ms) s x → k &&& 0xF00 = k → n < 16 → (∀ q ∈ ms, q < 16 ∨ q = 0xFF) →
    exec (.ledSet m k n p ms) s = .next (answered s x (
      let g : Imaging := { s.dev.img with
        baseTick := s.dev.now
        leds := s.dev.img.leds.mapIdx fun i c =>
          if i < 8 then c
          else if Nat.testBit k i then { c with ms := 0, pattern := n, chosen := n, phaseMs := p, map := ms }
          else { c with ms := 0 } }
      { s.dev with img := g }.log x 0x0E 0xFFFF s.dev.img.setForm g.setForm))) ∧
  (∀ m (a : LampArg) s x, Starts (.ledLamp m a) s x → LampArg.ok a = true → s.dev.imagingBusy = false →
    exec (.ledLamp m a) s = .next (answered s x
      ({ s.dev with
        img := { s.dev.img with lamp := some a }
        flash := { s.dev.flash with lamp := some a } }.log x 0x0E 0xFFFF (lampStored s.dev.img.lamp) (lampStored (some a))))) ∧
  (∀ m s x, Starts (.ledStatus m) s x →
    exec (.ledStatus m) s = .next (answered s x s.dev
      (s.dev.img.leds.flatMap (fun (c : LedChan) => u32 c.code ++ u32 c.senseUv ++ u32 c.stringMv ++ u32 c.result) ++
        i32 (s.dev.img.lampTemp.getD (-32768)) ++ u32 (natOf (s.dev.img.factor * 65536).floor)))) ∧
  -- with a channel of the mask in FAULT, each such channel awaits its test
  (∀ m k s x, Starts (.ledClear m k) s x → k < 4096 → (∃ c ∈ bitsOf 12 k, (s.dev.led c).fault = true) →
    (∀ j ∈ s.dev.host.jobs, ∀ q, j.kind ≠ .ledClear q) →
    exec (.ledClear m k) s = .next (running s x
      ((bitsOf 12 k).foldl (fun d c => d.onLed c fun y => { y with test := if y.fault then 1 else 0 }) s.dev)
      (.ledClear k) false)) ∧
  -- with none it has nothing to do
  ∀ m k s x, Starts (.ledClear m k) s x → k < 4096 → (∀ c ∈ bitsOf 12 k, (s.dev.led c).fault = false) →
    exec (.ledClear m k) s = .next (answered s x s.dev (u32 0))

/-- R338, R339, R349, R352, R354, R359 to R365: lines, strobes, samples, the lamp board, patterns, the recoat. R363: the
derating factor never leaves 0 to 1, and never rises with the temperature. -/
def Obligations.ImagingEventsComplete : Prop :=
  (-- LINE_START leaves in the first frame whose cut-off follows the trigger
  (∀ l c s, Live .lineStartSend s → s.dev.img.line = some l → s.dev.img.cfg = some c → l.sent = false →
    l.edgeTick < s.dev.now → s.dev.imagerFramed = true →
    exec .lineStartSend s = .next (withDev s { s.dev with
      img := { s.dev.img with line := some { l with
        sent := true
        startTick := s.dev.now
        midPs := (s.dev.psNow + ((s.dev.port 32).dHead : Rat) + 500 * c.lineExp).floor } }
      links := { s.dev.links with out := upd s.dev.links.out 32 fun bs => bs.take 1 ++ lineBlocks c l ++ bs.drop 4 } })) ∧
  -- where strobes do not fire the line is taken dark
  (∀ l c s, Live .strobePulseStart s → s.dev.img.line = some l → s.dev.img.cfg = some c → l.sent = true → l.pulsed = false →
    l.startTick + c.strobeDelay / 250 ≤ s.dev.now →
    ¬ (s.dev.img.single.isSome = true ∧ s.dev.mode.mode = .ready) →
    ¬ (s.dev.mode.mode = .build ∧ s.dev.slides.recoat.step = 2) →
    exec .strobePulseStart s = .next (withDev s { s.dev with img := { s.dev.img with line := some { l with pulsed := true } } })) ∧
  -- with the lamp board too hot the line is taken dark
  (∀ l c s, Live .strobePulseStart s → s.dev.img.line = some l → s.dev.img.cfg = some c → l.sent = true → l.pulsed = false →
    s.dev.strobesLive = true → l.startTick + c.strobeDelay / 250 ≤ s.dev.now → s.dev.img.factor = 0 →
    exec .strobePulseStart s = .next (withDev s { s.dev with img := { s.dev.img with line := some { l with
      pulsed := true, flags := l.flags ||| 8, strings := 0, current := 0 } } })) ∧
  -- else its strings light, at the derated current: the factor, at most 1, sets it, and below 1 the line's flag
  (∀ l c s, Live .strobePulseStart s → s.dev.img.line = some l → s.dev.img.cfg = some c → l.sent = true → l.pulsed = false →
    s.dev.strobesLive = true → l.startTick + c.strobeDelay / 250 ≤ s.dev.now → 0 < s.dev.img.factor → s.dev.img.factor ≤ 1 →
    (∀ i ∈ bitsOf 8 (nth c.dirs l.dir).mask, (s.dev.led i).configured = true → (s.dev.led i).fault = false →
      (s.dev.led i).pulseNs (250 * l.startTick + c.strobeDelay) + (nth c.dirs l.dir).width ≤ c.dutyMax * 100000) →
    exec .strobePulseStart s = .next (withDev s (
      let a := nth c.dirs l.dir
      let strings := (bitsOf 8 a.mask).filter fun i => (s.dev.led i).configured && ! (s.dev.led i).fault
      strings.foldl (fun d i => d.onLed i fun q => { q with
        gate := true
        sampled := false
        pulses := (250 * l.startTick + c.strobeDelay, a.width) :: q.pulses.filter fun p =>
          250 * l.startTick + c.strobeDelay < p.1 + p.2 + 10000000 })
        { s.dev with img := { s.dev.img with line := some { l with
          pulsed := true, flags := l.flags ||| (if s.dev.img.factor < 1 then 8 else 0), strings := maskOf strings
          current := natOf (roundRat (a.current * s.dev.img.factor)) } } }))) ∧
  -- one pulse too many within 10 ms for a string of the direction: the pulse is left out, and the line says so
  (∀ l c i s, Live .strobePulseStart s → s.dev.img.line = some l → s.dev.img.cfg = some c → l.sent = true → l.pulsed = false →
    s.dev.strobesLive = true → l.startTick + c.strobeDelay / 250 ≤ s.dev.now → 0 < s.dev.img.factor → s.dev.img.factor ≤ 1 →
    i ∈ bitsOf 8 (nth c.dirs l.dir).mask → (s.dev.led i).configured = true → (s.dev.led i).fault = false →
    c.dutyMax * 100000 < (s.dev.led i).pulseNs (250 * l.startTick + c.strobeDelay) + (nth c.dirs l.dir).width →
    exec .strobePulseStart s = .next (withDev s { s.dev with img := { s.dev.img with line := some { l with
      pulsed := true, flags := l.flags ||| (if s.dev.img.factor < 1 then 8 else 0) ||| 16, strings := 0, current := 0 } } })) ∧
  -- a sample of a general channel that is due is judged for open and short; the third failing one in a row puts it into FAULT
  (∀ k u v b s, Live (.strobeSenseSample k u v b) s → (s.dev.led k).test ≠ 1 → s.dev.sampleDue k = true → 8 ≤ k →
    exec (.strobeSenseSample k u v b) s = .next (withDev s
      ((s.dev.onLed k fun c => { c with senseUv := u, stringMv := v, sampled := true }).ledResult k
        ((s.dev.led k).judge (s.dev.ledCurrent k) u v false)))) ∧
  -- a line's deadline writes it as it stands
  (∀ l c s, Live .lineDeadline s → s.dev.img.line = some l → s.dev.img.cfg = some c → l.sent = true →
    l.startTick * 250 + s.dev.lineMin c + 100000 ≤ s.dev.now * 250 →
    exec .lineDeadline s = .next (withMem s (recWrites s.dram s.dev.lineEnd))) ∧
  -- the lamp temperature and the derating it gives; a thermistor out of range switches the strings off
  (∀ k a s, Live (.lampTemperature k) s → s.dev.img.lamp = some a → (k < a.thermLo ∨ a.thermHi < k) →
    exec (.lampTemperature k) s = .next (withDev s
      { s.dev with img := { s.dev.img with lampTemp := none, factor := 0 } })) ∧
  (∀ k a t s, Live (.lampTemperature k) s → s.dev.img.lamp = some a → a.thermLo ≤ k → k ≤ a.thermHi →
    lampTempAt a k = some t →
    exec (.lampTemperature k) s = .next (withDev s { s.dev with img := { s.dev.img with
      lampTemp := some t
      factor := if t < a.tDerate then 1 else if a.tMax ≤ t then 0 else
        ((a.tMax - t : Int) : Rat) / ((a.tMax - a.tDerate : Int) : Rat) } })) ∧
  -- every 1 ms the general channels go on with their patterns
  (∀ s, Live .ledPatternTick s → s.dev.img.baseTick + msT 1 ≤ s.dev.now →
    exec .ledPatternTick s = .next (withDev s { s.dev with img := { s.dev.img with
      baseTick := s.dev.img.baseTick + msT 1
      ledMode := s.dev.mode.mode
      leds := s.dev.img.leds.mapIdx fun i c => if i < 8 then c else s.dev.img.channelTick s.dev.mode.mode c } })) ∧
  -- the recoat of the layer at the head starts with every recoat axis homed; with one unhomed the device holds
  (∀ c g s, Live .recoatStart s → s.dev.recoatDue = some c → s.dev.slides.recoat.arg = some g →
    exec .recoatStart s = .next (withDev s
      (if s.dev.recoatUnhomed then s.dev.enterHold .unhomed false none 4 else s.dev.recoatGo g c).recoatWatch)) ∧
  -- the last axis of a step in position: the next step begins
  ∀ a s, Live (.inPosition a) s → s.dev.slides.recoat.step ≠ 0 → s.dev.slides.recoat.suspended = false →
    s.dev.slides.recoat.faulted = false → s.dev.mode.mode = .build → s.dev.slides.recoat.waiting = [a] →
    s.dev.inPosition a = true →
    exec (.inPosition a) s = .next (withMem s (
      let r := recWrites s.dram (s.dev.onRecoat fun r => { r with waiting := [] }).recoatNext
      (r.1.recoatWatch, r.2)))) ∧
  (∀ (a : LampArg) (t u : Int), a.tDerate < a.tMax → t ≤ u →
    0 ≤ lampFactor a u ∧ lampFactor a u ≤ lampFactor a t ∧ lampFactor a t ≤ 1)

/-- R296, R299 to R301, R309: the commands of a Rigger port. -/
def Obligations.LinkCommandsComplete : Prop :=
  (∀ m p w h q a s x, Starts (.oarLink m p w h q a) s x → s.dev.badPortMask p = false → 1 ≤ w → w ≤ 63 → 2 ≤ h → h ≤ 508 →
    q < 8 → a < 2 →
    exec (.oarLink m p w h q a) s = .next (
      let d1 := (bitsOf 33 p).foldl (fun d n => d.onPort n fun r =>
        { r with eqWidth := w, eqHeight := h, outPreset := q, autoSleep := decide (a = 1) }) s.dev
      answered s x (d1.log x 0x11 (maskIndex 33 p) ((bitsOf 33 p).flatMap fun n => (s.dev.port n).linkBytes)
        ((bitsOf 33 p).flatMap fun n => (d1.port n).linkBytes)) ([w, h, q, a].flatMap u32))) ∧
  (∀ m p c s x, Starts (.oarLinkstat m p c) s x → s.dev.badPortMask p = false → c ≤ 1 →
    exec (.oarLinkstat m p c) s = .next (answered s x
      (if c = 1 then (bitsOf 33 p).foldl (fun d n => d.onPort n fun r => { r with counters := List.replicate 18 0 }) s.dev
       else s.dev) ((bitsOf 33 p).flatMap fun n => (s.dev.port n).report))) ∧
  -- retraining from T0 of the ports of a mask; the command goes on until they have settled
  (∀ m p s x, Starts (.oarRetrain m p) s x → s.dev.badPortMask p = false → p ≠ 0 →
    exec (.oarRetrain m p) s = .next (running s x ((bitsOf 33 p).foldl Dev.trainStart s.dev) (.train p) true)) ∧
  -- a sleep state asked of ports that may sleep
  (∀ m p k s x, Starts (.oarPower m p k) s x → s.dev.badPortMask p = false → 1 ≤ k → k ≤ 3 →
    (∀ n ∈ bitsOf 33 p, s.dev.maySleep n = true ∧ (s.dev.port n).sleepNow ≠ 4) →
    exec (.oarPower m p k) s = .next (
      let d := (bitsOf 33 p).foldl (fun d n => d.askSleep k n) s.dev
      if d.powerSettled p then answered s x d (d.powerResult p) else running s x d (.power p k) true)) ∧
  -- a scan of the eye that has its leave at once: one count for each point, each at most 2^N
  (∀ m p h0 h1 v0 v1 n a d s x, Starts (.oarEyescan m p h0 h1 v0 v1 n a) s x → p < 33 → s.dev.portExists p = true →
    -32 ≤ h0 → h0 ≤ h1 → h1 ≤ 31 → -127 ≤ v0 → v0 ≤ v1 → v1 ≤ 127 → 20 ≤ n → n ≤ 34 →
    s.dev.rangeOk a (4 * scanPoints h0 h1 v0 v1) = true → (s.dev.port p).st = .trained → s.dev.scanning p = false →
    s.dev.request (.eyescan p) 4 100 0 = (.granted, d) →
    exec (.oarEyescan m p h0 h1 v0 v1 n a) s = .next (withMem s (
      let r := (d.release (isEyescan p)).scanCounts (scanPoints h0 h1 v0 v1) n
      let w := r.2.coxWrite s.dram a r.1
      (w.1.respond x.mbx 0 0 0 0 [], w.2)))) ∧
  -- a service request; a write needs Ready
  ∀ m p o a l bs s x, Starts (.oarSvc m p o a l bs) s x → p < 33 → s.dev.portExists p = true → o ≤ 1 → a % 4 = 0 →
    l % 4 = 0 → 1 ≤ l → l ≤ 32 → (o = 1 → 0x100 ≤ a ∧ s.dev.mode.mode = .ready) → (s.dev.port p).svc.length < 4 →
    exec (.oarSvc m p o a l bs) s = .next (running s x (s.dev.onPort p fun q => { q with
      svc := q.svc ++ [⟨q.svcTag, o + 1, a, l, bs, s.dev.now, 0, true⟩]
      svcTag := (q.svcTag + 1) % 256 }) (.service p (s.dev.port p).svcTag) true)

/-- R286 to R293, R296, R297, R300, R302: training, relock, sleep, probes and the service channel. -/
def Obligations.LinkEventsComplete : Prop :=
  -- 16 frames without an acknowledgement: the port stays ACTIVE
  (∀ p k s, Live (.sleepAckTimeout p) s → (s.dev.port p).sleepReq = some k → k ≠ 0 → (s.dev.port p).sleep = 0 →
    16 ≤ (s.dev.port p).cmdFrames → (s.dev.port p).acks = 0 →
    exec (.sleepAckTimeout p) s = .next (withDev s
      ((s.dev.onPort p fun q => { q with sleepReq := none, cmdFrames := 0 }).spoil 0x05 p 0x004 false (sleepCmd k)).powerJobs)) ∧
  -- a direction that slept is back
  (∀ p s, Live (.fastExit p true) s → (s.dev.port p).st = .trained → (s.dev.port p).sleepReq = some 0 →
    ((s.dev.port p).sleep = 2 ∨ (s.dev.port p).sleep = 3) →
    4 ≤ (s.dev.port p).burst →
    exec (.fastExit p true) s = .next (withDev s (s.dev.onPort p (Port.exit true)).powerJobs)) ∧
  (∀ p s, Live (.fastExit p false) s → (s.dev.port p).st = .trained → (s.dev.port p).sleepReq = some 0 →
    (s.dev.port p).sleep = 1 → 2 ≤ (s.dev.port p).goodFrames →
    exec (.fastExit p false) s = .next (withDev s (s.dev.onPort p (Port.exit false)).powerJobs)) ∧
  -- a probe every 10 s while the ports are in use, under leave
  (∀ d s, Live .eyeProbe s → s.dev.mode.mode = .ready → s.dev.links.probing = none → s.dev.waitsLeave isEyeProbe = false →
    s.dev.links.probeTick + sT 10 ≤ s.dev.now → s.dev.links.probeNext ≠ none → s.dev.askLeave .eyeProbe 4 100 = (.granted, d) →
    exec .eyeProbe s = .next (withDev s d.probeStart)) ∧
  -- a probe that meets the minima enters the margin history and nothing else
  (∀ a v w h n s, Live (.eyeProbeComplete a v) s → s.dev.links.probing = some n → w = eyeWidth a → h = eyeHeight v →
    (s.dev.port n).eqWidth ≤ w → (s.dev.port n).eqHeight ≤ h →
    exec (.eyeProbeComplete a v) s = .next (withDev s
      (({ s.dev.release isEyeProbe with links := { s.dev.links with probing := none } }).onPort n fun q =>
        { q with
          probe := (w, h)
          history := (16 * q.setUsed + q.preset, w, h) :: q.history }))) ∧
  -- a request unanswered for 100 µs is repeated, three times at most
  (∀ p t r s, Live (.serviceTimeout p t) s → (s.dev.port p).svc.find? (·.tag = t) = some r →
    (r.due = false ∨ (s.dev.port p).silent = true) → r.sentTick + usT 100 ≤ s.dev.now → r.repeats < 3 →
    exec (.serviceTimeout p t) s = .next (withDev s (s.dev.onPort p fun q => { q.count 15 1 with
      svc := q.svc.map fun u => if u.tag = r.tag then { u with repeats := u.repeats + 1, due := true, sentTick := s.dev.now }
        else u }))) ∧
  (∀ p t r s, Live (.serviceTimeout p t) s → (s.dev.port p).svc.find? (·.tag = t) = some r →
    (r.due = false ∨ (s.dev.port p).silent = true) → r.sentTick + usT 100 ≤ s.dev.now → 3 ≤ r.repeats →
    exec (.serviceTimeout p t) s = .next (withDev s ((s.dev.onPort p fun q => { q.count 16 1 with
      svc := q.svc.filter (·.tag ≠ r.tag) }).svcDone p r.tag 0x30 []))) ∧
  -- the phases of training, in their order
  (∀ p k r s, Live (.trainingPhaseEnd p r) s → (s.dev.port p).st = .training k → k < 2 → r.ok = true →
    s.dev.now ≤ (s.dev.port p).phaseTick + phaseLimit k →
    exec (.trainingPhaseEnd p r) s = .next (withDev s (s.dev.onPort p fun q =>
      { q with st := .training (k + 1), phaseTick := s.dev.now }).powerJobs)) ∧
  -- T2 ends with frame lock, four valid headers in a row
  (∀ p r s, Live (.trainingPhaseEnd p r) s → (s.dev.port p).st = .training 2 → r.ok = true →
    s.dev.now ≤ (s.dev.port p).phaseTick + phaseLimit 2 → 4 ≤ (s.dev.port p).goodFrames →
    (s.dev.port p).setUsed = s.dev.therm.band →
    exec (.trainingPhaseEnd p r) s = .next (withDev s (s.dev.onPort p fun q =>
      { q with st := .training 3, phaseTick := s.dev.now }).powerJobs)) ∧
  -- T3 with the preset it settles on, which its parameter set keeps; the equalisation is free; T4's requests go out
  (∀ p r t s, Live (.trainingPhaseEnd p r) s → (s.dev.port p).st = .training 3 → r.ok = true →
    s.dev.now ≤ (s.dev.port p).phaseTick + phaseLimit 3 → (s.dev.port p).pickPreset s.dev.now r.margins = some t →
    exec (.trainingPhaseEnd p r) s = .next (withDev s (((s.dev.draw (2 ^ 32)).2.onPort p fun q =>
      { q with
        st := .training 4, phaseTick := s.dev.now, preset := t.1, probe := (t.2.1, t.2.2)
        presets := upd q.presets q.setUsed (fun c => (c.1, some t.1))
        eq := (s.dev.draw (2 ^ 32)).1 }).declareStart p).powerJobs)) ∧
  -- T4 with the declarations in their ranges and 256 round trips: L_link
  (∀ p r l s, Live (.trainingPhaseEnd p r) s → (s.dev.port p).st = .training 4 → r.ok = true →
    s.dev.now ≤ (s.dev.port p).phaseTick + phaseLimit 4 → (s.dev.port p).decl = 3 → 256 ≤ (s.dev.port p).rtCount →
    (s.dev.port p).declaredOk p = true → l = linkDelay (s.dev.port p).rtSum (s.dev.port p).dAlign →
    exec (.trainingPhaseEnd p r) s = .next (withDev s ((s.dev.onPort p fun q =>
      { q with st := .training 5, phaseTick := s.dev.now, rtDue := false, lLinkMeas := l, headCmd := 1 }).setLat p fun t =>
        { t with dHead := (s.dev.port p).dHead, lLink := l }).powerJobs)) ∧
  -- T5 with the head READY
  (∀ p r s, Live (.trainingPhaseEnd p r) s → (s.dev.port p).st = .training 5 → r.ok = true →
    s.dev.now ≤ (s.dev.port p).phaseTick + phaseLimit 5 → (s.dev.port p).hstate = 3 →
    exec (.trainingPhaseEnd p r) s = .next (withDev s (s.dev.portTrained p).powerJobs)) ∧
  (∀ p k s, Live (.trainingPhaseTimeout p) s → (s.dev.port p).st = .training k →
    (s.dev.port p).phaseTick + phaseLimit k ≤ s.dev.now →
    exec (.trainingPhaseTimeout p) s = .next (withDev s (s.dev.attemptFailed p k).powerJobs)) ∧
  (∀ p s, Live (.trainingRetry p) s → (s.dev.port p).st = .retryWait → (s.dev.port p).phaseTick + msT 1 ≤ s.dev.now →
    exec (.trainingRetry p) s = .next (withDev s (s.dev.trainAttempt p))) ∧
  -- L_link measured anew on a trained port
  (∀ s, Live (.lLinkMeasured 32) s → (s.dev.port 32).st = .trained → (s.dev.port 32).rtDue = true →
    (s.dev.port 32).rtCount = 256 →
    exec (.lLinkMeasured 32) s = .next (withDev s (
      let l := linkDelay (s.dev.port 32).rtSum (s.dev.port 32).dAlign
      s.dev.onPort 32 fun q => { q with lLinkMeas := l, rtDue := false }))) ∧
  -- an oar's is one of its latencies; beyond the limit of R170 they are a spoil record
  (∀ p s, p < 32 → Live (.lLinkMeasured p) s → (s.dev.port p).st = .trained → (s.dev.port p).rtDue = true →
    (s.dev.port p).rtCount = 256 →
    exec (.lLinkMeasured p) s = .next (withDev s (
      let l := linkDelay (s.dev.port p).rtSum (s.dev.port p).dAlign
      let d := (s.dev.onPort p fun q => { q with lLinkMeas := l, rtDue := false }).setLat p fun t => { t with lLink := l }
      if (nth d.eng p).lat.tooLong then d.spoil 0x05 p 0x001 false (nth d.eng p).lat.sumNs else d))) ∧
  -- lock lost on a trained port: relock begins
  (∀ p s, Live (.linkLockLoss p) s → (s.dev.port p).st = .trained → ((s.dev.port p).sleep = 0 ∨ (s.dev.port p).sleep = 2) →
    exec (.linkLockLoss p) s = .next (withDev s (
      (if s.dev.flip.1 then s.dev.flip.2.onPort p Port.blockLost else s.dev.flip.2).portLost p))) ∧
  -- two valid headers in a row within 1 ms end it; L_link is measured anew
  (∀ p s, Live (.relockComplete p) s → (s.dev.port p).st = .relock → s.dev.now < (s.dev.port p).lossTick + msT 1 →
    2 ≤ (s.dev.port p).goodFrames → ((s.dev.port p).fclk = true ∨ (s.dev.port p).fallback = true) →
    exec (.relockComplete p) s = .next (withDev s (s.dev.onPort p fun q =>
      { (q.count 12 1).measure with st := .trained, setUsed := s.dev.therm.band }))) ∧
  -- without the forwarded clock it has relocked on the shadow: fallback
  (∀ p s, Live (.relockComplete p) s → (s.dev.port p).st = .relock → s.dev.now < (s.dev.port p).lossTick + msT 1 →
    2 ≤ (s.dev.port p).goodFrames → (s.dev.port p).fclk = false → (s.dev.port p).fallback = false →
    exec (.relockComplete p) s = .next (withDev s (((s.dev.onPort p fun q =>
      { (q.count 12 1).measure with st := .trained, setUsed := s.dev.therm.band }).onPort p fun q =>
        { (q.count 10 1).measure with fallback := true }).spoil 0x05 p 0x003 false 0))) ∧
  (∀ p s, Live (.relockTimeout p) s → (s.dev.port p).st = .relock → (s.dev.port p).lossTick + msT 1 ≤ s.dev.now →
    exec (.relockTimeout p) s = .next (withDev s (s.dev.trainStart p))) ∧
  -- the forwarded clock lost: fallback where the shadow is locked, relock where it is not
  ∀ p b s, Live (.forwardedClockLoss p b) s → (s.dev.port p).st = .trained → (s.dev.port p).fallback = false →
    ((s.dev.port p).sleep = 0 ∨ (s.dev.port p).sleep = 2) →
    exec (.forwardedClockLoss p b) s = .next (withDev s (
      let d := s.dev.onPort p fun q => { q.count 9 1 with fclk := false }
      if b then (d.onPort p fun q => { (q.count 10 1).measure with fallback := true }).spoil 0x05 p 0x003 false 0
      else d.portLost p))

/-- R266 to R285: a return frame, and its absence. -/
def Obligations.ReturnFramesComplete : Prop :=
  -- a frame on a port that hears is judged block by block
  (∀ p u bs s, Live (.returnFrame p u bs) s → s.dev.portExists p = true → (s.dev.port p).hearing = true →
    exec (.returnFrame p u bs) s = .next (withMem s (recWrites s.dram (s.dev.returnFrame p u bs)))) ∧
  -- on one that looks for lock it is taken for that
  (∀ p u bs s, Live (.returnFrame p u bs) s → s.dev.portExists p = true → (s.dev.port p).hearing = false →
    (s.dev.port p).locking = true → exec (.returnFrame p u bs) s = .next (withDev s (s.dev.lockFrame p u bs))) ∧
  -- one on a port that does neither is nothing
  (∀ p u bs s, Live (.returnFrame p u bs) s → (s.dev.port p).hearing = false → (s.dev.port p).locking = false →
    exec (.returnFrame p u bs) s = .next s) ∧
  -- a frame that is missed: the sequence moves on by one (the model's reading, log 76), it is counted; on P32 nothing else
  (∀ v s, Live (.returnFrameMissed 32 v) s → s.dev.portExists 32 = true → (s.dev.port 32).st = .trained →
    ((s.dev.port 32).sleep = 0 ∨ (s.dev.port 32).sleep = 2) →
    exec (.returnFrameMissed 32 v) s = .next (withDev s (
      let d := s.dev.onPort 32 fun q => { q with dscr := v % 2 ^ 58, rseq := q.rseq.map fun n => (n + 1) % 256 }
      d.onPort 32 fun q =>
        { q.count 6 1 with missed := q.missed + 1, statSel := 8, sampleOk := [false, false, false], acks := 0 }))) ∧
  -- on an oar's port the observers run on without a sample; with the fourth in a row the head's temperature is unknown, and
  -- from there on LEN high trips the oar
  (∀ p v s, p < 32 → Live (.returnFrameMissed p v) s → s.dev.portExists p = true → (s.dev.port p).st = .trained →
    ((s.dev.port p).sleep = 0 ∨ (s.dev.port p).sleep = 2) →
    exec (.returnFrameMissed p v) s = .next (withDev s (
      let d := (s.dev.onPort p fun q => { q with dscr := v % 2 ^ 58, rseq := q.rseq.map fun n => (n + 1) % 256 }).onPort p fun q =>
        { q.count 6 1 with missed := q.missed + 1, statSel := 8, sampleOk := [false, false, false], acks := 0 }
      let m := (s.dev.port p).missed + 1
      let f := d.onSafe p fun o => { o with frameBadTick := d.now }
      let e := (if m = 4 then f.headTempAt p none else f).samples p [none, none, none]
      if 4 ≤ m ∧ (nth e.eng p).len = true then e.trip p 0x22 m 4 else e))) ∧
  -- on a port that trains and looks for lock it starts the search over
  ∀ p k v s, Live (.returnFrameMissed p v) s → s.dev.portExists p = true → (s.dev.port p).st = .training k → 1 ≤ k →
    exec (.returnFrameMissed p v) s = .next (withDev s (s.dev.onPort p fun q =>
      { q with dscr := v % 2 ^ 58, rseq := q.rseq.map (fun n => (n + 1) % 256), syncRun := 0, goodFrames := 0 }))

/-- R203 to R209, R212, R213, R222, R225 to R230: the `loop` commands. -/
def Obligations.LoopCommandsComplete : Prop :=
  -- descriptors enter the staged copy
  (∀ m ds s x, Starts (.loopConfig m ds) s x → (∀ c ∈ ds, SlotDesc.ok c = true) →
    exec (.loopConfig m ds) s = .next (answered s x
      (ds.foldl (fun d c => d.onSlot c.slot fun t => { t with staged := some c }) s.dev))) ∧
  -- one out of range turns them all away, the slot named
  (∀ m ds c s x, Starts (.loopConfig m ds) s x → ds.find? (fun c => ! SlotDesc.ok c) = some c →
    exec (.loopConfig m ds) s = .next (turnedAway s x 0x21 c.slot 0)) ∧
  -- sound gain tables are held from now on
  (∀ m f n a c s x, Starts (.loopGains m f n a c) s x → 1 ≤ n → f + n ≤ 128 → a + 512 * n ≤ s.dev.mc.hostLimit →
    (∀ i < n, s.dev.tableBusy (f + i) = false) → s.dram.marked a (512 * n) = [] →
    crc32c (memBytes s.dram.mem a (512 * n)) = c →
    (∀ i < n, (gainTable (entryAt (memBytes s.dram.mem a (512 * n)) 512 i)).ok = true) →
    exec (.loopGains m f n a c) s = .next (
      let ts := (List.range n).map fun i => (f + i, gainTable (entryAt (memBytes s.dram.mem a (512 * n)) 512 i))
      answered s x ((ts.foldl (fun d p => (d.onLoops fun l => l.putTable p.1 p.2).bumpless p.1) (s.dev.activate a (512 * n))).log x 0x04 f
        (ts.flatMap fun p => (s.dev.loops.table p.1).bytes) (ts.flatMap fun p => p.2.bytes)))) ∧
  -- a commit whose nine schedules fit brings the staged copy into force
  (∀ m s x, Starts (.loopCommit m) s x → s.dev.layers.released = none → s.dev.loops.commitOk = true →
    s.dev.writersOk = true →
    (∀ w ∈ allLoads (s.dev.loops.committed.map fun c => (c.slot, c.rate)), w.2.2 ≤ 240) →
    exec (.loopCommit m) s = .next (
      let w := allLoads (s.dev.loops.committed.map fun c => (c.slot, c.rate))
      let d := s.dev.commitLoops.onLoops fun l => { l with loads := w.map (·.2.2) }
      answered s x (d.log x 0x04 0xFFFF s.dev.loops.image d.loops.image)
        (sha256 d.loops.image ++ w.flatMap fun w => u32 w.2.2))) ∧
  (∀ m k st v s x, Starts (.loopMode m k st v) s x → st ≤ 2 → s.dev.mode.mode = .ready →
    (∀ n ∈ bitsOf 160 k, (s.dev.slot n).desc ≠ none) →
    ((bitsOf 160 k).foldl (fun d n => d.slotMode n st v) s.dev).loops.clashes = false →
    exec (.loopMode m k st v) s = .next (
      let d := (bitsOf 160 k).foldl (fun d n => d.slotMode n st v) s.dev
      answered s x d.commandHeads ((bitsOf 160 k).flatMap fun n => u32 (d.slot n).st.code))) ∧
  (∀ m n v c s x, Starts (.loopSetpoint m n v) s x → n < 160 → (s.dev.slot n).desc = some c → c.spSrc = 1 →
    s.dev.loops.writer 5 n = none →
    exec (.loopSetpoint m n v) s = .next (answered s x (s.dev.onSlot n fun t => { t with cmd := v }))) ∧
  (∀ m e i n s x, Starts (.loopGear m e i n) s x → e < 8 → 1 ≤ n → n ≤ 65535 →
    exec (.loopGear m e i n) s = .next (
      let d := s.dev.onLoops fun l => { l with gears := l.gears.set e (i, n) }
      answered s x (d.log x 0x04 e (s.dev.loops.gearBytes e) (d.loops.gearBytes e)))) ∧
  (∀ m a p s x, Starts (.loopIo m a p) s x → (∀ f ∈ p, 1 ≤ f ∧ f ≤ 20000) →
    exec (.loopIo m a p) s = .next (
      let d := s.dev.onLoops fun l => { l with ain := a, pwmHz := p }
      answered s x (d.log x 0x04 0xFFFF s.dev.loops.ioBytes d.loops.ioBytes))) ∧
  (∀ m k s x, Starts (.loopStatus m k) s x →
    exec (.loopStatus m k) s = .next (answered s x s.dev ((bitsOf 160 k).flatMap (fun n => (s.dev.slot n).status) ++
      s.dev.loops.inService.flatMap fun b => u32 (if b then 0 else 1)))) ∧
  (∀ m ks n a d s x, Starts (.loopTrace m ks n a) s x → ks ≠ [] → 1 ≤ n → n ≤ 1048576 → ks.Nodup →
    (∀ k ∈ ks, k < 160 ∧ (s.dev.slot k).desc ≠ none) → s.dev.rangeOk a (20 * ks.length * n) = true →
    s.dev.loops.traces = [] → s.dev.request .trace 5 100 0 = (.granted, d) →
    exec (.loopTrace m ks n a) s = .next (answered s x (d.onLoops fun l => { l with traces := [⟨ks, n, a, 0, true⟩] }))) ∧
  -- every processor in service: nothing to restore
  (∀ m s x, Starts (.loopRestore m) s x → (∀ p < 8, nth s.dev.loops.inService p = true) →
    exec (.loopRestore m) s = .next (answered s x s.dev)) ∧
  -- one out of service takes its self-test, whose verdict is free: passed, it is in service with its home slots, each in
  -- AUTO preset; failed, it stays out, a spoil record is filed and the command ends FAULT
  ∀ m p s x, Starts (.loopRestore m) s x → p < 8 → nth s.dev.loops.inService p = false →
    (∀ q < 8, q ≠ p → nth s.dev.loops.inService q = true) → s.dev.blockLive 1 p = true →
    exec (.loopRestore m) s = .next (
      if s.dev.flip.1 then answered s x (((List.range 160).filter (homeProc · = p)).foldl (fun d n =>
          d.onSlot n fun t => { t with proc := p, preset := t.preset || t.st == .auto, recent := [], consecutive := 0 })
        (s.dev.flip.2.onLoops fun l => { l with inService := l.inService.set p true }))
      else { s with dev := ((s.dev.flip.2.faultRec x.mbx 0x40).respond x.mbx 0x40 0 0 0 []) })

/-- R216, R218, R220 to R225: self-test, overrun, migration and execution of slots. -/
def Obligations.LoopEventsComplete : Prop :=
  (∀ p s, Live (.loopSelfTest p 0) s → exec (.loopSelfTest p 0) s = .next s) ∧
  -- a verdict of a late schedule, the known-answer test or the schedule memory fails the processor
  (∀ p v s, Live (.loopSelfTest p v) s → v ∈ [3, 4, 5] →
    exec (.loopSelfTest p v) s = .next (withDev s (s.dev.procFail p v))) ∧
  -- the survivors take over: no slot stays on a processor that is out of service while one is in service
  (∀ s, Live .loopMigration s → s.dev.loops.failing ≠ none → (∃ q < 8, nth s.dev.loops.inService q = true) →
    ∃ l, exec .loopMigration s = .next (withDev s { s.dev with loops := l }) ∧ l.failing = none ∧
      l.inService = s.dev.loops.inService ∧ l.slots.length = s.dev.loops.slots.length ∧
      ∀ n, n < 160 → n < l.slots.length → nth l.inService (nth l.slots n).proc = true) ∧
  -- a slot that is due and was not executed: an overrun; the second in a row of a scanner or melt-pool slot fails its processor
  (∀ n s, Live (.loopSlotOverrun n) s → s.dev.slotDue n = true → n < 128 → n < s.dev.loops.slots.length →
    exec (.loopSlotOverrun n) s = .next (withDev s (
      let d := (s.dev.traceSlot n (s.dev.slot n).idleTerms).onSlot n fun t => { t with
        ovr := true, overruns := t.overruns + 1, consecutive := t.consecutive + 1, recent := (true :: t.recent).take 256
        lastRun := s.dev.now + 1 }
      if 1 ≤ (s.dev.slot n).consecutive then d.procFail (s.dev.slot n).proc 1
      else if 16 ≤ ((d.slot n).recent.filter (· == true)).length then d.procFail (s.dev.slot n).proc 2
      else d))) ∧
  -- of a slide, heater or general slot 16 within its latest 256 periods do
  (∀ n s, Live (.loopSlotOverrun n) s → s.dev.slotDue n = true → 128 ≤ n → n < 160 →
    exec (.loopSlotOverrun n) s = .next (withDev s (
      let d := (s.dev.traceSlot n (s.dev.slot n).idleTerms).onSlot n fun t => { t with
        ovr := true, overruns := t.overruns + 1, consecutive := t.consecutive + 1, recent := (true :: t.recent).take 256
        lastRun := s.dev.now + 1 }
      if 16 ≤ ((d.slot n).recent.filter (· == true)).length then d.procFail (s.dev.slot n).proc 2 else d))) ∧
  -- a scanner slot that is due runs; a melt-pool slot does behind the features of its oar
  (∀ n a b c s, Live (.loopSlotExecute n a b) s → n < 96 → (s.dev.slot n).desc = some c → s.dev.slotTurn n = true →
    (s.dev.slot n).st ≠ .off →
    exec (.loopSlotExecute n a b) s = .next (withDev s (
      let r := s.dev.runScanner n c
      (r.1.traceSlot n (r.2.getD (r.1.slot n).idleTerms)).onSlot n fun t => t.ran s.dev.now))) ∧
  (∀ n a b c s, Live (.loopSlotExecute n a b) s → 96 ≤ n → n < 128 → s.dev.oarExists (n - 96) = true →
    (s.dev.slot n).desc = some c → s.dev.slotTurn n = true → (s.dev.slot n).st ≠ .off → s.dev.now % 4 = n % 4 →
    s.dev.recd.take < 2 →
    exec (.loopSlotExecute n a b) s = .next (withDev s (
      let r := (s.dev.pdForm (n - 96)).runMelt n c
      (r.1.traceSlot n (r.2.getD (r.1.slot n).idleTerms)).onSlot n fun t => t.ran s.dev.now))) ∧
  -- a slide, heater or general slot that is due runs and its overrun history goes on
  ∀ n a b c s, Live (.loopSlotExecute n a b) s → 128 ≤ n → n < 160 → (s.dev.slot n).desc = some c → s.dev.slotTurn n = true →
    (s.dev.slot n).st ≠ .off →
    exec (.loopSlotExecute n a b) s = .next (withDev s (
      let r := s.dev.runGeneral n c a b
      (r.1.traceSlot n (r.2.getD (r.1.slot n).idleTerms)).onSlot n fun t => t.ran s.dev.now))

/-- R201, R202: whatever the error, the terms and the gains, the output of a slot stays within its limits and its
integrator within its own; with a slew limit the output leaves the one before by no more than that. -/
def Obligations.LoopLawStaysInLimits : Prop :=
  ∀ (t : LoopSlot) (c : SlotDesc) (x : LawIn), x.uMin ≤ x.uMax → c.iMin ≤ c.iMax →
    (c.slew = 0 ∨ x.uMin ≤ t.uPrev ∧ t.uPrev ≤ x.uMax) →
    x.uMin ≤ (t.law c x).1.outNow ∧ (t.law c x).1.outNow ≤ x.uMax ∧
    (c.slew ≠ 0 → |(t.law c x).1.outNow - t.uPrev| ≤ (c.slew : Int)) ∧
    (x.freeze = false → c.iMin * 65536 ≤ (t.law c x).1.integ ∧ (t.law c x).1.integ ≤ c.iMax * 65536)

/-- R202, R206, R208: a preset slot starts without a bump: where the integrator it needs lies within its limits and the
output before lies within the output's, the first output is the output before. -/
def Obligations.PresetIsBumpless : Prop :=
  ∀ (t : LoopSlot) (c : SlotDesc) (x : LawIn), t.preset = true → x.uMin ≤ t.uPrev → t.uPrev ≤ x.uMax →
    c.iMin * 65536 ≤ t.uPrev * 65536 - x.ff - (t.law c x).2.p - (t.law c x).2.d →
    t.uPrev * 65536 - x.ff - (t.law c x).2.p - (t.law c x).2.d ≤ c.iMax * 65536 →
    (t.law c x).1.outNow = t.uPrev ∧ (t.law c x).1.preset = false

/-- R232, R234, R238, R261: the camera of an oar. R247, R248, R253, R255, R257, R258, R263: the recorder. -/
def Obligations.CameraAndRecorderComplete : Prop :=
  (-- an exposure starts at its period, with the take and the setting of its moment
  (∀ k s, Live (.cameraExposureStart k) s → s.dev.camRuns k = true → s.dev.now % max 1 (nth s.dev.melt k).cam.period = 0 →
    (∀ e ∈ (nth s.dev.melt k).starts, e.1 ≠ s.dev.now) →
    (s.dev.recd.take = 0 ∨ s.dev.recd.take ≠ 3 ∧ s.dev.fullNow k = false) →
    exec (.cameraExposureStart k) s = .next (withDev s (s.dev.onMelt k fun m =>
      { m with starts := m.starts ++ [(s.dev.now, s.dev.recd.take, m.cam)] }))) ∧
  -- where its frame is due in the ring it keeps the stream's leave, or the wait for it, alive
  (∀ k s, Live (.cameraExposureStart k) s → s.dev.camRuns k = true → s.dev.now % max 1 (nth s.dev.melt k).cam.period = 0 →
    (∀ e ∈ (nth s.dev.melt k).starts, e.1 ≠ s.dev.now) →
    (s.dev.recd.take = 3 ∨ 1 ≤ s.dev.recd.take ∧ s.dev.fullNow k = true) →
    ((nth s.dev.melt k).grant ≠ none ∨ (nth s.dev.melt k).waiting = true) →
    exec (.cameraExposureStart k) s = .next (withDev s (s.dev.onMelt k fun m =>
      { m with starts := m.starts ++ [(s.dev.now, s.dev.recd.take, m.cam)], lastDue := s.dev.now }))) ∧
  -- the first such frame asks for it (R261)
  (∀ k d s, Live (.cameraExposureStart k) s → s.dev.camRuns k = true → s.dev.now % max 1 (nth s.dev.melt k).cam.period = 0 →
    (∀ e ∈ (nth s.dev.melt k).starts, e.1 ≠ s.dev.now) →
    (s.dev.recd.take = 3 ∨ 1 ≤ s.dev.recd.take ∧ s.dev.fullNow k = true) →
    (nth s.dev.melt k).grant = none → (nth s.dev.melt k).waiting = false → (nth s.dev.recd.rings 2).configured = true →
    (s.dev.onMelt k fun m =>
      { m with starts := m.starts ++ [(s.dev.now, s.dev.recd.take, m.cam)], lastDue := s.dev.now }).request
        (.stream k) 5 200 0 = (.granted, d) →
    exec (.cameraExposureStart k) s = .next (withDev s (d.onMelt k fun m => { m with grant := some s.dev.now }))) ∧
  -- none out of its period
  (∀ k s, Live (.cameraExposureStart k) s → s.dev.now % max 1 (nth s.dev.melt k).cam.period ≠ 0 →
    exec (.cameraExposureStart k) s = .next s) ∧
  -- a frame whose last pixel is here is reduced
  (∀ k r s, Live (.cameraFeaturesReady k) s → (nth s.dev.melt k).rx = some r → r.eof = true →
    exec (.cameraFeaturesReady k) s = .next (withDev s (s.dev.camFinish k r false))) ∧
  -- one that has not ended two periods after its exposure start ends as it stands, incomplete
  (∀ k r s, Live (.cameraFrameDeadline k) s → (nth s.dev.melt k).rx = some r → r.eof = false →
    r.startTick + 2 * (nth s.dev.melt k).rxCam.period ≤ s.dev.now →
    exec (.cameraFrameDeadline k) s = .next (withDev s (s.dev.camFinish k r true))) ∧
  -- as does one of which nothing came
  (∀ k t n c q s, Live (.cameraFrameDeadline k) s → (nth s.dev.melt k).rx = none →
    (nth s.dev.melt k).starts = (t, n, c) :: q → t + 2 * c.period ≤ s.dev.now →
    exec (.cameraFrameDeadline k) s = .next (withDev s (s.dev.lostFrame k t n c))) ∧
  -- a stream with no frame due for 1 ms gives its leave back
  ∀ k s, Live (.frameStreamRelease k) s → ((nth s.dev.melt k).grant ≠ none ∨ (nth s.dev.melt k).waiting = true) →
    (nth s.dev.melt k).lastDue + msT 1 ≤ s.dev.now →
    exec (.frameStreamRelease k) s = .next (withDev s
      ((s.dev.release (isStream k)).onMelt k fun m => { m with grant := none, waiting := false }))) ∧
  ((∀ m r b z md cb l s x, Starts (.recRing m r b z md cb l) s x → r < 3 → b % 65536 = 0 → z % 65536 = 0 →
    (ringSizes r).1 ≤ z → z ≤ (ringSizes r).2 → md ≤ 1 → s.dev.rangeOk b z = true → s.dev.rangeOk cb 64 = true →
    overlap b z cb 64 = false →
    (∀ p ∈ s.dev.recd.ranges r, overlap p.1 p.2 b z = false ∧ overlap p.1 p.2 cb 64 = false) →
    exec (.recRing m r b z md cb l) s = .next (
      let g : Ring := { Ring.reset with
        configured := true, base := b, size := z, overwrite := decide (md = 1), cb := cb, level := l }
      answered s x ((s.dev.onRec fun q => { q with rings := q.rings.set r g }).log x 0x0F r
        (ringBytes (nth s.dev.recd.rings r)) (ringBytes g)))) ∧
  -- a take, in force from the next frame tick on
  (∀ m t n g s x, Starts (.recTake m t n g) s x → t ≤ 3 → 1 ≤ n → n ≤ 1000 → g ≤ 1 →
    (∀ r < t, (nth s.dev.recd.rings r).configured = true) →
    exec (.recTake m t n g) s = .next (answered s x
      ((s.dev.onRec fun q => { q with next := some (t, n, decide (g = 1)) }).log x 0x0F 0xFFFF
        (takeBytes s.dev.recd.take s.dev.recd.decim s.dev.recd.gated) (takeBytes t n (decide (g = 1))))
      (takeBytes t n (decide (g = 1))))) ∧
  -- what the host has consumed
  (∀ m r t s x, Starts (.recConsume m r t) s x → r < 3 → (nth s.dev.recd.rings r).configured = true →
    (nth s.dev.recd.rings r).consumed ≤ t → t ≤ (nth s.dev.recd.rings r).written →
    exec (.recConsume m r t) s = .next (answered s x
      (s.dev.onRec fun q => { q with rings := upd q.rings r (·.consumeTo t) }))) ∧
  -- more than was written, or less than before, is refused
  (∀ m r t s x, Starts (.recConsume m r t) s x →
    (3 ≤ r ∨ (nth s.dev.recd.rings r).configured = false ∨ t < (nth s.dev.recd.rings r).consumed ∨
      (nth s.dev.recd.rings r).written < t) →
    exec (.recConsume m r t) s = .next (turnedAway s x 0x21 0 0)) ∧
  (∀ m s x, Starts (.recStatus m) s x →
    exec (.recStatus m) s = .next (answered s x s.dev (s.dev.recd.rings.flatMap Ring.block ++ u64 s.dev.recd.level ++
      u32 (nth s.dev.mc.panicCounts 1) ++ u32 s.dev.recd.take))) ∧
  (∀ m v s x, Starts (.recMark m v) s x →
    exec (.recMark m v) s = .next (answered s x (s.dev.eventNow 0xFF 0x18 (u32 v)))) ∧
  -- a control block goes to device memory behind the data that it counts
  (∀ r t s, Live (.controlBlockUpdate r) s → (nth s.dev.recd.rings r).configured = true →
    (nth s.dev.recd.rings r).dirtyTick = some t →
    exec (.controlBlockUpdate r) s = .next (withMem s (recWrites s.dram <|
      let f := s.dev.flushStaging
      let g : Ring := { nth f.1.recd.rings r with dirtyTick := none, updS := s.dev.secLow, updNs := s.dev.nsNow }
      (f.1.onRec fun q => { q with rings := q.rings.set r g }, f.2 ++ [.write g.cb g.block])))) ∧
  -- with nothing new in the ring what is staged goes alone (the model's choice, log 17)
  ∀ r s, Live (.controlBlockUpdate r) s → (nth s.dev.recd.rings r).dirtyTick = none →
    exec (.controlBlockUpdate r) s = .next (withMem s (recWrites s.dram s.dev.flushStaging)))

/-- R481, R483, R488 to R490, R498, R499, R508: the clock commands and `sys.blockreset`. -/
def Obligations.ClockCommandsComplete : Prop :=
  -- a plan whose ratios hold is in force and stored; a raw frame divisor stays until RSTn (the model's choice, log 91)
  (∀ m c n s x, Starts (.sysClockplan m c n) s x → (n = 2 ∨ n = 4 ∨ n = 8) → (c = 1500 ∨ c = 1600) →
    exec (.sysClockplan m c n) s = .next (
      let k := { s.dev.clk with
        coxMHz := c, divisor := n, storedCox := c, storedDiv := n, raw := s.dev.clk.raw.map fun r => (c, n, r.2.2)
        mux := if s.dev.clk.coxMHz = c then s.dev.clk.mux else some (true, s.dev.clk.coxMHz, s.dev.now) }
      answered s x ({ s.dev with clk := k }.log x 0x0A 0 s.dev.clk.plan k.plan) (u32 c ++ u32 n))) ∧
  (∀ m c n s x, Starts (.sysClockplan m c n) s x → n ≠ 2 → n ≠ 4 → n ≠ 8 →
    exec (.sysClockplan m c n) s = .next (turnedAway s x 0x21 1 0)) ∧
  -- a qualified source
  (∀ m k s x, Starts (.sysClocksrc m k) s x → s.dev.selectable k = true →
    exec (.sysClocksrc m k) s = .next (answered s x ((s.dev.takeSource k).log x 0x0A 1 (u32 s.dev.clk.sel) (u32 k)) (u32 k))) ∧
  (∀ m s x, Starts (.sysClockstat m) s x → exec (.sysClockstat m) s = .next (answered s x s.dev s.dev.clk.report)) ∧
  (∀ m c n f s x, Starts (.sysClockraw m c n f) s x → 400 ≤ c → c ≤ 1600 → 1 ≤ n → n ≤ 16 → 100 ≤ f → f ≤ 400 →
    exec (.sysClockraw m c n f) s = .next (answered s x
      ({ s.dev with clk := { s.dev.clk with coxMHz := c, divisor := n, raw := some (c, n, f) } }.log x 0x0A 2
        (rawBytes s.dev.clk.raw) (u32 c ++ u32 n ++ u32 f)))) ∧
  -- an idle block with its clock good is reset and released at once
  (∀ m c i s x, Starts (.sysBlockreset m c i) s x → s.dev.blockNamed c i = true → s.dev.blockIdle c i = true →
    s.dev.clockGood c = true →
    exec (.sysBlockreset m c i) s = .next (answered s x (s.dev.blockOut c i) (u32 0))) ∧
  -- without it the command waits
  (∀ m c i s x, Starts (.sysBlockreset m c i) s x → s.dev.blockNamed c i = true → s.dev.blockIdle c i = true →
    s.dev.clockGood c = false →
    exec (.sysBlockreset m c i) s = .next (running s x
      { s.dev with boot := { s.dev.boot with inReset := (c, i) :: s.dev.boot.inReset.filter (· ≠ (c, i)) } }
      (.blockreset c i s.dev.now) true)) ∧
  -- a block that is not idle is left alone; the hint of 1 ms is the model's own (log 91)
  ∀ m c i s x, Starts (.sysBlockreset m c i) s x → s.dev.blockNamed c i = true → s.dev.blockIdle c i = false →
    exec (.sysBlockreset m c i) s = .next (turnedAway s x 0x12 0 1000)

/-- R481, R482, R484 to R487, R491, R492: PLLs, references, clock switches. -/
def Obligations.ClockEventsComplete : Prop :=
  -- a failed PLL with its partner ready: the partner takes over
  (∀ s, Live (.pllFailure 0) s → s.dev.clk.fabric.dead = false → s.dev.clk.fabric.standby = true →
    exec (.pllFailure 0) s = .next (withDev s (
      let p := s.dev.clk.fabric
      (({ s.dev with clk := { s.dev.clk with fabric := { p with
        active := 1 - p.active, standby := false, switchovers := p.switchovers + 1, failTick := s.dev.now
        restartTick := some s.dev.now } } }).spoil 0x0C 0 0x001 false 0).cycleLost))) ∧
  -- so it does in the pair of the exposure clock, where every oar's edges move by the switch
  (∀ s, Live (.pllFailure 1) s → s.dev.clk.exposure.dead = false → s.dev.clk.exposure.standby = true →
    exec (.pllFailure 1) s = .next (withDev s (
      let p := s.dev.clk.exposure
      oars32.foldl Dev.edgesSwitch (({ s.dev with clk := { s.dev.clk with exposure := { p with
        active := 1 - p.active, standby := false, switchovers := p.switchovers + 1, failTick := s.dev.now
        restartTick := some s.dev.now } } }).spoil 0x0C 1 0x001 false 0)))) ∧
  -- with none: the device stops everything and holds
  (∀ s, Live (.pllFailure 0) s → s.dev.clk.fabric.dead = false → s.dev.clk.fabric.standby = false →
    exec (.pllFailure 0) s = .next (withDev s (
      (({ s.dev with clk := { s.dev.clk with fabric := { s.dev.clk.fabric with
        failTick := s.dev.now, restartTick := some s.dev.now, dead := true } } }).clockCutNow.stepAbort).enterHold .pllLoss false
          (some 5) 4))) ∧
  -- with the exposure clock's the fabric PLL still runs, and the axes stop along their ramps
  (∀ s, Live (.pllFailure 1) s → s.dev.clk.exposure.dead = false → s.dev.clk.exposure.standby = false →
    exec (.pllFailure 1) s = .next (withDev s (
      ((({ s.dev with clk := { s.dev.clk with exposure := { s.dev.clk.exposure with
        failTick := s.dev.now, restartTick := some s.dev.now, dead := true } } }).clockCutNow).stopAllAxes fun _ => true).enterHold
          .pllLoss false (some 5) 4))) ∧
  (∀ i t s, Live (.pllRestart i) s → (s.dev.clk.pair i).restartTick = some t → t + sT 60 ≤ s.dev.now →
    s.dev.coxRuns = true →
    exec (.pllRestart i) s = .next (withDev s { s.dev with clk := s.dev.clk.onPair i fun p =>
      { p with restartTick := some s.dev.now } })) ∧
  -- restarted and locked for 1 s, it is the standby
  (∀ i t s, Live (.pllStandbyReady i) s → (s.dev.clk.pair i).restartTick = some t → (s.dev.clk.pair i).failTick < t →
    t + sT 1 ≤ s.dev.now → (s.dev.clk.pair i).dead = false →
    exec (.pllStandbyReady i) s = .next (withDev s { s.dev with clk := s.dev.clk.onPair i fun q =>
      { q with standby := true, restartTick := none } })) ∧
  -- PLLs that are not in pairs: the Cox's, the links', the DRAM's, PCI Express's, Ethernet's; no other has this event
  (∀ s, Live (.pllLockLoss 0) s →
    exec (.pllLockLoss 0) s = .next (withDev s { s.dev with clk := { s.dev.clk with locks := s.dev.clk.locks.set 0 false } })) ∧
  (∀ s, Live (.pllLockLoss 3) s →
    exec (.pllLockLoss 3) s = .next (withDev s
      (({ s.dev with clk := { s.dev.clk with locks := s.dev.clk.locks.set 3 false } }).linksLost.enterHold .pllLoss false none 4))) ∧
  (∀ s, Live (.pllLockLoss 4) s →
    exec (.pllLockLoss 4) s = .next (withDev s
      (({ s.dev with clk := { s.dev.clk with locks := s.dev.clk.locks.set 4 false } }).blockHold 8 0))) ∧
  (∀ s, Live (.pllLockLoss 5) s →
    exec (.pllLockLoss 5) s = .next (withDev s (
      let d := ({ s.dev with clk := { s.dev.clk with locks := s.dev.clk.locks.set 5 false } }).linkChange 0 0
      { d with clk := { d.clk with locks := d.clk.locks.set 5 true } }))) ∧
  (∀ s, Live (.pllLockLoss 6) s →
    exec (.pllLockLoss 6) s = .next (withDev s
      ((({ s.dev with clk := { s.dev.clk with locks := s.dev.clk.locks.set 6 false } }).portADown true).ethDown 1))) ∧
  (∀ i s, Live (.pllLockLoss i) s → i ∉ [0, 3, 4, 5, 6] → exec (.pllLockLoss i) s = .next s) ∧
  -- the selected reference lost, every PLL having ridden the move to the IRO
  (∀ k s, s.dev.awake = true → s.dev.clk.sel = k → k < 2 → s.dev.clk.lost = none → nth s.dev.clk.qualified k = true →
    nth s.dev.clk.qualified 2 = true →
    exec (.referenceLoss true k) s = .next (withDev s (
      (((({ s.dev with clk := { s.dev.clk with
        qualified := s.dev.clk.qualified.set k false, lossTick := s.dev.clk.lossTick.set k s.dev.now, lost := some k, sel := 2
        mux := some (false, k, s.dev.now)
        } }).clockCutNow).spoil 0x0C k 0x004 true 0).stopAllAxes fun _ => true).enterHold .clockLoss false (some 5) 4))) ∧
  -- a source that is not selected only ceases to be qualified
  (∀ b k s, s.dev.awake = true → s.dev.clk.sel ≠ k → nth s.dev.clk.qualified k = true →
    exec (.referenceLoss b k) s = .next (withDev s { s.dev with clk := { s.dev.clk with
      qualified := s.dev.clk.qualified.set k false, lossTick := s.dev.clk.lossTick.set k s.dev.now } })) ∧
  -- a source qualifies within its bound
  (∀ k s, Live (.referenceQualified k) s → nth s.dev.clk.qualified k = false → k ≠ 1 → s.dev.clk.lost ≠ some k →
    nth s.dev.clk.lossTick k + msT 10 ≤ s.dev.now →
    exec (.referenceQualified k) s = .next (withDev s (
      let v := s.dev.drawInt (-(qualBound k)) (qualBound k)
      { v.2 with clk := { v.2.clk with
        qualified := v.2.clk.qualified.set k true, ppm := v.2.clk.ppm.set k v.1 } }))) ∧
  -- the trim of the IRO takes out at most 1 ppm a second
  (∀ e s, s.dev.awake = true → s.dev.trimReference ≠ 3 → (∀ t, s.dev.clk.trimTick = some t → t + sT 1 ≤ s.dev.now) →
    exec (.iroTrim e) s = .next (withDev s { s.dev with
     cal := { s.dev.cal with iroSum := s.dev.cal.iroSum + clampI (-1000) 1000 (-e) }
     clk := { s.dev.clk with
      trimTick := some s.dev.now
      trimRef := s.dev.trimReference
      lastCorrection := clampI (-1000) 1000 (-e)
      iroPpb := s.dev.clk.iroPpb + clampI (-1000) 1000 (-e)
      ppm := s.dev.clk.ppm.set 2 ((e + clampI (-1000) 1000 (-e)) / 1000) } })) ∧
  -- a switch whose old clock has stopped completes; one whose new clock is absent is given up
  (∀ b o t s, Live .muxHandshakeBypass s → s.dev.clk.mux = some (b, o, t) → s.dev.now ≤ t + muxTicks →
    exec .muxHandshakeBypass s = .next (withDev s
      (({ s.dev with clk := { s.dev.clk with mux := none, bypasses := s.dev.clk.bypasses + 1 } }).spoil 0x0C 0xFF 0x002 false 0))) ∧
  (∀ o t s, Live .muxSwitchAbandon s → s.dev.clk.mux = some (true, o, t) → s.dev.now ≤ t + muxTicks →
    exec .muxSwitchAbandon s = .next (withDev s (
      let d := ({ s.dev with clk := { s.dev.clk with mux := none, abandons := s.dev.clk.abandons + 1 } }).spoil 0x0C 0xFF 0x003
        false 0
      { d with clk := { d.clk with coxMHz := o } }))) ∧
  -- a gated block that does not answer: the gate closes, the host's access (master 0) ends in a bus error, which it sees as an
  -- Unsupported Request; what another master does is its own (the model's choices, logs 16 and 136)
  ∀ b k s, s.dev.awake = true →
    exec (.clockGateTimeout b k) s = .next (withDev s { s.dev with
      clk := { s.dev.clk with
        gateTimeouts := s.dev.clk.gateTimeouts + 1
        gated := if b ∈ s.dev.clk.gated then s.dev.clk.gated else s.dev.clk.gated ++ [b] }
      host := if k = 0 then ({ s.dev.host with bus := ⟨true, false, []⟩ } : HostIf).aerSet false 20 else s.dev.host })

/-- R442, R473, R514 to R517, R529 to R532, R562: temperature, core voltage, rails, Ethernet ports, recovery of a block. -/
def Obligations.SupplyAndThermalEventsComplete : Prop :=
  -- a reading below the limits: extremes, band, excursions, interpolation
  (∀ c s, s.dev.awake = true → -5500 ≤ c → c < 12500 →
    exec (.temperatureSample (some c)) s = .next (withDev s (
      let d := { s.dev with therm := { s.dev.therm with
        c100 := c, broken := false, minC := min s.dev.therm.minC c, maxC := max s.dev.therm.maxC c } }
      ((d.bandChange (d.bandFor c)).excursions c).interpolate c))) ∧
  -- 125 °C, or a sensor that gives no reading, shuts the device down
  (∀ c s, s.dev.awake = true → 12500 ≤ c → c ≤ 15000 →
    ∃ d : Dev, exec (.temperatureSample (some c)) s = .next (withDev s (d.thermalShutdown 0x09)) ∧ d.therm.c100 = c) ∧
  (∀ s, s.dev.awake = true →
    exec (.temperatureSample none) s = .next (withDev s
      (({ s.dev with therm := { s.dev.therm with broken := true } }).thermalShutdown 0x0A))) ∧
  -- a cooler band that has held for 1 s
  (∀ t s, Live .avsStepDownHold s → s.dev.therm.fallSince = some t → t + sT 1 ≤ s.dev.now →
    exec .avsStepDownHold s = .next (withDev s
      (({ s.dev with therm := { s.dev.therm with guardBand := s.dev.therm.band, fallSince := none } }).retarget))) ∧
  -- a step of the core supply: at most 5 mV towards its target; a Current read enters the power of the last 10 ms; the word
  -- of the Status read is free (log 8)
  (∀ v i s, s.dev.awake = true → s.dev.therm.avsTick + usT 100 ≤ s.dev.now → s.dev.therm.avsFault = false →
    towards s.dev.therm.setUv s.dev.therm.targetUv ≤ v + 15000 →
    exec (.avsStep true v i) s = .next (withDev s { (s.dev.draw 65536).2 with therm := { s.dev.therm with
      power := match i with
        | none => []
        | some a => (s.dev.now, v * a / 1000000) :: s.dev.therm.power.filter fun p => s.dev.now < p.1 + msT 10
      avsTick := s.dev.now, avsFails := 0, setUv := towards s.dev.therm.setUv s.dev.therm.targetUv, readUv := v
      avsStatus := (s.dev.draw 65536).1 } })) ∧
  (∀ a b, |(towards a b : Int) - a| ≤ 5000 ∧ (|(b : Int) - a| ≤ 5000 → towards a b = b)) ∧
  -- undervoltage holds the device until the core has been within its target for 10 ms
  (∀ s, Live .coreUndervoltage s →
    exec .coreUndervoltage s = .next (withDev s (({ s.dev with therm := { s.dev.therm with
      uvSince := some s.dev.now } }).enterHold .undervoltage false none 4))) ∧
  (∀ t s, Live .coreVoltageRecovered s → s.dev.therm.uvSince = some t → t + msT 10 ≤ s.dev.now →
    exec .coreVoltageRecovered s = .next (withDev s
      (({ s.dev with therm := { s.dev.therm with uvSince := none } }).holdCauseEnds (fun k => k == HoldCause.undervoltage)))) ∧
  -- a rail out of its window, and back
  (∀ r v s, Live (.railOutOfWindow r v) s → nth s.dev.pins.railBad r = false → railOff r v = true →
    exec (.railOutOfWindow r v) s = .next (withDev s
      ((({ s.dev with pins := { s.dev.pins with
        railBad := s.dev.pins.railBad.set r true, railTick := s.dev.pins.railTick.set r s.dev.now } }).spoil 0x0F r 0x001 true v).enterHold
        .rail false none 4))) ∧
  -- one that is still out: the 10 ms run anew, in Hold
  (∀ r v s, Live (.railOutOfWindow r v) s → nth s.dev.pins.railBad r = true → railOff r v = true →
    exec (.railOutOfWindow r v) s = .next (withDev s (({ s.dev with pins := { s.dev.pins with
      railTick := s.dev.pins.railTick.set r s.dev.now } } : Dev).enterHold .rail false none 4))) ∧
  (∀ r s, Live (.railRecovered r) s → nth s.dev.pins.railTick r + msT 10 ≤ s.dev.now →
    exec (.railRecovered r) s = .next (withDev s (
      let d := { s.dev with pins := { s.dev.pins with railBad := s.dev.pins.railBad.set r false } }
      if d.pins.railBad.any id then d else d.holdCauseEnds (fun k => k == HoldCause.rail)))) ∧
  -- an Ethernet port comes up, or goes down with its domain
  (∀ p s, Live (.ethPortChange p true) s → (nth s.dev.time.eth p).up = false →
    exec (.ethPortChange p true) s = .next (withDev s (
      let d := (s.dev.onEth p fun e => { e with up := true }).spoil 0x09 p 0x002 false 0
      if p = 0 then { d with clk := { d.clk with lossTick := d.clk.lossTick.set 1 s.dev.now } } else d))) ∧
  (∀ s, Live (.ethPortChange 1 false) s → (nth s.dev.time.eth 1).up = true →
    exec (.ethPortChange 1 false) s = .next (withDev s
      (((List.range 2).filter fun k => (s.dev.dom k).cfg.port = 1).foldl Dev.loseDomain
        ((s.dev.onEth 1 fun e => { e with up := false }).spoil 0x09 1 0x001 false 0)))) ∧
  -- port A takes the clock recovered from it along
  (∀ s, Live (.ethPortChange 0 false) s → (nth s.dev.time.eth 0).up = true → s.dev.clk.sel ≠ 1 →
    exec (.ethPortChange 0 false) s = .next (withDev s (
      let d := ((List.range 2).filter fun k => (s.dev.dom k).cfg.port = 0).foldl Dev.loseDomain
        ((s.dev.onEth 0 fun e => { e with up := false }).spoil 0x09 0 0x001 false 0)
      { d with clk := { d.clk with
        qualified := d.clk.qualified.set 1 false, lossTick := d.clk.lossTick.set 1 s.dev.now } }))) ∧
  -- the Cox recovers the block for which the device holds, once it is idle, with its clock (the DRAM PLL locks with it)
  (∀ c i s, s.dev.awake = true → s.dev.mode.mode = .hold → s.dev.mode.holdCauses.findSome? HoldCause.blockOf = some (c, i) →
    (∀ r ∈ s.dev.ump.recoveries, s.dev.now < r.2.2 + sT 3600 → ¬ (r.1 = c ∧ r.2.1 = i)) → s.dev.coxRuns = true →
    (c = 8 ∨ s.dev.clockGood c = true) → (c = 1 ∨ s.dev.blockIdle c i = true) → s.dev.now ≤ s.dev.mode.holdTick + msT 50 →
    exec (.holdRecovery true) s = .next (withDev s (
      let d := (if c = 8 then { s.dev with clk := { s.dev.clk with locks := s.dev.clk.locks.set 4 true } } else s.dev).blockOut c i
      (({ d with ump := { d.ump with
        holdBlock := none
        recoveries := (c, i, s.dev.now) :: s.dev.ump.recoveries.filter fun r => s.dev.now < r.2.2 + sT 3600
        } }).logDevice 5 0 (blockObject c) i (s.dev.blockForm c i) (d.blockForm c i)).holdCauseEnds fun k =>
          k.blockOf == some (c, i)))) ∧
  -- a second time within the hour it does not, nor past 50 ms, nor without the clock
  (∀ c i s, s.dev.awake = true → s.dev.coxRuns = true → s.dev.mode.mode = .hold →
    s.dev.mode.holdCauses.findSome? HoldCause.blockOf = some (c, i) →
    ((∃ r ∈ s.dev.ump.recoveries, s.dev.now < r.2.2 + sT 3600 ∧ r.1 = c ∧ r.2.1 = i) ∨ c ≠ 8 ∧ s.dev.clockGood c = false ∨
      s.dev.mode.holdTick + msT 50 < s.dev.now) →
    exec (.holdRecovery true) s = .next (withDev s (s.dev.recoveryFails c i))) ∧
  (∀ c i s, s.dev.awake = true → s.dev.coxRuns = true → s.dev.mode.mode = .hold →
    s.dev.mode.holdCauses.findSome? HoldCause.blockOf = some (c, i) →
    exec (.holdRecovery false) s = .next (withDev s (s.dev.recoveryFails c i))) ∧
  (∀ c s, s.dev.awake = true → (c = 4 ∨ c = 7 ∨ c = 8) →
    exec (.blockFault c) s = .next (withDev s (s.dev.blockHold c 0))) ∧
  -- the other codes of this row are the model's (log 128): the loaded safety set or an oar's next reference set damaged, an
  -- error that arises in DRAM, a burst that the Cox reads, an event of the test access port (log 157); no other is a fault
  (∀ s, s.dev.awake = true → exec (.blockFault 0x0D) s = .next (withDev s s.dev.setDamaged)) ∧
  (∀ k s, s.dev.awake = true → k < 32 →
    exec (.blockFault (0x100 + k)) s = .next (withDev s (s.dev.onSafe k fun o => { o with tapNoise := 1 }))) ∧
  (∀ b u s, s.dev.awake = true → b < 2 ^ 31 → u < 2 → 64 * b < s.dev.mc.capacity →
    exec (.blockFault (2 ^ 32 + 2 * b + u)) s = .next (withMem s (s.dev, [.inject b (u = 1)]))) ∧
  (∀ b s, s.dev.awake = true → b < 2 ^ 33 →
    exec (.blockFault (2 ^ 33 + b)) s = .next (withMem s (s.dev.coxReads s.dram b))) ∧
  (∀ e s, s.dev.awake = true → exec (.blockFault (2 ^ 34 + e)) s = .next (withDev s (s.dev.tapEvent e))) ∧
  ∀ c s, s.dev.awake = true → c ∉ [4, 7, 8, 0x0D] → ¬ (0x100 ≤ c ∧ c < 0x120) → c < 2 ^ 32 →
    exec (.blockFault c) s = .next s

/-- R493 to R497, R509, R511, R512, R517: resets, supplies, the way out of Standby. R493 to R495, R511: what a reset
leaves, at every level: the ladder at S0 in Start, every cut path open, no command anywhere, the fuses and the journal as
they were. -/
def Obligations.ResetEventsComplete : Prop :=
  (-- a source asserts: the pins are forced at once, the level of the source is what is released later
  (∀ r s, (2 ≤ s.dev.mode.mode.code ∨ r ≠ .rstn ∧ r ≠ .porn) → s.dev.boot.fusePulse = [] → s.dev.boot.resetActive = none →
    exec (.resetAssert r) s = .next (withDev s (
      let d := s.dev.forcePins (s.dev.levelOf r)
      { d with boot := { d.boot with resetActive := some (s.dev.levelOf r), resetSource := ResetSource.code r } }))) ∧
  -- during a fuse pulse it waits for its end
  (∀ r s, (2 ≤ s.dev.mode.mode.code ∨ r ≠ .rstn ∧ r ≠ .porn) → s.dev.boot.fusePulse ≠ [] → s.dev.ump.thermalDown = false →
    s.dev.boot.delayedReset = none →
    exec (.resetAssert r) s = .next (withDev s (
      let d := s.dev.forcePins (s.dev.levelOf r)
      { d with boot := { d.boot with delayedReset := some r } }))) ∧
  -- PORn of a device without VDD_AON is that of its power-up: PWR_EN rises (the model's choice, log 154)
  (∀ s, s.dev.mode.mode.code < 2 → s.dev.boot.fusePulse = [] → s.dev.boot.resetActive = none →
    exec (.resetAssert .porn) s = .next (withDev s (
      let d := ({ s.dev with pins := { s.dev.pins with vddAon := true, pwrEn := true } } : Dev).forcePins (s.dev.levelOf .porn)
      { d with boot := { d.boot with resetActive := some (s.dev.levelOf .porn), resetSource := ResetSource.code .porn } }))) ∧
  -- RSTn means nothing to it
  (∀ s, s.dev.mode.mode.code < 2 → exec (.resetAssert .rstn) s = .next s) ∧
  -- the release gives the machine that the level leaves; a Full reset lasts while a monitored rail is out of its window
  (∀ l s, s.dev.boot.resetActive = some l → (l = .full → true ∉ s.dev.pins.railBad) →
    exec .resetRelease s = .next (withMem s (s.dev.keepPast.resetNow s.dram l false))) ∧
  (∀ s, s.dev.boot.resetActive = some .full → true ∈ s.dev.pins.railBad → exec .resetRelease s = .next s) ∧
  -- VDD_AON lost: Keep on VBAT, Off without, nothing left in DRAM
  (∀ s, 2 ≤ s.dev.mode.mode.code →
    ∃ t, exec .vddAonLoss s = .next t ∧ t.dev.mode.mode = (if s.dev.pins.vbat then .keep else .off) ∧
      t.dev.boot.resetActive = some .full ∧ t.dev.pins.pwrEn = false ∧ t.dev.pins.vddAon = false ∧ t.dev.ump.closed = 0 ∧
      t.dev.host.linkUp = false ∧ t.dev.host.link1Up = false ∧ t.dram.mem = [] ∧ (s.dev.pins.vbat = false → t.dev.boot.keep.valid = false) ∧
      (s.dev.pins.vbat = true → t.dev.boot.keep = s.dev.boot.keep)) ∧
  -- VBAT applied to a device that is off: Keep; taken from one in Keep: Off
  (∀ s, s.dev.mode.mode = .off →
    ∃ t, exec (.vbatChange true) s = .next t ∧ t.dev.mode.mode = .keep ∧ t.dev.pins.vbat = true ∧ t.dram = s.dram) ∧
  (∀ s, s.dev.mode.mode = .keep →
    ∃ t, exec (.vbatChange false) s = .next t ∧ t.dev.mode.mode = .off ∧ t.dev.pins.vbat = false ∧
      t.dev.boot.keep.valid = false ∧ t.dram = s.dram) ∧
  (∀ s, s.dev.mode.mode ≠ .off →
    exec .crystalStop s = .next (withDev s { s.dev with boot := { s.dev.boot with crystalStopped := true } })) ∧
  -- an armed source wakes a device in Standby into Start; one that is not armed does not
  (∀ s, s.dev.mode.mode = .standby → s.dev.mode.wakeArmed.testBit 1 = true → s.dev.boot.resetActive = none →
    exec (.standbyWake 1) s = .next (withMem s (
      let r := s.dev.keepPast.resetNow s.dram .full true
      ({ r.1 with pins := { r.1.pins with
        pewake := true, wdogOut := s.dev.pins.wdogOut, therm := s.dev.pins.therm } }, r.2)))) ∧
  (∀ s, (s.dev.mode.mode ≠ .standby ∨ s.dev.mode.wakeArmed.testBit 1 = false) →
    exec (.standbyWake 1) s = .next s) ∧
  -- so does PERST# deasserted, which needs no WAKE#
  (∀ s, s.dev.mode.mode = .standby → s.dev.mode.wakeArmed.testBit 0 = true → s.dev.boot.resetActive = none →
    exec (.standbyWake 0) s = .next (withMem s (
      let r := ({ s.dev with pins := { s.dev.pins with perst := false, pewake := false } } : Dev).keepPast.resetNow s.dram .full true
      ({ r.1 with pins := { r.1.pins with
        pewake := false, wdogOut := s.dev.pins.wdogOut, therm := s.dev.pins.therm } }, r.2)))) ∧
  (∀ s, (s.dev.mode.mode ≠ .standby ∨ s.dev.mode.wakeArmed.testBit 0 = false) →
    exec (.standbyWake 0) s = .next (withDev s { s.dev with pins := { s.dev.pins with perst := false, pewake := false } })) ∧
  -- no other number names a source
  (∀ n s, 2 ≤ n → exec (.standbyWake n) s = .next s) ∧
  -- a wake frame that matches does the same; one that a running device receives is dropped and counted
  (∀ f s, s.dev.mode.mode = .standby → s.dev.wakeMatch f = true → s.dev.mode.wakeArmed.testBit 2 = true →
    s.dev.boot.resetActive = none →
    exec (.wakeFrame f) s = .next (withMem s (
      let r := s.dev.keepPast.resetNow s.dram .full true
      ({ r.1 with pins := { r.1.pins with
        pewake := true, wdogOut := s.dev.pins.wdogOut, therm := s.dev.pins.therm } }, r.2)))) ∧
  -- it matches by its address, its type, MAGIC, SUBTYPE and the serial number
  (∀ (d : Dev) f, d.wakeMatch f = true ↔
    ((ethParts f).1 = (nth d.time.eth 0).mac ∨ (ethParts f).1 = 2 ^ 48 - 1) ∧ (ethParts f).2.1 = 0x88B5 ∧
      fieldOf (ethParts f).2.2 0 2 = 0x4347 ∧ fieldOf (ethParts f).2.2 3 1 = 0x0F ∧
      fieldOf (ethParts f).2.2 32 8 = d.fuses.serial) ∧
  ∀ f s, s.dev.mode.mode ≠ .standby → s.dev.awake = true → (nth s.dev.time.eth 0).up = true →
    exec (.wakeFrame f) s = .next (withDev s (s.dev.countDrop 0 3))) ∧
  (∀ (d : Dev) l e, d.boot.fusePulse = [] →
    let r := d.afterReset l e
    r.mode.mode = .start ∧ r.boot.next = 0 ∧ r.boot.halted = false ∧ r.boot.level = l ∧ r.boot.resetActive = none ∧
    r.ump.closed = 0 ∧ r.host.jobs = [] ∧ (∀ b ∈ r.host.mbx, b.st = .free) ∧ r.fuses = d.fuses ∧ r.logs.journal = d.logs.journal ∧
    r.layers.queue = [] ∧ r.layers.released = none ∧ r.gov.grants = [] ∧ r.boot.keep = d.boot.keep ∧ r.flash = d.flash ∧
    r.geo.stored = d.geo.stored ∧
    (l = .soft → r.geo.active = d.geo.active ∧ r.therm.c100 = d.therm.c100 ∧ r.mc.order = d.mc.order))

/-- R494 to R496, R498, R500 to R504: the steps of the ladder. -/
def Obligations.BootEventsComplete : Prop :=
  -- the step at which the ladder stands runs and ends, in its time and with the clock of what it releases
  (∀ r s, s.dev.awake = true → s.dev.laddering = true → s.dev.portsBusy = false → s.dev.stepWaits = false →
    s.dev.stepLate = false →
    exec (.bootStep r) s = .next (withMem s (Dev.endStep s.dev.boot.next (s.dev.runStep s.dev.boot.next r)))) ∧
  -- none runs once the ladder has halted or ended
  (∀ r s, s.dev.awake = true → s.dev.laddering = false → exec (.bootStep r) s = .next s) ∧
  -- a step that runs out of time ends as one that nothing answers
  (∀ t s, Live .bootStepTimeout s → stepLimit s.dev.boot.next = some t → s.dev.laddering = true →
    s.dev.boot.stepTick + t < s.dev.now → (s.dev.boot.next = 5 → s.dev.boot.otherSlot = true) →
    exec .bootStepTimeout s = .next (withMem s (Dev.endStep s.dev.boot.next (s.dev.runStep s.dev.boot.next lateReport)))) ∧
  -- at S5 the other slot has its own 2 s first
  (∀ s, Live .bootStepTimeout s → s.dev.boot.next = 5 → s.dev.laddering = true → s.dev.boot.stepTick + msT 2000 < s.dev.now →
    s.dev.boot.otherSlot = false →
    exec .bootStepTimeout s = .next (withDev s
      { s.dev with boot := { s.dev.boot with otherSlot := true, stepTick := s.dev.now } })) ∧
  -- a block whose clock does not come within 10 ms is left in reset; that its command ends OK with 1 is the model's choice (log 92)
  (∀ c i s, Live (.blockReleaseTimeout c i) s → i < blockCount c → s.dev.clockGood c = false →
    (∃ j ∈ s.dev.host.jobs, j.kind.waitedFor c i s.dev.now = true) → s.dev.laddering = false →
    exec (.blockReleaseTimeout c i) s = .next (withDev s (
      (({ s.dev with boot := { s.dev.boot with
        inReset := (c, i) :: s.dev.boot.inReset.filter (· ≠ (c, i)) } }).spoil 0x0D c 0x001 true i).finishJobs
          (·.waitedFor c i s.dev.now) 0 0 (u32 1)))) ∧
  -- a fuse pulse ends: its bit is programmed, the next pulse follows
  (∀ p q ps s, Live .fusePulseEnd s → s.dev.boot.fusePulse = p :: q :: ps → s.dev.boot.delayedReset = none →
    exec .fusePulseEnd s = .next (withDev s
      { s.dev with boot := { s.dev.boot with fusePulse := q :: ps }, fuses := s.dev.fuses.program p })) ∧
  -- a reset that waited takes effect instead
  (∀ p ps r s, Live .fusePulseEnd s → s.dev.boot.fusePulse = p :: ps → s.dev.boot.delayedReset = some r →
    exec .fusePulseEnd s = .next (withDev s
      (({ s.dev with boot := { s.dev.boot with fusePulse := [] }, fuses := s.dev.fuses.program p }).resetBegins r)))

/-- R501 to R504: how a step of the ladder ends: a halt leaves the mode and the step as they are, with every cut path open
and WDOG_OUT_N asserted; every other outcome goes on to a later step; a failure is counted up to 3, and any other outcome
ends the step's count. -/
def Obligations.LadderOutcomes : Prop :=
  (∀ i (e : StepEnd), e.halt = true →
    (Dev.endStep i e).1.boot.halted = true ∧ (Dev.endStep i e).1.ump.closed = 0 ∧ (Dev.endStep i e).1.pins.wdogOut = true ∧
    (Dev.endStep i e).1.mode.mode = e.dev.mode.mode ∧ (Dev.endStep i e).1.boot.next = e.dev.boot.next) ∧
  (∀ i (e : StepEnd), e.halt = false → i ≤ 14 → (Dev.endStep i e).1.boot.halted = e.dev.boot.halted ∧
    i < (Dev.endStep i e).1.boot.next ∧ (Dev.endStep i e).1.boot.next ≤ 15) ∧
  ∀ i (e : StepEnd), i < e.dev.boot.keep.steps.length → i ≤ 14 → e.outcome ≤ 3 →
    (Dev.endStep i e).1.boot.keep.fails i = if e.outcome = 3 then min 3 (e.dev.boot.keep.fails i + 1) else 0

/-- R494, R496, R502, R504, R506 to R508: the commands of ladder, fuses and firmware. -/
def Obligations.BootCommandsComplete : Prop :=
  (∀ m s x, Starts (.sysLadder m none) s x →
    exec (.sysLadder m none) s = .next (answered s x s.dev s.dev.ladderReport)) ∧
  (∀ m k i w s x, Starts (.sysLadder m (some (k, i, w))) s x → k ≤ 1 → w ≤ 1 → (k = 0 → i < 15) →
    (k = 1 → s.dev.portExists i = true) →
    exec (.sysLadder m (some (k, i, w))) s = .next (
      let d := s.dev.onKeep fun r => r.clear k i w
      answered s x d d.ladderReport)) ∧
  -- one pulse for each bit of a field that is not programmed yet
  (∀ m n v p ps s x, Starts (.sysFuse m n v) s x → n ≤ 2 → v < 2 ^ fieldBits n → (n = 0 → s.dev.fuses.rstMap = 0) →
    v ||| s.dev.fuses.field n = v → s.dev.boot.fusePulse = [] → s.dev.fuses.pulses n v = p :: ps →
    exec (.sysFuse m n v) s = .next (running s x
      ({ s.dev with boot := { s.dev.boot with fusePulse := p :: ps } }.log x 0x0B n (u32 (s.dev.fuses.field n)) (u32 v))
      .fuse true)) ∧
  -- a bit once programmed cannot be cleared
  (∀ m n v s x, Starts (.sysFuse m n v) s x → n ≤ 2 → v ||| s.dev.fuses.field n ≠ v →
    exec (.sysFuse m n v) s = .next (turnedAway s x 0x21 0 0)) ∧
  -- an image that passes the checks stands in the slot that does not run; one that fails a check is refused with its
  -- number, and leaves that slot empty
  (∀ m a n c i s x, Starts (.fwStage m a n c) s x → 512 ≤ n → n ≤ 58720256 → a + n ≤ s.dev.mc.hostLimit →
    s.dram.marked a n = [] → crc32c (memBytes s.dram.mem a n) = c → FwSlot.ofImage (memBytes s.dram.mem a n) = some i →
    exec (.fwStage m a n c) s = .next (let e := s.dev.activate a n
      match i.failing s.dev.fuses with
      | none => answered s x
        ((e.onBoot fun b => b.setSlot b.spareSlot (some i)).log x 0x0C s.dev.boot.spareSlot
          (slotDigest (s.dev.boot.slot s.dev.boot.spareSlot)) i.header) (i.checks s.dev.fuses)
      | some k => { s with dev :=
        (((e.onBoot fun b => b.setSlot b.spareSlot none).log x 0x0C s.dev.boot.spareSlot
          (slotDigest (s.dev.boot.slot s.dev.boot.spareSlot)) []).respond x.mbx 0x21 k 0 0 []) })) ∧
  (∀ m i s x, Starts (.fwActivate m i) s x → i ≤ 1 → s.dev.boot.slot i ≠ none →
    exec (.fwActivate m i) s = .next (answered s x
      ((s.dev.onBoot fun b => { b with preferred := i }).log x 0x0C 2 (u32 s.dev.boot.preferred) (u32 i)) (u32 i))) ∧
  (∀ m s x, Starts (.fwStatus m) s x → ∃ r, exec (.fwStatus m) s = .next (answered s x s.dev r) ∧
    r = s.dev.slotReport 0 ++ s.dev.slotReport 1 ++ u32 (s.dev.boot.running.getD 0xFFFFFFFF) ++ u32 s.dev.fuses.svnMin ++
      (List.range 4).flatMap fun i => u32 (if s.dev.fuses.keyRevoke.testBit i then 1 else 0)) ∧
  -- SVN_MIN is raised to the running image's by one pulse a unit; it is never lowered
  (∀ m s x, Starts (.fwCommit m) s x → s.dev.boot.fusePulse = [] → s.dev.fuses.svnMin < s.dev.runningSvn →
    exec (.fwCommit m) s = .next (running s x
      ({ s.dev with boot := { s.dev.boot with
        fusePulse := (List.range (s.dev.runningSvn - s.dev.fuses.svnMin)).map fun i => (3, s.dev.fuses.svnMin + i)
        } }.log x 0x0B 3 (u32 s.dev.fuses.svnMin) (u32 s.dev.runningSvn)) .fuse true)) ∧
  ∀ m s x, Starts (.fwCommit m) s x → s.dev.boot.fusePulse = [] → s.dev.runningSvn ≤ s.dev.fuses.svnMin →
    exec (.fwCommit m) s = .next (answered s x s.dev (u32 s.dev.fuses.svnMin))

/-- R409, R417: a command that is refused at steps 8 and 9 leaves nothing but its answer, and one that does not stand in
its mailbox leaves nothing. (`mode.set` is taken where no entry into Build waits to begin.) -/
def Obligations.RefusedCommandLeavesOnlyItsAnswer : Prop :=
  (∀ c s x st de, (∀ m t, c = .modeSet m t → s.dev.hasJob (fun k => match k with | .modeSet 5 => true | _ => false) = false) →
    s.dev.startOf c = some x → s.dev.startRefusal x = some (st, de) → exec c s = .next (turnedAway s x st de 0)) ∧
  ∀ c s, (∀ m t, c = .modeSet m t → s.dev.hasJob (fun k => match k with | .modeSet 5 => true | _ => false) = false) →
    (cmdOf c).isSome = true → s.dev.startOf c = none → exec c s = .next s

/-- R409: outside COMPAT the first failure of steps 1 to 7, in their order, gives the answer, and a command without one is
accepted for execution. -/
def Obligations.ExaminationOrder : Prop :=
  ∀ (d : Dev) m, m < 16 → d.boot.compat = false →
    let h := d.hdr m
    let r := opRow h.opcode
    (h.magic ≠ 0x4D42 → d.examine m = some (0x22, 0xFF01)) ∧
    (h.magic = 0x4D42 →
      (h.version ≠ 2 → d.examine m = some (0x22, 0xFF02)) ∧
      (h.version = 2 →
        ((h.cls ≠ mbxClass m ∨ ∃ o, r = some o ∧ classAccepted m o.cls = false) → d.examine m = some (0x21, 0xFF03)) ∧
        (h.cls = mbxClass m → (∀ o, r = some o → classAccepted m o.cls = true) →
          ((2016 < h.length ∨ ∃ o, r = some o ∧ o.form.ok (d.payload m) = false) → d.examine m = some (0x21, 0xFF04)) ∧
          (h.length ≤ 2016 → (∀ o, r = some o → o.form.ok (d.payload m) = true) →
            ((h.reserved ≠ 0 ∨ 8 ≤ h.flags ∨ m = 0 ∧ h.flags % 4 ≠ 0) → d.examine m = some (0x21, 0xFF05)) ∧
            (h.reserved = 0 → h.flags < 8 → (m = 0 → h.flags % 4 = 0) →
              (r = none → d.examine m = some (0x20, 0xFF06)) ∧
              ∀ o, r = some o →
                (originPermits m d.host.serviceOn o = false → d.examine m = some (0x10, 0xFF07)) ∧
                (originPermits m d.host.serviceOn o = true → d.examine m = none))))))

/-- R407, R408, R413: an answer: the mailbox is DONE and says what was asked and what came of it, its interrupt cause is
set, no other mailbox's command ends, and nothing outside the host interface changes. -/
def Obligations.AnswerStandsInItsMailbox : Prop :=
  ∀ (d : Dev) m st de h i r, m < 16 → m < d.host.mbx.length → d.boot.compat = false →
    let t := d.respond m st de h i r
    t = { d with host := t.host } ∧ (nth t.host.mbx m).st = .done ∧
    (∃ p, (nth t.host.mbx m).resp = some p ∧ p.status = st ∧ p.detail = de ∧ p.opcode = (d.hdr m).opcode ∧
      p.tag = (d.hdr m).tag ∧ p.waitHint = h ∧ p.completionId = i ∧ p.result = r.take 2016) ∧
    (∀ k, k ≠ m → (nth t.host.mbx k).st = (nth d.host.mbx k).st ∧ (nth t.host.mbx k).resp = (nth d.host.mbx k).resp) ∧
    t.host.irq0.cause.getLsbD m = true ∧ t.host.irq1.cause.getLsbD m = true ∧ t.host.jobs = d.host.jobs

/-- R465, R466: entry into Safe: every cut path is open, SAFE_A and SAFE_B stop, MODE says Safe and SAFE_CAUSE why. In
Safe a further condition changes none of this. -/
def Obligations.SafeEntryOpensEveryCutPath : Prop :=
  (∀ (d : Dev) c k, (d.mode.mode = .start ∨ d.mode.mode = .ready ∨ d.mode.mode = .build ∨ d.mode.mode = .hold) →
    let t := d.enterSafe c k
    t.mode.mode = .safe ∧ t.ump.closed = 0 ∧ t.pins.safeToggling = false ∧ t.ump.safeCause = c ∧ t.layers.queue = d.layers.queue ∧
    t.mode.holdCauses = [] ∧ t.fuses = d.fuses) ∧
  ∀ (d : Dev) c k, d.mode.mode = .safe →
    (d.enterSafe c k).mode = d.mode ∧ (d.enterSafe c k).ump.safeCause = d.ump.safeCause ∧
    (d.enterSafe c k).ump.closed = d.ump.closed ∧ (d.enterSafe c k).layers = d.layers

/-- R122, R182: the power command of a frame never draws more than the stroke's grant. -/
def Obligations.PowerStaysWithinTheGrant : Prop :=
  ∀ (d : Dev) k (b : BufStroke), k < d.eng.length → 0 ≤ b.plantW → 0 < (nth d.gov.power k).1 → 0 < (nth d.gov.power k).2 →
    let t := d.strokePower k b
    plantDraw (nth d.gov.power k) ((nth t.eng k).power / 65535 : Rat) ≤ b.plantW ∧ (nth t.eng k).power ≤ 0xFFFF ∧
    (nth t.eng k).dac = mapCode (nth d.eng k).map (nth t.eng k).power ∧ ∀ j, j ≠ k → nth t.eng j = nth d.eng j

/-- R124: a cell is live for an oar that did not mark it, and a gang's for every oar, for WAKE_LIFE and no longer; its age
is the present time in µs less its TIME, modulo 2^32, a TIME less than 1 ms ahead being the present (the model's choice,
log 150). An oar's own wake never blocks it. -/
def Obligations.WakeLivesForItsLife : Prop :=
  ∀ (d : Dev) k c,
    (d.wakeLive k c = true ↔
      ((d.mar.wakeAt c).2.2 = 2 ∨ (d.mar.wakeAt c).2.2 = 1 ∧ (d.mar.wakeAt c).2.1 ≠ k) ∧
        (let a := (d.us32 + 2 ^ 32 - (d.mar.wakeAt c).1 % 2 ^ 32) % 2 ^ 32
         if 2 ^ 32 - 1000 < a then 0 else a) < d.relDesc.wakeLife) ∧
    d.us32 = (d.time.sec * 1000000 + d.nsNow / 1000) % 2 ^ 32

/-- R55, R57: the eligible oars of a stroke are the mask entry that MASK_INDEX names, or at 0xFFFF those whose field holds
both ends, inside the bed, and whose zones the segment does not meet. -/
def Obligations.EligibilityByMaskOrField : Prop :=
  ∀ (g : Geometry) p q,
    (∀ i < g.masks.length, i < 0xFFFF → g.eligibility p q i = some (nth g.masks i)) ∧
    ∃ m, g.eligibility p q 0xFFFF = some m ∧ ∀ k,
      (m.testBit k = true ↔ k < 32 ∧ g.inBed p = true ∧ g.inBed q = true ∧ nth g.fields k ≠ [] ∧
        (∀ e ∈ edges (nth g.fields k), 0 ≤ turn e.1 e.2 p ∧ 0 ≤ turn e.1 e.2 q) ∧
        ∀ z, some z ∈ g.zones → z.mask.testBit k = true →
          (∃ e ∈ edges z.vs, turn e.1 e.2 p < 0) ∧ (∃ e ∈ edges z.vs, turn e.1 e.2 q < 0) ∧
          ∀ e ∈ edges z.vs, segmentsTouch e.1 e.2 p q = false)

/-- R204: `loop.gains` with a table whose EN does not start at 0 or does not rise is BAD_ARG and installs nothing; at or
beyond the last point's EN a table holds that point's gains. -/
def Obligations.GainTablesMustAscend : Prop :=
  (∀ m f n a c s x i, Starts (.loopGains m f n a c) s x → 1 ≤ n → f + n ≤ 128 → a + 512 * n ≤ s.dev.mc.hostLimit →
    (∀ j < n, s.dev.tableBusy (f + j) = false) → s.dram.marked a (512 * n) = [] →
    crc32c (memBytes s.dram.mem a (512 * n)) = c →
    i < n →
    (fieldOf (entryAt (memBytes s.dram.mem a (512 * n)) 512 i) 0 2 ≠ 0 ∨
      ∃ j < 31, fieldOf (entryAt (memBytes s.dram.mem a (512 * n)) 512 i) (16 * (j + 1)) 2 ≤
        fieldOf (entryAt (memBytes s.dram.mem a (512 * n)) 512 i) (16 * j) 2) →
    ∃ k < n, exec (.loopGains m f n a c) s =
      .next (turnedAway (withDev s (s.dev.activate a (512 * n))) x 0x21 (f + k) 0)) ∧
  ∀ (t : GainTable) en, t.pts.length = 32 → t.ok = true → (nth t.pts 31).1 ≤ en → gainLookup t en = (nth t.pts 31).2
end

