-- ==== Sys2Proof/Laws/Dispatch.lean ====
section
/-! SUPPORT. What `exec` runs for each constructor, one equation each. -/

namespace Sys2Proof.Laws

open Sys2Proof.Machine

theorem exec_oarEnable {mbx mask} {s : State} : exec (.oarEnable mbx mask) s = execOarEnable mbx mask s := rfl
theorem exec_oarDisable {mbx mask} {s : State} : exec (.oarDisable mbx mask) s = execOarDisable mbx mask s := rfl
theorem exec_oarStatus {mbx} {s : State} : exec (.oarStatus mbx) s = execOarStatus mbx s := rfl
theorem exec_oarMotion {mbx mask m} {s : State} : exec (.oarMotion mbx mask m) s = execOarMotion mbx mask m s := rfl
theorem exec_oarLatency {mbx set} {s : State} : exec (.oarLatency mbx set) s = execOarLatency mbx set s := rfl
theorem exec_oarPowermap {mbx mask codes idle} {s : State} : exec (.oarPowermap mbx mask codes idle) s = execOarPowermap mbx mask codes idle s := rfl
theorem exec_oarPlacement {mbx mask clear} {s : State} : exec (.oarPlacement mbx mask clear) s = execOarPlacement mbx mask clear s := rfl
theorem exec_oarMeasure {mbx mask} {s : State} : exec (.oarMeasure mbx mask) s = execOarMeasure mbx mask s := rfl
theorem exec_oarCamera {mbx mask c} {s : State} : exec (.oarCamera mbx mask c) s = execOarCamera mbx mask c s := rfl
theorem exec_oarDark {mbx mask} {s : State} : exec (.oarDark mbx mask) s = execOarDark mbx mask s := rfl
theorem exec_oarSense {mbx mask} {s : State} : exec (.oarSense mbx mask) s = execOarSense mbx mask s := rfl
theorem exec_oarLink {mbx ports width height preset autoSleep} {s : State} : exec (.oarLink mbx ports width height preset autoSleep) s = execOarLink mbx ports width height preset autoSleep s := rfl
theorem exec_oarLinkstat {mbx ports clear} {s : State} : exec (.oarLinkstat mbx ports clear) s = execOarLinkstat mbx ports clear s := rfl
theorem exec_oarRetrain {mbx ports} {s : State} : exec (.oarRetrain mbx ports) s = execOarRetrain mbx ports s := rfl
theorem exec_oarPower {mbx ports state} {s : State} : exec (.oarPower mbx ports state) s = execOarPower mbx ports state s := rfl
theorem exec_oarEyescan {mbx port ph0 ph1 v0 v1 n addr} {s : State} : exec (.oarEyescan mbx port ph0 ph1 v0 v1 n addr) s = execOarEyescan mbx port ph0 ph1 v0 v1 n addr s := rfl
theorem exec_oarSvc {mbx port op addr len data} {s : State} : exec (.oarSvc mbx port op addr len data) s = execOarSvc mbx port op addr len data s := rfl
theorem exec_fieldBed {mbx x0 y0 w h} {s : State} : exec (.fieldBed mbx x0 y0 w h) s = execFieldBed mbx x0 y0 w h s := rfl
theorem exec_fieldGrid {mbx g} {s : State} : exec (.fieldGrid mbx g) s = execFieldGrid mbx g s := rfl
theorem exec_fieldPolygon {mbx oar vs} {s : State} : exec (.fieldPolygon mbx oar vs) s = execFieldPolygon mbx oar vs s := rfl
theorem exec_fieldKeepout {mbx zone mask vs} {s : State} : exec (.fieldKeepout mbx zone mask vs) s = execFieldKeepout mbx zone mask vs s := rfl
theorem exec_fieldStitch {mbx pairs} {s : State} : exec (.fieldStitch mbx pairs) s = execFieldStitch mbx pairs s := rfl
theorem exec_fieldMasks {mbx addr count crc} {s : State} : exec (.fieldMasks mbx addr count crc) s = execFieldMasks mbx addr count crc s := rfl
theorem exec_fieldCommit {mbx} {s : State} : exec (.fieldCommit mbx) s = execFieldCommit mbx s := rfl
theorem exec_fieldDiscard {mbx} {s : State} : exec (.fieldDiscard mbx) s = execFieldDiscard mbx s := rfl
theorem exec_fieldQuery {mbx which item index} {s : State} : exec (.fieldQuery mbx which item index) s = execFieldQuery mbx which item index s := rfl
theorem exec_fieldEligible {mbx p q maskIndex} {s : State} : exec (.fieldEligible mbx p q maskIndex) s = execFieldEligible mbx p q maskIndex s := rfl
theorem exec_layerParams {mbx first count addr crc} {s : State} : exec (.layerParams mbx first count addr crc) s = execLayerParams mbx first count addr crc s := rfl
theorem exec_layerProfiles {mbx first count addr crc} {s : State} : exec (.layerProfiles mbx first count addr crc) s = execLayerProfiles mbx first count addr crc s := rfl
theorem exec_layerTargets {mbx first count addr crc} {s : State} : exec (.layerTargets mbx first count addr crc) s = execLayerTargets mbx first count addr crc s := rfl
theorem exec_layerCommit {mbx addr} {s : State} : exec (.layerCommit mbx addr) s = execLayerCommit mbx addr s := rfl
theorem exec_layerCancel {mbx layer} {s : State} : exec (.layerCancel mbx layer) s = execLayerCancel mbx layer s := rfl
theorem exec_layerAbandon {mbx layer} {s : State} : exec (.layerAbandon mbx layer) s = execLayerAbandon mbx layer s := rfl
theorem exec_layerReload {mbx layer first count} {s : State} : exec (.layerReload mbx layer first count) s = execLayerReload mbx layer first count s := rfl
theorem exec_layerStatus {mbx layer} {s : State} : exec (.layerStatus mbx layer) s = execLayerStatus mbx layer s := rfl
theorem exec_layerReport {mbx layer} {s : State} : exec (.layerReport mbx layer) s = execLayerReport mbx layer s := rfl
theorem exec_layerLibrary {mbx kind index} {s : State} : exec (.layerLibrary mbx kind index) s = execLayerLibrary mbx kind index s := rfl
theorem exec_marshalConfig {mbx horizon balance orphan} {s : State} : exec (.marshalConfig mbx horizon balance orphan) s = execMarshalConfig mbx horizon balance orphan s := rfl
theorem exec_marshalThermal {mbx set} {s : State} : exec (.marshalThermal mbx set) s = execMarshalThermal mbx set s := rfl
theorem exec_marshalThermtable {mbx first count addr crc} {s : State} : exec (.marshalThermtable mbx first count addr crc) s = execMarshalThermtable mbx first count addr crc s := rfl
theorem exec_marshalStatus {mbx} {s : State} : exec (.marshalStatus mbx) s = execMarshalStatus mbx s := rfl
theorem exec_marshalStats {mbx layer} {s : State} : exec (.marshalStats mbx layer) s = execMarshalStats mbx layer s := rfl
theorem exec_marshalInterrupted {mbx layer first count} {s : State} : exec (.marshalInterrupted mbx layer first count) s = execMarshalInterrupted mbx layer first count s := rfl
theorem exec_marshalWake {mbx rect} {s : State} : exec (.marshalWake mbx rect) s = execMarshalWake mbx rect s := rfl
theorem exec_marshalHeat {mbx col row w h addr write} {s : State} : exec (.marshalHeat mbx col row w h addr write) s = execMarshalHeat mbx col row w h addr write s := rfl
theorem exec_loopConfig {mbx ds} {s : State} : exec (.loopConfig mbx ds) s = execLoopConfig mbx ds s := rfl
theorem exec_loopGains {mbx first count addr crc} {s : State} : exec (.loopGains mbx first count addr crc) s = execLoopGains mbx first count addr crc s := rfl
theorem exec_loopCommit {mbx} {s : State} : exec (.loopCommit mbx) s = execLoopCommit mbx s := rfl
theorem exec_loopMode {mbx slots state man} {s : State} : exec (.loopMode mbx slots state man) s = execLoopMode mbx slots state man s := rfl
theorem exec_loopSetpoint {mbx slot value} {s : State} : exec (.loopSetpoint mbx slot value) s = execLoopSetpoint mbx slot value s := rfl
theorem exec_loopGear {mbx enc num den} {s : State} : exec (.loopGear mbx enc num den) s = execLoopGear mbx enc num den s := rfl
theorem exec_loopIo {mbx ain pwm} {s : State} : exec (.loopIo mbx ain pwm) s = execLoopIo mbx ain pwm s := rfl
theorem exec_loopStatus {mbx slots} {s : State} : exec (.loopStatus mbx slots) s = execLoopStatus mbx slots s := rfl
theorem exec_loopTrace {mbx slots count addr} {s : State} : exec (.loopTrace mbx slots count addr) s = execLoopTrace mbx slots count addr s := rfl
theorem exec_loopRestore {mbx} {s : State} : exec (.loopRestore mbx) s = execLoopRestore mbx s := rfl
theorem exec_slideConfig {mbx ds} {s : State} : exec (.slideConfig mbx ds) s = execSlideConfig mbx ds s := rfl
theorem exec_slideEncoder {mbx ds} {s : State} : exec (.slideEncoder mbx ds) s = execSlideEncoder mbx ds s := rfl
theorem exec_slideMove {mbx axis target vMax} {s : State} : exec (.slideMove mbx axis target vMax) s = execSlideMove mbx axis target vMax s := rfl
theorem exec_slideStop {mbx mask} {s : State} : exec (.slideStop mbx mask) s = execSlideStop mbx mask s := rfl
theorem exec_slideHome {mbx axis h} {s : State} : exec (.slideHome mbx axis h) s = execSlideHome mbx axis h s := rfl
theorem exec_slideLimits {mbx axis v a d j} {s : State} : exec (.slideLimits mbx axis v a d j) s = execSlideLimits mbx axis v a d j s := rfl
theorem exec_slideSetpos {mbx axis pos} {s : State} : exec (.slideSetpos mbx axis pos) s = execSlideSetpos mbx axis pos s := rfl
theorem exec_slideRecoat {mbx r} {s : State} : exec (.slideRecoat mbx r) s = execSlideRecoat mbx r s := rfl
theorem exec_slideStatus {mbx mask} {s : State} : exec (.slideStatus mbx mask) s = execSlideStatus mbx mask s := rfl
theorem exec_slideClear {mbx mask} {s : State} : exec (.slideClear mbx mask) s = execSlideClear mbx mask s := rfl
theorem exec_imageConfig {mbx c} {s : State} : exec (.imageConfig mbx c) s = execImageConfig mbx c s := rfl
theorem exec_imageStatus {mbx} {s : State} : exec (.imageStatus mbx) s = execImageStatus mbx s := rfl
theorem exec_imageLine {mbx dir addr} {s : State} : exec (.imageLine mbx dir addr) s = execImageLine mbx dir addr s := rfl
theorem exec_ledConfig {mbx ch rsense iSet vShort} {s : State} : exec (.ledConfig mbx ch rsense iSet vShort) s = execLedConfig mbx ch rsense iSet vShort s := rfl
theorem exec_ledPattern {mbx pattern steps} {s : State} : exec (.ledPattern mbx pattern steps) s = execLedPattern mbx pattern steps s := rfl
theorem exec_ledSet {mbx mask pattern phase map} {s : State} : exec (.ledSet mbx mask pattern phase map) s = execLedSet mbx mask pattern phase map s := rfl
theorem exec_ledLamp {mbx a} {s : State} : exec (.ledLamp mbx a) s = execLedLamp mbx a s := rfl
theorem exec_ledStatus {mbx} {s : State} : exec (.ledStatus mbx) s = execLedStatus mbx s := rfl
theorem exec_ledClear {mbx mask} {s : State} : exec (.ledClear mbx mask) s = execLedClear mbx mask s := rfl
theorem exec_recRing {mbx ring base size mode cb level} {s : State} : exec (.recRing mbx ring base size mode cb level) s = execRecRing mbx ring base size mode cb level s := rfl
theorem exec_recTake {mbx take decim gated} {s : State} : exec (.recTake mbx take decim gated) s = execRecTake mbx take decim gated s := rfl
theorem exec_recConsume {mbx ring total} {s : State} : exec (.recConsume mbx ring total) s = execRecConsume mbx ring total s := rfl
theorem exec_recStatus {mbx} {s : State} : exec (.recStatus mbx) s = execRecStatus mbx s := rfl
theorem exec_recMark {mbx value} {s : State} : exec (.recMark mbx value) s = execRecMark mbx value s := rfl
theorem exec_memFence {mbx} {s : State} : exec (.memFence mbx) s = execMemFence mbx s := rfl
theorem exec_memConfig {mbx order k scrub ceLimit rate} {s : State} : exec (.memConfig mbx order k scrub ceLimit rate) s = execMemConfig mbx order k scrub ceLimit rate s := rfl
theorem exec_memQos {mbx dma bar2 cox} {s : State} : exec (.memQos mbx dma bar2 cox) s = execMemQos mbx dma bar2 cox s := rfl
theorem exec_memStatus {mbx} {s : State} : exec (.memStatus mbx) s = execMemStatus mbx s := rfl
theorem exec_memErrlog {mbx first count clear} {s : State} : exec (.memErrlog mbx first count clear) s = execMemErrlog mbx first count clear s := rfl
theorem exec_memMigrate {mbx channel rank} {s : State} : exec (.memMigrate mbx channel rank) s = execMemMigrate mbx channel rank s := rfl
theorem exec_memUnretire {mbx channel rank} {s : State} : exec (.memUnretire mbx channel rank) s = execMemUnretire mbx channel rank s := rfl
theorem exec_memRetrain {mbx mask} {s : State} : exec (.memRetrain mbx mask) s = execMemRetrain mbx mask s := rfl
theorem exec_memInject {mbx addr kind} {s : State} : exec (.memInject mbx addr kind) s = execMemInject mbx addr kind s := rfl
theorem exec_sysIdentify {mbx} {s : State} : exec (.sysIdentify mbx) s = execSysIdentify mbx s := rfl
theorem exec_sysCq {mbx base entries} {s : State} : exec (.sysCq mbx base entries) s = execSysCq mbx base entries s := rfl
theorem exec_sysCompletions {mbx first count} {s : State} : exec (.sysCompletions mbx first count) s = execSysCompletions mbx first count s := rfl
theorem exec_sysDma {mbx ch base entries pollUs run} {s : State} : exec (.sysDma mbx ch base entries pollUs run) s = execSysDma mbx ch base entries pollUs run s := rfl
theorem exec_sysDmastatus {mbx mask} {s : State} : exec (.sysDmastatus mbx mask) s = execSysDmastatus mbx mask s := rfl
theorem exec_sysAperture {mbx base} {s : State} : exec (.sysAperture mbx base) s = execSysAperture mbx base s := rfl
theorem exec_sysAbort {mbx target tag} {s : State} : exec (.sysAbort mbx target tag) s = execSysAbort mbx target tag s := rfl
theorem exec_sysMbxstat {mbx clear} {s : State} : exec (.sysMbxstat mbx clear) s = execSysMbxstat mbx clear s := rfl
theorem exec_sysService {mbx on} {s : State} : exec (.sysService mbx on) s = execSysService mbx on s := rfl
theorem exec_sysClockplan {mbx cox divisor} {s : State} : exec (.sysClockplan mbx cox divisor) s = execSysClockplan mbx cox divisor s := rfl
theorem exec_sysClocksrc {mbx src} {s : State} : exec (.sysClocksrc mbx src) s = execSysClocksrc mbx src s := rfl
theorem exec_sysClockstat {mbx} {s : State} : exec (.sysClockstat mbx) s = execSysClockstat mbx s := rfl
theorem exec_sysClockraw {mbx cox divisor frame} {s : State} : exec (.sysClockraw mbx cox divisor frame) s = execSysClockraw mbx cox divisor frame s := rfl
theorem exec_sysBlockreset {mbx code index} {s : State} : exec (.sysBlockreset mbx code index) s = execSysBlockreset mbx code index s := rfl
theorem exec_sysLadder {mbx clear} {s : State} : exec (.sysLadder mbx clear) s = execSysLadder mbx clear s := rfl
theorem exec_sysFuse {mbx field value} {s : State} : exec (.sysFuse mbx field value) s = execSysFuse mbx field value s := rfl
theorem exec_fwStage {mbx addr len crc} {s : State} : exec (.fwStage mbx addr len crc) s = execFwStage mbx addr len crc s := rfl
theorem exec_fwActivate {mbx slot} {s : State} : exec (.fwActivate mbx slot) s = execFwActivate mbx slot s := rfl
theorem exec_fwStatus {mbx} {s : State} : exec (.fwStatus mbx) s = execFwStatus mbx s := rfl
theorem exec_fwCommit {mbx} {s : State} : exec (.fwCommit mbx) s = execFwCommit mbx s := rfl
theorem exec_modeHold {mbx urgent} {s : State} : exec (.modeHold mbx urgent) s = execModeHold mbx urgent s := rfl
theorem exec_modeSet {mbx target} {s : State} : exec (.modeSet mbx target) s = execModeSet mbx target s := rfl
theorem exec_modeStandby {mbx wake} {s : State} : exec (.modeStandby mbx wake) s = execModeStandby mbx wake s := rfl
theorem exec_modeStatus {mbx} {s : State} : exec (.modeStatus mbx) s = execModeStatus mbx s := rfl
theorem exec_modeBudget {mbx chip rest} {s : State} : exec (.modeBudget mbx chip rest) s = execModeBudget mbx chip rest s := rfl
theorem exec_modeLeave {mbx clear} {s : State} : exec (.modeLeave mbx clear) s = execModeLeave mbx clear s := rfl
theorem exec_modeThermal {mbx clear} {s : State} : exec (.modeThermal mbx clear) s = execModeThermal mbx clear s := rfl
theorem exec_timePort {mbx a} {s : State} : exec (.timePort mbx a) s = execTimePort mbx a s := rfl
theorem exec_timeDomain {mbx a} {s : State} : exec (.timeDomain mbx a) s = execTimeDomain mbx a s := rfl
theorem exec_timeServo {mbx bw step lock slew blend} {s : State} : exec (.timeServo mbx bw step lock slew blend) s = execTimeServo mbx bw step lock slew blend s := rfl
theorem exec_timeGang {mbx size device ports recovered skew} {s : State} : exec (.timeGang mbx size device ports recovered skew) s = execTimeGang mbx size device ports recovered skew s := rfl
theorem exec_timeSet {mbx sec ns} {s : State} : exec (.timeSet mbx sec ns) s = execTimeSet mbx sec ns s := rfl
theorem exec_timeSelect {mbx sel} {s : State} : exec (.timeSelect mbx sel) s = execTimeSelect mbx sel s := rfl
theorem exec_timeStatus {mbx clear} {s : State} : exec (.timeStatus mbx clear) s = execTimeStatus mbx clear s := rfl
theorem exec_timePeers {mbx clear} {s : State} : exec (.timePeers mbx clear) s = execTimePeers mbx clear s := rfl
theorem exec_safeEnter {mbx} {s : State} : exec (.safeEnter mbx) s = execSafeEnter mbx s := rfl
theorem exec_safeStop {mbx mask} {s : State} : exec (.safeStop mbx mask) s = execSafeStop mbx mask s := rfl
theorem exec_safeClear {mbx} {s : State} : exec (.safeClear mbx) s = execSafeClear mbx s := rfl
theorem exec_safeRearm {mbx mask} {s : State} : exec (.safeRearm mbx mask) s = execSafeRearm mbx mask s := rfl
theorem exec_safeStage {mbx addr len crc} {s : State} : exec (.safeStage mbx addr len crc) s = execSafeStage mbx addr len crc s := rfl
theorem exec_safeCommit {mbx digest} {s : State} : exec (.safeCommit mbx digest) s = execSafeCommit mbx digest s := rfl
theorem exec_safeDiscard {mbx} {s : State} : exec (.safeDiscard mbx) s = execSafeDiscard mbx s := rfl
theorem exec_safeStatus {mbx} {s : State} : exec (.safeStatus mbx) s = execSafeStatus mbx s := rfl
theorem exec_safeEvents {mbx first count} {s : State} : exec (.safeEvents mbx first count) s = execSafeEvents mbx first count s := rfl
theorem exec_safeProof {mbx mask} {s : State} : exec (.safeProof mbx mask) s = execSafeProof mbx mask s := rfl
theorem exec_safeHoldpolicy {mbx resume} {s : State} : exec (.safeHoldpolicy mbx resume) s = execSafeHoldpolicy mbx resume s := rfl
theorem exec_safeQuery {mbx which} {s : State} : exec (.safeQuery mbx which) s = execSafeQuery mbx which s := rfl
theorem exec_logRead {mbx first count} {s : State} : exec (.logRead mbx first count) s = execLogRead mbx first count s := rfl
theorem exec_logVerify {mbx first last} {s : State} : exec (.logVerify mbx first last) s = execLogVerify mbx first last s := rfl
theorem exec_logSpoilstat {mbx clear} {s : State} : exec (.logSpoilstat mbx clear) s = execLogSpoilstat mbx clear s := rfl
theorem exec_logNote {mbx data} {s : State} : exec (.logNote mbx data) s = execLogNote mbx data s := rfl
theorem exec_logDescribe {mbx source code} {s : State} : exec (.logDescribe mbx source code) s = execLogDescribe mbx source code s := rfl
theorem exec_calRun {mbx blocks instances} {s : State} : exec (.calRun mbx blocks instances) s = execCalRun mbx blocks instances s := rfl
theorem exec_calStatus {mbx} {s : State} : exec (.calStatus mbx) s = execCalStatus mbx s := rfl
theorem exec_calFactory {mbx blocks} {s : State} : exec (.calFactory mbx blocks) s = execCalFactory mbx blocks s := rfl
theorem exec_healthRecords {mbx first count} {s : State} : exec (.healthRecords mbx first count) s = execHealthRecords mbx first count s := rfl
theorem exec_healthReport {mbx} {s : State} : exec (.healthReport mbx) s = execHealthReport mbx s := rfl
theorem exec_healthReplan {mbx} {s : State} : exec (.healthReplan mbx) s = execHealthReplan mbx s := rfl
theorem exec_modeReq {value} {s : State} : exec (.modeReq value) s = execModeReq value s := rfl
theorem exec_hostStop {value} {s : State} : exec (.hostStop value) s = execHostStop value s := rfl
theorem exec_doorbell {mbx tag} {s : State} : exec (.doorbell mbx tag) s = execDoorbell mbx tag s := rfl
theorem exec_mbxAck {mask} {s : State} : exec (.mbxAck mask) s = execMbxAck mask s := rfl
theorem exec_irqTest {pf1 hi value} {s : State} : exec (.irqTest pf1 hi value) s = execIrqTest pf1 hi value s := rfl
theorem exec_irqEnable {pf1 hi value} {s : State} : exec (.irqEnable pf1 hi value) s = execIrqEnable pf1 hi value s := rfl
theorem exec_registerWrite {pf1 offset value} {s : State} : exec (.registerWrite pf1 offset value) s = execRegisterWrite pf1 offset value s := rfl
theorem exec_bar2Write {offset data ecc} {s : State} : exec (.bar2Write offset data ecc) s = execBar2Write offset data ecc s := rfl
theorem exec_bar2Read {offset len ecc} {s : State} : exec (.bar2Read offset len ecc) s = execBar2Read offset len ecc s := rfl
theorem exec_recordApertureRead {offset len} {s : State} : exec (.recordApertureRead offset len) s = execRecordApertureRead offset len s := rfl
theorem exec_usbCommand {data} {s : State} : exec (.usbCommand data) s = execUsbCommand data s := rfl
theorem exec_classDeadlineExpiry {mbx} {s : State} : exec (.classDeadlineExpiry mbx) s = execClassDeadlineExpiry mbx s := rfl
theorem exec_coxTaskWatchdog {core task} {s : State} : exec (.coxTaskWatchdog core task) s = execCoxTaskWatchdog core task s := rfl
theorem exec_irqHoldoffExpiry {pf1 vector} {s : State} : exec (.irqHoldoffExpiry pf1 vector) s = execIrqHoldoffExpiry pf1 vector s := rfl
theorem exec_pcieLinkChange {lanes rate cfg msix} {s : State} :
    exec (.pcieLinkChange lanes rate cfg msix) s = execPcieLinkChange lanes rate cfg msix s := rfl
theorem exec_dmaPoll {ch desc} {s : State} : exec (.dmaPoll ch desc) s = execDmaPoll ch desc s := rfl
theorem exec_dmaDescriptorComplete {ch data ecc} {s : State} : exec (.dmaDescriptorComplete ch data ecc) s = execDmaDescriptorComplete ch data ecc s := rfl
theorem exec_dmaTimeout {ch} {s : State} : exec (.dmaTimeout ch) s = execDmaTimeout ch s := rfl
theorem exec_drainWaitExpiry {ch} {s : State} : exec (.drainWaitExpiry ch) s = execDrainWaitExpiry ch s := rfl
theorem exec_lgateTransition {oar} {s : State} : exec (.lgateTransition oar) s = execLgateTransition oar s := rfl
theorem exec_finishBackstop {oar} {s : State} : exec (.finishBackstop oar) s = execFinishBackstop oar s := rfl
theorem exec_dotSettleTimeout {oar} {s : State} : exec (.dotSettleTimeout oar) s = execDotSettleTimeout oar s := rfl
theorem exec_jumpPlanning {oar} {s : State} : exec (.jumpPlanning oar) s = execJumpPlanning oar s := rfl
theorem exec_jumpEnd {oar} {s : State} : exec (.jumpEnd oar) s = execJumpEnd oar s := rfl
theorem exec_catchHoldLimit {oar} {s : State} : exec (.catchHoldLimit oar) s = execCatchHoldLimit oar s := rfl
theorem exec_lenRise {oar} {s : State} : exec (.lenRise oar) s = execLenRise oar s := rfl
theorem exec_lenSettleExpiry {oar} {s : State} : exec (.lenSettleExpiry oar) s = execLenSettleExpiry oar s := rfl
theorem exec_gridBlendComplete {oar} {s : State} : exec (.gridBlendComplete oar) s = execGridBlendComplete oar s := rfl
theorem exec_inPosition {axis} {s : State} : exec (.inPosition axis) s = execInPosition axis s := rfl
theorem exec_loopSlotExecute {slot pv sp} {s : State} : exec (.loopSlotExecute slot pv sp) s = execLoopSlotExecute slot pv sp s := rfl
theorem exec_loopSlotOverrun {slot} {s : State} : exec (.loopSlotOverrun slot) s = execLoopSlotOverrun slot s := rfl
theorem exec_loopSelfTest {proc verdict} {s : State} : exec (.loopSelfTest proc verdict) s = execLoopSelfTest proc verdict s := rfl
theorem exec_cameraExposureStart {oar} {s : State} : exec (.cameraExposureStart oar) s = execCameraExposureStart oar s := rfl
theorem exec_cameraFeaturesReady {oar} {s : State} : exec (.cameraFeaturesReady oar) s = execCameraFeaturesReady oar s := rfl
theorem exec_cameraFrameDeadline {oar} {s : State} : exec (.cameraFrameDeadline oar) s = execCameraFrameDeadline oar s := rfl
theorem exec_controlBlockUpdate {ring} {s : State} : exec (.controlBlockUpdate ring) s = execControlBlockUpdate ring s := rfl
theorem exec_frameStreamRelease {oar} {s : State} : exec (.frameStreamRelease oar) s = execFrameStreamRelease oar s := rfl
theorem exec_returnFrame {port ps blocks} {s : State} : exec (.returnFrame port ps blocks) s = execReturnFrame port ps blocks s := rfl
theorem exec_returnFrameMissed {port line} {s : State} : exec (.returnFrameMissed port line) s = execReturnFrameMissed port line s := rfl
theorem exec_linkLockLoss {port} {s : State} : exec (.linkLockLoss port) s = execLinkLockLoss port s := rfl
theorem exec_relockComplete {port} {s : State} : exec (.relockComplete port) s = execRelockComplete port s := rfl
theorem exec_relockTimeout {port} {s : State} : exec (.relockTimeout port) s = execRelockTimeout port s := rfl
theorem exec_trainingPhaseEnd {port r} {s : State} : exec (.trainingPhaseEnd port r) s = execTrainingPhaseEnd port r s := rfl
theorem exec_trainingPhaseTimeout {port} {s : State} : exec (.trainingPhaseTimeout port) s = execTrainingPhaseTimeout port s := rfl
theorem exec_trainingRetry {port} {s : State} : exec (.trainingRetry port) s = execTrainingRetry port s := rfl
theorem exec_lLinkMeasured {port} {s : State} : exec (.lLinkMeasured port) s = execLLinkMeasured port s := rfl
theorem exec_forwardedClockLoss {port shadowLocked} {s : State} : exec (.forwardedClockLoss port shadowLocked) s = execForwardedClockLoss port shadowLocked s := rfl
theorem exec_sleepAckTimeout {port} {s : State} : exec (.sleepAckTimeout port) s = execSleepAckTimeout port s := rfl
theorem exec_fastExit {port outbound} {s : State} : exec (.fastExit port outbound) s = execFastExit port outbound s := rfl
theorem exec_eyeProbeComplete {phases volts} {s : State} : exec (.eyeProbeComplete phases volts) s = execEyeProbeComplete phases volts s := rfl
theorem exec_serviceTimeout {port tag} {s : State} : exec (.serviceTimeout port tag) s = execServiceTimeout port tag s := rfl
theorem exec_limitActive {axis positive} {s : State} : exec (.limitActive axis positive) s = execLimitActive axis positive s := rfl
theorem exec_limitClear {axis positive} {s : State} : exec (.limitClear axis positive) s = execLimitClear axis positive s := rfl
theorem exec_homeEdgeQualified {axis} {s : State} : exec (.homeEdgeQualified axis) s = execHomeEdgeQualified axis s := rfl
theorem exec_homingQualWinEnd {axis} {s : State} : exec (.homingQualWinEnd axis) s = execHomingQualWinEnd axis s := rfl
theorem exec_encoderEdge {enc wire high} {s : State} : exec (.encoderEdge enc wire high) s = execEncoderEdge enc wire high s := rfl
theorem exec_wireFault {enc} {s : State} : exec (.wireFault enc) s = execWireFault enc s := rfl
theorem exec_wireFaultClear {enc} {s : State} : exec (.wireFaultClear enc) s = execWireFaultClear enc s := rfl
theorem exec_indexStuck {enc} {s : State} : exec (.indexStuck enc) s = execIndexStuck enc s := rfl
theorem exec_speedObserver {enc} {s : State} : exec (.speedObserver enc) s = execSpeedObserver enc s := rfl
theorem exec_encoderStill {enc} {s : State} : exec (.encoderStill enc) s = execEncoderStill enc s := rfl
theorem exec_strobeSenseSample {ch senseUv stringMv limiting} {s : State} : exec (.strobeSenseSample ch senseUv stringMv limiting) s = execStrobeSenseSample ch senseUv stringMv limiting s := rfl
theorem exec_lampTemperature {code} {s : State} : exec (.lampTemperature code) s = execLampTemperature code s := rfl
theorem exec_retrainingPause {subch deltas check} {s : State} :
    exec (.retrainingPause subch deltas check) s = execRetrainingPause subch deltas check s := rfl
theorem exec_retrainLate {subch} {s : State} : exec (.retrainLate subch) s = execRetrainLate subch s := rfl
theorem exec_migrationChunkCopy {channel found} {s : State} :
    exec (.migrationChunkCopy channel found) s = execMigrationChunkCopy channel found s := rfl
theorem exec_ptpSync {domain m} {s : State} : exec (.ptpSync domain m) s = execPtpSync domain m s := rfl
theorem exec_ptpDelayResp {domain t4} {s : State} : exec (.ptpDelayResp domain t4) s = execPtpDelayResp domain t4 s := rfl
theorem exec_ptpAnnounce {domain m} {s : State} : exec (.ptpAnnounce domain m) s = execPtpAnnounce domain m s := rfl
theorem exec_ptpDelayReq {domain requester rx} {s : State} : exec (.ptpDelayReq domain requester rx) s = execPtpDelayReq domain requester rx s := rfl
theorem exec_ptpMasterTx {domain announce} {s : State} : exec (.ptpMasterTx domain announce) s = execPtpMasterTx domain announce s := rfl
theorem exec_domainLost {domain} {s : State} : exec (.domainLost domain) s = execDomainLost domain s := rfl
theorem exec_ethPortChange {port up} {s : State} : exec (.ethPortChange port up) s = execEthPortChange port up s := rfl
theorem exec_arpRequest {port ip} {s : State} : exec (.arpRequest port ip) s = execArpRequest port ip s := rfl
theorem exec_otherFrame {port kind} {s : State} : exec (.otherFrame port kind) s = execOtherFrame port kind s := rfl
theorem exec_marksReceived {port frame} {s : State} : exec (.marksReceived port frame) s = execMarksReceived port frame s := rfl
theorem exec_helloReceived {port frame rx} {s : State} : exec (.helloReceived port frame rx) s = execHelloReceived port frame rx s := rfl
theorem exec_peerLost {device} {s : State} : exec (.peerLost device) s = execPeerLost device s := rfl
theorem exec_lalmLow {oar low} {s : State} : exec (.lalmLow oar low) s = execLalmLow oar low s := rfl
theorem exec_monitorSample {oar code} {s : State} : exec (.monitorSample oar code) s = execMonitorSample oar code s := rfl
theorem exec_coxHeartbeat {core} {s : State} : exec (.coxHeartbeat core) s = execCoxHeartbeat core s := rfl
theorem exec_voteLivenessLoss {core} {s : State} : exec (.voteLivenessLoss core) s = execVoteLivenessLoss core s := rfl
theorem exec_proofStart {oar} {s : State} : exec (.proofStart oar) s = execProofStart oar s := rfl
theorem exec_proofStep {oar pass delayNs} {s : State} : exec (.proofStep oar pass delayNs) s = execProofStep oar pass delayNs s := rfl
theorem exec_railOutOfWindow {rail mv} {s : State} : exec (.railOutOfWindow rail mv) s = execRailOutOfWindow rail mv s := rfl
theorem exec_railRecovered {rail} {s : State} : exec (.railRecovered rail) s = execRailRecovered rail s := rfl
theorem exec_pllFailure {pair} {s : State} : exec (.pllFailure pair) s = execPllFailure pair s := rfl
theorem exec_pllRestart {pair} {s : State} : exec (.pllRestart pair) s = execPllRestart pair s := rfl
theorem exec_pllStandbyReady {pair} {s : State} : exec (.pllStandbyReady pair) s = execPllStandbyReady pair s := rfl
theorem exec_referenceQualified {src} {s : State} : exec (.referenceQualified src) s = execReferenceQualified src s := rfl
theorem exec_blockReleaseTimeout {code index} {s : State} : exec (.blockReleaseTimeout code index) s = execBlockReleaseTimeout code index s := rfl
theorem exec_pllLockLoss {pll} {s : State} : exec (.pllLockLoss pll) s = execPllLockLoss pll s := rfl
theorem exec_coxCoreMissing {core} {s : State} : exec (.coxCoreMissing core) s = execCoxCoreMissing core s := rfl
theorem exec_homingSwitchToggle {axis} {s : State} : exec (.homingSwitchToggle axis) s = execHomingSwitchToggle axis s := rfl
theorem exec_encoderGlitch {enc wire} {s : State} : exec (.encoderGlitch enc wire) s = execEncoderGlitch enc wire s := rfl
theorem exec_unretireTestComplete {channel pass} {s : State} : exec (.unretireTestComplete channel pass) s = execUnretireTestComplete channel pass s := rfl
theorem exec_pcieCompletionTimeout {ch} {s : State} : exec (.pcieCompletionTimeout ch) s = execPcieCompletionTimeout ch s := rfl
theorem exec_commandAreaWrite {mbx offset data} {s : State} : exec (.commandAreaWrite mbx offset data) s = execCommandAreaWrite mbx offset data s := rfl
theorem exec_layerChecksComplete {s : State} : exec .layerChecksComplete s = execLayerChecksComplete s := rfl
theorem exec_perstAssert {s : State} : exec .perstAssert s = execPerstAssert s := rfl
theorem exec_frameTick {s : State} : exec .frameTick s = execFrameTick s := rfl
theorem exec_dispatchCycle {s : State} : exec .dispatchCycle s = execDispatchCycle s := rfl
theorem exec_dispatchOverrun {s : State} : exec .dispatchOverrun s = execDispatchOverrun s := rfl
theorem exec_leaveGrant {s : State} : exec .leaveGrant s = execLeaveGrant s := rfl
theorem exec_p5Revocation {s : State} : exec .p5Revocation s = execP5Revocation s := rfl
theorem exec_wakeSweep {s : State} : exec .wakeSweep s = execWakeSweep s := rfl
theorem exec_thermalSweep {s : State} : exec .thermalSweep s = execThermalSweep s := rfl
theorem exec_repairPlaceFreed {s : State} : exec .repairPlaceFreed s = execRepairPlaceFreed s := rfl
theorem exec_fenceRelease {s : State} : exec .fenceRelease s = execFenceRelease s := rfl
theorem exec_fenceClose {s : State} : exec .fenceClose s = execFenceClose s := rfl
theorem exec_recoatStart {s : State} : exec .recoatStart s = execRecoatStart s := rfl
theorem exec_loopMigration {s : State} : exec .loopMigration s = execLoopMigration s := rfl
theorem exec_eyeProbe {s : State} : exec .eyeProbe s = execEyeProbe s := rfl
theorem exec_lineStartSend {s : State} : exec .lineStartSend s = execLineStartSend s := rfl
theorem exec_strobePulseStart {s : State} : exec .strobePulseStart s = execStrobePulseStart s := rfl
theorem exec_lineDeadline {s : State} : exec .lineDeadline s = execLineDeadline s := rfl
theorem exec_ledPatternTick {s : State} : exec .ledPatternTick s = execLedPatternTick s := rfl
theorem exec_dramRefresh {s : State} : exec .dramRefresh s = execDramRefresh s := rfl
theorem exec_preferredRelockHold {s : State} : exec .preferredRelockHold s = execPreferredRelockHold s := rfl
theorem exec_keepSecondsWrite {s : State} : exec .keepSecondsWrite s = execKeepSecondsWrite s := rfl
theorem exec_marksSend {s : State} : exec .marksSend s = execMarksSend s := rfl
theorem exec_helloSend {s : State} : exec .helloSend s = execHelloSend s := rfl
theorem exec_discrepancyLatch {s : State} : exec .discrepancyLatch s = execDiscrepancyLatch s := rfl
theorem exec_heartbeatLoss {s : State} : exec .heartbeatLoss s = execHeartbeatLoss s := rfl
theorem exec_heartbeatAbsent1s {s : State} : exec .heartbeatAbsent1s s = execHeartbeatAbsent1s s := rfl
theorem exec_umpireTimeResync {s : State} : exec .umpireTimeResync s = execUmpireTimeResync s := rfl
theorem exec_avsStepDownHold {s : State} : exec .avsStepDownHold s = execAvsStepDownHold s := rfl
theorem exec_coreUndervoltage {s : State} : exec .coreUndervoltage s = execCoreUndervoltage s := rfl
theorem exec_muxHandshakeBypass {s : State} : exec .muxHandshakeBypass s = execMuxHandshakeBypass s := rfl
theorem exec_muxSwitchAbandon {s : State} : exec .muxSwitchAbandon s = execMuxSwitchAbandon s := rfl
theorem exec_resetRelease {s : State} : exec .resetRelease s = execResetRelease s := rfl
theorem exec_fusePulseEnd {s : State} : exec .fusePulseEnd s = execFusePulseEnd s := rfl
theorem exec_bootStepTimeout {s : State} : exec .bootStepTimeout s = execBootStepTimeout s := rfl
theorem exec_vddAonLoss {s : State} : exec .vddAonLoss s = execVddAonLoss s := rfl
theorem exec_crystalStop {s : State} : exec .crystalStop s = execCrystalStop s := rfl
theorem exec_logbookFlush {s : State} : exec .logbookFlush s = execLogbookFlush s := rfl
theorem exec_replanComplete {s : State} : exec .replanComplete s = execReplanComplete s := rfl
theorem exec_coreVoltageRecovered {s : State} : exec .coreVoltageRecovered s = execCoreVoltageRecovered s := rfl
theorem exec_timeTake {value} {s : State} : exec (.timeTake value) s = execTimeTake value s := rfl
theorem exec_functionLevelReset {pf1} {s : State} : exec (.functionLevelReset pf1) s = execFunctionLevelReset pf1 s := rfl
theorem exec_busTimeout {master} {s : State} : exec (.busTimeout master) s = execBusTimeout master s := rfl
theorem exec_leaveAnswer {req} {s : State} : exec (.leaveAnswer req) s = execLeaveAnswer req s := rfl
theorem exec_rt0BlockRead {ecc} {s : State} : exec (.rt0BlockRead ecc) s = execRt0BlockRead ecc s := rfl
theorem exec_strokeSenior {seq} {s : State} : exec (.strokeSenior seq) s = execStrokeSenior seq s := rfl
theorem exec_orphanTimeout {seq} {s : State} : exec (.orphanTimeout seq) s = execOrphanTimeout seq s := rfl
theorem exec_patrolScrubRead {ecc} {s : State} : exec (.patrolScrubRead ecc) s = execPatrolScrubRead ecc s := rfl
theorem exec_wakeFrame {frame} {s : State} : exec (.wakeFrame frame) s = execWakeFrame frame s := rfl
theorem exec_estopInputChange {channelB high} {s : State} : exec (.estopInputChange channelB high) s = execEstopInputChange channelB high s := rfl
theorem exec_intlkInputChange {high} {s : State} : exec (.intlkInputChange high) s = execIntlkInputChange high s := rfl
theorem exec_voteComparison {differing} {s : State} : exec (.voteComparison differing) s = execVoteComparison differing s := rfl
theorem exec_holdRecovery {ok} {s : State} : exec (.holdRecovery ok) s = execHoldRecovery ok s := rfl
theorem exec_temperatureSample {c100} {s : State} : exec (.temperatureSample c100) s = execTemperatureSample c100 s := rfl
theorem exec_avsStep {answered readUv currentMa} {s : State} :
    exec (.avsStep answered readUv currentMa) s = execAvsStep answered readUv currentMa s := rfl
theorem exec_referenceLoss {ridden src} {s : State} : exec (.referenceLoss ridden src) s = execReferenceLoss ridden src s := rfl
theorem exec_iroTrim {errorPpb} {s : State} : exec (.iroTrim errorPpb) s = execIroTrim errorPpb s := rfl
theorem exec_clockGateTimeout {block master} {s : State} : exec (.clockGateTimeout block master) s = execClockGateTimeout block master s := rfl
theorem exec_resetAssert {src} {s : State} : exec (.resetAssert src) s = execResetAssert src s := rfl
theorem exec_bootStep {r} {s : State} : exec (.bootStep r) s = execBootStep r s := rfl
theorem exec_standbyWake {src} {s : State} : exec (.standbyWake src) s = execStandbyWake src s := rfl
theorem exec_vbatChange {applied} {s : State} : exec (.vbatChange applied) s = execVbatChange applied s := rfl
theorem exec_calBlockComplete {passMask} {s : State} : exec (.calBlockComplete passMask) s = execCalBlockComplete passMask s := rfl
theorem exec_blockFault {code} {s : State} : exec (.blockFault code) s = execBlockFault code s := rfl
theorem exec_unsupportedRegisterAccess {pf1 read} {s : State} : exec (.unsupportedRegisterAccess pf1 read) s = execUnsupportedRegisterAccess pf1 read s := rfl
theorem exec_spoilRelease {value} {s : State} : exec (.spoilRelease value) s = execSpoilRelease value s := rfl

end Sys2Proof.Laws
end

