-- ==== Sys2Proof/Laws/Dram.lean ====
section
/-! SUPPORT. Reads of device DRAM that meet nothing but data. -/

namespace Sys2Proof.Laws

open Sys2Proof.Machine

variable {d : Dev} {m : Dram} {src addr len : Nat}

/-- What no step of a fold changes, the fold leaves as it was. -/
theorem foldl_leaves {α β : Type} {f : Dev → α → Dev} {p : Dev → β} (h : ∀ d a, p (f d a) = p d) (l : List α) (d : Dev) :
    p (l.foldl f d) = p d := by
  induction l generalizing d with
  | nil => rfl
  | cons a l ih => rw [List.foldl_cons, ih, h]

/-! Opening the rows of a range changes the neighbours refreshed and the free values drawn, nothing else (R379). -/
@[simp] theorem activate_host (d : Dev) (addr len : Nat) : (d.activate addr len).host = d.host :=
  foldl_leaves (f := Dev.openRow) (p := Dev.host) (fun _ _ => rfl) _ _
@[simp] theorem activate_logs (d : Dev) (addr len : Nat) : (d.activate addr len).logs = d.logs :=
  foldl_leaves (f := Dev.openRow) (p := Dev.logs) (fun _ _ => rfl) _ _
@[simp] theorem activate_fuses (d : Dev) (addr len : Nat) : (d.activate addr len).fuses = d.fuses :=
  foldl_leaves (f := Dev.openRow) (p := Dev.fuses) (fun _ _ => rfl) _ _
@[simp] theorem activate_pins (d : Dev) (addr len : Nat) : (d.activate addr len).pins = d.pins :=
  foldl_leaves (f := Dev.openRow) (p := Dev.pins) (fun _ _ => rfl) _ _
@[simp] theorem activate_ump (d : Dev) (addr len : Nat) : (d.activate addr len).ump = d.ump :=
  foldl_leaves (f := Dev.openRow) (p := Dev.ump) (fun _ _ => rfl) _ _
@[simp] theorem activate_mode (d : Dev) (addr len : Nat) : (d.activate addr len).mode = d.mode :=
  foldl_leaves (f := Dev.openRow) (p := Dev.mode) (fun _ _ => rfl) _ _
@[simp] theorem activate_gov (d : Dev) (addr len : Nat) : (d.activate addr len).gov = d.gov :=
  foldl_leaves (f := Dev.openRow) (p := Dev.gov) (fun _ _ => rfl) _ _
@[simp] theorem activate_therm (d : Dev) (addr len : Nat) : (d.activate addr len).therm = d.therm :=
  foldl_leaves (f := Dev.openRow) (p := Dev.therm) (fun _ _ => rfl) _ _
@[simp] theorem activate_clk (d : Dev) (addr len : Nat) : (d.activate addr len).clk = d.clk :=
  foldl_leaves (f := Dev.openRow) (p := Dev.clk) (fun _ _ => rfl) _ _
@[simp] theorem activate_boot (d : Dev) (addr len : Nat) : (d.activate addr len).boot = d.boot :=
  foldl_leaves (f := Dev.openRow) (p := Dev.boot) (fun _ _ => rfl) _ _
@[simp] theorem activate_cal (d : Dev) (addr len : Nat) : (d.activate addr len).cal = d.cal :=
  foldl_leaves (f := Dev.openRow) (p := Dev.cal) (fun _ _ => rfl) _ _
@[simp] theorem activate_geo (d : Dev) (addr len : Nat) : (d.activate addr len).geo = d.geo :=
  foldl_leaves (f := Dev.openRow) (p := Dev.geo) (fun _ _ => rfl) _ _
@[simp] theorem activate_lib (d : Dev) (addr len : Nat) : (d.activate addr len).lib = d.lib :=
  foldl_leaves (f := Dev.openRow) (p := Dev.lib) (fun _ _ => rfl) _ _
@[simp] theorem activate_layers (d : Dev) (addr len : Nat) : (d.activate addr len).layers = d.layers :=
  foldl_leaves (f := Dev.openRow) (p := Dev.layers) (fun _ _ => rfl) _ _
@[simp] theorem activate_mar (d : Dev) (addr len : Nat) : (d.activate addr len).mar = d.mar :=
  foldl_leaves (f := Dev.openRow) (p := Dev.mar) (fun _ _ => rfl) _ _
@[simp] theorem activate_eng (d : Dev) (addr len : Nat) : (d.activate addr len).eng = d.eng :=
  foldl_leaves (f := Dev.openRow) (p := Dev.eng) (fun _ _ => rfl) _ _
@[simp] theorem activate_loops (d : Dev) (addr len : Nat) : (d.activate addr len).loops = d.loops :=
  foldl_leaves (f := Dev.openRow) (p := Dev.loops) (fun _ _ => rfl) _ _
@[simp] theorem activate_melt (d : Dev) (addr len : Nat) : (d.activate addr len).melt = d.melt :=
  foldl_leaves (f := Dev.openRow) (p := Dev.melt) (fun _ _ => rfl) _ _
@[simp] theorem activate_recd (d : Dev) (addr len : Nat) : (d.activate addr len).recd = d.recd :=
  foldl_leaves (f := Dev.openRow) (p := Dev.recd) (fun _ _ => rfl) _ _
@[simp] theorem activate_links (d : Dev) (addr len : Nat) : (d.activate addr len).links = d.links :=
  foldl_leaves (f := Dev.openRow) (p := Dev.links) (fun _ _ => rfl) _ _
@[simp] theorem activate_slides (d : Dev) (addr len : Nat) : (d.activate addr len).slides = d.slides :=
  foldl_leaves (f := Dev.openRow) (p := Dev.slides) (fun _ _ => rfl) _ _
@[simp] theorem activate_img (d : Dev) (addr len : Nat) : (d.activate addr len).img = d.img :=
  foldl_leaves (f := Dev.openRow) (p := Dev.img) (fun _ _ => rfl) _ _
@[simp] theorem activate_time (d : Dev) (addr len : Nat) : (d.activate addr len).time = d.time :=
  foldl_leaves (f := Dev.openRow) (p := Dev.time) (fun _ _ => rfl) _ _
@[simp] theorem activate_flash (d : Dev) (addr len : Nat) : (d.activate addr len).flash = d.flash :=
  foldl_leaves (f := Dev.openRow) (p := Dev.flash) (fun _ _ => rfl) _ _

/-- A read over bursts without poison or injected errors opens their rows and changes nothing else. -/
theorem readRange_sound (h : m.marked addr len = []) : d.readRange m src addr len .clean = (d.activate addr len, [], true) := by
  simp only [Dev.readRange, if_true, h, List.filter_nil, List.append_nil, List.foldl_nil]

theorem hostData_sound (h : m.marked addr len = []) : d.hostData m addr len = (d.activate addr len, [], some (memBytes m.mem addr len)) := by
  simp only [Dev.hostData, readRange_sound h, if_true]

/-- Sound data under its check code reaches what installs it. -/
theorem withData_sound {crc detail : Nat} {f : Dev → List Byte → List DramOp → Res} (h : m.marked addr len = [])
    (hc : crc32c (memBytes m.mem addr len) = crc) :
    withData m d addr len crc detail f = f (d.activate addr len) (memBytes m.mem addr len) [] := by
  simp only [withData, hostData_sound h, hc, if_true]

/-- A write of the Cox that covers no burst in part, or meets no poison, opens its rows and is made. -/
theorem coxWrite_sound {bs : List Byte} (h : ∀ b ∈ burstsOf addr bs.length, m.poison.contains b = true → wholeBurst addr bs.length b = true) :
    d.coxWrite m addr bs = (d.activate addr bs.length, [.write addr bs]) := by
  have e : ((burstsOf addr bs.length).filter fun b => m.poison.contains b && ! wholeBurst addr bs.length b) = [] := by
    rw [List.filter_eq_nil_iff]
    intro b hb; have := h b hb
    cases hc : m.poison.contains b <;> simp_all
  simp only [Dev.coxWrite, Dev.countPartials, List.foldl_cons, List.foldl_nil, Dev.partialPoison, e]

end Sys2Proof.Laws
end

