-- ==== Sys2Proof/Laws/Memory.lean ====
section
/-! SUPPORT. Device DRAM contents: every operation keeps the canonical form, and what a read after a write gives. -/

namespace Sys2Proof.Laws

open Sys2Proof.Machine

theorem wf_nil : Memory.wf [] := ⟨List.Pairwise.nil, by simp⟩

/-- An entry of a changed memory is an entry of the old one or the new one. -/
theorem mem_memSet {c : Cells} {a : Nat} {b : Byte} {p : Host.Cell} (h : p ∈ memSet c a b) :
    p ∈ c ∨ (p = (a, b) ∧ b ≠ 0) := by
  induction c with
  | nil =>
    unfold memSet at h
    split at h
    · cases h
    · rename_i hb
      exact .inr ⟨List.mem_singleton.1 h, hb⟩
  | cons q t ih =>
    obtain ⟨x, v⟩ := q
    unfold memSet at h
    split_ifs at h with h1 h2 h3 h4
    · exact .inl h
    · rcases List.mem_cons.1 h with e | m
      · exact .inr ⟨e, h2⟩
      · exact .inl m
    · exact .inl (List.mem_cons_of_mem _ h)
    · rcases List.mem_cons.1 h with e | m
      · exact .inr ⟨e, h4⟩
      · exact .inl (List.mem_cons_of_mem _ m)
    · rcases List.mem_cons.1 h with e | m
      · exact .inl (e ▸ List.mem_cons_self)
      · exact (ih m).imp (List.mem_cons_of_mem _) id

theorem memSet_wf {c : Cells} (a : Nat) (b : Byte) (h : Memory.wf c) : Memory.wf (memSet c a b) := by
  refine ⟨?_, fun p hp => (mem_memSet hp).elim (h.2 p) fun e => e.1 ▸ e.2⟩
  induction c with
  | nil => unfold memSet; split <;> simp
  | cons q t ih =>
    obtain ⟨x, v⟩ := q
    obtain ⟨hx, ht⟩ := List.pairwise_cons.1 h.1
    unfold memSet
    split_ifs with h1 h2 h3 h4
    · exact h.1
    · refine List.pairwise_cons.2 ⟨fun p hp => ?_, h.1⟩
      rcases List.mem_cons.1 hp with e | m
      · exact e ▸ h1
      · exact lt_trans h1 (hx p m)
    · exact ht
    · exact List.pairwise_cons.2 ⟨fun p hp => h3 ▸ hx p hp, ht⟩
    · refine List.pairwise_cons.2 ⟨fun p hp => ?_, ih ⟨ht, fun p hp => h.2 p (List.mem_cons_of_mem _ hp)⟩⟩
      rcases mem_memSet hp with m | ⟨e, -⟩
      · exact hx p m
      · subst e; show x < a; omega

theorem memWrite_wf {c : Cells} (a : Nat) (bs : List Byte) (h : Memory.wf c) : Memory.wf (memWrite c a bs) := by
  induction bs generalizing c a with
  | nil => exact h
  | cons b bs ih => exact ih _ (memSet_wf a b h)

theorem foldl_memSet_wf {α : Type} (l : List α) (f : α → Nat) (g : α → Byte) {c : Cells} (h : Memory.wf c) :
    Memory.wf (l.foldl (fun c p => memSet c (f p) (g p)) c) := by
  induction l generalizing c with
  | nil => exact h
  | cons p l ih => exact ih (memSet_wf _ _ h)

theorem apply_wf (m : Dram) (o : DramOp) (h : Memory.wf m.mem) : Memory.wf (DramOp.apply m o).mem := by
  cases o with
  | write a bs => exact memWrite_wf a bs h
  | wipe => exact wf_nil
  | remap f t r => exact foldl_memSet_wf _ _ _ wf_nil
  | rerole o n s => exact foldl_memSet_wf _ _ _ wf_nil
  | renew b => exact h
  | poison | inject | clearInject => exact h

theorem applyOps_wf (m : Dram) (ops : List DramOp) (h : Memory.wf m.mem) : Memory.wf (applyOps m ops).mem := by
  induction ops generalizing m with
  | nil => exact h
  | cons o ops ih => exact ih _ (apply_wf m o h)

/-- A byte written reads as written, every other byte as before. -/
theorem memGet_below {c : Cells} {a : Nat} (h : ∀ p ∈ c, a < p.1) : memGet c a = 0 := by
  cases c with
  | nil => rfl
  | cons q t =>
    have := h q List.mem_cons_self
    have ht : ∀ p ∈ t, a < p.1 := fun p hp => h p (List.mem_cons_of_mem _ hp)
    unfold memGet
    rw [if_neg (by omega)]
    exact memGet_below ht

theorem memGet_memSet {c : Cells} (a : Nat) (b : Byte) (x : Nat) (h : Memory.wf c) :
    memGet (memSet c a b) x = if x = a then b else memGet c x := by
  induction c with
  | nil =>
    unfold memSet
    by_cases hb : b = 0
    · subst hb; simp [memGet]
    · simp only [hb, if_false, memGet]
      by_cases e : x = a
      · simp [e]
      · simp [e, Ne.symm e]
  | cons q t ih =>
    obtain ⟨y, v⟩ := q
    obtain ⟨hx, ht⟩ := List.pairwise_cons.1 h.1
    have ih := ih ⟨ht, fun p hp => h.2 p (List.mem_cons_of_mem _ hp)⟩
    have hgt : ∀ z, z ≤ y → memGet t z = 0 := fun z hz => memGet_below fun p hp => lt_of_le_of_lt hz (hx p hp)
    unfold memSet
    split_ifs with h1 h2 h3 h4 h5 <;> simp_all [memGet]
    all_goals grind

end Sys2Proof.Laws
end

