-- ==== Sys2Proof/Laws/Ops.lean ====
section
/-! SUPPORT. What the shared operations leave alone: interrupts, the logs, responses and completions touch the host
interface and the logs, an event record the Umpire too. -/

namespace Sys2Proof.Laws

open Sys2Proof.Machine

variable (d : Dev)

@[simp] theorem raise_logs (v : Nat) : (d.raise v).logs = d.logs := rfl
@[simp] theorem raise_fuses (v : Nat) : (d.raise v).fuses = d.fuses := rfl
@[simp] theorem raise_pins (v : Nat) : (d.raise v).pins = d.pins := rfl
@[simp] theorem raise_ump (v : Nat) : (d.raise v).ump = d.ump := rfl
@[simp] theorem raise_mode (v : Nat) : (d.raise v).mode = d.mode := rfl
@[simp] theorem raise_gov (v : Nat) : (d.raise v).gov = d.gov := rfl
@[simp] theorem raise_therm (v : Nat) : (d.raise v).therm = d.therm := rfl
@[simp] theorem raise_clk (v : Nat) : (d.raise v).clk = d.clk := rfl
@[simp] theorem raise_boot (v : Nat) : (d.raise v).boot = d.boot := rfl
@[simp] theorem raise_cal (v : Nat) : (d.raise v).cal = d.cal := rfl
@[simp] theorem raise_mc (v : Nat) : (d.raise v).mc = d.mc := rfl
@[simp] theorem raise_geo (v : Nat) : (d.raise v).geo = d.geo := rfl
@[simp] theorem raise_lib (v : Nat) : (d.raise v).lib = d.lib := rfl
@[simp] theorem raise_layers (v : Nat) : (d.raise v).layers = d.layers := rfl
@[simp] theorem raise_mar (v : Nat) : (d.raise v).mar = d.mar := rfl
@[simp] theorem raise_eng (v : Nat) : (d.raise v).eng = d.eng := rfl
@[simp] theorem raise_loops (v : Nat) : (d.raise v).loops = d.loops := rfl
@[simp] theorem raise_melt (v : Nat) : (d.raise v).melt = d.melt := rfl
@[simp] theorem raise_recd (v : Nat) : (d.raise v).recd = d.recd := rfl
@[simp] theorem raise_links (v : Nat) : (d.raise v).links = d.links := rfl
@[simp] theorem raise_slides (v : Nat) : (d.raise v).slides = d.slides := rfl
@[simp] theorem raise_img (v : Nat) : (d.raise v).img = d.img := rfl
@[simp] theorem raise_time (v : Nat) : (d.raise v).time = d.time := rfl
@[simp] theorem raise_flash (v : Nat) : (d.raise v).flash = d.flash := rfl
@[simp] theorem raise_free (v : Nat) : (d.raise v).free = d.free := rfl

@[simp] theorem logRaw_fuses (a : LogArg) : (d.logRaw a).fuses = d.fuses := rfl
@[simp] theorem logRaw_pins (a : LogArg) : (d.logRaw a).pins = d.pins := rfl
@[simp] theorem logRaw_ump (a : LogArg) : (d.logRaw a).ump = d.ump := rfl
@[simp] theorem logRaw_mode (a : LogArg) : (d.logRaw a).mode = d.mode := rfl
@[simp] theorem logRaw_gov (a : LogArg) : (d.logRaw a).gov = d.gov := rfl
@[simp] theorem logRaw_therm (a : LogArg) : (d.logRaw a).therm = d.therm := rfl
@[simp] theorem logRaw_clk (a : LogArg) : (d.logRaw a).clk = d.clk := rfl
@[simp] theorem logRaw_boot (a : LogArg) : (d.logRaw a).boot = d.boot := rfl
@[simp] theorem logRaw_cal (a : LogArg) : (d.logRaw a).cal = d.cal := rfl
@[simp] theorem logRaw_mc (a : LogArg) : (d.logRaw a).mc = d.mc := rfl
@[simp] theorem logRaw_geo (a : LogArg) : (d.logRaw a).geo = d.geo := rfl
@[simp] theorem logRaw_lib (a : LogArg) : (d.logRaw a).lib = d.lib := rfl
@[simp] theorem logRaw_layers (a : LogArg) : (d.logRaw a).layers = d.layers := rfl
@[simp] theorem logRaw_mar (a : LogArg) : (d.logRaw a).mar = d.mar := rfl
@[simp] theorem logRaw_eng (a : LogArg) : (d.logRaw a).eng = d.eng := rfl
@[simp] theorem logRaw_loops (a : LogArg) : (d.logRaw a).loops = d.loops := rfl
@[simp] theorem logRaw_melt (a : LogArg) : (d.logRaw a).melt = d.melt := rfl
@[simp] theorem logRaw_recd (a : LogArg) : (d.logRaw a).recd = d.recd := rfl
@[simp] theorem logRaw_links (a : LogArg) : (d.logRaw a).links = d.links := rfl
@[simp] theorem logRaw_slides (a : LogArg) : (d.logRaw a).slides = d.slides := rfl
@[simp] theorem logRaw_img (a : LogArg) : (d.logRaw a).img = d.img := rfl
@[simp] theorem logRaw_time (a : LogArg) : (d.logRaw a).time = d.time := rfl
@[simp] theorem logRaw_flash (a : LogArg) : (d.logRaw a).flash = d.flash := rfl
@[simp] theorem logRaw_free (a : LogArg) : (d.logRaw a).free = d.free := rfl

@[simp] theorem logDevice_fuses (o fl ob ix : Nat) (p q : List Byte) : (d.logDevice o fl ob ix p q).fuses = d.fuses := rfl
@[simp] theorem logDevice_pins (o fl ob ix : Nat) (p q : List Byte) : (d.logDevice o fl ob ix p q).pins = d.pins := rfl
@[simp] theorem logDevice_ump (o fl ob ix : Nat) (p q : List Byte) : (d.logDevice o fl ob ix p q).ump = d.ump := rfl
@[simp] theorem logDevice_mode (o fl ob ix : Nat) (p q : List Byte) : (d.logDevice o fl ob ix p q).mode = d.mode := rfl
@[simp] theorem logDevice_gov (o fl ob ix : Nat) (p q : List Byte) : (d.logDevice o fl ob ix p q).gov = d.gov := rfl
@[simp] theorem logDevice_therm (o fl ob ix : Nat) (p q : List Byte) : (d.logDevice o fl ob ix p q).therm = d.therm := rfl
@[simp] theorem logDevice_clk (o fl ob ix : Nat) (p q : List Byte) : (d.logDevice o fl ob ix p q).clk = d.clk := rfl
@[simp] theorem logDevice_boot (o fl ob ix : Nat) (p q : List Byte) : (d.logDevice o fl ob ix p q).boot = d.boot := rfl
@[simp] theorem logDevice_cal (o fl ob ix : Nat) (p q : List Byte) : (d.logDevice o fl ob ix p q).cal = d.cal := rfl
@[simp] theorem logDevice_mc (o fl ob ix : Nat) (p q : List Byte) : (d.logDevice o fl ob ix p q).mc = d.mc := rfl
@[simp] theorem logDevice_geo (o fl ob ix : Nat) (p q : List Byte) : (d.logDevice o fl ob ix p q).geo = d.geo := rfl
@[simp] theorem logDevice_lib (o fl ob ix : Nat) (p q : List Byte) : (d.logDevice o fl ob ix p q).lib = d.lib := rfl
@[simp] theorem logDevice_layers (o fl ob ix : Nat) (p q : List Byte) : (d.logDevice o fl ob ix p q).layers = d.layers := rfl
@[simp] theorem logDevice_mar (o fl ob ix : Nat) (p q : List Byte) : (d.logDevice o fl ob ix p q).mar = d.mar := rfl
@[simp] theorem logDevice_eng (o fl ob ix : Nat) (p q : List Byte) : (d.logDevice o fl ob ix p q).eng = d.eng := rfl
@[simp] theorem logDevice_loops (o fl ob ix : Nat) (p q : List Byte) : (d.logDevice o fl ob ix p q).loops = d.loops := rfl
@[simp] theorem logDevice_melt (o fl ob ix : Nat) (p q : List Byte) : (d.logDevice o fl ob ix p q).melt = d.melt := rfl
@[simp] theorem logDevice_recd (o fl ob ix : Nat) (p q : List Byte) : (d.logDevice o fl ob ix p q).recd = d.recd := rfl
@[simp] theorem logDevice_links (o fl ob ix : Nat) (p q : List Byte) : (d.logDevice o fl ob ix p q).links = d.links := rfl
@[simp] theorem logDevice_slides (o fl ob ix : Nat) (p q : List Byte) : (d.logDevice o fl ob ix p q).slides = d.slides := rfl
@[simp] theorem logDevice_img (o fl ob ix : Nat) (p q : List Byte) : (d.logDevice o fl ob ix p q).img = d.img := rfl
@[simp] theorem logDevice_time (o fl ob ix : Nat) (p q : List Byte) : (d.logDevice o fl ob ix p q).time = d.time := rfl
@[simp] theorem logDevice_flash (o fl ob ix : Nat) (p q : List Byte) : (d.logDevice o fl ob ix p q).flash = d.flash := rfl
@[simp] theorem logDevice_free (o fl ob ix : Nat) (p q : List Byte) : (d.logDevice o fl ob ix p q).free = d.free := rfl

@[simp] theorem logDigest_fuses (x : Ctx) (fl ob ix : Nat) (p q : List Byte) : (d.logDigest x fl ob ix p q).fuses = d.fuses := by unfold Dev.logDigest Dev.logAs; dsimp only; split <;> rfl
@[simp] theorem logDigest_pins (x : Ctx) (fl ob ix : Nat) (p q : List Byte) : (d.logDigest x fl ob ix p q).pins = d.pins := by unfold Dev.logDigest Dev.logAs; dsimp only; split <;> rfl
@[simp] theorem logDigest_ump (x : Ctx) (fl ob ix : Nat) (p q : List Byte) : (d.logDigest x fl ob ix p q).ump = d.ump := by unfold Dev.logDigest Dev.logAs; dsimp only; split <;> rfl
@[simp] theorem logDigest_mode (x : Ctx) (fl ob ix : Nat) (p q : List Byte) : (d.logDigest x fl ob ix p q).mode = d.mode := by unfold Dev.logDigest Dev.logAs; dsimp only; split <;> rfl
@[simp] theorem logDigest_gov (x : Ctx) (fl ob ix : Nat) (p q : List Byte) : (d.logDigest x fl ob ix p q).gov = d.gov := by unfold Dev.logDigest Dev.logAs; dsimp only; split <;> rfl
@[simp] theorem logDigest_therm (x : Ctx) (fl ob ix : Nat) (p q : List Byte) : (d.logDigest x fl ob ix p q).therm = d.therm := by unfold Dev.logDigest Dev.logAs; dsimp only; split <;> rfl
@[simp] theorem logDigest_clk (x : Ctx) (fl ob ix : Nat) (p q : List Byte) : (d.logDigest x fl ob ix p q).clk = d.clk := by unfold Dev.logDigest Dev.logAs; dsimp only; split <;> rfl
@[simp] theorem logDigest_boot (x : Ctx) (fl ob ix : Nat) (p q : List Byte) : (d.logDigest x fl ob ix p q).boot = d.boot := by unfold Dev.logDigest Dev.logAs; dsimp only; split <;> rfl
@[simp] theorem logDigest_cal (x : Ctx) (fl ob ix : Nat) (p q : List Byte) : (d.logDigest x fl ob ix p q).cal = d.cal := by unfold Dev.logDigest Dev.logAs; dsimp only; split <;> rfl
@[simp] theorem logDigest_mc (x : Ctx) (fl ob ix : Nat) (p q : List Byte) : (d.logDigest x fl ob ix p q).mc = d.mc := by unfold Dev.logDigest Dev.logAs; dsimp only; split <;> rfl
@[simp] theorem logDigest_geo (x : Ctx) (fl ob ix : Nat) (p q : List Byte) : (d.logDigest x fl ob ix p q).geo = d.geo := by unfold Dev.logDigest Dev.logAs; dsimp only; split <;> rfl
@[simp] theorem logDigest_lib (x : Ctx) (fl ob ix : Nat) (p q : List Byte) : (d.logDigest x fl ob ix p q).lib = d.lib := by unfold Dev.logDigest Dev.logAs; dsimp only; split <;> rfl
@[simp] theorem logDigest_layers (x : Ctx) (fl ob ix : Nat) (p q : List Byte) : (d.logDigest x fl ob ix p q).layers = d.layers := by unfold Dev.logDigest Dev.logAs; dsimp only; split <;> rfl
@[simp] theorem logDigest_mar (x : Ctx) (fl ob ix : Nat) (p q : List Byte) : (d.logDigest x fl ob ix p q).mar = d.mar := by unfold Dev.logDigest Dev.logAs; dsimp only; split <;> rfl
@[simp] theorem logDigest_eng (x : Ctx) (fl ob ix : Nat) (p q : List Byte) : (d.logDigest x fl ob ix p q).eng = d.eng := by unfold Dev.logDigest Dev.logAs; dsimp only; split <;> rfl
@[simp] theorem logDigest_loops (x : Ctx) (fl ob ix : Nat) (p q : List Byte) : (d.logDigest x fl ob ix p q).loops = d.loops := by unfold Dev.logDigest Dev.logAs; dsimp only; split <;> rfl
@[simp] theorem logDigest_melt (x : Ctx) (fl ob ix : Nat) (p q : List Byte) : (d.logDigest x fl ob ix p q).melt = d.melt := by unfold Dev.logDigest Dev.logAs; dsimp only; split <;> rfl
@[simp] theorem logDigest_recd (x : Ctx) (fl ob ix : Nat) (p q : List Byte) : (d.logDigest x fl ob ix p q).recd = d.recd := by unfold Dev.logDigest Dev.logAs; dsimp only; split <;> rfl
@[simp] theorem logDigest_links (x : Ctx) (fl ob ix : Nat) (p q : List Byte) : (d.logDigest x fl ob ix p q).links = d.links := by unfold Dev.logDigest Dev.logAs; dsimp only; split <;> rfl
@[simp] theorem logDigest_slides (x : Ctx) (fl ob ix : Nat) (p q : List Byte) : (d.logDigest x fl ob ix p q).slides = d.slides := by unfold Dev.logDigest Dev.logAs; dsimp only; split <;> rfl
@[simp] theorem logDigest_img (x : Ctx) (fl ob ix : Nat) (p q : List Byte) : (d.logDigest x fl ob ix p q).img = d.img := by unfold Dev.logDigest Dev.logAs; dsimp only; split <;> rfl
@[simp] theorem logDigest_time (x : Ctx) (fl ob ix : Nat) (p q : List Byte) : (d.logDigest x fl ob ix p q).time = d.time := by unfold Dev.logDigest Dev.logAs; dsimp only; split <;> rfl
@[simp] theorem logDigest_flash (x : Ctx) (fl ob ix : Nat) (p q : List Byte) : (d.logDigest x fl ob ix p q).flash = d.flash := by unfold Dev.logDigest Dev.logAs; dsimp only; split <;> rfl
@[simp] theorem logDigest_free (x : Ctx) (fl ob ix : Nat) (p q : List Byte) : (d.logDigest x fl ob ix p q).free = d.free := by unfold Dev.logDigest Dev.logAs; dsimp only; split <;> rfl

@[simp] theorem log_fuses (x : Ctx) (ob ix : Nat) (p q : List Byte) : (d.log x ob ix p q).fuses = d.fuses := logDigest_fuses d x 0 ob ix _ _
@[simp] theorem log_pins (x : Ctx) (ob ix : Nat) (p q : List Byte) : (d.log x ob ix p q).pins = d.pins := logDigest_pins d x 0 ob ix _ _
@[simp] theorem log_ump (x : Ctx) (ob ix : Nat) (p q : List Byte) : (d.log x ob ix p q).ump = d.ump := logDigest_ump d x 0 ob ix _ _
@[simp] theorem log_mode (x : Ctx) (ob ix : Nat) (p q : List Byte) : (d.log x ob ix p q).mode = d.mode := logDigest_mode d x 0 ob ix _ _
@[simp] theorem log_gov (x : Ctx) (ob ix : Nat) (p q : List Byte) : (d.log x ob ix p q).gov = d.gov := logDigest_gov d x 0 ob ix _ _
@[simp] theorem log_therm (x : Ctx) (ob ix : Nat) (p q : List Byte) : (d.log x ob ix p q).therm = d.therm := logDigest_therm d x 0 ob ix _ _
@[simp] theorem log_clk (x : Ctx) (ob ix : Nat) (p q : List Byte) : (d.log x ob ix p q).clk = d.clk := logDigest_clk d x 0 ob ix _ _
@[simp] theorem log_boot (x : Ctx) (ob ix : Nat) (p q : List Byte) : (d.log x ob ix p q).boot = d.boot := logDigest_boot d x 0 ob ix _ _
@[simp] theorem log_cal (x : Ctx) (ob ix : Nat) (p q : List Byte) : (d.log x ob ix p q).cal = d.cal := logDigest_cal d x 0 ob ix _ _
@[simp] theorem log_mc (x : Ctx) (ob ix : Nat) (p q : List Byte) : (d.log x ob ix p q).mc = d.mc := logDigest_mc d x 0 ob ix _ _
@[simp] theorem log_geo (x : Ctx) (ob ix : Nat) (p q : List Byte) : (d.log x ob ix p q).geo = d.geo := logDigest_geo d x 0 ob ix _ _
@[simp] theorem log_lib (x : Ctx) (ob ix : Nat) (p q : List Byte) : (d.log x ob ix p q).lib = d.lib := logDigest_lib d x 0 ob ix _ _
@[simp] theorem log_layers (x : Ctx) (ob ix : Nat) (p q : List Byte) : (d.log x ob ix p q).layers = d.layers := logDigest_layers d x 0 ob ix _ _
@[simp] theorem log_mar (x : Ctx) (ob ix : Nat) (p q : List Byte) : (d.log x ob ix p q).mar = d.mar := logDigest_mar d x 0 ob ix _ _
@[simp] theorem log_eng (x : Ctx) (ob ix : Nat) (p q : List Byte) : (d.log x ob ix p q).eng = d.eng := logDigest_eng d x 0 ob ix _ _
@[simp] theorem log_loops (x : Ctx) (ob ix : Nat) (p q : List Byte) : (d.log x ob ix p q).loops = d.loops := logDigest_loops d x 0 ob ix _ _
@[simp] theorem log_melt (x : Ctx) (ob ix : Nat) (p q : List Byte) : (d.log x ob ix p q).melt = d.melt := logDigest_melt d x 0 ob ix _ _
@[simp] theorem log_recd (x : Ctx) (ob ix : Nat) (p q : List Byte) : (d.log x ob ix p q).recd = d.recd := logDigest_recd d x 0 ob ix _ _
@[simp] theorem log_links (x : Ctx) (ob ix : Nat) (p q : List Byte) : (d.log x ob ix p q).links = d.links := logDigest_links d x 0 ob ix _ _
@[simp] theorem log_slides (x : Ctx) (ob ix : Nat) (p q : List Byte) : (d.log x ob ix p q).slides = d.slides := logDigest_slides d x 0 ob ix _ _
@[simp] theorem log_img (x : Ctx) (ob ix : Nat) (p q : List Byte) : (d.log x ob ix p q).img = d.img := logDigest_img d x 0 ob ix _ _
@[simp] theorem log_time (x : Ctx) (ob ix : Nat) (p q : List Byte) : (d.log x ob ix p q).time = d.time := logDigest_time d x 0 ob ix _ _
@[simp] theorem log_flash (x : Ctx) (ob ix : Nat) (p q : List Byte) : (d.log x ob ix p q).flash = d.flash := logDigest_flash d x 0 ob ix _ _
@[simp] theorem log_free (x : Ctx) (ob ix : Nat) (p q : List Byte) : (d.log x ob ix p q).free = d.free := logDigest_free d x 0 ob ix _ _

@[simp] theorem spoil_fuses (so i c : Nat) (n : Bool) (v : Nat) : (d.spoil so i c n v).fuses = d.fuses := by unfold Dev.spoil; dsimp only; split <;> (try split) <;> rfl
@[simp] theorem spoil_pins (so i c : Nat) (n : Bool) (v : Nat) : (d.spoil so i c n v).pins = d.pins := by unfold Dev.spoil; dsimp only; split <;> (try split) <;> rfl
@[simp] theorem spoil_ump (so i c : Nat) (n : Bool) (v : Nat) : (d.spoil so i c n v).ump = d.ump := by unfold Dev.spoil; dsimp only; split <;> (try split) <;> rfl
@[simp] theorem spoil_mode (so i c : Nat) (n : Bool) (v : Nat) : (d.spoil so i c n v).mode = d.mode := by unfold Dev.spoil; dsimp only; split <;> (try split) <;> rfl
@[simp] theorem spoil_gov (so i c : Nat) (n : Bool) (v : Nat) : (d.spoil so i c n v).gov = d.gov := by unfold Dev.spoil; dsimp only; split <;> (try split) <;> rfl
@[simp] theorem spoil_therm (so i c : Nat) (n : Bool) (v : Nat) : (d.spoil so i c n v).therm = d.therm := by unfold Dev.spoil; dsimp only; split <;> (try split) <;> rfl
@[simp] theorem spoil_clk (so i c : Nat) (n : Bool) (v : Nat) : (d.spoil so i c n v).clk = d.clk := by unfold Dev.spoil; dsimp only; split <;> (try split) <;> rfl
@[simp] theorem spoil_boot (so i c : Nat) (n : Bool) (v : Nat) : (d.spoil so i c n v).boot = d.boot := by unfold Dev.spoil; dsimp only; split <;> (try split) <;> rfl
@[simp] theorem spoil_cal (so i c : Nat) (n : Bool) (v : Nat) : (d.spoil so i c n v).cal = d.cal := by unfold Dev.spoil; dsimp only; split <;> (try split) <;> rfl
@[simp] theorem spoil_mc (so i c : Nat) (n : Bool) (v : Nat) : (d.spoil so i c n v).mc = d.mc := by unfold Dev.spoil; dsimp only; split <;> (try split) <;> rfl
@[simp] theorem spoil_geo (so i c : Nat) (n : Bool) (v : Nat) : (d.spoil so i c n v).geo = d.geo := by unfold Dev.spoil; dsimp only; split <;> (try split) <;> rfl
@[simp] theorem spoil_lib (so i c : Nat) (n : Bool) (v : Nat) : (d.spoil so i c n v).lib = d.lib := by unfold Dev.spoil; dsimp only; split <;> (try split) <;> rfl
@[simp] theorem spoil_layers (so i c : Nat) (n : Bool) (v : Nat) : (d.spoil so i c n v).layers = d.layers := by unfold Dev.spoil; dsimp only; split <;> (try split) <;> rfl
@[simp] theorem spoil_mar (so i c : Nat) (n : Bool) (v : Nat) : (d.spoil so i c n v).mar = d.mar := by unfold Dev.spoil; dsimp only; split <;> (try split) <;> rfl
@[simp] theorem spoil_eng (so i c : Nat) (n : Bool) (v : Nat) : (d.spoil so i c n v).eng = d.eng := by unfold Dev.spoil; dsimp only; split <;> (try split) <;> rfl
@[simp] theorem spoil_loops (so i c : Nat) (n : Bool) (v : Nat) : (d.spoil so i c n v).loops = d.loops := by unfold Dev.spoil; dsimp only; split <;> (try split) <;> rfl
@[simp] theorem spoil_melt (so i c : Nat) (n : Bool) (v : Nat) : (d.spoil so i c n v).melt = d.melt := by unfold Dev.spoil; dsimp only; split <;> (try split) <;> rfl
@[simp] theorem spoil_recd (so i c : Nat) (n : Bool) (v : Nat) : (d.spoil so i c n v).recd = d.recd := by unfold Dev.spoil; dsimp only; split <;> (try split) <;> rfl
@[simp] theorem spoil_links (so i c : Nat) (n : Bool) (v : Nat) : (d.spoil so i c n v).links = d.links := by unfold Dev.spoil; dsimp only; split <;> (try split) <;> rfl
@[simp] theorem spoil_slides (so i c : Nat) (n : Bool) (v : Nat) : (d.spoil so i c n v).slides = d.slides := by unfold Dev.spoil; dsimp only; split <;> (try split) <;> rfl
@[simp] theorem spoil_img (so i c : Nat) (n : Bool) (v : Nat) : (d.spoil so i c n v).img = d.img := by unfold Dev.spoil; dsimp only; split <;> (try split) <;> rfl
@[simp] theorem spoil_time (so i c : Nat) (n : Bool) (v : Nat) : (d.spoil so i c n v).time = d.time := by unfold Dev.spoil; dsimp only; split <;> (try split) <;> rfl
@[simp] theorem spoil_flash (so i c : Nat) (n : Bool) (v : Nat) : (d.spoil so i c n v).flash = d.flash := by unfold Dev.spoil; dsimp only; split <;> (try split) <;> rfl
@[simp] theorem spoil_free (so i c : Nat) (n : Bool) (v : Nat) : (d.spoil so i c n v).free = d.free := by unfold Dev.spoil; dsimp only; split <;> (try split) <;> rfl

@[simp] theorem healthRec_fuses (k se su i : Nat) (v l t p : Int) : (d.healthRec k se su i v l t p).fuses = d.fuses := rfl
@[simp] theorem healthRec_pins (k se su i : Nat) (v l t p : Int) : (d.healthRec k se su i v l t p).pins = d.pins := rfl
@[simp] theorem healthRec_ump (k se su i : Nat) (v l t p : Int) : (d.healthRec k se su i v l t p).ump = d.ump := rfl
@[simp] theorem healthRec_mode (k se su i : Nat) (v l t p : Int) : (d.healthRec k se su i v l t p).mode = d.mode := rfl
@[simp] theorem healthRec_gov (k se su i : Nat) (v l t p : Int) : (d.healthRec k se su i v l t p).gov = d.gov := rfl
@[simp] theorem healthRec_therm (k se su i : Nat) (v l t p : Int) : (d.healthRec k se su i v l t p).therm = d.therm := rfl
@[simp] theorem healthRec_clk (k se su i : Nat) (v l t p : Int) : (d.healthRec k se su i v l t p).clk = d.clk := rfl
@[simp] theorem healthRec_boot (k se su i : Nat) (v l t p : Int) : (d.healthRec k se su i v l t p).boot = d.boot := rfl
@[simp] theorem healthRec_cal (k se su i : Nat) (v l t p : Int) : (d.healthRec k se su i v l t p).cal = d.cal := rfl
@[simp] theorem healthRec_mc (k se su i : Nat) (v l t p : Int) : (d.healthRec k se su i v l t p).mc = d.mc := rfl
@[simp] theorem healthRec_geo (k se su i : Nat) (v l t p : Int) : (d.healthRec k se su i v l t p).geo = d.geo := rfl
@[simp] theorem healthRec_lib (k se su i : Nat) (v l t p : Int) : (d.healthRec k se su i v l t p).lib = d.lib := rfl
@[simp] theorem healthRec_layers (k se su i : Nat) (v l t p : Int) : (d.healthRec k se su i v l t p).layers = d.layers := rfl
@[simp] theorem healthRec_mar (k se su i : Nat) (v l t p : Int) : (d.healthRec k se su i v l t p).mar = d.mar := rfl
@[simp] theorem healthRec_eng (k se su i : Nat) (v l t p : Int) : (d.healthRec k se su i v l t p).eng = d.eng := rfl
@[simp] theorem healthRec_loops (k se su i : Nat) (v l t p : Int) : (d.healthRec k se su i v l t p).loops = d.loops := rfl
@[simp] theorem healthRec_melt (k se su i : Nat) (v l t p : Int) : (d.healthRec k se su i v l t p).melt = d.melt := rfl
@[simp] theorem healthRec_recd (k se su i : Nat) (v l t p : Int) : (d.healthRec k se su i v l t p).recd = d.recd := rfl
@[simp] theorem healthRec_links (k se su i : Nat) (v l t p : Int) : (d.healthRec k se su i v l t p).links = d.links := rfl
@[simp] theorem healthRec_slides (k se su i : Nat) (v l t p : Int) : (d.healthRec k se su i v l t p).slides = d.slides := rfl
@[simp] theorem healthRec_img (k se su i : Nat) (v l t p : Int) : (d.healthRec k se su i v l t p).img = d.img := rfl
@[simp] theorem healthRec_time (k se su i : Nat) (v l t p : Int) : (d.healthRec k se su i v l t p).time = d.time := rfl
@[simp] theorem healthRec_flash (k se su i : Nat) (v l t p : Int) : (d.healthRec k se su i v l t p).flash = d.flash := rfl
@[simp] theorem healthRec_free (k se su i : Nat) (v l t p : Int) : (d.healthRec k se su i v l t p).free = d.free := rfl

@[simp] theorem event_fuses (k c o : Nat) (v l : Int) (x : Nat) : (d.event k c o v l x).fuses = d.fuses := spoil_fuses _ _ _ _ _ _
@[simp] theorem event_pins (k c o : Nat) (v l : Int) (x : Nat) : (d.event k c o v l x).pins = d.pins := spoil_pins _ _ _ _ _ _
@[simp] theorem event_mode (k c o : Nat) (v l : Int) (x : Nat) : (d.event k c o v l x).mode = d.mode := spoil_mode _ _ _ _ _ _
@[simp] theorem event_gov (k c o : Nat) (v l : Int) (x : Nat) : (d.event k c o v l x).gov = d.gov := spoil_gov _ _ _ _ _ _
@[simp] theorem event_therm (k c o : Nat) (v l : Int) (x : Nat) : (d.event k c o v l x).therm = d.therm := spoil_therm _ _ _ _ _ _
@[simp] theorem event_clk (k c o : Nat) (v l : Int) (x : Nat) : (d.event k c o v l x).clk = d.clk := spoil_clk _ _ _ _ _ _
@[simp] theorem event_boot (k c o : Nat) (v l : Int) (x : Nat) : (d.event k c o v l x).boot = d.boot := spoil_boot _ _ _ _ _ _
@[simp] theorem event_cal (k c o : Nat) (v l : Int) (x : Nat) : (d.event k c o v l x).cal = d.cal := spoil_cal _ _ _ _ _ _
@[simp] theorem event_mc (k c o : Nat) (v l : Int) (x : Nat) : (d.event k c o v l x).mc = d.mc := spoil_mc _ _ _ _ _ _
@[simp] theorem event_geo (k c o : Nat) (v l : Int) (x : Nat) : (d.event k c o v l x).geo = d.geo := spoil_geo _ _ _ _ _ _
@[simp] theorem event_lib (k c o : Nat) (v l : Int) (x : Nat) : (d.event k c o v l x).lib = d.lib := spoil_lib _ _ _ _ _ _
@[simp] theorem event_layers (k c o : Nat) (v l : Int) (x : Nat) : (d.event k c o v l x).layers = d.layers := spoil_layers _ _ _ _ _ _
@[simp] theorem event_mar (k c o : Nat) (v l : Int) (x : Nat) : (d.event k c o v l x).mar = d.mar := spoil_mar _ _ _ _ _ _
@[simp] theorem event_eng (k c o : Nat) (v l : Int) (x : Nat) : (d.event k c o v l x).eng = d.eng := spoil_eng _ _ _ _ _ _
@[simp] theorem event_loops (k c o : Nat) (v l : Int) (x : Nat) : (d.event k c o v l x).loops = d.loops := spoil_loops _ _ _ _ _ _
@[simp] theorem event_melt (k c o : Nat) (v l : Int) (x : Nat) : (d.event k c o v l x).melt = d.melt := spoil_melt _ _ _ _ _ _
@[simp] theorem event_recd (k c o : Nat) (v l : Int) (x : Nat) : (d.event k c o v l x).recd = d.recd := spoil_recd _ _ _ _ _ _
@[simp] theorem event_links (k c o : Nat) (v l : Int) (x : Nat) : (d.event k c o v l x).links = d.links := spoil_links _ _ _ _ _ _
@[simp] theorem event_slides (k c o : Nat) (v l : Int) (x : Nat) : (d.event k c o v l x).slides = d.slides := spoil_slides _ _ _ _ _ _
@[simp] theorem event_img (k c o : Nat) (v l : Int) (x : Nat) : (d.event k c o v l x).img = d.img := spoil_img _ _ _ _ _ _
@[simp] theorem event_time (k c o : Nat) (v l : Int) (x : Nat) : (d.event k c o v l x).time = d.time := spoil_time _ _ _ _ _ _
@[simp] theorem event_flash (k c o : Nat) (v l : Int) (x : Nat) : (d.event k c o v l x).flash = d.flash := spoil_flash _ _ _ _ _ _
@[simp] theorem event_free (k c o : Nat) (v l : Int) (x : Nat) : (d.event k c o v l x).free = d.free := spoil_free _ _ _ _ _ _

@[simp] theorem refreshStarts_logs : (d.refreshStarts).logs = d.logs := rfl
@[simp] theorem refreshStarts_fuses : (d.refreshStarts).fuses = d.fuses := rfl
@[simp] theorem refreshStarts_pins : (d.refreshStarts).pins = d.pins := rfl
@[simp] theorem refreshStarts_ump : (d.refreshStarts).ump = d.ump := rfl
@[simp] theorem refreshStarts_mode : (d.refreshStarts).mode = d.mode := rfl
@[simp] theorem refreshStarts_gov : (d.refreshStarts).gov = d.gov := rfl
@[simp] theorem refreshStarts_therm : (d.refreshStarts).therm = d.therm := rfl
@[simp] theorem refreshStarts_clk : (d.refreshStarts).clk = d.clk := rfl
@[simp] theorem refreshStarts_boot : (d.refreshStarts).boot = d.boot := rfl
@[simp] theorem refreshStarts_cal : (d.refreshStarts).cal = d.cal := rfl
@[simp] theorem refreshStarts_mc : (d.refreshStarts).mc = d.mc := rfl
@[simp] theorem refreshStarts_geo : (d.refreshStarts).geo = d.geo := rfl
@[simp] theorem refreshStarts_lib : (d.refreshStarts).lib = d.lib := rfl
@[simp] theorem refreshStarts_layers : (d.refreshStarts).layers = d.layers := rfl
@[simp] theorem refreshStarts_mar : (d.refreshStarts).mar = d.mar := rfl
@[simp] theorem refreshStarts_eng : (d.refreshStarts).eng = d.eng := rfl
@[simp] theorem refreshStarts_loops : (d.refreshStarts).loops = d.loops := rfl
@[simp] theorem refreshStarts_melt : (d.refreshStarts).melt = d.melt := rfl
@[simp] theorem refreshStarts_recd : (d.refreshStarts).recd = d.recd := rfl
@[simp] theorem refreshStarts_links : (d.refreshStarts).links = d.links := rfl
@[simp] theorem refreshStarts_slides : (d.refreshStarts).slides = d.slides := rfl
@[simp] theorem refreshStarts_img : (d.refreshStarts).img = d.img := rfl
@[simp] theorem refreshStarts_time : (d.refreshStarts).time = d.time := rfl
@[simp] theorem refreshStarts_flash : (d.refreshStarts).flash = d.flash := rfl
@[simp] theorem refreshStarts_free : (d.refreshStarts).free = d.free := rfl

@[simp] theorem respond_logs (m st de h c : Nat) (r : List Byte) : (d.respond m st de h c r).logs = d.logs := by unfold Dev.respond; dsimp only; rw [refreshStarts_logs]; split <;> rfl
@[simp] theorem respond_fuses (m st de h c : Nat) (r : List Byte) : (d.respond m st de h c r).fuses = d.fuses := by unfold Dev.respond; dsimp only; rw [refreshStarts_fuses]; split <;> rfl
@[simp] theorem respond_pins (m st de h c : Nat) (r : List Byte) : (d.respond m st de h c r).pins = d.pins := by unfold Dev.respond; dsimp only; rw [refreshStarts_pins]; split <;> rfl
@[simp] theorem respond_ump (m st de h c : Nat) (r : List Byte) : (d.respond m st de h c r).ump = d.ump := by unfold Dev.respond; dsimp only; rw [refreshStarts_ump]; split <;> rfl
@[simp] theorem respond_mode (m st de h c : Nat) (r : List Byte) : (d.respond m st de h c r).mode = d.mode := by unfold Dev.respond; dsimp only; rw [refreshStarts_mode]; split <;> rfl
@[simp] theorem respond_gov (m st de h c : Nat) (r : List Byte) : (d.respond m st de h c r).gov = d.gov := by unfold Dev.respond; dsimp only; rw [refreshStarts_gov]; split <;> rfl
@[simp] theorem respond_therm (m st de h c : Nat) (r : List Byte) : (d.respond m st de h c r).therm = d.therm := by unfold Dev.respond; dsimp only; rw [refreshStarts_therm]; split <;> rfl
@[simp] theorem respond_clk (m st de h c : Nat) (r : List Byte) : (d.respond m st de h c r).clk = d.clk := by unfold Dev.respond; dsimp only; rw [refreshStarts_clk]; split <;> rfl
@[simp] theorem respond_boot (m st de h c : Nat) (r : List Byte) : (d.respond m st de h c r).boot = d.boot := by unfold Dev.respond; dsimp only; rw [refreshStarts_boot]; split <;> rfl
@[simp] theorem respond_cal (m st de h c : Nat) (r : List Byte) : (d.respond m st de h c r).cal = d.cal := by unfold Dev.respond; dsimp only; rw [refreshStarts_cal]; split <;> rfl
@[simp] theorem respond_mc (m st de h c : Nat) (r : List Byte) : (d.respond m st de h c r).mc = d.mc := by unfold Dev.respond; dsimp only; rw [refreshStarts_mc]; split <;> rfl
@[simp] theorem respond_geo (m st de h c : Nat) (r : List Byte) : (d.respond m st de h c r).geo = d.geo := by unfold Dev.respond; dsimp only; rw [refreshStarts_geo]; split <;> rfl
@[simp] theorem respond_lib (m st de h c : Nat) (r : List Byte) : (d.respond m st de h c r).lib = d.lib := by unfold Dev.respond; dsimp only; rw [refreshStarts_lib]; split <;> rfl
@[simp] theorem respond_layers (m st de h c : Nat) (r : List Byte) : (d.respond m st de h c r).layers = d.layers := by unfold Dev.respond; dsimp only; rw [refreshStarts_layers]; split <;> rfl
@[simp] theorem respond_mar (m st de h c : Nat) (r : List Byte) : (d.respond m st de h c r).mar = d.mar := by unfold Dev.respond; dsimp only; rw [refreshStarts_mar]; split <;> rfl
@[simp] theorem respond_eng (m st de h c : Nat) (r : List Byte) : (d.respond m st de h c r).eng = d.eng := by unfold Dev.respond; dsimp only; rw [refreshStarts_eng]; split <;> rfl
@[simp] theorem respond_loops (m st de h c : Nat) (r : List Byte) : (d.respond m st de h c r).loops = d.loops := by unfold Dev.respond; dsimp only; rw [refreshStarts_loops]; split <;> rfl
@[simp] theorem respond_melt (m st de h c : Nat) (r : List Byte) : (d.respond m st de h c r).melt = d.melt := by unfold Dev.respond; dsimp only; rw [refreshStarts_melt]; split <;> rfl
@[simp] theorem respond_recd (m st de h c : Nat) (r : List Byte) : (d.respond m st de h c r).recd = d.recd := by unfold Dev.respond; dsimp only; rw [refreshStarts_recd]; split <;> rfl
@[simp] theorem respond_links (m st de h c : Nat) (r : List Byte) : (d.respond m st de h c r).links = d.links := by unfold Dev.respond; dsimp only; rw [refreshStarts_links]; split <;> rfl
@[simp] theorem respond_slides (m st de h c : Nat) (r : List Byte) : (d.respond m st de h c r).slides = d.slides := by unfold Dev.respond; dsimp only; rw [refreshStarts_slides]; split <;> rfl
@[simp] theorem respond_img (m st de h c : Nat) (r : List Byte) : (d.respond m st de h c r).img = d.img := by unfold Dev.respond; dsimp only; rw [refreshStarts_img]; split <;> rfl
@[simp] theorem respond_time (m st de h c : Nat) (r : List Byte) : (d.respond m st de h c r).time = d.time := by unfold Dev.respond; dsimp only; rw [refreshStarts_time]; split <;> rfl
@[simp] theorem respond_flash (m st de h c : Nat) (r : List Byte) : (d.respond m st de h c r).flash = d.flash := by unfold Dev.respond; dsimp only; rw [refreshStarts_flash]; split <;> rfl
@[simp] theorem respond_free (m st de h c : Nat) (r : List Byte) : (d.respond m st de h c r).free = d.free := by unfold Dev.respond; dsimp only; rw [refreshStarts_free]; split <;> rfl

@[simp] theorem complete_logs (j : Job) (st de : Nat) (r : List Byte) : (d.complete j st de r).logs = d.logs := by unfold Dev.complete; dsimp only; split <;> rfl
@[simp] theorem complete_fuses (j : Job) (st de : Nat) (r : List Byte) : (d.complete j st de r).fuses = d.fuses := by unfold Dev.complete; dsimp only; split <;> rfl
@[simp] theorem complete_pins (j : Job) (st de : Nat) (r : List Byte) : (d.complete j st de r).pins = d.pins := by unfold Dev.complete; dsimp only; split <;> rfl
@[simp] theorem complete_ump (j : Job) (st de : Nat) (r : List Byte) : (d.complete j st de r).ump = d.ump := by unfold Dev.complete; dsimp only; split <;> rfl
@[simp] theorem complete_mode (j : Job) (st de : Nat) (r : List Byte) : (d.complete j st de r).mode = d.mode := by unfold Dev.complete; dsimp only; split <;> rfl
@[simp] theorem complete_gov (j : Job) (st de : Nat) (r : List Byte) : (d.complete j st de r).gov = d.gov := by unfold Dev.complete; dsimp only; split <;> rfl
@[simp] theorem complete_therm (j : Job) (st de : Nat) (r : List Byte) : (d.complete j st de r).therm = d.therm := by unfold Dev.complete; dsimp only; split <;> rfl
@[simp] theorem complete_clk (j : Job) (st de : Nat) (r : List Byte) : (d.complete j st de r).clk = d.clk := by unfold Dev.complete; dsimp only; split <;> rfl
@[simp] theorem complete_boot (j : Job) (st de : Nat) (r : List Byte) : (d.complete j st de r).boot = d.boot := by unfold Dev.complete; dsimp only; split <;> rfl
@[simp] theorem complete_cal (j : Job) (st de : Nat) (r : List Byte) : (d.complete j st de r).cal = d.cal := by unfold Dev.complete; dsimp only; split <;> rfl
@[simp] theorem complete_mc (j : Job) (st de : Nat) (r : List Byte) : (d.complete j st de r).mc = d.mc := by unfold Dev.complete; dsimp only; split <;> rfl
@[simp] theorem complete_geo (j : Job) (st de : Nat) (r : List Byte) : (d.complete j st de r).geo = d.geo := by unfold Dev.complete; dsimp only; split <;> rfl
@[simp] theorem complete_lib (j : Job) (st de : Nat) (r : List Byte) : (d.complete j st de r).lib = d.lib := by unfold Dev.complete; dsimp only; split <;> rfl
@[simp] theorem complete_layers (j : Job) (st de : Nat) (r : List Byte) : (d.complete j st de r).layers = d.layers := by unfold Dev.complete; dsimp only; split <;> rfl
@[simp] theorem complete_mar (j : Job) (st de : Nat) (r : List Byte) : (d.complete j st de r).mar = d.mar := by unfold Dev.complete; dsimp only; split <;> rfl
@[simp] theorem complete_eng (j : Job) (st de : Nat) (r : List Byte) : (d.complete j st de r).eng = d.eng := by unfold Dev.complete; dsimp only; split <;> rfl
@[simp] theorem complete_loops (j : Job) (st de : Nat) (r : List Byte) : (d.complete j st de r).loops = d.loops := by unfold Dev.complete; dsimp only; split <;> rfl
@[simp] theorem complete_melt (j : Job) (st de : Nat) (r : List Byte) : (d.complete j st de r).melt = d.melt := by unfold Dev.complete; dsimp only; split <;> rfl
@[simp] theorem complete_recd (j : Job) (st de : Nat) (r : List Byte) : (d.complete j st de r).recd = d.recd := by unfold Dev.complete; dsimp only; split <;> rfl
@[simp] theorem complete_links (j : Job) (st de : Nat) (r : List Byte) : (d.complete j st de r).links = d.links := by unfold Dev.complete; dsimp only; split <;> rfl
@[simp] theorem complete_slides (j : Job) (st de : Nat) (r : List Byte) : (d.complete j st de r).slides = d.slides := by unfold Dev.complete; dsimp only; split <;> rfl
@[simp] theorem complete_img (j : Job) (st de : Nat) (r : List Byte) : (d.complete j st de r).img = d.img := by unfold Dev.complete; dsimp only; split <;> rfl
@[simp] theorem complete_time (j : Job) (st de : Nat) (r : List Byte) : (d.complete j st de r).time = d.time := by unfold Dev.complete; dsimp only; split <;> rfl
@[simp] theorem complete_flash (j : Job) (st de : Nat) (r : List Byte) : (d.complete j st de r).flash = d.flash := by unfold Dev.complete; dsimp only; split <;> rfl
@[simp] theorem complete_free (j : Job) (st de : Nat) (r : List Byte) : (d.complete j st de r).free = d.free := by unfold Dev.complete; dsimp only; split <;> rfl

@[simp] theorem modeReqDone_logs (st de : Nat) : (d.modeReqDone st de).logs = d.logs := rfl
@[simp] theorem modeReqDone_fuses (st de : Nat) : (d.modeReqDone st de).fuses = d.fuses := rfl
@[simp] theorem modeReqDone_pins (st de : Nat) : (d.modeReqDone st de).pins = d.pins := rfl
@[simp] theorem modeReqDone_ump (st de : Nat) : (d.modeReqDone st de).ump = d.ump := rfl
@[simp] theorem modeReqDone_mode (st de : Nat) : (d.modeReqDone st de).mode = d.mode := rfl
@[simp] theorem modeReqDone_gov (st de : Nat) : (d.modeReqDone st de).gov = d.gov := rfl
@[simp] theorem modeReqDone_therm (st de : Nat) : (d.modeReqDone st de).therm = d.therm := rfl
@[simp] theorem modeReqDone_clk (st de : Nat) : (d.modeReqDone st de).clk = d.clk := rfl
@[simp] theorem modeReqDone_boot (st de : Nat) : (d.modeReqDone st de).boot = d.boot := rfl
@[simp] theorem modeReqDone_cal (st de : Nat) : (d.modeReqDone st de).cal = d.cal := rfl
@[simp] theorem modeReqDone_mc (st de : Nat) : (d.modeReqDone st de).mc = d.mc := rfl
@[simp] theorem modeReqDone_geo (st de : Nat) : (d.modeReqDone st de).geo = d.geo := rfl
@[simp] theorem modeReqDone_lib (st de : Nat) : (d.modeReqDone st de).lib = d.lib := rfl
@[simp] theorem modeReqDone_layers (st de : Nat) : (d.modeReqDone st de).layers = d.layers := rfl
@[simp] theorem modeReqDone_mar (st de : Nat) : (d.modeReqDone st de).mar = d.mar := rfl
@[simp] theorem modeReqDone_eng (st de : Nat) : (d.modeReqDone st de).eng = d.eng := rfl
@[simp] theorem modeReqDone_loops (st de : Nat) : (d.modeReqDone st de).loops = d.loops := rfl
@[simp] theorem modeReqDone_melt (st de : Nat) : (d.modeReqDone st de).melt = d.melt := rfl
@[simp] theorem modeReqDone_recd (st de : Nat) : (d.modeReqDone st de).recd = d.recd := rfl
@[simp] theorem modeReqDone_links (st de : Nat) : (d.modeReqDone st de).links = d.links := rfl
@[simp] theorem modeReqDone_slides (st de : Nat) : (d.modeReqDone st de).slides = d.slides := rfl
@[simp] theorem modeReqDone_img (st de : Nat) : (d.modeReqDone st de).img = d.img := rfl
@[simp] theorem modeReqDone_time (st de : Nat) : (d.modeReqDone st de).time = d.time := rfl
@[simp] theorem modeReqDone_flash (st de : Nat) : (d.modeReqDone st de).flash = d.flash := rfl
@[simp] theorem modeReqDone_free (st de : Nat) : (d.modeReqDone st de).free = d.free := rfl

@[simp] theorem faultRec_fuses (m st : Nat) : (d.faultRec m st).fuses = d.fuses := by unfold Dev.faultRec; split_ifs <;> simp
@[simp] theorem faultRec_pins (m st : Nat) : (d.faultRec m st).pins = d.pins := by unfold Dev.faultRec; split_ifs <;> simp
@[simp] theorem faultRec_ump (m st : Nat) : (d.faultRec m st).ump = d.ump := by unfold Dev.faultRec; split_ifs <;> simp
@[simp] theorem faultRec_mode (m st : Nat) : (d.faultRec m st).mode = d.mode := by unfold Dev.faultRec; split_ifs <;> simp
@[simp] theorem faultRec_gov (m st : Nat) : (d.faultRec m st).gov = d.gov := by unfold Dev.faultRec; split_ifs <;> simp
@[simp] theorem faultRec_therm (m st : Nat) : (d.faultRec m st).therm = d.therm := by unfold Dev.faultRec; split_ifs <;> simp
@[simp] theorem faultRec_clk (m st : Nat) : (d.faultRec m st).clk = d.clk := by unfold Dev.faultRec; split_ifs <;> simp
@[simp] theorem faultRec_boot (m st : Nat) : (d.faultRec m st).boot = d.boot := by unfold Dev.faultRec; split_ifs <;> simp
@[simp] theorem faultRec_cal (m st : Nat) : (d.faultRec m st).cal = d.cal := by unfold Dev.faultRec; split_ifs <;> simp
@[simp] theorem faultRec_mc (m st : Nat) : (d.faultRec m st).mc = d.mc := by unfold Dev.faultRec; split_ifs <;> simp
@[simp] theorem faultRec_geo (m st : Nat) : (d.faultRec m st).geo = d.geo := by unfold Dev.faultRec; split_ifs <;> simp
@[simp] theorem faultRec_lib (m st : Nat) : (d.faultRec m st).lib = d.lib := by unfold Dev.faultRec; split_ifs <;> simp
@[simp] theorem faultRec_layers (m st : Nat) : (d.faultRec m st).layers = d.layers := by unfold Dev.faultRec; split_ifs <;> simp
@[simp] theorem faultRec_mar (m st : Nat) : (d.faultRec m st).mar = d.mar := by unfold Dev.faultRec; split_ifs <;> simp
@[simp] theorem faultRec_eng (m st : Nat) : (d.faultRec m st).eng = d.eng := by unfold Dev.faultRec; split_ifs <;> simp
@[simp] theorem faultRec_loops (m st : Nat) : (d.faultRec m st).loops = d.loops := by unfold Dev.faultRec; split_ifs <;> simp
@[simp] theorem faultRec_melt (m st : Nat) : (d.faultRec m st).melt = d.melt := by unfold Dev.faultRec; split_ifs <;> simp
@[simp] theorem faultRec_recd (m st : Nat) : (d.faultRec m st).recd = d.recd := by unfold Dev.faultRec; split_ifs <;> simp
@[simp] theorem faultRec_links (m st : Nat) : (d.faultRec m st).links = d.links := by unfold Dev.faultRec; split_ifs <;> simp
@[simp] theorem faultRec_slides (m st : Nat) : (d.faultRec m st).slides = d.slides := by unfold Dev.faultRec; split_ifs <;> simp
@[simp] theorem faultRec_img (m st : Nat) : (d.faultRec m st).img = d.img := by unfold Dev.faultRec; split_ifs <;> simp
@[simp] theorem faultRec_time (m st : Nat) : (d.faultRec m st).time = d.time := by unfold Dev.faultRec; split_ifs <;> simp
@[simp] theorem faultRec_flash (m st : Nat) : (d.faultRec m st).flash = d.flash := by unfold Dev.faultRec; split_ifs <;> simp
@[simp] theorem faultRec_free (m st : Nat) : (d.faultRec m st).free = d.free := by unfold Dev.faultRec; split_ifs <;> simp

@[simp] theorem timeoutResp_fuses (m : Nat) : (d.timeoutResp m).fuses = d.fuses := by unfold Dev.timeoutResp; dsimp only; rw [respond_fuses]; split_ifs <;> simp
@[simp] theorem timeoutResp_pins (m : Nat) : (d.timeoutResp m).pins = d.pins := by unfold Dev.timeoutResp; dsimp only; rw [respond_pins]; split_ifs <;> simp
@[simp] theorem timeoutResp_ump (m : Nat) : (d.timeoutResp m).ump = d.ump := by unfold Dev.timeoutResp; dsimp only; rw [respond_ump]; split_ifs <;> simp
@[simp] theorem timeoutResp_mode (m : Nat) : (d.timeoutResp m).mode = d.mode := by unfold Dev.timeoutResp; dsimp only; rw [respond_mode]; split_ifs <;> simp
@[simp] theorem timeoutResp_gov (m : Nat) : (d.timeoutResp m).gov = d.gov := by unfold Dev.timeoutResp; dsimp only; rw [respond_gov]; split_ifs <;> simp
@[simp] theorem timeoutResp_therm (m : Nat) : (d.timeoutResp m).therm = d.therm := by unfold Dev.timeoutResp; dsimp only; rw [respond_therm]; split_ifs <;> simp
@[simp] theorem timeoutResp_clk (m : Nat) : (d.timeoutResp m).clk = d.clk := by unfold Dev.timeoutResp; dsimp only; rw [respond_clk]; split_ifs <;> simp
@[simp] theorem timeoutResp_boot (m : Nat) : (d.timeoutResp m).boot = d.boot := by unfold Dev.timeoutResp; dsimp only; rw [respond_boot]; split_ifs <;> simp
@[simp] theorem timeoutResp_cal (m : Nat) : (d.timeoutResp m).cal = d.cal := by unfold Dev.timeoutResp; dsimp only; rw [respond_cal]; split_ifs <;> simp
@[simp] theorem timeoutResp_mc (m : Nat) : (d.timeoutResp m).mc = d.mc := by unfold Dev.timeoutResp; dsimp only; rw [respond_mc]; split_ifs <;> simp
@[simp] theorem timeoutResp_geo (m : Nat) : (d.timeoutResp m).geo = d.geo := by unfold Dev.timeoutResp; dsimp only; rw [respond_geo]; split_ifs <;> simp
@[simp] theorem timeoutResp_lib (m : Nat) : (d.timeoutResp m).lib = d.lib := by unfold Dev.timeoutResp; dsimp only; rw [respond_lib]; split_ifs <;> simp
@[simp] theorem timeoutResp_layers (m : Nat) : (d.timeoutResp m).layers = d.layers := by unfold Dev.timeoutResp; dsimp only; rw [respond_layers]; split_ifs <;> simp
@[simp] theorem timeoutResp_mar (m : Nat) : (d.timeoutResp m).mar = d.mar := by unfold Dev.timeoutResp; dsimp only; rw [respond_mar]; split_ifs <;> simp
@[simp] theorem timeoutResp_eng (m : Nat) : (d.timeoutResp m).eng = d.eng := by unfold Dev.timeoutResp; dsimp only; rw [respond_eng]; split_ifs <;> simp
@[simp] theorem timeoutResp_loops (m : Nat) : (d.timeoutResp m).loops = d.loops := by unfold Dev.timeoutResp; dsimp only; rw [respond_loops]; split_ifs <;> simp
@[simp] theorem timeoutResp_melt (m : Nat) : (d.timeoutResp m).melt = d.melt := by unfold Dev.timeoutResp; dsimp only; rw [respond_melt]; split_ifs <;> simp
@[simp] theorem timeoutResp_recd (m : Nat) : (d.timeoutResp m).recd = d.recd := by unfold Dev.timeoutResp; dsimp only; rw [respond_recd]; split_ifs <;> simp
@[simp] theorem timeoutResp_links (m : Nat) : (d.timeoutResp m).links = d.links := by unfold Dev.timeoutResp; dsimp only; rw [respond_links]; split_ifs <;> simp
@[simp] theorem timeoutResp_slides (m : Nat) : (d.timeoutResp m).slides = d.slides := by unfold Dev.timeoutResp; dsimp only; rw [respond_slides]; split_ifs <;> simp
@[simp] theorem timeoutResp_img (m : Nat) : (d.timeoutResp m).img = d.img := by unfold Dev.timeoutResp; dsimp only; rw [respond_img]; split_ifs <;> simp
@[simp] theorem timeoutResp_time (m : Nat) : (d.timeoutResp m).time = d.time := by unfold Dev.timeoutResp; dsimp only; rw [respond_time]; split_ifs <;> simp
@[simp] theorem timeoutResp_flash (m : Nat) : (d.timeoutResp m).flash = d.flash := by unfold Dev.timeoutResp; dsimp only; rw [respond_flash]; split_ifs <;> simp
@[simp] theorem timeoutResp_free (m : Nat) : (d.timeoutResp m).free = d.free := by unfold Dev.timeoutResp; dsimp only; rw [respond_free]; split_ifs <;> simp

@[simp] theorem finish_fuses (j : Job) (st de : Nat) (r : List Byte) : (d.finish j st de r).fuses = d.fuses := by unfold Dev.finish; dsimp only; rw [refreshStarts_fuses]; split_ifs <;> simp
@[simp] theorem finish_pins (j : Job) (st de : Nat) (r : List Byte) : (d.finish j st de r).pins = d.pins := by unfold Dev.finish; dsimp only; rw [refreshStarts_pins]; split_ifs <;> simp
@[simp] theorem finish_ump (j : Job) (st de : Nat) (r : List Byte) : (d.finish j st de r).ump = d.ump := by unfold Dev.finish; dsimp only; rw [refreshStarts_ump]; split_ifs <;> simp
@[simp] theorem finish_mode (j : Job) (st de : Nat) (r : List Byte) : (d.finish j st de r).mode = d.mode := by unfold Dev.finish; dsimp only; rw [refreshStarts_mode]; split_ifs <;> simp
@[simp] theorem finish_gov (j : Job) (st de : Nat) (r : List Byte) : (d.finish j st de r).gov = d.gov := by unfold Dev.finish; dsimp only; rw [refreshStarts_gov]; split_ifs <;> simp
@[simp] theorem finish_therm (j : Job) (st de : Nat) (r : List Byte) : (d.finish j st de r).therm = d.therm := by unfold Dev.finish; dsimp only; rw [refreshStarts_therm]; split_ifs <;> simp
@[simp] theorem finish_clk (j : Job) (st de : Nat) (r : List Byte) : (d.finish j st de r).clk = d.clk := by unfold Dev.finish; dsimp only; rw [refreshStarts_clk]; split_ifs <;> simp
@[simp] theorem finish_boot (j : Job) (st de : Nat) (r : List Byte) : (d.finish j st de r).boot = d.boot := by unfold Dev.finish; dsimp only; rw [refreshStarts_boot]; split_ifs <;> simp
@[simp] theorem finish_cal (j : Job) (st de : Nat) (r : List Byte) : (d.finish j st de r).cal = d.cal := by unfold Dev.finish; dsimp only; rw [refreshStarts_cal]; split_ifs <;> simp
@[simp] theorem finish_mc (j : Job) (st de : Nat) (r : List Byte) : (d.finish j st de r).mc = d.mc := by unfold Dev.finish; dsimp only; rw [refreshStarts_mc]; split_ifs <;> simp
@[simp] theorem finish_geo (j : Job) (st de : Nat) (r : List Byte) : (d.finish j st de r).geo = d.geo := by unfold Dev.finish; dsimp only; rw [refreshStarts_geo]; split_ifs <;> simp
@[simp] theorem finish_lib (j : Job) (st de : Nat) (r : List Byte) : (d.finish j st de r).lib = d.lib := by unfold Dev.finish; dsimp only; rw [refreshStarts_lib]; split_ifs <;> simp
@[simp] theorem finish_layers (j : Job) (st de : Nat) (r : List Byte) : (d.finish j st de r).layers = d.layers := by unfold Dev.finish; dsimp only; rw [refreshStarts_layers]; split_ifs <;> simp
@[simp] theorem finish_mar (j : Job) (st de : Nat) (r : List Byte) : (d.finish j st de r).mar = d.mar := by unfold Dev.finish; dsimp only; rw [refreshStarts_mar]; split_ifs <;> simp
@[simp] theorem finish_eng (j : Job) (st de : Nat) (r : List Byte) : (d.finish j st de r).eng = d.eng := by unfold Dev.finish; dsimp only; rw [refreshStarts_eng]; split_ifs <;> simp
@[simp] theorem finish_loops (j : Job) (st de : Nat) (r : List Byte) : (d.finish j st de r).loops = d.loops := by unfold Dev.finish; dsimp only; rw [refreshStarts_loops]; split_ifs <;> simp
@[simp] theorem finish_melt (j : Job) (st de : Nat) (r : List Byte) : (d.finish j st de r).melt = d.melt := by unfold Dev.finish; dsimp only; rw [refreshStarts_melt]; split_ifs <;> simp
@[simp] theorem finish_recd (j : Job) (st de : Nat) (r : List Byte) : (d.finish j st de r).recd = d.recd := by unfold Dev.finish; dsimp only; rw [refreshStarts_recd]; split_ifs <;> simp
@[simp] theorem finish_links (j : Job) (st de : Nat) (r : List Byte) : (d.finish j st de r).links = d.links := by unfold Dev.finish; dsimp only; rw [refreshStarts_links]; split_ifs <;> simp
@[simp] theorem finish_slides (j : Job) (st de : Nat) (r : List Byte) : (d.finish j st de r).slides = d.slides := by unfold Dev.finish; dsimp only; rw [refreshStarts_slides]; split_ifs <;> simp
@[simp] theorem finish_img (j : Job) (st de : Nat) (r : List Byte) : (d.finish j st de r).img = d.img := by unfold Dev.finish; dsimp only; rw [refreshStarts_img]; split_ifs <;> simp
@[simp] theorem finish_time (j : Job) (st de : Nat) (r : List Byte) : (d.finish j st de r).time = d.time := by unfold Dev.finish; dsimp only; rw [refreshStarts_time]; split_ifs <;> simp
@[simp] theorem finish_flash (j : Job) (st de : Nat) (r : List Byte) : (d.finish j st de r).flash = d.flash := by unfold Dev.finish; dsimp only; rw [refreshStarts_flash]; split_ifs <;> simp
@[simp] theorem finish_free (j : Job) (st de : Nat) (r : List Byte) : (d.finish j st de r).free = d.free := by unfold Dev.finish; dsimp only; rw [refreshStarts_free]; split_ifs <;> simp

end Sys2Proof.Laws
end

