-- ==== Sys2Proof/Laws/PerInstr.lean ====
section
/-! SUPPORT. A law that every constructor meets, one lemma each: a command row names an opcode of the table and, when its
operands fit, a mailbox that exists (R406, R418, R577). -/

namespace Sys2Proof.Laws

open Sys2Proof.Machine

/-- A command is of the opcode table, and a well-formed one stands in mailbox 0 to 15 or the USB exchange. -/
def Formed.Statement (i : Instr) : Prop :=
  ∀ m op p, cmdOf i = some (m, op, p) → (opRow op).isSome = true ∧ (i.wf = true → m ≤ 16)

theorem left_true {a b : Bool} (h : (a && b) = true) : a = true := (Bool.and_eq_true_iff.1 h).1

theorem formed_event {i : Instr} (h : cmdOf i = none) : Formed.Statement i := by
  intro m op p e
  rw [h] at e
  cases e

theorem formed_command {i : Instr} {m op : Nat} {p : List Byte} (h : cmdOf i = some (m, op, p))
    (ho : (opRow op).isSome = true) (hm : i.wf = true → wfMbx m = true) : Formed.Statement i := by
  intro m' op' p' e
  rw [h] at e
  cases e
  exact ⟨ho, fun hw => of_decide_eq_true (hm hw)⟩

theorem Formed.oarEnable {mbx mask} : Formed.Statement (.oarEnable mbx mask) :=
  formed_command rfl rfl (fun h => left_true (h))
theorem Formed.oarDisable {mbx mask} : Formed.Statement (.oarDisable mbx mask) :=
  formed_command rfl rfl (fun h => left_true (h))
theorem Formed.oarStatus {mbx} : Formed.Statement (.oarStatus mbx) :=
  formed_command rfl rfl id
theorem Formed.oarMotion {mbx mask m} : Formed.Statement (.oarMotion mbx mask m) :=
  formed_command rfl rfl (fun h => left_true (left_true (h)))
theorem Formed.oarLatency {mbx set} : Formed.Statement (.oarLatency mbx set) :=
  formed_command rfl rfl (fun h => left_true (h))
theorem Formed.oarPowermap {mbx mask codes idle} : Formed.Statement (.oarPowermap mbx mask codes idle) :=
  formed_command rfl rfl (fun h => left_true (left_true (h)))
theorem Formed.oarPlacement {mbx mask clear} : Formed.Statement (.oarPlacement mbx mask clear) :=
  formed_command rfl rfl (fun h => left_true (h))
theorem Formed.oarMeasure {mbx mask} : Formed.Statement (.oarMeasure mbx mask) :=
  formed_command rfl rfl (fun h => left_true (h))
theorem Formed.oarCamera {mbx mask c} : Formed.Statement (.oarCamera mbx mask c) :=
  formed_command rfl rfl (fun h => left_true (left_true (h)))
theorem Formed.oarDark {mbx mask} : Formed.Statement (.oarDark mbx mask) :=
  formed_command rfl rfl (fun h => left_true (h))
theorem Formed.oarSense {mbx mask} : Formed.Statement (.oarSense mbx mask) :=
  formed_command rfl rfl (fun h => left_true (h))
theorem Formed.oarLink {mbx ports width height preset autoSleep} : Formed.Statement (.oarLink mbx ports width height preset autoSleep) :=
  formed_command rfl rfl (fun h => left_true (left_true (h)))
theorem Formed.oarLinkstat {mbx ports clear} : Formed.Statement (.oarLinkstat mbx ports clear) :=
  formed_command rfl rfl (fun h => left_true (left_true (h)))
theorem Formed.oarRetrain {mbx ports} : Formed.Statement (.oarRetrain mbx ports) :=
  formed_command rfl rfl (fun h => left_true (h))
theorem Formed.oarPower {mbx ports state} : Formed.Statement (.oarPower mbx ports state) :=
  formed_command rfl rfl (fun h => left_true (left_true (h)))
theorem Formed.oarEyescan {mbx port ph0 ph1 v0 v1 n addr} : Formed.Statement (.oarEyescan mbx port ph0 ph1 v0 v1 n addr) :=
  formed_command rfl rfl (fun h => left_true (left_true (left_true (h))))
theorem Formed.oarSvc {mbx port op addr len data} : Formed.Statement (.oarSvc mbx port op addr len data) :=
  formed_command rfl rfl (fun h => left_true (left_true (h)))
theorem Formed.fieldBed {mbx x0 y0 w h} : Formed.Statement (.fieldBed mbx x0 y0 w h) :=
  formed_command rfl rfl (fun h => left_true (h))
theorem Formed.fieldGrid {mbx g} : Formed.Statement (.fieldGrid mbx g) :=
  formed_command rfl rfl (fun h => left_true (h))
theorem Formed.fieldPolygon {mbx oar vs} : Formed.Statement (.fieldPolygon mbx oar vs) :=
  formed_command rfl rfl (fun h => left_true (left_true (left_true (h))))
theorem Formed.fieldKeepout {mbx zone mask vs} : Formed.Statement (.fieldKeepout mbx zone mask vs) :=
  formed_command rfl rfl (fun h => left_true (left_true (left_true (h))))
theorem Formed.fieldStitch {mbx pairs} : Formed.Statement (.fieldStitch mbx pairs) :=
  formed_command rfl rfl (fun h => left_true (left_true (h)))
theorem Formed.fieldMasks {mbx addr count crc} : Formed.Statement (.fieldMasks mbx addr count crc) :=
  formed_command rfl rfl (fun h => left_true (left_true (h)))
theorem Formed.fieldCommit {mbx} : Formed.Statement (.fieldCommit mbx) :=
  formed_command rfl rfl id
theorem Formed.fieldDiscard {mbx} : Formed.Statement (.fieldDiscard mbx) :=
  formed_command rfl rfl id
theorem Formed.fieldQuery {mbx which item index} : Formed.Statement (.fieldQuery mbx which item index) :=
  formed_command rfl rfl (fun h => left_true (h))
theorem Formed.fieldEligible {mbx p q maskIndex} : Formed.Statement (.fieldEligible mbx p q maskIndex) :=
  formed_command rfl rfl (fun h => left_true (left_true (h)))
theorem Formed.layerParams {mbx first count addr crc} : Formed.Statement (.layerParams mbx first count addr crc) :=
  formed_command rfl rfl (fun h => left_true (left_true (h)))
theorem Formed.layerProfiles {mbx first count addr crc} : Formed.Statement (.layerProfiles mbx first count addr crc) :=
  formed_command rfl rfl (fun h => left_true (left_true (h)))
theorem Formed.layerTargets {mbx first count addr crc} : Formed.Statement (.layerTargets mbx first count addr crc) :=
  formed_command rfl rfl (fun h => left_true (left_true (h)))
theorem Formed.layerCommit {mbx addr} : Formed.Statement (.layerCommit mbx addr) :=
  formed_command rfl rfl (fun h => left_true (h))
theorem Formed.layerCancel {mbx layer} : Formed.Statement (.layerCancel mbx layer) :=
  formed_command rfl rfl (fun h => left_true (h))
theorem Formed.layerAbandon {mbx layer} : Formed.Statement (.layerAbandon mbx layer) :=
  formed_command rfl rfl (fun h => left_true (h))
theorem Formed.layerReload {mbx layer first count} : Formed.Statement (.layerReload mbx layer first count) :=
  formed_command rfl rfl (fun h => left_true (h))
theorem Formed.layerStatus {mbx layer} : Formed.Statement (.layerStatus mbx layer) :=
  formed_command rfl rfl (fun h => left_true (h))
theorem Formed.layerReport {mbx layer} : Formed.Statement (.layerReport mbx layer) :=
  formed_command rfl rfl (fun h => left_true (h))
theorem Formed.layerLibrary {mbx kind index} : Formed.Statement (.layerLibrary mbx kind index) :=
  formed_command rfl rfl (fun h => left_true (h))
theorem Formed.marshalConfig {mbx horizon balance orphan} : Formed.Statement (.marshalConfig mbx horizon balance orphan) :=
  formed_command rfl rfl (fun h => left_true (h))
theorem Formed.marshalThermal {mbx set} : Formed.Statement (.marshalThermal mbx set) :=
  formed_command rfl rfl (fun h => left_true (h))
theorem Formed.marshalThermtable {mbx first count addr crc} : Formed.Statement (.marshalThermtable mbx first count addr crc) :=
  formed_command rfl rfl (fun h => left_true (left_true (h)))
theorem Formed.marshalStatus {mbx} : Formed.Statement (.marshalStatus mbx) :=
  formed_command rfl rfl id
theorem Formed.marshalStats {mbx layer} : Formed.Statement (.marshalStats mbx layer) :=
  formed_command rfl rfl (fun h => left_true (h))
theorem Formed.marshalInterrupted {mbx layer first count} : Formed.Statement (.marshalInterrupted mbx layer first count) :=
  formed_command rfl rfl (fun h => left_true (h))
theorem Formed.marshalWake {mbx rect} : Formed.Statement (.marshalWake mbx rect) :=
  formed_command rfl rfl (fun h => left_true (h))
theorem Formed.marshalHeat {mbx col row w h addr write} : Formed.Statement (.marshalHeat mbx col row w h addr write) :=
  formed_command rfl rfl (fun h => left_true (left_true (h)))
theorem Formed.loopConfig {mbx ds} : Formed.Statement (.loopConfig mbx ds) :=
  formed_command rfl rfl (fun h => left_true (left_true (h)))
theorem Formed.loopGains {mbx first count addr crc} : Formed.Statement (.loopGains mbx first count addr crc) :=
  formed_command rfl rfl (fun h => left_true (left_true (h)))
theorem Formed.loopCommit {mbx} : Formed.Statement (.loopCommit mbx) :=
  formed_command rfl rfl id
theorem Formed.loopMode {mbx slots state man} : Formed.Statement (.loopMode mbx slots state man) :=
  formed_command rfl rfl (fun h => left_true (left_true (left_true (h))))
theorem Formed.loopSetpoint {mbx slot value} : Formed.Statement (.loopSetpoint mbx slot value) :=
  formed_command rfl rfl (fun h => left_true (left_true (h)))
theorem Formed.loopGear {mbx enc num den} : Formed.Statement (.loopGear mbx enc num den) :=
  formed_command rfl rfl (fun h => left_true (left_true (h)))
theorem Formed.loopIo {mbx ain pwm} : Formed.Statement (.loopIo mbx ain pwm) :=
  formed_command rfl rfl (fun h => left_true (left_true (left_true (left_true (h)))))
theorem Formed.loopStatus {mbx slots} : Formed.Statement (.loopStatus mbx slots) :=
  formed_command rfl rfl (fun h => left_true (h))
theorem Formed.loopTrace {mbx slots count addr} : Formed.Statement (.loopTrace mbx slots count addr) :=
  formed_command rfl rfl (fun h => left_true (left_true (left_true (h))))
theorem Formed.loopRestore {mbx} : Formed.Statement (.loopRestore mbx) :=
  formed_command rfl rfl id
theorem Formed.slideConfig {mbx ds} : Formed.Statement (.slideConfig mbx ds) :=
  formed_command rfl rfl (fun h => left_true (left_true (h)))
theorem Formed.slideEncoder {mbx ds} : Formed.Statement (.slideEncoder mbx ds) :=
  formed_command rfl rfl (fun h => left_true (left_true (h)))
theorem Formed.slideMove {mbx axis target vMax} : Formed.Statement (.slideMove mbx axis target vMax) :=
  formed_command rfl rfl (fun h => left_true (left_true (left_true (h))))
theorem Formed.slideStop {mbx mask} : Formed.Statement (.slideStop mbx mask) :=
  formed_command rfl rfl (fun h => left_true (h))
theorem Formed.slideHome {mbx axis h} : Formed.Statement (.slideHome mbx axis h) :=
  formed_command rfl rfl (fun h => left_true (left_true (h)))
theorem Formed.slideLimits {mbx axis v a d j} : Formed.Statement (.slideLimits mbx axis v a d j) :=
  formed_command rfl rfl (fun h => left_true (h))
theorem Formed.slideSetpos {mbx axis pos} : Formed.Statement (.slideSetpos mbx axis pos) :=
  formed_command rfl rfl (fun h => left_true (left_true (h)))
theorem Formed.slideRecoat {mbx r} : Formed.Statement (.slideRecoat mbx r) :=
  formed_command rfl rfl (fun h => left_true (h))
theorem Formed.slideStatus {mbx mask} : Formed.Statement (.slideStatus mbx mask) :=
  formed_command rfl rfl (fun h => left_true (h))
theorem Formed.slideClear {mbx mask} : Formed.Statement (.slideClear mbx mask) :=
  formed_command rfl rfl (fun h => left_true (h))
theorem Formed.imageConfig {mbx c} : Formed.Statement (.imageConfig mbx c) :=
  formed_command rfl rfl (fun h => left_true (h))
theorem Formed.imageStatus {mbx} : Formed.Statement (.imageStatus mbx) :=
  formed_command rfl rfl id
theorem Formed.imageLine {mbx dir addr} : Formed.Statement (.imageLine mbx dir addr) :=
  formed_command rfl rfl (fun h => left_true (left_true (h)))
theorem Formed.ledConfig {mbx ch rsense iSet vShort} : Formed.Statement (.ledConfig mbx ch rsense iSet vShort) :=
  formed_command rfl rfl (fun h => left_true (h))
theorem Formed.ledPattern {mbx pattern steps} : Formed.Statement (.ledPattern mbx pattern steps) :=
  formed_command rfl rfl (fun h => left_true (left_true (left_true (h))))
theorem Formed.ledSet {mbx mask pattern phase map} : Formed.Statement (.ledSet mbx mask pattern phase map) :=
  formed_command rfl rfl (fun h => left_true (left_true (h)))
theorem Formed.ledLamp {mbx a} : Formed.Statement (.ledLamp mbx a) :=
  formed_command rfl rfl (fun h => left_true (h))
theorem Formed.ledStatus {mbx} : Formed.Statement (.ledStatus mbx) :=
  formed_command rfl rfl id
theorem Formed.ledClear {mbx mask} : Formed.Statement (.ledClear mbx mask) :=
  formed_command rfl rfl (fun h => left_true (h))
theorem Formed.recRing {mbx ring base size mode cb level} : Formed.Statement (.recRing mbx ring base size mode cb level) :=
  formed_command rfl rfl (fun h => left_true (left_true (h)))
theorem Formed.recTake {mbx take decim gated} : Formed.Statement (.recTake mbx take decim gated) :=
  formed_command rfl rfl (fun h => left_true (h))
theorem Formed.recConsume {mbx ring total} : Formed.Statement (.recConsume mbx ring total) :=
  formed_command rfl rfl (fun h => left_true (left_true (h)))
theorem Formed.recStatus {mbx} : Formed.Statement (.recStatus mbx) :=
  formed_command rfl rfl id
theorem Formed.recMark {mbx value} : Formed.Statement (.recMark mbx value) :=
  formed_command rfl rfl (fun h => left_true (h))
theorem Formed.memFence {mbx} : Formed.Statement (.memFence mbx) :=
  formed_command rfl rfl id
theorem Formed.memConfig {mbx order k scrub ceLimit rate} : Formed.Statement (.memConfig mbx order k scrub ceLimit rate) :=
  formed_command rfl rfl (fun h => left_true (h))
theorem Formed.memQos {mbx dma bar2 cox} : Formed.Statement (.memQos mbx dma bar2 cox) :=
  formed_command rfl rfl (fun h => left_true (h))
theorem Formed.memStatus {mbx} : Formed.Statement (.memStatus mbx) :=
  formed_command rfl rfl id
theorem Formed.memErrlog {mbx first count clear} : Formed.Statement (.memErrlog mbx first count clear) :=
  formed_command rfl rfl (fun h => left_true (h))
theorem Formed.memMigrate {mbx channel rank} : Formed.Statement (.memMigrate mbx channel rank) :=
  formed_command rfl rfl (fun h => left_true (h))
theorem Formed.memUnretire {mbx channel rank} : Formed.Statement (.memUnretire mbx channel rank) :=
  formed_command rfl rfl (fun h => left_true (h))
theorem Formed.memRetrain {mbx mask} : Formed.Statement (.memRetrain mbx mask) :=
  formed_command rfl rfl (fun h => left_true (h))
theorem Formed.memInject {mbx addr kind} : Formed.Statement (.memInject mbx addr kind) :=
  formed_command rfl rfl (fun h => left_true (left_true (h)))
theorem Formed.sysIdentify {mbx} : Formed.Statement (.sysIdentify mbx) :=
  formed_command rfl rfl id
theorem Formed.sysCq {mbx base entries} : Formed.Statement (.sysCq mbx base entries) :=
  formed_command rfl rfl (fun h => left_true (left_true (h)))
theorem Formed.sysCompletions {mbx first count} : Formed.Statement (.sysCompletions mbx first count) :=
  formed_command rfl rfl (fun h => left_true (h))
theorem Formed.sysDma {mbx ch base entries pollUs run} : Formed.Statement (.sysDma mbx ch base entries pollUs run) :=
  formed_command rfl rfl (fun h => left_true (left_true (h)))
theorem Formed.sysDmastatus {mbx mask} : Formed.Statement (.sysDmastatus mbx mask) :=
  formed_command rfl rfl (fun h => left_true (h))
theorem Formed.sysAperture {mbx base} : Formed.Statement (.sysAperture mbx base) :=
  formed_command rfl rfl (fun h => left_true (h))
theorem Formed.sysAbort {mbx target tag} : Formed.Statement (.sysAbort mbx target tag) :=
  formed_command rfl rfl (fun h => left_true (h))
theorem Formed.sysMbxstat {mbx clear} : Formed.Statement (.sysMbxstat mbx clear) :=
  formed_command rfl rfl (fun h => left_true (h))
theorem Formed.sysService {mbx on} : Formed.Statement (.sysService mbx on) :=
  formed_command rfl rfl (fun h => left_true (h))
theorem Formed.sysClockplan {mbx cox divisor} : Formed.Statement (.sysClockplan mbx cox divisor) :=
  formed_command rfl rfl (fun h => left_true (h))
theorem Formed.sysClocksrc {mbx src} : Formed.Statement (.sysClocksrc mbx src) :=
  formed_command rfl rfl (fun h => left_true (h))
theorem Formed.sysClockstat {mbx} : Formed.Statement (.sysClockstat mbx) :=
  formed_command rfl rfl id
theorem Formed.sysClockraw {mbx cox divisor frame} : Formed.Statement (.sysClockraw mbx cox divisor frame) :=
  formed_command rfl rfl (fun h => left_true (h))
theorem Formed.sysBlockreset {mbx code index} : Formed.Statement (.sysBlockreset mbx code index) :=
  formed_command rfl rfl (fun h => left_true (h))
theorem Formed.sysLadder {mbx clear} : Formed.Statement (.sysLadder mbx clear) :=
  formed_command rfl rfl (fun h => left_true (h))
theorem Formed.sysFuse {mbx field value} : Formed.Statement (.sysFuse mbx field value) :=
  formed_command rfl rfl (fun h => left_true (h))
theorem Formed.fwStage {mbx addr len crc} : Formed.Statement (.fwStage mbx addr len crc) :=
  formed_command rfl rfl (fun h => left_true (left_true (h)))
theorem Formed.fwActivate {mbx slot} : Formed.Statement (.fwActivate mbx slot) :=
  formed_command rfl rfl (fun h => left_true (h))
theorem Formed.fwStatus {mbx} : Formed.Statement (.fwStatus mbx) :=
  formed_command rfl rfl id
theorem Formed.fwCommit {mbx} : Formed.Statement (.fwCommit mbx) :=
  formed_command rfl rfl id
theorem Formed.modeHold {mbx urgent} : Formed.Statement (.modeHold mbx urgent) :=
  formed_command rfl rfl (fun h => left_true (h))
theorem Formed.modeSet {mbx target} : Formed.Statement (.modeSet mbx target) :=
  formed_command rfl rfl (fun h => left_true (h))
theorem Formed.modeStandby {mbx wake} : Formed.Statement (.modeStandby mbx wake) :=
  formed_command rfl rfl (fun h => left_true (h))
theorem Formed.modeStatus {mbx} : Formed.Statement (.modeStatus mbx) :=
  formed_command rfl rfl id
theorem Formed.modeBudget {mbx chip rest} : Formed.Statement (.modeBudget mbx chip rest) :=
  formed_command rfl rfl (fun h => left_true (left_true (h)))
theorem Formed.modeLeave {mbx clear} : Formed.Statement (.modeLeave mbx clear) :=
  formed_command rfl rfl (fun h => left_true (h))
theorem Formed.modeThermal {mbx clear} : Formed.Statement (.modeThermal mbx clear) :=
  formed_command rfl rfl (fun h => left_true (h))
theorem Formed.timePort {mbx a} : Formed.Statement (.timePort mbx a) :=
  formed_command rfl rfl (fun h => left_true (h))
theorem Formed.timeDomain {mbx a} : Formed.Statement (.timeDomain mbx a) :=
  formed_command rfl rfl (fun h => left_true (h))
theorem Formed.timeServo {mbx bw step lock slew blend} : Formed.Statement (.timeServo mbx bw step lock slew blend) :=
  formed_command rfl rfl (fun h => left_true (h))
theorem Formed.timeGang {mbx size device ports recovered skew} : Formed.Statement (.timeGang mbx size device ports recovered skew) :=
  formed_command rfl rfl (fun h => left_true (h))
theorem Formed.timeSet {mbx sec ns} : Formed.Statement (.timeSet mbx sec ns) :=
  formed_command rfl rfl (fun h => left_true (left_true (h)))
theorem Formed.timeSelect {mbx sel} : Formed.Statement (.timeSelect mbx sel) :=
  formed_command rfl rfl (fun h => left_true (h))
theorem Formed.timeStatus {mbx clear} : Formed.Statement (.timeStatus mbx clear) :=
  formed_command rfl rfl (fun h => left_true (h))
theorem Formed.timePeers {mbx clear} : Formed.Statement (.timePeers mbx clear) :=
  formed_command rfl rfl (fun h => left_true (h))
theorem Formed.safeEnter {mbx} : Formed.Statement (.safeEnter mbx) :=
  formed_command rfl rfl id
theorem Formed.safeStop {mbx mask} : Formed.Statement (.safeStop mbx mask) :=
  formed_command rfl rfl (fun h => left_true (h))
theorem Formed.safeClear {mbx} : Formed.Statement (.safeClear mbx) :=
  formed_command rfl rfl id
theorem Formed.safeRearm {mbx mask} : Formed.Statement (.safeRearm mbx mask) :=
  formed_command rfl rfl (fun h => left_true (h))
theorem Formed.safeStage {mbx addr len crc} : Formed.Statement (.safeStage mbx addr len crc) :=
  formed_command rfl rfl (fun h => left_true (left_true (h)))
theorem Formed.safeCommit {mbx digest} : Formed.Statement (.safeCommit mbx digest) :=
  formed_command rfl rfl (fun h => left_true (h))
theorem Formed.safeDiscard {mbx} : Formed.Statement (.safeDiscard mbx) :=
  formed_command rfl rfl id
theorem Formed.safeStatus {mbx} : Formed.Statement (.safeStatus mbx) :=
  formed_command rfl rfl id
theorem Formed.safeEvents {mbx first count} : Formed.Statement (.safeEvents mbx first count) :=
  formed_command rfl rfl (fun h => left_true (h))
theorem Formed.safeProof {mbx mask} : Formed.Statement (.safeProof mbx mask) :=
  formed_command rfl rfl (fun h => left_true (h))
theorem Formed.safeHoldpolicy {mbx resume} : Formed.Statement (.safeHoldpolicy mbx resume) :=
  formed_command rfl rfl (fun h => left_true (h))
theorem Formed.safeQuery {mbx which} : Formed.Statement (.safeQuery mbx which) :=
  formed_command rfl rfl (fun h => left_true (h))
theorem Formed.logRead {mbx first count} : Formed.Statement (.logRead mbx first count) :=
  formed_command rfl rfl (fun h => left_true (h))
theorem Formed.logVerify {mbx first last} : Formed.Statement (.logVerify mbx first last) :=
  formed_command rfl rfl (fun h => left_true (h))
theorem Formed.logSpoilstat {mbx clear} : Formed.Statement (.logSpoilstat mbx clear) :=
  formed_command rfl rfl (fun h => left_true (h))
theorem Formed.logNote {mbx data} : Formed.Statement (.logNote mbx data) :=
  formed_command rfl rfl (fun h => left_true (h))
theorem Formed.logDescribe {mbx source code} : Formed.Statement (.logDescribe mbx source code) :=
  formed_command rfl rfl (fun h => left_true (h))
theorem Formed.calRun {mbx blocks instances} : Formed.Statement (.calRun mbx blocks instances) :=
  formed_command rfl rfl (fun h => left_true (h))
theorem Formed.calStatus {mbx} : Formed.Statement (.calStatus mbx) :=
  formed_command rfl rfl id
theorem Formed.calFactory {mbx blocks} : Formed.Statement (.calFactory mbx blocks) :=
  formed_command rfl rfl (fun h => left_true (h))
theorem Formed.healthRecords {mbx first count} : Formed.Statement (.healthRecords mbx first count) :=
  formed_command rfl rfl (fun h => left_true (h))
theorem Formed.healthReport {mbx} : Formed.Statement (.healthReport mbx) :=
  formed_command rfl rfl id
theorem Formed.healthReplan {mbx} : Formed.Statement (.healthReplan mbx) :=
  formed_command rfl rfl id
theorem Formed.modeReq {value} : Formed.Statement (.modeReq value) := formed_event rfl
theorem Formed.hostStop {value} : Formed.Statement (.hostStop value) := formed_event rfl
theorem Formed.doorbell {mbx tag} : Formed.Statement (.doorbell mbx tag) := formed_event rfl
theorem Formed.mbxAck {mask} : Formed.Statement (.mbxAck mask) := formed_event rfl
theorem Formed.irqTest {pf1 hi value} : Formed.Statement (.irqTest pf1 hi value) := formed_event rfl
theorem Formed.irqEnable {pf1 hi value} : Formed.Statement (.irqEnable pf1 hi value) := formed_event rfl
theorem Formed.registerWrite {pf1 offset value} : Formed.Statement (.registerWrite pf1 offset value) := formed_event rfl
theorem Formed.bar2Write {offset data ecc} : Formed.Statement (.bar2Write offset data ecc) := formed_event rfl
theorem Formed.bar2Read {offset len ecc} : Formed.Statement (.bar2Read offset len ecc) := formed_event rfl
theorem Formed.recordApertureRead {offset len} : Formed.Statement (.recordApertureRead offset len) := formed_event rfl
theorem Formed.usbCommand {data} : Formed.Statement (.usbCommand data) := formed_event rfl
theorem Formed.classDeadlineExpiry {mbx} : Formed.Statement (.classDeadlineExpiry mbx) := formed_event rfl
theorem Formed.coxTaskWatchdog {core task} : Formed.Statement (.coxTaskWatchdog core task) := formed_event rfl
theorem Formed.irqHoldoffExpiry {pf1 vector} : Formed.Statement (.irqHoldoffExpiry pf1 vector) := formed_event rfl
theorem Formed.pcieLinkChange {lanes rate cfg msix} : Formed.Statement (.pcieLinkChange lanes rate cfg msix) := formed_event rfl
theorem Formed.dmaPoll {ch desc} : Formed.Statement (.dmaPoll ch desc) := formed_event rfl
theorem Formed.dmaDescriptorComplete {ch data ecc} : Formed.Statement (.dmaDescriptorComplete ch data ecc) := formed_event rfl
theorem Formed.dmaTimeout {ch} : Formed.Statement (.dmaTimeout ch) := formed_event rfl
theorem Formed.drainWaitExpiry {ch} : Formed.Statement (.drainWaitExpiry ch) := formed_event rfl
theorem Formed.lgateTransition {oar} : Formed.Statement (.lgateTransition oar) := formed_event rfl
theorem Formed.finishBackstop {oar} : Formed.Statement (.finishBackstop oar) := formed_event rfl
theorem Formed.dotSettleTimeout {oar} : Formed.Statement (.dotSettleTimeout oar) := formed_event rfl
theorem Formed.jumpPlanning {oar} : Formed.Statement (.jumpPlanning oar) := formed_event rfl
theorem Formed.jumpEnd {oar} : Formed.Statement (.jumpEnd oar) := formed_event rfl
theorem Formed.catchHoldLimit {oar} : Formed.Statement (.catchHoldLimit oar) := formed_event rfl
theorem Formed.lenRise {oar} : Formed.Statement (.lenRise oar) := formed_event rfl
theorem Formed.lenSettleExpiry {oar} : Formed.Statement (.lenSettleExpiry oar) := formed_event rfl
theorem Formed.gridBlendComplete {oar} : Formed.Statement (.gridBlendComplete oar) := formed_event rfl
theorem Formed.inPosition {axis} : Formed.Statement (.inPosition axis) := formed_event rfl
theorem Formed.loopSlotExecute {slot pv sp} : Formed.Statement (.loopSlotExecute slot pv sp) := formed_event rfl
theorem Formed.loopSlotOverrun {slot} : Formed.Statement (.loopSlotOverrun slot) := formed_event rfl
theorem Formed.loopSelfTest {proc verdict} : Formed.Statement (.loopSelfTest proc verdict) := formed_event rfl
theorem Formed.cameraExposureStart {oar} : Formed.Statement (.cameraExposureStart oar) := formed_event rfl
theorem Formed.cameraFeaturesReady {oar} : Formed.Statement (.cameraFeaturesReady oar) := formed_event rfl
theorem Formed.cameraFrameDeadline {oar} : Formed.Statement (.cameraFrameDeadline oar) := formed_event rfl
theorem Formed.controlBlockUpdate {ring} : Formed.Statement (.controlBlockUpdate ring) := formed_event rfl
theorem Formed.frameStreamRelease {oar} : Formed.Statement (.frameStreamRelease oar) := formed_event rfl
theorem Formed.returnFrame {port ps blocks} : Formed.Statement (.returnFrame port ps blocks) := formed_event rfl
theorem Formed.returnFrameMissed {port line} : Formed.Statement (.returnFrameMissed port line) := formed_event rfl
theorem Formed.linkLockLoss {port} : Formed.Statement (.linkLockLoss port) := formed_event rfl
theorem Formed.relockComplete {port} : Formed.Statement (.relockComplete port) := formed_event rfl
theorem Formed.relockTimeout {port} : Formed.Statement (.relockTimeout port) := formed_event rfl
theorem Formed.trainingPhaseEnd {port r} : Formed.Statement (.trainingPhaseEnd port r) := formed_event rfl
theorem Formed.trainingPhaseTimeout {port} : Formed.Statement (.trainingPhaseTimeout port) := formed_event rfl
theorem Formed.trainingRetry {port} : Formed.Statement (.trainingRetry port) := formed_event rfl
theorem Formed.lLinkMeasured {port} : Formed.Statement (.lLinkMeasured port) := formed_event rfl
theorem Formed.forwardedClockLoss {port shadowLocked} : Formed.Statement (.forwardedClockLoss port shadowLocked) := formed_event rfl
theorem Formed.sleepAckTimeout {port} : Formed.Statement (.sleepAckTimeout port) := formed_event rfl
theorem Formed.fastExit {port outbound} : Formed.Statement (.fastExit port outbound) := formed_event rfl
theorem Formed.eyeProbeComplete {phases volts} : Formed.Statement (.eyeProbeComplete phases volts) := formed_event rfl
theorem Formed.serviceTimeout {port tag} : Formed.Statement (.serviceTimeout port tag) := formed_event rfl
theorem Formed.limitActive {axis positive} : Formed.Statement (.limitActive axis positive) := formed_event rfl
theorem Formed.limitClear {axis positive} : Formed.Statement (.limitClear axis positive) := formed_event rfl
theorem Formed.homeEdgeQualified {axis} : Formed.Statement (.homeEdgeQualified axis) := formed_event rfl
theorem Formed.homingQualWinEnd {axis} : Formed.Statement (.homingQualWinEnd axis) := formed_event rfl
theorem Formed.encoderEdge {enc wire high} : Formed.Statement (.encoderEdge enc wire high) := formed_event rfl
theorem Formed.wireFault {enc} : Formed.Statement (.wireFault enc) := formed_event rfl
theorem Formed.wireFaultClear {enc} : Formed.Statement (.wireFaultClear enc) := formed_event rfl
theorem Formed.indexStuck {enc} : Formed.Statement (.indexStuck enc) := formed_event rfl
theorem Formed.speedObserver {enc} : Formed.Statement (.speedObserver enc) := formed_event rfl
theorem Formed.encoderStill {enc} : Formed.Statement (.encoderStill enc) := formed_event rfl
theorem Formed.strobeSenseSample {ch senseUv stringMv limiting} : Formed.Statement (.strobeSenseSample ch senseUv stringMv limiting) := formed_event rfl
theorem Formed.lampTemperature {code} : Formed.Statement (.lampTemperature code) := formed_event rfl
theorem Formed.retrainingPause {subch deltas check} : Formed.Statement (.retrainingPause subch deltas check) := formed_event rfl
theorem Formed.retrainLate {subch} : Formed.Statement (.retrainLate subch) := formed_event rfl
theorem Formed.migrationChunkCopy {channel found} : Formed.Statement (.migrationChunkCopy channel found) := formed_event rfl
theorem Formed.ptpSync {domain m} : Formed.Statement (.ptpSync domain m) := formed_event rfl
theorem Formed.ptpDelayResp {domain t4} : Formed.Statement (.ptpDelayResp domain t4) := formed_event rfl
theorem Formed.ptpAnnounce {domain m} : Formed.Statement (.ptpAnnounce domain m) := formed_event rfl
theorem Formed.ptpDelayReq {domain requester rx} : Formed.Statement (.ptpDelayReq domain requester rx) := formed_event rfl
theorem Formed.ptpMasterTx {domain announce} : Formed.Statement (.ptpMasterTx domain announce) := formed_event rfl
theorem Formed.domainLost {domain} : Formed.Statement (.domainLost domain) := formed_event rfl
theorem Formed.ethPortChange {port up} : Formed.Statement (.ethPortChange port up) := formed_event rfl
theorem Formed.arpRequest {port ip} : Formed.Statement (.arpRequest port ip) := formed_event rfl
theorem Formed.otherFrame {port kind} : Formed.Statement (.otherFrame port kind) := formed_event rfl
theorem Formed.marksReceived {port frame} : Formed.Statement (.marksReceived port frame) := formed_event rfl
theorem Formed.helloReceived {port frame rx} : Formed.Statement (.helloReceived port frame rx) := formed_event rfl
theorem Formed.peerLost {device} : Formed.Statement (.peerLost device) := formed_event rfl
theorem Formed.lalmLow {oar low} : Formed.Statement (.lalmLow oar low) := formed_event rfl
theorem Formed.monitorSample {oar code} : Formed.Statement (.monitorSample oar code) := formed_event rfl
theorem Formed.coxHeartbeat {core} : Formed.Statement (.coxHeartbeat core) := formed_event rfl
theorem Formed.voteLivenessLoss {core} : Formed.Statement (.voteLivenessLoss core) := formed_event rfl
theorem Formed.proofStart {oar} : Formed.Statement (.proofStart oar) := formed_event rfl
theorem Formed.proofStep {oar pass delayNs} : Formed.Statement (.proofStep oar pass delayNs) := formed_event rfl
theorem Formed.railOutOfWindow {rail mv} : Formed.Statement (.railOutOfWindow rail mv) := formed_event rfl
theorem Formed.railRecovered {rail} : Formed.Statement (.railRecovered rail) := formed_event rfl
theorem Formed.pllFailure {pair} : Formed.Statement (.pllFailure pair) := formed_event rfl
theorem Formed.pllRestart {pair} : Formed.Statement (.pllRestart pair) := formed_event rfl
theorem Formed.pllStandbyReady {pair} : Formed.Statement (.pllStandbyReady pair) := formed_event rfl
theorem Formed.referenceQualified {src} : Formed.Statement (.referenceQualified src) := formed_event rfl
theorem Formed.blockReleaseTimeout {code index} : Formed.Statement (.blockReleaseTimeout code index) := formed_event rfl
theorem Formed.pllLockLoss {pll} : Formed.Statement (.pllLockLoss pll) := formed_event rfl
theorem Formed.coxCoreMissing {core} : Formed.Statement (.coxCoreMissing core) := formed_event rfl
theorem Formed.homingSwitchToggle {axis} : Formed.Statement (.homingSwitchToggle axis) := formed_event rfl
theorem Formed.encoderGlitch {enc wire} : Formed.Statement (.encoderGlitch enc wire) := formed_event rfl
theorem Formed.unretireTestComplete {channel pass} : Formed.Statement (.unretireTestComplete channel pass) := formed_event rfl
theorem Formed.pcieCompletionTimeout {ch} : Formed.Statement (.pcieCompletionTimeout ch) := formed_event rfl
theorem Formed.commandAreaWrite {mbx offset data} : Formed.Statement (.commandAreaWrite mbx offset data) := formed_event rfl
theorem Formed.layerChecksComplete : Formed.Statement .layerChecksComplete := formed_event rfl
theorem Formed.perstAssert : Formed.Statement .perstAssert := formed_event rfl
theorem Formed.frameTick : Formed.Statement .frameTick := formed_event rfl
theorem Formed.dispatchCycle : Formed.Statement .dispatchCycle := formed_event rfl
theorem Formed.dispatchOverrun : Formed.Statement .dispatchOverrun := formed_event rfl
theorem Formed.leaveGrant : Formed.Statement .leaveGrant := formed_event rfl
theorem Formed.p5Revocation : Formed.Statement .p5Revocation := formed_event rfl
theorem Formed.wakeSweep : Formed.Statement .wakeSweep := formed_event rfl
theorem Formed.thermalSweep : Formed.Statement .thermalSweep := formed_event rfl
theorem Formed.repairPlaceFreed : Formed.Statement .repairPlaceFreed := formed_event rfl
theorem Formed.fenceRelease : Formed.Statement .fenceRelease := formed_event rfl
theorem Formed.fenceClose : Formed.Statement .fenceClose := formed_event rfl
theorem Formed.recoatStart : Formed.Statement .recoatStart := formed_event rfl
theorem Formed.loopMigration : Formed.Statement .loopMigration := formed_event rfl
theorem Formed.eyeProbe : Formed.Statement .eyeProbe := formed_event rfl
theorem Formed.lineStartSend : Formed.Statement .lineStartSend := formed_event rfl
theorem Formed.strobePulseStart : Formed.Statement .strobePulseStart := formed_event rfl
theorem Formed.lineDeadline : Formed.Statement .lineDeadline := formed_event rfl
theorem Formed.ledPatternTick : Formed.Statement .ledPatternTick := formed_event rfl
theorem Formed.dramRefresh : Formed.Statement .dramRefresh := formed_event rfl
theorem Formed.preferredRelockHold : Formed.Statement .preferredRelockHold := formed_event rfl
theorem Formed.keepSecondsWrite : Formed.Statement .keepSecondsWrite := formed_event rfl
theorem Formed.marksSend : Formed.Statement .marksSend := formed_event rfl
theorem Formed.helloSend : Formed.Statement .helloSend := formed_event rfl
theorem Formed.discrepancyLatch : Formed.Statement .discrepancyLatch := formed_event rfl
theorem Formed.heartbeatLoss : Formed.Statement .heartbeatLoss := formed_event rfl
theorem Formed.heartbeatAbsent1s : Formed.Statement .heartbeatAbsent1s := formed_event rfl
theorem Formed.umpireTimeResync : Formed.Statement .umpireTimeResync := formed_event rfl
theorem Formed.avsStepDownHold : Formed.Statement .avsStepDownHold := formed_event rfl
theorem Formed.coreUndervoltage : Formed.Statement .coreUndervoltage := formed_event rfl
theorem Formed.muxHandshakeBypass : Formed.Statement .muxHandshakeBypass := formed_event rfl
theorem Formed.muxSwitchAbandon : Formed.Statement .muxSwitchAbandon := formed_event rfl
theorem Formed.resetRelease : Formed.Statement .resetRelease := formed_event rfl
theorem Formed.fusePulseEnd : Formed.Statement .fusePulseEnd := formed_event rfl
theorem Formed.bootStepTimeout : Formed.Statement .bootStepTimeout := formed_event rfl
theorem Formed.vddAonLoss : Formed.Statement .vddAonLoss := formed_event rfl
theorem Formed.crystalStop : Formed.Statement .crystalStop := formed_event rfl
theorem Formed.logbookFlush : Formed.Statement .logbookFlush := formed_event rfl
theorem Formed.replanComplete : Formed.Statement .replanComplete := formed_event rfl
theorem Formed.coreVoltageRecovered : Formed.Statement .coreVoltageRecovered := formed_event rfl
theorem Formed.timeTake {value} : Formed.Statement (.timeTake value) := formed_event rfl
theorem Formed.functionLevelReset {pf1} : Formed.Statement (.functionLevelReset pf1) := formed_event rfl
theorem Formed.busTimeout {master} : Formed.Statement (.busTimeout master) := formed_event rfl
theorem Formed.leaveAnswer {req} : Formed.Statement (.leaveAnswer req) := formed_event rfl
theorem Formed.rt0BlockRead {ecc} : Formed.Statement (.rt0BlockRead ecc) := formed_event rfl
theorem Formed.strokeSenior {seq} : Formed.Statement (.strokeSenior seq) := formed_event rfl
theorem Formed.orphanTimeout {seq} : Formed.Statement (.orphanTimeout seq) := formed_event rfl
theorem Formed.patrolScrubRead {ecc} : Formed.Statement (.patrolScrubRead ecc) := formed_event rfl
theorem Formed.wakeFrame {frame} : Formed.Statement (.wakeFrame frame) := formed_event rfl
theorem Formed.estopInputChange {channelB high} : Formed.Statement (.estopInputChange channelB high) := formed_event rfl
theorem Formed.intlkInputChange {high} : Formed.Statement (.intlkInputChange high) := formed_event rfl
theorem Formed.voteComparison {differing} : Formed.Statement (.voteComparison differing) := formed_event rfl
theorem Formed.holdRecovery {ok} : Formed.Statement (.holdRecovery ok) := formed_event rfl
theorem Formed.temperatureSample {c100} : Formed.Statement (.temperatureSample c100) := formed_event rfl
theorem Formed.avsStep {answered readUv currentMa} : Formed.Statement (.avsStep answered readUv currentMa) := formed_event rfl
theorem Formed.referenceLoss {ridden src} : Formed.Statement (.referenceLoss ridden src) := formed_event rfl
theorem Formed.iroTrim {errorPpb} : Formed.Statement (.iroTrim errorPpb) := formed_event rfl
theorem Formed.clockGateTimeout {block master} : Formed.Statement (.clockGateTimeout block master) := formed_event rfl
theorem Formed.resetAssert {src} : Formed.Statement (.resetAssert src) := formed_event rfl
theorem Formed.bootStep {r} : Formed.Statement (.bootStep r) := formed_event rfl
theorem Formed.standbyWake {src} : Formed.Statement (.standbyWake src) := formed_event rfl
theorem Formed.vbatChange {applied} : Formed.Statement (.vbatChange applied) := formed_event rfl
theorem Formed.calBlockComplete {passMask} : Formed.Statement (.calBlockComplete passMask) := formed_event rfl
theorem Formed.blockFault {code} : Formed.Statement (.blockFault code) := formed_event rfl
theorem Formed.unsupportedRegisterAccess {pf1 read} : Formed.Statement (.unsupportedRegisterAccess pf1 read) := formed_event rfl
theorem Formed.spoilRelease {value} : Formed.Statement (.spoilRelease value) := formed_event rfl

end Sys2Proof.Laws
end

