-- ==== Sys2Proof/Laws/Shell.lean ====
section
/-! SUPPORT. What the shells can do: one lemma for every outcome of a command, and what an event does. -/

namespace Sys2Proof.Laws

open Sys2Proof.Machine Sys2Proof.Safety

@[simp] theorem applyOps_nil (m : Dram) : applyOps m [] = m := rfl

variable {c : Instr} {s : State} {x : Ctx} {body : Body}

/-- A command that does not stand in its mailbox, or may not start, changes nothing. -/
theorem runCmd_idle (h : s.dev.startOf c = none) : runCmd c body s = .next s := by
  simp only [runCmd, h]

/-- Steps 8 and 9 of R409 never answer FAULT. -/
theorem startRefusal_status {st de : Nat} {d : Dev} (h : d.startRefusal x = some (st, de)) : st ≠ 0x40 := by
  simp only [Dev.startRefusal] at h
  split at h
  · simp only [Option.some.injEq, Prod.mk.injEq] at h; omega
  · split at h
    · split at h
      · cases h
      · simp only [Option.some.injEq, Prod.mk.injEq] at h; omega
    · simp only [Option.some.injEq, Prod.mk.injEq] at h; omega

/-- Only FAULT files a record (R417). -/
theorem faultRec_none {d : Dev} {m st : Nat} (h : st ≠ 0x40) : d.faultRec m st = d := if_neg h

/-- R409 steps 8 and 9: only the answer changes. -/
theorem runCmd_refused {st de : Nat} (h : s.dev.startOf c = some x) (hr : s.dev.startRefusal x = some (st, de)) :
    runCmd c body s = .next (turnedAway s x st de 0) := by
  simp only [runCmd, h, hr, turnedAway, faultRec_none (startRefusal_status hr)]

/-- A command that starts has the outcome of its body, settled. -/
theorem runCmd_starts (h : Starts c s x) :
    runCmd c body s = .next (withMem s (settle x s.dev (body x s.dram s.dev))) := by
  simp only [runCmd, h.1, h.2, withMem]

theorem runCmd_ok {d : Dev} {r : List Byte} {ops : List DramOp} (h : Starts c s x)
    (hb : body x s.dram s.dev = .ok d r ops) :
    runCmd c body s = .next (withMem s (d.respond x.mbx 0 0 0 0 r, ops)) := by
  rw [runCmd_starts h, hb]; rfl

theorem runCmd_answered {d : Dev} {r : List Byte} (h : Starts c s x) (hb : body x s.dram s.dev = .ok d r []) :
    runCmd c body s = .next (answered s x d r) := by
  rw [runCmd_starts h, hb]; rfl

theorem runCmd_turnedAway {st de hint : Nat} (h : Starts c s x) (hb : body x s.dram s.dev = .refuse st de hint) :
    runCmd c body s = .next (turnedAway s x st de hint) := by
  rw [runCmd_starts h, hb]; rfl

theorem runCmd_taken {d : Dev} {hint : Nat} {k : JobKind} (h : Starts c s x)
    (hb : body x s.dram s.dev = .accepted d hint k []) : runCmd c body s = .next (taken s x d hint k) := by
  rw [runCmd_starts h, hb]; rfl

theorem runCmd_running {d : Dev} {k : JobKind} {e : Bool} (h : Starts c s x)
    (hb : body x s.dram s.dev = .executing d k e) : runCmd c body s = .next (running s x d k e) := by
  rw [runCmd_starts h, hb]; rfl

theorem onDev_live {f : Dram → Dev → Dev} (h : Live c s) :
    onDev c f s = .next (withDev s (f s.dram s.dev)) := by
  simp only [onDev, gateDev, h.1, h.2, Bool.and_self, if_true, withDev]

theorem onDevAny_awake {f : Dram → Dev → Dev} (h : s.dev.awake = true) :
    onDevAny f s = .next (withDev s (f s.dram s.dev)) := by
  simp only [onDevAny, gateDev, h, if_true, withDev]

theorem onMem_live {f : Dram → Dev → Dev × List DramOp} (h : Live c s) :
    onMem c f s = .next (withMem s (f s.dram s.dev)) := by
  simp only [onMem, gate, h.1, h.2, Bool.and_self, if_true, withMem]

theorem onMemAny_awake {f : Dram → Dev → Dev × List DramOp} (h : s.dev.awake = true) :
    onMemAny f s = .next (withMem s (f s.dram s.dev)) := by
  simp only [onMemAny, gate, h, if_true, withMem]

theorem onAon_wf {f : Dram → Dev → Dev × List DramOp} (h : c.wf = true) :
    onAon c f s = .next (withMem s (f s.dram s.dev)) := by
  simp only [onAon, gate, h, if_true, withMem]

theorem onAonAny_next {f : Dram → Dev → Dev × List DramOp} :
    onAonAny f s = .next (withMem s (f s.dram s.dev)) := by
  simp only [onAonAny, gate, if_true, withMem]

/-- Every shell answers a next state with the same queue of waiting commands. -/
theorem runCmd_next : ∃ t, runCmd c body s = .next t ∧ t.pending = s.pending := by
  unfold runCmd
  split
  · exact ⟨_, rfl, rfl⟩
  · split <;> exact ⟨_, rfl, rfl⟩

theorem gate_next {ok : Bool} {f : Dram → Dev → Dev × List DramOp} :
    ∃ t, gate ok f s = .next t ∧ t.pending = s.pending := by
  cases ok <;> exact ⟨_, rfl, rfl⟩

theorem gateDev_next {ok : Bool} {f : Dram → Dev → Dev} :
    ∃ t, gateDev ok f s = .next t ∧ t.pending = s.pending ∧ t.dram = s.dram := by
  cases ok <;> exact ⟨_, rfl, rfl, rfl⟩

/-- The issuer of a command that starts is what its row says (R407). -/
theorem startOf_row {m op : Nat} {p : List Byte} (hc : cmdOf c = some (m, op, p)) (h : s.dev.startOf c = some x) :
    x.mbx = m ∧ x.opcode = op := by
  simp only [Dev.startOf, hc] at h
  split at h
  · cases h; exact ⟨rfl, rfl⟩
  · cases h

end Sys2Proof.Laws
end

