-- ==== Sys2Proof/Laws/State.lean ====
section
/-! SUPPORT. One lemma per field of the device per update of one of its parts. -/

namespace Sys2Proof.Laws

open Sys2Proof.Machine

variable (d : Dev)

@[simp] theorem onClk_host (f : Clocks → Clocks) : (d.onClk f).host = d.host := rfl
@[simp] theorem onClk_logs (f : Clocks → Clocks) : (d.onClk f).logs = d.logs := rfl
@[simp] theorem onClk_fuses (f : Clocks → Clocks) : (d.onClk f).fuses = d.fuses := rfl
@[simp] theorem onClk_pins (f : Clocks → Clocks) : (d.onClk f).pins = d.pins := rfl
@[simp] theorem onClk_ump (f : Clocks → Clocks) : (d.onClk f).ump = d.ump := rfl
@[simp] theorem onClk_mode (f : Clocks → Clocks) : (d.onClk f).mode = d.mode := rfl
@[simp] theorem onClk_gov (f : Clocks → Clocks) : (d.onClk f).gov = d.gov := rfl
@[simp] theorem onClk_therm (f : Clocks → Clocks) : (d.onClk f).therm = d.therm := rfl
@[simp] theorem onClk_clk (f : Clocks → Clocks) : (d.onClk f).clk = f d.clk := rfl
@[simp] theorem onClk_boot (f : Clocks → Clocks) : (d.onClk f).boot = d.boot := rfl
@[simp] theorem onClk_cal (f : Clocks → Clocks) : (d.onClk f).cal = d.cal := rfl
@[simp] theorem onClk_mc (f : Clocks → Clocks) : (d.onClk f).mc = d.mc := rfl
@[simp] theorem onClk_geo (f : Clocks → Clocks) : (d.onClk f).geo = d.geo := rfl
@[simp] theorem onClk_lib (f : Clocks → Clocks) : (d.onClk f).lib = d.lib := rfl
@[simp] theorem onClk_layers (f : Clocks → Clocks) : (d.onClk f).layers = d.layers := rfl
@[simp] theorem onClk_mar (f : Clocks → Clocks) : (d.onClk f).mar = d.mar := rfl
@[simp] theorem onClk_eng (f : Clocks → Clocks) : (d.onClk f).eng = d.eng := rfl
@[simp] theorem onClk_loops (f : Clocks → Clocks) : (d.onClk f).loops = d.loops := rfl
@[simp] theorem onClk_melt (f : Clocks → Clocks) : (d.onClk f).melt = d.melt := rfl
@[simp] theorem onClk_recd (f : Clocks → Clocks) : (d.onClk f).recd = d.recd := rfl
@[simp] theorem onClk_links (f : Clocks → Clocks) : (d.onClk f).links = d.links := rfl
@[simp] theorem onClk_slides (f : Clocks → Clocks) : (d.onClk f).slides = d.slides := rfl
@[simp] theorem onClk_img (f : Clocks → Clocks) : (d.onClk f).img = d.img := rfl
@[simp] theorem onClk_time (f : Clocks → Clocks) : (d.onClk f).time = d.time := rfl
@[simp] theorem onClk_flash (f : Clocks → Clocks) : (d.onClk f).flash = d.flash := rfl
@[simp] theorem onClk_free (f : Clocks → Clocks) : (d.onClk f).free = d.free := rfl

@[simp] theorem onTherm_host (f : Thermal → Thermal) : (d.onTherm f).host = d.host := rfl
@[simp] theorem onTherm_logs (f : Thermal → Thermal) : (d.onTherm f).logs = d.logs := rfl
@[simp] theorem onTherm_fuses (f : Thermal → Thermal) : (d.onTherm f).fuses = d.fuses := rfl
@[simp] theorem onTherm_pins (f : Thermal → Thermal) : (d.onTherm f).pins = d.pins := rfl
@[simp] theorem onTherm_ump (f : Thermal → Thermal) : (d.onTherm f).ump = d.ump := rfl
@[simp] theorem onTherm_mode (f : Thermal → Thermal) : (d.onTherm f).mode = d.mode := rfl
@[simp] theorem onTherm_gov (f : Thermal → Thermal) : (d.onTherm f).gov = d.gov := rfl
@[simp] theorem onTherm_therm (f : Thermal → Thermal) : (d.onTherm f).therm = f d.therm := rfl
@[simp] theorem onTherm_clk (f : Thermal → Thermal) : (d.onTherm f).clk = d.clk := rfl
@[simp] theorem onTherm_boot (f : Thermal → Thermal) : (d.onTherm f).boot = d.boot := rfl
@[simp] theorem onTherm_cal (f : Thermal → Thermal) : (d.onTherm f).cal = d.cal := rfl
@[simp] theorem onTherm_mc (f : Thermal → Thermal) : (d.onTherm f).mc = d.mc := rfl
@[simp] theorem onTherm_geo (f : Thermal → Thermal) : (d.onTherm f).geo = d.geo := rfl
@[simp] theorem onTherm_lib (f : Thermal → Thermal) : (d.onTherm f).lib = d.lib := rfl
@[simp] theorem onTherm_layers (f : Thermal → Thermal) : (d.onTherm f).layers = d.layers := rfl
@[simp] theorem onTherm_mar (f : Thermal → Thermal) : (d.onTherm f).mar = d.mar := rfl
@[simp] theorem onTherm_eng (f : Thermal → Thermal) : (d.onTherm f).eng = d.eng := rfl
@[simp] theorem onTherm_loops (f : Thermal → Thermal) : (d.onTherm f).loops = d.loops := rfl
@[simp] theorem onTherm_melt (f : Thermal → Thermal) : (d.onTherm f).melt = d.melt := rfl
@[simp] theorem onTherm_recd (f : Thermal → Thermal) : (d.onTherm f).recd = d.recd := rfl
@[simp] theorem onTherm_links (f : Thermal → Thermal) : (d.onTherm f).links = d.links := rfl
@[simp] theorem onTherm_slides (f : Thermal → Thermal) : (d.onTherm f).slides = d.slides := rfl
@[simp] theorem onTherm_img (f : Thermal → Thermal) : (d.onTherm f).img = d.img := rfl
@[simp] theorem onTherm_time (f : Thermal → Thermal) : (d.onTherm f).time = d.time := rfl
@[simp] theorem onTherm_flash (f : Thermal → Thermal) : (d.onTherm f).flash = d.flash := rfl
@[simp] theorem onTherm_free (f : Thermal → Thermal) : (d.onTherm f).free = d.free := rfl

@[simp] theorem onChan_host (c : Nat) (f : DramChan → DramChan) : (d.onChan c f).host = d.host := rfl
@[simp] theorem onChan_logs (c : Nat) (f : DramChan → DramChan) : (d.onChan c f).logs = d.logs := rfl
@[simp] theorem onChan_fuses (c : Nat) (f : DramChan → DramChan) : (d.onChan c f).fuses = d.fuses := rfl
@[simp] theorem onChan_pins (c : Nat) (f : DramChan → DramChan) : (d.onChan c f).pins = d.pins := rfl
@[simp] theorem onChan_ump (c : Nat) (f : DramChan → DramChan) : (d.onChan c f).ump = d.ump := rfl
@[simp] theorem onChan_mode (c : Nat) (f : DramChan → DramChan) : (d.onChan c f).mode = d.mode := rfl
@[simp] theorem onChan_gov (c : Nat) (f : DramChan → DramChan) : (d.onChan c f).gov = d.gov := rfl
@[simp] theorem onChan_therm (c : Nat) (f : DramChan → DramChan) : (d.onChan c f).therm = d.therm := rfl
@[simp] theorem onChan_clk (c : Nat) (f : DramChan → DramChan) : (d.onChan c f).clk = d.clk := rfl
@[simp] theorem onChan_boot (c : Nat) (f : DramChan → DramChan) : (d.onChan c f).boot = d.boot := rfl
@[simp] theorem onChan_cal (c : Nat) (f : DramChan → DramChan) : (d.onChan c f).cal = d.cal := rfl
@[simp] theorem onChan_mc (c : Nat) (f : DramChan → DramChan) : (d.onChan c f).mc = { d.mc with chans := upd d.mc.chans c f } := rfl
@[simp] theorem onChan_geo (c : Nat) (f : DramChan → DramChan) : (d.onChan c f).geo = d.geo := rfl
@[simp] theorem onChan_lib (c : Nat) (f : DramChan → DramChan) : (d.onChan c f).lib = d.lib := rfl
@[simp] theorem onChan_layers (c : Nat) (f : DramChan → DramChan) : (d.onChan c f).layers = d.layers := rfl
@[simp] theorem onChan_mar (c : Nat) (f : DramChan → DramChan) : (d.onChan c f).mar = d.mar := rfl
@[simp] theorem onChan_eng (c : Nat) (f : DramChan → DramChan) : (d.onChan c f).eng = d.eng := rfl
@[simp] theorem onChan_loops (c : Nat) (f : DramChan → DramChan) : (d.onChan c f).loops = d.loops := rfl
@[simp] theorem onChan_melt (c : Nat) (f : DramChan → DramChan) : (d.onChan c f).melt = d.melt := rfl
@[simp] theorem onChan_recd (c : Nat) (f : DramChan → DramChan) : (d.onChan c f).recd = d.recd := rfl
@[simp] theorem onChan_links (c : Nat) (f : DramChan → DramChan) : (d.onChan c f).links = d.links := rfl
@[simp] theorem onChan_slides (c : Nat) (f : DramChan → DramChan) : (d.onChan c f).slides = d.slides := rfl
@[simp] theorem onChan_img (c : Nat) (f : DramChan → DramChan) : (d.onChan c f).img = d.img := rfl
@[simp] theorem onChan_time (c : Nat) (f : DramChan → DramChan) : (d.onChan c f).time = d.time := rfl
@[simp] theorem onChan_flash (c : Nat) (f : DramChan → DramChan) : (d.onChan c f).flash = d.flash := rfl
@[simp] theorem onChan_free (c : Nat) (f : DramChan → DramChan) : (d.onChan c f).free = d.free := rfl

@[simp] theorem onStaged_host (f : Geometry → Geometry) : (d.onStaged f).host = d.host := rfl
@[simp] theorem onStaged_logs (f : Geometry → Geometry) : (d.onStaged f).logs = d.logs := rfl
@[simp] theorem onStaged_fuses (f : Geometry → Geometry) : (d.onStaged f).fuses = d.fuses := rfl
@[simp] theorem onStaged_pins (f : Geometry → Geometry) : (d.onStaged f).pins = d.pins := rfl
@[simp] theorem onStaged_ump (f : Geometry → Geometry) : (d.onStaged f).ump = d.ump := rfl
@[simp] theorem onStaged_mode (f : Geometry → Geometry) : (d.onStaged f).mode = d.mode := rfl
@[simp] theorem onStaged_gov (f : Geometry → Geometry) : (d.onStaged f).gov = d.gov := rfl
@[simp] theorem onStaged_therm (f : Geometry → Geometry) : (d.onStaged f).therm = d.therm := rfl
@[simp] theorem onStaged_clk (f : Geometry → Geometry) : (d.onStaged f).clk = d.clk := rfl
@[simp] theorem onStaged_boot (f : Geometry → Geometry) : (d.onStaged f).boot = d.boot := rfl
@[simp] theorem onStaged_cal (f : Geometry → Geometry) : (d.onStaged f).cal = d.cal := rfl
@[simp] theorem onStaged_mc (f : Geometry → Geometry) : (d.onStaged f).mc = d.mc := rfl
@[simp] theorem onStaged_geo (f : Geometry → Geometry) : (d.onStaged f).geo = { d.geo with staged := f d.geo.staged } := rfl
@[simp] theorem onStaged_lib (f : Geometry → Geometry) : (d.onStaged f).lib = d.lib := rfl
@[simp] theorem onStaged_layers (f : Geometry → Geometry) : (d.onStaged f).layers = d.layers := rfl
@[simp] theorem onStaged_mar (f : Geometry → Geometry) : (d.onStaged f).mar = d.mar := rfl
@[simp] theorem onStaged_eng (f : Geometry → Geometry) : (d.onStaged f).eng = d.eng := rfl
@[simp] theorem onStaged_loops (f : Geometry → Geometry) : (d.onStaged f).loops = d.loops := rfl
@[simp] theorem onStaged_melt (f : Geometry → Geometry) : (d.onStaged f).melt = d.melt := rfl
@[simp] theorem onStaged_recd (f : Geometry → Geometry) : (d.onStaged f).recd = d.recd := rfl
@[simp] theorem onStaged_links (f : Geometry → Geometry) : (d.onStaged f).links = d.links := rfl
@[simp] theorem onStaged_slides (f : Geometry → Geometry) : (d.onStaged f).slides = d.slides := rfl
@[simp] theorem onStaged_img (f : Geometry → Geometry) : (d.onStaged f).img = d.img := rfl
@[simp] theorem onStaged_time (f : Geometry → Geometry) : (d.onStaged f).time = d.time := rfl
@[simp] theorem onStaged_flash (f : Geometry → Geometry) : (d.onStaged f).flash = d.flash := rfl
@[simp] theorem onStaged_free (f : Geometry → Geometry) : (d.onStaged f).free = d.free := rfl

@[simp] theorem onMelt_host (k : Nat) (f : Melt → Melt) : (d.onMelt k f).host = d.host := rfl
@[simp] theorem onMelt_logs (k : Nat) (f : Melt → Melt) : (d.onMelt k f).logs = d.logs := rfl
@[simp] theorem onMelt_fuses (k : Nat) (f : Melt → Melt) : (d.onMelt k f).fuses = d.fuses := rfl
@[simp] theorem onMelt_pins (k : Nat) (f : Melt → Melt) : (d.onMelt k f).pins = d.pins := rfl
@[simp] theorem onMelt_ump (k : Nat) (f : Melt → Melt) : (d.onMelt k f).ump = d.ump := rfl
@[simp] theorem onMelt_mode (k : Nat) (f : Melt → Melt) : (d.onMelt k f).mode = d.mode := rfl
@[simp] theorem onMelt_gov (k : Nat) (f : Melt → Melt) : (d.onMelt k f).gov = d.gov := rfl
@[simp] theorem onMelt_therm (k : Nat) (f : Melt → Melt) : (d.onMelt k f).therm = d.therm := rfl
@[simp] theorem onMelt_clk (k : Nat) (f : Melt → Melt) : (d.onMelt k f).clk = d.clk := rfl
@[simp] theorem onMelt_boot (k : Nat) (f : Melt → Melt) : (d.onMelt k f).boot = d.boot := rfl
@[simp] theorem onMelt_cal (k : Nat) (f : Melt → Melt) : (d.onMelt k f).cal = d.cal := rfl
@[simp] theorem onMelt_mc (k : Nat) (f : Melt → Melt) : (d.onMelt k f).mc = d.mc := rfl
@[simp] theorem onMelt_geo (k : Nat) (f : Melt → Melt) : (d.onMelt k f).geo = d.geo := rfl
@[simp] theorem onMelt_lib (k : Nat) (f : Melt → Melt) : (d.onMelt k f).lib = d.lib := rfl
@[simp] theorem onMelt_layers (k : Nat) (f : Melt → Melt) : (d.onMelt k f).layers = d.layers := rfl
@[simp] theorem onMelt_mar (k : Nat) (f : Melt → Melt) : (d.onMelt k f).mar = d.mar := rfl
@[simp] theorem onMelt_eng (k : Nat) (f : Melt → Melt) : (d.onMelt k f).eng = d.eng := rfl
@[simp] theorem onMelt_loops (k : Nat) (f : Melt → Melt) : (d.onMelt k f).loops = d.loops := rfl
@[simp] theorem onMelt_melt (k : Nat) (f : Melt → Melt) : (d.onMelt k f).melt = upd d.melt k f := rfl
@[simp] theorem onMelt_recd (k : Nat) (f : Melt → Melt) : (d.onMelt k f).recd = d.recd := rfl
@[simp] theorem onMelt_links (k : Nat) (f : Melt → Melt) : (d.onMelt k f).links = d.links := rfl
@[simp] theorem onMelt_slides (k : Nat) (f : Melt → Melt) : (d.onMelt k f).slides = d.slides := rfl
@[simp] theorem onMelt_img (k : Nat) (f : Melt → Melt) : (d.onMelt k f).img = d.img := rfl
@[simp] theorem onMelt_time (k : Nat) (f : Melt → Melt) : (d.onMelt k f).time = d.time := rfl
@[simp] theorem onMelt_flash (k : Nat) (f : Melt → Melt) : (d.onMelt k f).flash = d.flash := rfl
@[simp] theorem onMelt_free (k : Nat) (f : Melt → Melt) : (d.onMelt k f).free = d.free := rfl

@[simp] theorem onMbx_host (m : Nat) (f : Mailbox → Mailbox) : (d.onMbx m f).host = { d.host with mbx := upd d.host.mbx m f } := rfl
@[simp] theorem onMbx_logs (m : Nat) (f : Mailbox → Mailbox) : (d.onMbx m f).logs = d.logs := rfl
@[simp] theorem onMbx_fuses (m : Nat) (f : Mailbox → Mailbox) : (d.onMbx m f).fuses = d.fuses := rfl
@[simp] theorem onMbx_pins (m : Nat) (f : Mailbox → Mailbox) : (d.onMbx m f).pins = d.pins := rfl
@[simp] theorem onMbx_ump (m : Nat) (f : Mailbox → Mailbox) : (d.onMbx m f).ump = d.ump := rfl
@[simp] theorem onMbx_mode (m : Nat) (f : Mailbox → Mailbox) : (d.onMbx m f).mode = d.mode := rfl
@[simp] theorem onMbx_gov (m : Nat) (f : Mailbox → Mailbox) : (d.onMbx m f).gov = d.gov := rfl
@[simp] theorem onMbx_therm (m : Nat) (f : Mailbox → Mailbox) : (d.onMbx m f).therm = d.therm := rfl
@[simp] theorem onMbx_clk (m : Nat) (f : Mailbox → Mailbox) : (d.onMbx m f).clk = d.clk := rfl
@[simp] theorem onMbx_boot (m : Nat) (f : Mailbox → Mailbox) : (d.onMbx m f).boot = d.boot := rfl
@[simp] theorem onMbx_cal (m : Nat) (f : Mailbox → Mailbox) : (d.onMbx m f).cal = d.cal := rfl
@[simp] theorem onMbx_mc (m : Nat) (f : Mailbox → Mailbox) : (d.onMbx m f).mc = d.mc := rfl
@[simp] theorem onMbx_geo (m : Nat) (f : Mailbox → Mailbox) : (d.onMbx m f).geo = d.geo := rfl
@[simp] theorem onMbx_lib (m : Nat) (f : Mailbox → Mailbox) : (d.onMbx m f).lib = d.lib := rfl
@[simp] theorem onMbx_layers (m : Nat) (f : Mailbox → Mailbox) : (d.onMbx m f).layers = d.layers := rfl
@[simp] theorem onMbx_mar (m : Nat) (f : Mailbox → Mailbox) : (d.onMbx m f).mar = d.mar := rfl
@[simp] theorem onMbx_eng (m : Nat) (f : Mailbox → Mailbox) : (d.onMbx m f).eng = d.eng := rfl
@[simp] theorem onMbx_loops (m : Nat) (f : Mailbox → Mailbox) : (d.onMbx m f).loops = d.loops := rfl
@[simp] theorem onMbx_melt (m : Nat) (f : Mailbox → Mailbox) : (d.onMbx m f).melt = d.melt := rfl
@[simp] theorem onMbx_recd (m : Nat) (f : Mailbox → Mailbox) : (d.onMbx m f).recd = d.recd := rfl
@[simp] theorem onMbx_links (m : Nat) (f : Mailbox → Mailbox) : (d.onMbx m f).links = d.links := rfl
@[simp] theorem onMbx_slides (m : Nat) (f : Mailbox → Mailbox) : (d.onMbx m f).slides = d.slides := rfl
@[simp] theorem onMbx_img (m : Nat) (f : Mailbox → Mailbox) : (d.onMbx m f).img = d.img := rfl
@[simp] theorem onMbx_time (m : Nat) (f : Mailbox → Mailbox) : (d.onMbx m f).time = d.time := rfl
@[simp] theorem onMbx_flash (m : Nat) (f : Mailbox → Mailbox) : (d.onMbx m f).flash = d.flash := rfl
@[simp] theorem onMbx_free (m : Nat) (f : Mailbox → Mailbox) : (d.onMbx m f).free = d.free := rfl

@[simp] theorem onIrqRegs_logs (p : Bool) (f : Irq → Irq) : (d.onIrqRegs p f).logs = d.logs := by cases p <;> rfl
@[simp] theorem onIrqRegs_fuses (p : Bool) (f : Irq → Irq) : (d.onIrqRegs p f).fuses = d.fuses := by cases p <;> rfl
@[simp] theorem onIrqRegs_pins (p : Bool) (f : Irq → Irq) : (d.onIrqRegs p f).pins = d.pins := by cases p <;> rfl
@[simp] theorem onIrqRegs_ump (p : Bool) (f : Irq → Irq) : (d.onIrqRegs p f).ump = d.ump := by cases p <;> rfl
@[simp] theorem onIrqRegs_mode (p : Bool) (f : Irq → Irq) : (d.onIrqRegs p f).mode = d.mode := by cases p <;> rfl
@[simp] theorem onIrqRegs_gov (p : Bool) (f : Irq → Irq) : (d.onIrqRegs p f).gov = d.gov := by cases p <;> rfl
@[simp] theorem onIrqRegs_therm (p : Bool) (f : Irq → Irq) : (d.onIrqRegs p f).therm = d.therm := by cases p <;> rfl
@[simp] theorem onIrqRegs_clk (p : Bool) (f : Irq → Irq) : (d.onIrqRegs p f).clk = d.clk := by cases p <;> rfl
@[simp] theorem onIrqRegs_boot (p : Bool) (f : Irq → Irq) : (d.onIrqRegs p f).boot = d.boot := by cases p <;> rfl
@[simp] theorem onIrqRegs_cal (p : Bool) (f : Irq → Irq) : (d.onIrqRegs p f).cal = d.cal := by cases p <;> rfl
@[simp] theorem onIrqRegs_mc (p : Bool) (f : Irq → Irq) : (d.onIrqRegs p f).mc = d.mc := by cases p <;> rfl
@[simp] theorem onIrqRegs_geo (p : Bool) (f : Irq → Irq) : (d.onIrqRegs p f).geo = d.geo := by cases p <;> rfl
@[simp] theorem onIrqRegs_lib (p : Bool) (f : Irq → Irq) : (d.onIrqRegs p f).lib = d.lib := by cases p <;> rfl
@[simp] theorem onIrqRegs_layers (p : Bool) (f : Irq → Irq) : (d.onIrqRegs p f).layers = d.layers := by cases p <;> rfl
@[simp] theorem onIrqRegs_mar (p : Bool) (f : Irq → Irq) : (d.onIrqRegs p f).mar = d.mar := by cases p <;> rfl
@[simp] theorem onIrqRegs_eng (p : Bool) (f : Irq → Irq) : (d.onIrqRegs p f).eng = d.eng := by cases p <;> rfl
@[simp] theorem onIrqRegs_loops (p : Bool) (f : Irq → Irq) : (d.onIrqRegs p f).loops = d.loops := by cases p <;> rfl
@[simp] theorem onIrqRegs_melt (p : Bool) (f : Irq → Irq) : (d.onIrqRegs p f).melt = d.melt := by cases p <;> rfl
@[simp] theorem onIrqRegs_recd (p : Bool) (f : Irq → Irq) : (d.onIrqRegs p f).recd = d.recd := by cases p <;> rfl
@[simp] theorem onIrqRegs_links (p : Bool) (f : Irq → Irq) : (d.onIrqRegs p f).links = d.links := by cases p <;> rfl
@[simp] theorem onIrqRegs_slides (p : Bool) (f : Irq → Irq) : (d.onIrqRegs p f).slides = d.slides := by cases p <;> rfl
@[simp] theorem onIrqRegs_img (p : Bool) (f : Irq → Irq) : (d.onIrqRegs p f).img = d.img := by cases p <;> rfl
@[simp] theorem onIrqRegs_time (p : Bool) (f : Irq → Irq) : (d.onIrqRegs p f).time = d.time := by cases p <;> rfl
@[simp] theorem onIrqRegs_flash (p : Bool) (f : Irq → Irq) : (d.onIrqRegs p f).flash = d.flash := by cases p <;> rfl
@[simp] theorem onIrqRegs_free (p : Bool) (f : Irq → Irq) : (d.onIrqRegs p f).free = d.free := by cases p <;> rfl

@[simp] theorem onDma_host (c : Nat) (f : DmaChan → DmaChan) : (d.onDma c f).host = { d.host with dma := upd d.host.dma c f } := rfl
@[simp] theorem onDma_logs (c : Nat) (f : DmaChan → DmaChan) : (d.onDma c f).logs = d.logs := rfl
@[simp] theorem onDma_fuses (c : Nat) (f : DmaChan → DmaChan) : (d.onDma c f).fuses = d.fuses := rfl
@[simp] theorem onDma_pins (c : Nat) (f : DmaChan → DmaChan) : (d.onDma c f).pins = d.pins := rfl
@[simp] theorem onDma_ump (c : Nat) (f : DmaChan → DmaChan) : (d.onDma c f).ump = d.ump := rfl
@[simp] theorem onDma_mode (c : Nat) (f : DmaChan → DmaChan) : (d.onDma c f).mode = d.mode := rfl
@[simp] theorem onDma_gov (c : Nat) (f : DmaChan → DmaChan) : (d.onDma c f).gov = d.gov := rfl
@[simp] theorem onDma_therm (c : Nat) (f : DmaChan → DmaChan) : (d.onDma c f).therm = d.therm := rfl
@[simp] theorem onDma_clk (c : Nat) (f : DmaChan → DmaChan) : (d.onDma c f).clk = d.clk := rfl
@[simp] theorem onDma_boot (c : Nat) (f : DmaChan → DmaChan) : (d.onDma c f).boot = d.boot := rfl
@[simp] theorem onDma_cal (c : Nat) (f : DmaChan → DmaChan) : (d.onDma c f).cal = d.cal := rfl
@[simp] theorem onDma_mc (c : Nat) (f : DmaChan → DmaChan) : (d.onDma c f).mc = d.mc := rfl
@[simp] theorem onDma_geo (c : Nat) (f : DmaChan → DmaChan) : (d.onDma c f).geo = d.geo := rfl
@[simp] theorem onDma_lib (c : Nat) (f : DmaChan → DmaChan) : (d.onDma c f).lib = d.lib := rfl
@[simp] theorem onDma_layers (c : Nat) (f : DmaChan → DmaChan) : (d.onDma c f).layers = d.layers := rfl
@[simp] theorem onDma_mar (c : Nat) (f : DmaChan → DmaChan) : (d.onDma c f).mar = d.mar := rfl
@[simp] theorem onDma_eng (c : Nat) (f : DmaChan → DmaChan) : (d.onDma c f).eng = d.eng := rfl
@[simp] theorem onDma_loops (c : Nat) (f : DmaChan → DmaChan) : (d.onDma c f).loops = d.loops := rfl
@[simp] theorem onDma_melt (c : Nat) (f : DmaChan → DmaChan) : (d.onDma c f).melt = d.melt := rfl
@[simp] theorem onDma_recd (c : Nat) (f : DmaChan → DmaChan) : (d.onDma c f).recd = d.recd := rfl
@[simp] theorem onDma_links (c : Nat) (f : DmaChan → DmaChan) : (d.onDma c f).links = d.links := rfl
@[simp] theorem onDma_slides (c : Nat) (f : DmaChan → DmaChan) : (d.onDma c f).slides = d.slides := rfl
@[simp] theorem onDma_img (c : Nat) (f : DmaChan → DmaChan) : (d.onDma c f).img = d.img := rfl
@[simp] theorem onDma_time (c : Nat) (f : DmaChan → DmaChan) : (d.onDma c f).time = d.time := rfl
@[simp] theorem onDma_flash (c : Nat) (f : DmaChan → DmaChan) : (d.onDma c f).flash = d.flash := rfl
@[simp] theorem onDma_free (c : Nat) (f : DmaChan → DmaChan) : (d.onDma c f).free = d.free := rfl

@[simp] theorem onImg_host (f : Imaging → Imaging) : (d.onImg f).host = d.host := rfl
@[simp] theorem onImg_logs (f : Imaging → Imaging) : (d.onImg f).logs = d.logs := rfl
@[simp] theorem onImg_fuses (f : Imaging → Imaging) : (d.onImg f).fuses = d.fuses := rfl
@[simp] theorem onImg_pins (f : Imaging → Imaging) : (d.onImg f).pins = d.pins := rfl
@[simp] theorem onImg_ump (f : Imaging → Imaging) : (d.onImg f).ump = d.ump := rfl
@[simp] theorem onImg_mode (f : Imaging → Imaging) : (d.onImg f).mode = d.mode := rfl
@[simp] theorem onImg_gov (f : Imaging → Imaging) : (d.onImg f).gov = d.gov := rfl
@[simp] theorem onImg_therm (f : Imaging → Imaging) : (d.onImg f).therm = d.therm := rfl
@[simp] theorem onImg_clk (f : Imaging → Imaging) : (d.onImg f).clk = d.clk := rfl
@[simp] theorem onImg_boot (f : Imaging → Imaging) : (d.onImg f).boot = d.boot := rfl
@[simp] theorem onImg_cal (f : Imaging → Imaging) : (d.onImg f).cal = d.cal := rfl
@[simp] theorem onImg_mc (f : Imaging → Imaging) : (d.onImg f).mc = d.mc := rfl
@[simp] theorem onImg_geo (f : Imaging → Imaging) : (d.onImg f).geo = d.geo := rfl
@[simp] theorem onImg_lib (f : Imaging → Imaging) : (d.onImg f).lib = d.lib := rfl
@[simp] theorem onImg_layers (f : Imaging → Imaging) : (d.onImg f).layers = d.layers := rfl
@[simp] theorem onImg_mar (f : Imaging → Imaging) : (d.onImg f).mar = d.mar := rfl
@[simp] theorem onImg_eng (f : Imaging → Imaging) : (d.onImg f).eng = d.eng := rfl
@[simp] theorem onImg_loops (f : Imaging → Imaging) : (d.onImg f).loops = d.loops := rfl
@[simp] theorem onImg_melt (f : Imaging → Imaging) : (d.onImg f).melt = d.melt := rfl
@[simp] theorem onImg_recd (f : Imaging → Imaging) : (d.onImg f).recd = d.recd := rfl
@[simp] theorem onImg_links (f : Imaging → Imaging) : (d.onImg f).links = d.links := rfl
@[simp] theorem onImg_slides (f : Imaging → Imaging) : (d.onImg f).slides = d.slides := rfl
@[simp] theorem onImg_img (f : Imaging → Imaging) : (d.onImg f).img = f d.img := rfl
@[simp] theorem onImg_time (f : Imaging → Imaging) : (d.onImg f).time = d.time := rfl
@[simp] theorem onImg_flash (f : Imaging → Imaging) : (d.onImg f).flash = d.flash := rfl
@[simp] theorem onImg_free (f : Imaging → Imaging) : (d.onImg f).free = d.free := rfl

@[simp] theorem onLed_host (c : Nat) (f : LedChan → LedChan) : (d.onLed c f).host = d.host := rfl
@[simp] theorem onLed_logs (c : Nat) (f : LedChan → LedChan) : (d.onLed c f).logs = d.logs := rfl
@[simp] theorem onLed_fuses (c : Nat) (f : LedChan → LedChan) : (d.onLed c f).fuses = d.fuses := rfl
@[simp] theorem onLed_pins (c : Nat) (f : LedChan → LedChan) : (d.onLed c f).pins = d.pins := rfl
@[simp] theorem onLed_ump (c : Nat) (f : LedChan → LedChan) : (d.onLed c f).ump = d.ump := rfl
@[simp] theorem onLed_mode (c : Nat) (f : LedChan → LedChan) : (d.onLed c f).mode = d.mode := rfl
@[simp] theorem onLed_gov (c : Nat) (f : LedChan → LedChan) : (d.onLed c f).gov = d.gov := rfl
@[simp] theorem onLed_therm (c : Nat) (f : LedChan → LedChan) : (d.onLed c f).therm = d.therm := rfl
@[simp] theorem onLed_clk (c : Nat) (f : LedChan → LedChan) : (d.onLed c f).clk = d.clk := rfl
@[simp] theorem onLed_boot (c : Nat) (f : LedChan → LedChan) : (d.onLed c f).boot = d.boot := rfl
@[simp] theorem onLed_cal (c : Nat) (f : LedChan → LedChan) : (d.onLed c f).cal = d.cal := rfl
@[simp] theorem onLed_mc (c : Nat) (f : LedChan → LedChan) : (d.onLed c f).mc = d.mc := rfl
@[simp] theorem onLed_geo (c : Nat) (f : LedChan → LedChan) : (d.onLed c f).geo = d.geo := rfl
@[simp] theorem onLed_lib (c : Nat) (f : LedChan → LedChan) : (d.onLed c f).lib = d.lib := rfl
@[simp] theorem onLed_layers (c : Nat) (f : LedChan → LedChan) : (d.onLed c f).layers = d.layers := rfl
@[simp] theorem onLed_mar (c : Nat) (f : LedChan → LedChan) : (d.onLed c f).mar = d.mar := rfl
@[simp] theorem onLed_eng (c : Nat) (f : LedChan → LedChan) : (d.onLed c f).eng = d.eng := rfl
@[simp] theorem onLed_loops (c : Nat) (f : LedChan → LedChan) : (d.onLed c f).loops = d.loops := rfl
@[simp] theorem onLed_melt (c : Nat) (f : LedChan → LedChan) : (d.onLed c f).melt = d.melt := rfl
@[simp] theorem onLed_recd (c : Nat) (f : LedChan → LedChan) : (d.onLed c f).recd = d.recd := rfl
@[simp] theorem onLed_links (c : Nat) (f : LedChan → LedChan) : (d.onLed c f).links = d.links := rfl
@[simp] theorem onLed_slides (c : Nat) (f : LedChan → LedChan) : (d.onLed c f).slides = d.slides := rfl
@[simp] theorem onLed_img (c : Nat) (f : LedChan → LedChan) : (d.onLed c f).img = { d.img with leds := upd d.img.leds c f } := rfl
@[simp] theorem onLed_time (c : Nat) (f : LedChan → LedChan) : (d.onLed c f).time = d.time := rfl
@[simp] theorem onLed_flash (c : Nat) (f : LedChan → LedChan) : (d.onLed c f).flash = d.flash := rfl
@[simp] theorem onLed_free (c : Nat) (f : LedChan → LedChan) : (d.onLed c f).free = d.free := rfl

@[simp] theorem onPort_host (n : Nat) (f : Port → Port) : (d.onPort n f).host = d.host := rfl
@[simp] theorem onPort_logs (n : Nat) (f : Port → Port) : (d.onPort n f).logs = d.logs := rfl
@[simp] theorem onPort_fuses (n : Nat) (f : Port → Port) : (d.onPort n f).fuses = d.fuses := rfl
@[simp] theorem onPort_pins (n : Nat) (f : Port → Port) : (d.onPort n f).pins = d.pins := rfl
@[simp] theorem onPort_ump (n : Nat) (f : Port → Port) : (d.onPort n f).ump = d.ump := rfl
@[simp] theorem onPort_mode (n : Nat) (f : Port → Port) : (d.onPort n f).mode = d.mode := rfl
@[simp] theorem onPort_gov (n : Nat) (f : Port → Port) : (d.onPort n f).gov = d.gov := rfl
@[simp] theorem onPort_therm (n : Nat) (f : Port → Port) : (d.onPort n f).therm = d.therm := rfl
@[simp] theorem onPort_clk (n : Nat) (f : Port → Port) : (d.onPort n f).clk = d.clk := rfl
@[simp] theorem onPort_boot (n : Nat) (f : Port → Port) : (d.onPort n f).boot = d.boot := rfl
@[simp] theorem onPort_cal (n : Nat) (f : Port → Port) : (d.onPort n f).cal = d.cal := rfl
@[simp] theorem onPort_mc (n : Nat) (f : Port → Port) : (d.onPort n f).mc = d.mc := rfl
@[simp] theorem onPort_geo (n : Nat) (f : Port → Port) : (d.onPort n f).geo = d.geo := rfl
@[simp] theorem onPort_lib (n : Nat) (f : Port → Port) : (d.onPort n f).lib = d.lib := rfl
@[simp] theorem onPort_layers (n : Nat) (f : Port → Port) : (d.onPort n f).layers = d.layers := rfl
@[simp] theorem onPort_mar (n : Nat) (f : Port → Port) : (d.onPort n f).mar = d.mar := rfl
@[simp] theorem onPort_eng (n : Nat) (f : Port → Port) : (d.onPort n f).eng = d.eng := rfl
@[simp] theorem onPort_loops (n : Nat) (f : Port → Port) : (d.onPort n f).loops = d.loops := rfl
@[simp] theorem onPort_melt (n : Nat) (f : Port → Port) : (d.onPort n f).melt = d.melt := rfl
@[simp] theorem onPort_recd (n : Nat) (f : Port → Port) : (d.onPort n f).recd = d.recd := rfl
@[simp] theorem onPort_links (n : Nat) (f : Port → Port) : (d.onPort n f).links = { d.links with ports := upd d.links.ports n f } := rfl
@[simp] theorem onPort_slides (n : Nat) (f : Port → Port) : (d.onPort n f).slides = d.slides := rfl
@[simp] theorem onPort_img (n : Nat) (f : Port → Port) : (d.onPort n f).img = d.img := rfl
@[simp] theorem onPort_time (n : Nat) (f : Port → Port) : (d.onPort n f).time = d.time := rfl
@[simp] theorem onPort_flash (n : Nat) (f : Port → Port) : (d.onPort n f).flash = d.flash := rfl
@[simp] theorem onPort_free (n : Nat) (f : Port → Port) : (d.onPort n f).free = d.free := rfl

@[simp] theorem onSlot_host (n : Nat) (f : LoopSlot → LoopSlot) : (d.onSlot n f).host = d.host := rfl
@[simp] theorem onSlot_logs (n : Nat) (f : LoopSlot → LoopSlot) : (d.onSlot n f).logs = d.logs := rfl
@[simp] theorem onSlot_fuses (n : Nat) (f : LoopSlot → LoopSlot) : (d.onSlot n f).fuses = d.fuses := rfl
@[simp] theorem onSlot_pins (n : Nat) (f : LoopSlot → LoopSlot) : (d.onSlot n f).pins = d.pins := rfl
@[simp] theorem onSlot_ump (n : Nat) (f : LoopSlot → LoopSlot) : (d.onSlot n f).ump = d.ump := rfl
@[simp] theorem onSlot_mode (n : Nat) (f : LoopSlot → LoopSlot) : (d.onSlot n f).mode = d.mode := rfl
@[simp] theorem onSlot_gov (n : Nat) (f : LoopSlot → LoopSlot) : (d.onSlot n f).gov = d.gov := rfl
@[simp] theorem onSlot_therm (n : Nat) (f : LoopSlot → LoopSlot) : (d.onSlot n f).therm = d.therm := rfl
@[simp] theorem onSlot_clk (n : Nat) (f : LoopSlot → LoopSlot) : (d.onSlot n f).clk = d.clk := rfl
@[simp] theorem onSlot_boot (n : Nat) (f : LoopSlot → LoopSlot) : (d.onSlot n f).boot = d.boot := rfl
@[simp] theorem onSlot_cal (n : Nat) (f : LoopSlot → LoopSlot) : (d.onSlot n f).cal = d.cal := rfl
@[simp] theorem onSlot_mc (n : Nat) (f : LoopSlot → LoopSlot) : (d.onSlot n f).mc = d.mc := rfl
@[simp] theorem onSlot_geo (n : Nat) (f : LoopSlot → LoopSlot) : (d.onSlot n f).geo = d.geo := rfl
@[simp] theorem onSlot_lib (n : Nat) (f : LoopSlot → LoopSlot) : (d.onSlot n f).lib = d.lib := rfl
@[simp] theorem onSlot_layers (n : Nat) (f : LoopSlot → LoopSlot) : (d.onSlot n f).layers = d.layers := rfl
@[simp] theorem onSlot_mar (n : Nat) (f : LoopSlot → LoopSlot) : (d.onSlot n f).mar = d.mar := rfl
@[simp] theorem onSlot_eng (n : Nat) (f : LoopSlot → LoopSlot) : (d.onSlot n f).eng = d.eng := rfl
@[simp] theorem onSlot_loops (n : Nat) (f : LoopSlot → LoopSlot) : (d.onSlot n f).loops = { d.loops with slots := upd d.loops.slots n f } := rfl
@[simp] theorem onSlot_melt (n : Nat) (f : LoopSlot → LoopSlot) : (d.onSlot n f).melt = d.melt := rfl
@[simp] theorem onSlot_recd (n : Nat) (f : LoopSlot → LoopSlot) : (d.onSlot n f).recd = d.recd := rfl
@[simp] theorem onSlot_links (n : Nat) (f : LoopSlot → LoopSlot) : (d.onSlot n f).links = d.links := rfl
@[simp] theorem onSlot_slides (n : Nat) (f : LoopSlot → LoopSlot) : (d.onSlot n f).slides = d.slides := rfl
@[simp] theorem onSlot_img (n : Nat) (f : LoopSlot → LoopSlot) : (d.onSlot n f).img = d.img := rfl
@[simp] theorem onSlot_time (n : Nat) (f : LoopSlot → LoopSlot) : (d.onSlot n f).time = d.time := rfl
@[simp] theorem onSlot_flash (n : Nat) (f : LoopSlot → LoopSlot) : (d.onSlot n f).flash = d.flash := rfl
@[simp] theorem onSlot_free (n : Nat) (f : LoopSlot → LoopSlot) : (d.onSlot n f).free = d.free := rfl

@[simp] theorem onLoops_host (f : Loops → Loops) : (d.onLoops f).host = d.host := rfl
@[simp] theorem onLoops_logs (f : Loops → Loops) : (d.onLoops f).logs = d.logs := rfl
@[simp] theorem onLoops_fuses (f : Loops → Loops) : (d.onLoops f).fuses = d.fuses := rfl
@[simp] theorem onLoops_pins (f : Loops → Loops) : (d.onLoops f).pins = d.pins := rfl
@[simp] theorem onLoops_ump (f : Loops → Loops) : (d.onLoops f).ump = d.ump := rfl
@[simp] theorem onLoops_mode (f : Loops → Loops) : (d.onLoops f).mode = d.mode := rfl
@[simp] theorem onLoops_gov (f : Loops → Loops) : (d.onLoops f).gov = d.gov := rfl
@[simp] theorem onLoops_therm (f : Loops → Loops) : (d.onLoops f).therm = d.therm := rfl
@[simp] theorem onLoops_clk (f : Loops → Loops) : (d.onLoops f).clk = d.clk := rfl
@[simp] theorem onLoops_boot (f : Loops → Loops) : (d.onLoops f).boot = d.boot := rfl
@[simp] theorem onLoops_cal (f : Loops → Loops) : (d.onLoops f).cal = d.cal := rfl
@[simp] theorem onLoops_mc (f : Loops → Loops) : (d.onLoops f).mc = d.mc := rfl
@[simp] theorem onLoops_geo (f : Loops → Loops) : (d.onLoops f).geo = d.geo := rfl
@[simp] theorem onLoops_lib (f : Loops → Loops) : (d.onLoops f).lib = d.lib := rfl
@[simp] theorem onLoops_layers (f : Loops → Loops) : (d.onLoops f).layers = d.layers := rfl
@[simp] theorem onLoops_mar (f : Loops → Loops) : (d.onLoops f).mar = d.mar := rfl
@[simp] theorem onLoops_eng (f : Loops → Loops) : (d.onLoops f).eng = d.eng := rfl
@[simp] theorem onLoops_loops (f : Loops → Loops) : (d.onLoops f).loops = f d.loops := rfl
@[simp] theorem onLoops_melt (f : Loops → Loops) : (d.onLoops f).melt = d.melt := rfl
@[simp] theorem onLoops_recd (f : Loops → Loops) : (d.onLoops f).recd = d.recd := rfl
@[simp] theorem onLoops_links (f : Loops → Loops) : (d.onLoops f).links = d.links := rfl
@[simp] theorem onLoops_slides (f : Loops → Loops) : (d.onLoops f).slides = d.slides := rfl
@[simp] theorem onLoops_img (f : Loops → Loops) : (d.onLoops f).img = d.img := rfl
@[simp] theorem onLoops_time (f : Loops → Loops) : (d.onLoops f).time = d.time := rfl
@[simp] theorem onLoops_flash (f : Loops → Loops) : (d.onLoops f).flash = d.flash := rfl
@[simp] theorem onLoops_free (f : Loops → Loops) : (d.onLoops f).free = d.free := rfl

@[simp] theorem onLayer_host (f : LayerRec → LayerRec) : (d.onLayer f).host = d.host := rfl
@[simp] theorem onLayer_logs (f : LayerRec → LayerRec) : (d.onLayer f).logs = d.logs := rfl
@[simp] theorem onLayer_fuses (f : LayerRec → LayerRec) : (d.onLayer f).fuses = d.fuses := rfl
@[simp] theorem onLayer_pins (f : LayerRec → LayerRec) : (d.onLayer f).pins = d.pins := rfl
@[simp] theorem onLayer_ump (f : LayerRec → LayerRec) : (d.onLayer f).ump = d.ump := rfl
@[simp] theorem onLayer_mode (f : LayerRec → LayerRec) : (d.onLayer f).mode = d.mode := rfl
@[simp] theorem onLayer_gov (f : LayerRec → LayerRec) : (d.onLayer f).gov = d.gov := rfl
@[simp] theorem onLayer_therm (f : LayerRec → LayerRec) : (d.onLayer f).therm = d.therm := rfl
@[simp] theorem onLayer_clk (f : LayerRec → LayerRec) : (d.onLayer f).clk = d.clk := rfl
@[simp] theorem onLayer_boot (f : LayerRec → LayerRec) : (d.onLayer f).boot = d.boot := rfl
@[simp] theorem onLayer_cal (f : LayerRec → LayerRec) : (d.onLayer f).cal = d.cal := rfl
@[simp] theorem onLayer_mc (f : LayerRec → LayerRec) : (d.onLayer f).mc = d.mc := rfl
@[simp] theorem onLayer_geo (f : LayerRec → LayerRec) : (d.onLayer f).geo = d.geo := rfl
@[simp] theorem onLayer_lib (f : LayerRec → LayerRec) : (d.onLayer f).lib = d.lib := rfl
@[simp] theorem onLayer_layers (f : LayerRec → LayerRec) : (d.onLayer f).layers = { d.layers with released := d.layers.released.map f } := rfl
@[simp] theorem onLayer_mar (f : LayerRec → LayerRec) : (d.onLayer f).mar = d.mar := rfl
@[simp] theorem onLayer_eng (f : LayerRec → LayerRec) : (d.onLayer f).eng = d.eng := rfl
@[simp] theorem onLayer_loops (f : LayerRec → LayerRec) : (d.onLayer f).loops = d.loops := rfl
@[simp] theorem onLayer_melt (f : LayerRec → LayerRec) : (d.onLayer f).melt = d.melt := rfl
@[simp] theorem onLayer_recd (f : LayerRec → LayerRec) : (d.onLayer f).recd = d.recd := rfl
@[simp] theorem onLayer_links (f : LayerRec → LayerRec) : (d.onLayer f).links = d.links := rfl
@[simp] theorem onLayer_slides (f : LayerRec → LayerRec) : (d.onLayer f).slides = d.slides := rfl
@[simp] theorem onLayer_img (f : LayerRec → LayerRec) : (d.onLayer f).img = d.img := rfl
@[simp] theorem onLayer_time (f : LayerRec → LayerRec) : (d.onLayer f).time = d.time := rfl
@[simp] theorem onLayer_flash (f : LayerRec → LayerRec) : (d.onLayer f).flash = d.flash := rfl
@[simp] theorem onLayer_free (f : LayerRec → LayerRec) : (d.onLayer f).free = d.free := rfl

@[simp] theorem onMar_host (f : Marshal → Marshal) : (d.onMar f).host = d.host := rfl
@[simp] theorem onMar_logs (f : Marshal → Marshal) : (d.onMar f).logs = d.logs := rfl
@[simp] theorem onMar_fuses (f : Marshal → Marshal) : (d.onMar f).fuses = d.fuses := rfl
@[simp] theorem onMar_pins (f : Marshal → Marshal) : (d.onMar f).pins = d.pins := rfl
@[simp] theorem onMar_ump (f : Marshal → Marshal) : (d.onMar f).ump = d.ump := rfl
@[simp] theorem onMar_mode (f : Marshal → Marshal) : (d.onMar f).mode = d.mode := rfl
@[simp] theorem onMar_gov (f : Marshal → Marshal) : (d.onMar f).gov = d.gov := rfl
@[simp] theorem onMar_therm (f : Marshal → Marshal) : (d.onMar f).therm = d.therm := rfl
@[simp] theorem onMar_clk (f : Marshal → Marshal) : (d.onMar f).clk = d.clk := rfl
@[simp] theorem onMar_boot (f : Marshal → Marshal) : (d.onMar f).boot = d.boot := rfl
@[simp] theorem onMar_cal (f : Marshal → Marshal) : (d.onMar f).cal = d.cal := rfl
@[simp] theorem onMar_mc (f : Marshal → Marshal) : (d.onMar f).mc = d.mc := rfl
@[simp] theorem onMar_geo (f : Marshal → Marshal) : (d.onMar f).geo = d.geo := rfl
@[simp] theorem onMar_lib (f : Marshal → Marshal) : (d.onMar f).lib = d.lib := rfl
@[simp] theorem onMar_layers (f : Marshal → Marshal) : (d.onMar f).layers = d.layers := rfl
@[simp] theorem onMar_mar (f : Marshal → Marshal) : (d.onMar f).mar = f d.mar := rfl
@[simp] theorem onMar_eng (f : Marshal → Marshal) : (d.onMar f).eng = d.eng := rfl
@[simp] theorem onMar_loops (f : Marshal → Marshal) : (d.onMar f).loops = d.loops := rfl
@[simp] theorem onMar_melt (f : Marshal → Marshal) : (d.onMar f).melt = d.melt := rfl
@[simp] theorem onMar_recd (f : Marshal → Marshal) : (d.onMar f).recd = d.recd := rfl
@[simp] theorem onMar_links (f : Marshal → Marshal) : (d.onMar f).links = d.links := rfl
@[simp] theorem onMar_slides (f : Marshal → Marshal) : (d.onMar f).slides = d.slides := rfl
@[simp] theorem onMar_img (f : Marshal → Marshal) : (d.onMar f).img = d.img := rfl
@[simp] theorem onMar_time (f : Marshal → Marshal) : (d.onMar f).time = d.time := rfl
@[simp] theorem onMar_flash (f : Marshal → Marshal) : (d.onMar f).flash = d.flash := rfl
@[simp] theorem onMar_free (f : Marshal → Marshal) : (d.onMar f).free = d.free := rfl

@[simp] theorem onEng_host (k : Nat) (f : Engine → Engine) : (d.onEng k f).host = d.host := rfl
@[simp] theorem onEng_logs (k : Nat) (f : Engine → Engine) : (d.onEng k f).logs = d.logs := rfl
@[simp] theorem onEng_fuses (k : Nat) (f : Engine → Engine) : (d.onEng k f).fuses = d.fuses := rfl
@[simp] theorem onEng_pins (k : Nat) (f : Engine → Engine) : (d.onEng k f).pins = d.pins := rfl
@[simp] theorem onEng_ump (k : Nat) (f : Engine → Engine) : (d.onEng k f).ump = d.ump := rfl
@[simp] theorem onEng_mode (k : Nat) (f : Engine → Engine) : (d.onEng k f).mode = d.mode := rfl
@[simp] theorem onEng_gov (k : Nat) (f : Engine → Engine) : (d.onEng k f).gov = d.gov := rfl
@[simp] theorem onEng_therm (k : Nat) (f : Engine → Engine) : (d.onEng k f).therm = d.therm := rfl
@[simp] theorem onEng_clk (k : Nat) (f : Engine → Engine) : (d.onEng k f).clk = d.clk := rfl
@[simp] theorem onEng_boot (k : Nat) (f : Engine → Engine) : (d.onEng k f).boot = d.boot := rfl
@[simp] theorem onEng_cal (k : Nat) (f : Engine → Engine) : (d.onEng k f).cal = d.cal := rfl
@[simp] theorem onEng_mc (k : Nat) (f : Engine → Engine) : (d.onEng k f).mc = d.mc := rfl
@[simp] theorem onEng_geo (k : Nat) (f : Engine → Engine) : (d.onEng k f).geo = d.geo := rfl
@[simp] theorem onEng_lib (k : Nat) (f : Engine → Engine) : (d.onEng k f).lib = d.lib := rfl
@[simp] theorem onEng_layers (k : Nat) (f : Engine → Engine) : (d.onEng k f).layers = d.layers := rfl
@[simp] theorem onEng_mar (k : Nat) (f : Engine → Engine) : (d.onEng k f).mar = d.mar := rfl
@[simp] theorem onEng_eng (k : Nat) (f : Engine → Engine) : (d.onEng k f).eng = upd d.eng k f := rfl
@[simp] theorem onEng_loops (k : Nat) (f : Engine → Engine) : (d.onEng k f).loops = d.loops := rfl
@[simp] theorem onEng_melt (k : Nat) (f : Engine → Engine) : (d.onEng k f).melt = d.melt := rfl
@[simp] theorem onEng_recd (k : Nat) (f : Engine → Engine) : (d.onEng k f).recd = d.recd := rfl
@[simp] theorem onEng_links (k : Nat) (f : Engine → Engine) : (d.onEng k f).links = d.links := rfl
@[simp] theorem onEng_slides (k : Nat) (f : Engine → Engine) : (d.onEng k f).slides = d.slides := rfl
@[simp] theorem onEng_img (k : Nat) (f : Engine → Engine) : (d.onEng k f).img = d.img := rfl
@[simp] theorem onEng_time (k : Nat) (f : Engine → Engine) : (d.onEng k f).time = d.time := rfl
@[simp] theorem onEng_flash (k : Nat) (f : Engine → Engine) : (d.onEng k f).flash = d.flash := rfl
@[simp] theorem onEng_free (k : Nat) (f : Engine → Engine) : (d.onEng k f).free = d.free := rfl

@[simp] theorem onSafe_host (k : Nat) (f : OarSafe → OarSafe) : (d.onSafe k f).host = d.host := rfl
@[simp] theorem onSafe_logs (k : Nat) (f : OarSafe → OarSafe) : (d.onSafe k f).logs = d.logs := rfl
@[simp] theorem onSafe_fuses (k : Nat) (f : OarSafe → OarSafe) : (d.onSafe k f).fuses = d.fuses := rfl
@[simp] theorem onSafe_pins (k : Nat) (f : OarSafe → OarSafe) : (d.onSafe k f).pins = d.pins := rfl
@[simp] theorem onSafe_ump (k : Nat) (f : OarSafe → OarSafe) : (d.onSafe k f).ump = { d.ump with oars := upd d.ump.oars k f } := rfl
@[simp] theorem onSafe_mode (k : Nat) (f : OarSafe → OarSafe) : (d.onSafe k f).mode = d.mode := rfl
@[simp] theorem onSafe_gov (k : Nat) (f : OarSafe → OarSafe) : (d.onSafe k f).gov = d.gov := rfl
@[simp] theorem onSafe_therm (k : Nat) (f : OarSafe → OarSafe) : (d.onSafe k f).therm = d.therm := rfl
@[simp] theorem onSafe_clk (k : Nat) (f : OarSafe → OarSafe) : (d.onSafe k f).clk = d.clk := rfl
@[simp] theorem onSafe_boot (k : Nat) (f : OarSafe → OarSafe) : (d.onSafe k f).boot = d.boot := rfl
@[simp] theorem onSafe_cal (k : Nat) (f : OarSafe → OarSafe) : (d.onSafe k f).cal = d.cal := rfl
@[simp] theorem onSafe_mc (k : Nat) (f : OarSafe → OarSafe) : (d.onSafe k f).mc = d.mc := rfl
@[simp] theorem onSafe_geo (k : Nat) (f : OarSafe → OarSafe) : (d.onSafe k f).geo = d.geo := rfl
@[simp] theorem onSafe_lib (k : Nat) (f : OarSafe → OarSafe) : (d.onSafe k f).lib = d.lib := rfl
@[simp] theorem onSafe_layers (k : Nat) (f : OarSafe → OarSafe) : (d.onSafe k f).layers = d.layers := rfl
@[simp] theorem onSafe_mar (k : Nat) (f : OarSafe → OarSafe) : (d.onSafe k f).mar = d.mar := rfl
@[simp] theorem onSafe_eng (k : Nat) (f : OarSafe → OarSafe) : (d.onSafe k f).eng = d.eng := rfl
@[simp] theorem onSafe_loops (k : Nat) (f : OarSafe → OarSafe) : (d.onSafe k f).loops = d.loops := rfl
@[simp] theorem onSafe_melt (k : Nat) (f : OarSafe → OarSafe) : (d.onSafe k f).melt = d.melt := rfl
@[simp] theorem onSafe_recd (k : Nat) (f : OarSafe → OarSafe) : (d.onSafe k f).recd = d.recd := rfl
@[simp] theorem onSafe_links (k : Nat) (f : OarSafe → OarSafe) : (d.onSafe k f).links = d.links := rfl
@[simp] theorem onSafe_slides (k : Nat) (f : OarSafe → OarSafe) : (d.onSafe k f).slides = d.slides := rfl
@[simp] theorem onSafe_img (k : Nat) (f : OarSafe → OarSafe) : (d.onSafe k f).img = d.img := rfl
@[simp] theorem onSafe_time (k : Nat) (f : OarSafe → OarSafe) : (d.onSafe k f).time = d.time := rfl
@[simp] theorem onSafe_flash (k : Nat) (f : OarSafe → OarSafe) : (d.onSafe k f).flash = d.flash := rfl
@[simp] theorem onSafe_free (k : Nat) (f : OarSafe → OarSafe) : (d.onSafe k f).free = d.free := rfl

@[simp] theorem onRec_host (f : Recorder → Recorder) : (d.onRec f).host = d.host := rfl
@[simp] theorem onRec_logs (f : Recorder → Recorder) : (d.onRec f).logs = d.logs := rfl
@[simp] theorem onRec_fuses (f : Recorder → Recorder) : (d.onRec f).fuses = d.fuses := rfl
@[simp] theorem onRec_pins (f : Recorder → Recorder) : (d.onRec f).pins = d.pins := rfl
@[simp] theorem onRec_ump (f : Recorder → Recorder) : (d.onRec f).ump = d.ump := rfl
@[simp] theorem onRec_mode (f : Recorder → Recorder) : (d.onRec f).mode = d.mode := rfl
@[simp] theorem onRec_gov (f : Recorder → Recorder) : (d.onRec f).gov = d.gov := rfl
@[simp] theorem onRec_therm (f : Recorder → Recorder) : (d.onRec f).therm = d.therm := rfl
@[simp] theorem onRec_clk (f : Recorder → Recorder) : (d.onRec f).clk = d.clk := rfl
@[simp] theorem onRec_boot (f : Recorder → Recorder) : (d.onRec f).boot = d.boot := rfl
@[simp] theorem onRec_cal (f : Recorder → Recorder) : (d.onRec f).cal = d.cal := rfl
@[simp] theorem onRec_mc (f : Recorder → Recorder) : (d.onRec f).mc = d.mc := rfl
@[simp] theorem onRec_geo (f : Recorder → Recorder) : (d.onRec f).geo = d.geo := rfl
@[simp] theorem onRec_lib (f : Recorder → Recorder) : (d.onRec f).lib = d.lib := rfl
@[simp] theorem onRec_layers (f : Recorder → Recorder) : (d.onRec f).layers = d.layers := rfl
@[simp] theorem onRec_mar (f : Recorder → Recorder) : (d.onRec f).mar = d.mar := rfl
@[simp] theorem onRec_eng (f : Recorder → Recorder) : (d.onRec f).eng = d.eng := rfl
@[simp] theorem onRec_loops (f : Recorder → Recorder) : (d.onRec f).loops = d.loops := rfl
@[simp] theorem onRec_melt (f : Recorder → Recorder) : (d.onRec f).melt = d.melt := rfl
@[simp] theorem onRec_recd (f : Recorder → Recorder) : (d.onRec f).recd = f d.recd := rfl
@[simp] theorem onRec_links (f : Recorder → Recorder) : (d.onRec f).links = d.links := rfl
@[simp] theorem onRec_slides (f : Recorder → Recorder) : (d.onRec f).slides = d.slides := rfl
@[simp] theorem onRec_img (f : Recorder → Recorder) : (d.onRec f).img = d.img := rfl
@[simp] theorem onRec_time (f : Recorder → Recorder) : (d.onRec f).time = d.time := rfl
@[simp] theorem onRec_flash (f : Recorder → Recorder) : (d.onRec f).flash = d.flash := rfl
@[simp] theorem onRec_free (f : Recorder → Recorder) : (d.onRec f).free = d.free := rfl

@[simp] theorem onBoot_host (f : Boot → Boot) : (d.onBoot f).host = d.host := rfl
@[simp] theorem onBoot_logs (f : Boot → Boot) : (d.onBoot f).logs = d.logs := rfl
@[simp] theorem onBoot_fuses (f : Boot → Boot) : (d.onBoot f).fuses = d.fuses := rfl
@[simp] theorem onBoot_pins (f : Boot → Boot) : (d.onBoot f).pins = d.pins := rfl
@[simp] theorem onBoot_ump (f : Boot → Boot) : (d.onBoot f).ump = d.ump := rfl
@[simp] theorem onBoot_mode (f : Boot → Boot) : (d.onBoot f).mode = d.mode := rfl
@[simp] theorem onBoot_gov (f : Boot → Boot) : (d.onBoot f).gov = d.gov := rfl
@[simp] theorem onBoot_therm (f : Boot → Boot) : (d.onBoot f).therm = d.therm := rfl
@[simp] theorem onBoot_clk (f : Boot → Boot) : (d.onBoot f).clk = d.clk := rfl
@[simp] theorem onBoot_boot (f : Boot → Boot) : (d.onBoot f).boot = f d.boot := rfl
@[simp] theorem onBoot_cal (f : Boot → Boot) : (d.onBoot f).cal = d.cal := rfl
@[simp] theorem onBoot_mc (f : Boot → Boot) : (d.onBoot f).mc = d.mc := rfl
@[simp] theorem onBoot_geo (f : Boot → Boot) : (d.onBoot f).geo = d.geo := rfl
@[simp] theorem onBoot_lib (f : Boot → Boot) : (d.onBoot f).lib = d.lib := rfl
@[simp] theorem onBoot_layers (f : Boot → Boot) : (d.onBoot f).layers = d.layers := rfl
@[simp] theorem onBoot_mar (f : Boot → Boot) : (d.onBoot f).mar = d.mar := rfl
@[simp] theorem onBoot_eng (f : Boot → Boot) : (d.onBoot f).eng = d.eng := rfl
@[simp] theorem onBoot_loops (f : Boot → Boot) : (d.onBoot f).loops = d.loops := rfl
@[simp] theorem onBoot_melt (f : Boot → Boot) : (d.onBoot f).melt = d.melt := rfl
@[simp] theorem onBoot_recd (f : Boot → Boot) : (d.onBoot f).recd = d.recd := rfl
@[simp] theorem onBoot_links (f : Boot → Boot) : (d.onBoot f).links = d.links := rfl
@[simp] theorem onBoot_slides (f : Boot → Boot) : (d.onBoot f).slides = d.slides := rfl
@[simp] theorem onBoot_img (f : Boot → Boot) : (d.onBoot f).img = d.img := rfl
@[simp] theorem onBoot_time (f : Boot → Boot) : (d.onBoot f).time = d.time := rfl
@[simp] theorem onBoot_flash (f : Boot → Boot) : (d.onBoot f).flash = d.flash := rfl
@[simp] theorem onBoot_free (f : Boot → Boot) : (d.onBoot f).free = d.free := rfl

@[simp] theorem onKeep_host (f : KeepRec → KeepRec) : (d.onKeep f).host = d.host := rfl
@[simp] theorem onKeep_logs (f : KeepRec → KeepRec) : (d.onKeep f).logs = d.logs := rfl
@[simp] theorem onKeep_fuses (f : KeepRec → KeepRec) : (d.onKeep f).fuses = d.fuses := rfl
@[simp] theorem onKeep_pins (f : KeepRec → KeepRec) : (d.onKeep f).pins = d.pins := rfl
@[simp] theorem onKeep_ump (f : KeepRec → KeepRec) : (d.onKeep f).ump = d.ump := rfl
@[simp] theorem onKeep_mode (f : KeepRec → KeepRec) : (d.onKeep f).mode = d.mode := rfl
@[simp] theorem onKeep_gov (f : KeepRec → KeepRec) : (d.onKeep f).gov = d.gov := rfl
@[simp] theorem onKeep_therm (f : KeepRec → KeepRec) : (d.onKeep f).therm = d.therm := rfl
@[simp] theorem onKeep_clk (f : KeepRec → KeepRec) : (d.onKeep f).clk = d.clk := rfl
@[simp] theorem onKeep_boot (f : KeepRec → KeepRec) : (d.onKeep f).boot = { d.boot with keep := f d.boot.keep } := rfl
@[simp] theorem onKeep_cal (f : KeepRec → KeepRec) : (d.onKeep f).cal = d.cal := rfl
@[simp] theorem onKeep_mc (f : KeepRec → KeepRec) : (d.onKeep f).mc = d.mc := rfl
@[simp] theorem onKeep_geo (f : KeepRec → KeepRec) : (d.onKeep f).geo = d.geo := rfl
@[simp] theorem onKeep_lib (f : KeepRec → KeepRec) : (d.onKeep f).lib = d.lib := rfl
@[simp] theorem onKeep_layers (f : KeepRec → KeepRec) : (d.onKeep f).layers = d.layers := rfl
@[simp] theorem onKeep_mar (f : KeepRec → KeepRec) : (d.onKeep f).mar = d.mar := rfl
@[simp] theorem onKeep_eng (f : KeepRec → KeepRec) : (d.onKeep f).eng = d.eng := rfl
@[simp] theorem onKeep_loops (f : KeepRec → KeepRec) : (d.onKeep f).loops = d.loops := rfl
@[simp] theorem onKeep_melt (f : KeepRec → KeepRec) : (d.onKeep f).melt = d.melt := rfl
@[simp] theorem onKeep_recd (f : KeepRec → KeepRec) : (d.onKeep f).recd = d.recd := rfl
@[simp] theorem onKeep_links (f : KeepRec → KeepRec) : (d.onKeep f).links = d.links := rfl
@[simp] theorem onKeep_slides (f : KeepRec → KeepRec) : (d.onKeep f).slides = d.slides := rfl
@[simp] theorem onKeep_img (f : KeepRec → KeepRec) : (d.onKeep f).img = d.img := rfl
@[simp] theorem onKeep_time (f : KeepRec → KeepRec) : (d.onKeep f).time = d.time := rfl
@[simp] theorem onKeep_flash (f : KeepRec → KeepRec) : (d.onKeep f).flash = d.flash := rfl
@[simp] theorem onKeep_free (f : KeepRec → KeepRec) : (d.onKeep f).free = d.free := rfl

@[simp] theorem onAxis_host (a : Nat) (f : SlideAxis → SlideAxis) : (d.onAxis a f).host = d.host := rfl
@[simp] theorem onAxis_logs (a : Nat) (f : SlideAxis → SlideAxis) : (d.onAxis a f).logs = d.logs := rfl
@[simp] theorem onAxis_fuses (a : Nat) (f : SlideAxis → SlideAxis) : (d.onAxis a f).fuses = d.fuses := rfl
@[simp] theorem onAxis_pins (a : Nat) (f : SlideAxis → SlideAxis) : (d.onAxis a f).pins = d.pins := rfl
@[simp] theorem onAxis_ump (a : Nat) (f : SlideAxis → SlideAxis) : (d.onAxis a f).ump = d.ump := rfl
@[simp] theorem onAxis_mode (a : Nat) (f : SlideAxis → SlideAxis) : (d.onAxis a f).mode = d.mode := rfl
@[simp] theorem onAxis_gov (a : Nat) (f : SlideAxis → SlideAxis) : (d.onAxis a f).gov = d.gov := rfl
@[simp] theorem onAxis_therm (a : Nat) (f : SlideAxis → SlideAxis) : (d.onAxis a f).therm = d.therm := rfl
@[simp] theorem onAxis_clk (a : Nat) (f : SlideAxis → SlideAxis) : (d.onAxis a f).clk = d.clk := rfl
@[simp] theorem onAxis_boot (a : Nat) (f : SlideAxis → SlideAxis) : (d.onAxis a f).boot = d.boot := rfl
@[simp] theorem onAxis_cal (a : Nat) (f : SlideAxis → SlideAxis) : (d.onAxis a f).cal = d.cal := rfl
@[simp] theorem onAxis_mc (a : Nat) (f : SlideAxis → SlideAxis) : (d.onAxis a f).mc = d.mc := rfl
@[simp] theorem onAxis_geo (a : Nat) (f : SlideAxis → SlideAxis) : (d.onAxis a f).geo = d.geo := rfl
@[simp] theorem onAxis_lib (a : Nat) (f : SlideAxis → SlideAxis) : (d.onAxis a f).lib = d.lib := rfl
@[simp] theorem onAxis_layers (a : Nat) (f : SlideAxis → SlideAxis) : (d.onAxis a f).layers = d.layers := rfl
@[simp] theorem onAxis_mar (a : Nat) (f : SlideAxis → SlideAxis) : (d.onAxis a f).mar = d.mar := rfl
@[simp] theorem onAxis_eng (a : Nat) (f : SlideAxis → SlideAxis) : (d.onAxis a f).eng = d.eng := rfl
@[simp] theorem onAxis_loops (a : Nat) (f : SlideAxis → SlideAxis) : (d.onAxis a f).loops = d.loops := rfl
@[simp] theorem onAxis_melt (a : Nat) (f : SlideAxis → SlideAxis) : (d.onAxis a f).melt = d.melt := rfl
@[simp] theorem onAxis_recd (a : Nat) (f : SlideAxis → SlideAxis) : (d.onAxis a f).recd = d.recd := rfl
@[simp] theorem onAxis_links (a : Nat) (f : SlideAxis → SlideAxis) : (d.onAxis a f).links = d.links := rfl
@[simp] theorem onAxis_slides (a : Nat) (f : SlideAxis → SlideAxis) : (d.onAxis a f).slides = { d.slides with axes := upd d.slides.axes a f } := rfl
@[simp] theorem onAxis_img (a : Nat) (f : SlideAxis → SlideAxis) : (d.onAxis a f).img = d.img := rfl
@[simp] theorem onAxis_time (a : Nat) (f : SlideAxis → SlideAxis) : (d.onAxis a f).time = d.time := rfl
@[simp] theorem onAxis_flash (a : Nat) (f : SlideAxis → SlideAxis) : (d.onAxis a f).flash = d.flash := rfl
@[simp] theorem onAxis_free (a : Nat) (f : SlideAxis → SlideAxis) : (d.onAxis a f).free = d.free := rfl

@[simp] theorem onRecoat_host (f : Recoat → Recoat) : (d.onRecoat f).host = d.host := rfl
@[simp] theorem onRecoat_logs (f : Recoat → Recoat) : (d.onRecoat f).logs = d.logs := rfl
@[simp] theorem onRecoat_fuses (f : Recoat → Recoat) : (d.onRecoat f).fuses = d.fuses := rfl
@[simp] theorem onRecoat_pins (f : Recoat → Recoat) : (d.onRecoat f).pins = d.pins := rfl
@[simp] theorem onRecoat_ump (f : Recoat → Recoat) : (d.onRecoat f).ump = d.ump := rfl
@[simp] theorem onRecoat_mode (f : Recoat → Recoat) : (d.onRecoat f).mode = d.mode := rfl
@[simp] theorem onRecoat_gov (f : Recoat → Recoat) : (d.onRecoat f).gov = d.gov := rfl
@[simp] theorem onRecoat_therm (f : Recoat → Recoat) : (d.onRecoat f).therm = d.therm := rfl
@[simp] theorem onRecoat_clk (f : Recoat → Recoat) : (d.onRecoat f).clk = d.clk := rfl
@[simp] theorem onRecoat_boot (f : Recoat → Recoat) : (d.onRecoat f).boot = d.boot := rfl
@[simp] theorem onRecoat_cal (f : Recoat → Recoat) : (d.onRecoat f).cal = d.cal := rfl
@[simp] theorem onRecoat_mc (f : Recoat → Recoat) : (d.onRecoat f).mc = d.mc := rfl
@[simp] theorem onRecoat_geo (f : Recoat → Recoat) : (d.onRecoat f).geo = d.geo := rfl
@[simp] theorem onRecoat_lib (f : Recoat → Recoat) : (d.onRecoat f).lib = d.lib := rfl
@[simp] theorem onRecoat_layers (f : Recoat → Recoat) : (d.onRecoat f).layers = d.layers := rfl
@[simp] theorem onRecoat_mar (f : Recoat → Recoat) : (d.onRecoat f).mar = d.mar := rfl
@[simp] theorem onRecoat_eng (f : Recoat → Recoat) : (d.onRecoat f).eng = d.eng := rfl
@[simp] theorem onRecoat_loops (f : Recoat → Recoat) : (d.onRecoat f).loops = d.loops := rfl
@[simp] theorem onRecoat_melt (f : Recoat → Recoat) : (d.onRecoat f).melt = d.melt := rfl
@[simp] theorem onRecoat_recd (f : Recoat → Recoat) : (d.onRecoat f).recd = d.recd := rfl
@[simp] theorem onRecoat_links (f : Recoat → Recoat) : (d.onRecoat f).links = d.links := rfl
@[simp] theorem onRecoat_slides (f : Recoat → Recoat) : (d.onRecoat f).slides = { d.slides with recoat := f d.slides.recoat } := rfl
@[simp] theorem onRecoat_img (f : Recoat → Recoat) : (d.onRecoat f).img = d.img := rfl
@[simp] theorem onRecoat_time (f : Recoat → Recoat) : (d.onRecoat f).time = d.time := rfl
@[simp] theorem onRecoat_flash (f : Recoat → Recoat) : (d.onRecoat f).flash = d.flash := rfl
@[simp] theorem onRecoat_free (f : Recoat → Recoat) : (d.onRecoat f).free = d.free := rfl

@[simp] theorem onEnc_host (e : Nat) (f : Encoder → Encoder) : (d.onEnc e f).host = d.host := rfl
@[simp] theorem onEnc_logs (e : Nat) (f : Encoder → Encoder) : (d.onEnc e f).logs = d.logs := rfl
@[simp] theorem onEnc_fuses (e : Nat) (f : Encoder → Encoder) : (d.onEnc e f).fuses = d.fuses := rfl
@[simp] theorem onEnc_pins (e : Nat) (f : Encoder → Encoder) : (d.onEnc e f).pins = d.pins := rfl
@[simp] theorem onEnc_ump (e : Nat) (f : Encoder → Encoder) : (d.onEnc e f).ump = d.ump := rfl
@[simp] theorem onEnc_mode (e : Nat) (f : Encoder → Encoder) : (d.onEnc e f).mode = d.mode := rfl
@[simp] theorem onEnc_gov (e : Nat) (f : Encoder → Encoder) : (d.onEnc e f).gov = d.gov := rfl
@[simp] theorem onEnc_therm (e : Nat) (f : Encoder → Encoder) : (d.onEnc e f).therm = d.therm := rfl
@[simp] theorem onEnc_clk (e : Nat) (f : Encoder → Encoder) : (d.onEnc e f).clk = d.clk := rfl
@[simp] theorem onEnc_boot (e : Nat) (f : Encoder → Encoder) : (d.onEnc e f).boot = d.boot := rfl
@[simp] theorem onEnc_cal (e : Nat) (f : Encoder → Encoder) : (d.onEnc e f).cal = d.cal := rfl
@[simp] theorem onEnc_mc (e : Nat) (f : Encoder → Encoder) : (d.onEnc e f).mc = d.mc := rfl
@[simp] theorem onEnc_geo (e : Nat) (f : Encoder → Encoder) : (d.onEnc e f).geo = d.geo := rfl
@[simp] theorem onEnc_lib (e : Nat) (f : Encoder → Encoder) : (d.onEnc e f).lib = d.lib := rfl
@[simp] theorem onEnc_layers (e : Nat) (f : Encoder → Encoder) : (d.onEnc e f).layers = d.layers := rfl
@[simp] theorem onEnc_mar (e : Nat) (f : Encoder → Encoder) : (d.onEnc e f).mar = d.mar := rfl
@[simp] theorem onEnc_eng (e : Nat) (f : Encoder → Encoder) : (d.onEnc e f).eng = d.eng := rfl
@[simp] theorem onEnc_loops (e : Nat) (f : Encoder → Encoder) : (d.onEnc e f).loops = d.loops := rfl
@[simp] theorem onEnc_melt (e : Nat) (f : Encoder → Encoder) : (d.onEnc e f).melt = d.melt := rfl
@[simp] theorem onEnc_recd (e : Nat) (f : Encoder → Encoder) : (d.onEnc e f).recd = d.recd := rfl
@[simp] theorem onEnc_links (e : Nat) (f : Encoder → Encoder) : (d.onEnc e f).links = d.links := rfl
@[simp] theorem onEnc_slides (e : Nat) (f : Encoder → Encoder) : (d.onEnc e f).slides = { d.slides with encs := upd d.slides.encs e f } := rfl
@[simp] theorem onEnc_img (e : Nat) (f : Encoder → Encoder) : (d.onEnc e f).img = d.img := rfl
@[simp] theorem onEnc_time (e : Nat) (f : Encoder → Encoder) : (d.onEnc e f).time = d.time := rfl
@[simp] theorem onEnc_flash (e : Nat) (f : Encoder → Encoder) : (d.onEnc e f).flash = d.flash := rfl
@[simp] theorem onEnc_free (e : Nat) (f : Encoder → Encoder) : (d.onEnc e f).free = d.free := rfl

@[simp] theorem onTime_host (f : Time → Time) : (d.onTime f).host = d.host := rfl
@[simp] theorem onTime_logs (f : Time → Time) : (d.onTime f).logs = d.logs := rfl
@[simp] theorem onTime_fuses (f : Time → Time) : (d.onTime f).fuses = d.fuses := rfl
@[simp] theorem onTime_pins (f : Time → Time) : (d.onTime f).pins = d.pins := rfl
@[simp] theorem onTime_ump (f : Time → Time) : (d.onTime f).ump = d.ump := rfl
@[simp] theorem onTime_mode (f : Time → Time) : (d.onTime f).mode = d.mode := rfl
@[simp] theorem onTime_gov (f : Time → Time) : (d.onTime f).gov = d.gov := rfl
@[simp] theorem onTime_therm (f : Time → Time) : (d.onTime f).therm = d.therm := rfl
@[simp] theorem onTime_clk (f : Time → Time) : (d.onTime f).clk = d.clk := rfl
@[simp] theorem onTime_boot (f : Time → Time) : (d.onTime f).boot = d.boot := rfl
@[simp] theorem onTime_cal (f : Time → Time) : (d.onTime f).cal = d.cal := rfl
@[simp] theorem onTime_mc (f : Time → Time) : (d.onTime f).mc = d.mc := rfl
@[simp] theorem onTime_geo (f : Time → Time) : (d.onTime f).geo = d.geo := rfl
@[simp] theorem onTime_lib (f : Time → Time) : (d.onTime f).lib = d.lib := rfl
@[simp] theorem onTime_layers (f : Time → Time) : (d.onTime f).layers = d.layers := rfl
@[simp] theorem onTime_mar (f : Time → Time) : (d.onTime f).mar = d.mar := rfl
@[simp] theorem onTime_eng (f : Time → Time) : (d.onTime f).eng = d.eng := rfl
@[simp] theorem onTime_loops (f : Time → Time) : (d.onTime f).loops = d.loops := rfl
@[simp] theorem onTime_melt (f : Time → Time) : (d.onTime f).melt = d.melt := rfl
@[simp] theorem onTime_recd (f : Time → Time) : (d.onTime f).recd = d.recd := rfl
@[simp] theorem onTime_links (f : Time → Time) : (d.onTime f).links = d.links := rfl
@[simp] theorem onTime_slides (f : Time → Time) : (d.onTime f).slides = d.slides := rfl
@[simp] theorem onTime_img (f : Time → Time) : (d.onTime f).img = d.img := rfl
@[simp] theorem onTime_time (f : Time → Time) : (d.onTime f).time = f d.time := rfl
@[simp] theorem onTime_flash (f : Time → Time) : (d.onTime f).flash = d.flash := rfl
@[simp] theorem onTime_free (f : Time → Time) : (d.onTime f).free = d.free := rfl

@[simp] theorem onDom_host (k : Nat) (f : Domain → Domain) : (d.onDom k f).host = d.host := rfl
@[simp] theorem onDom_logs (k : Nat) (f : Domain → Domain) : (d.onDom k f).logs = d.logs := rfl
@[simp] theorem onDom_fuses (k : Nat) (f : Domain → Domain) : (d.onDom k f).fuses = d.fuses := rfl
@[simp] theorem onDom_pins (k : Nat) (f : Domain → Domain) : (d.onDom k f).pins = d.pins := rfl
@[simp] theorem onDom_ump (k : Nat) (f : Domain → Domain) : (d.onDom k f).ump = d.ump := rfl
@[simp] theorem onDom_mode (k : Nat) (f : Domain → Domain) : (d.onDom k f).mode = d.mode := rfl
@[simp] theorem onDom_gov (k : Nat) (f : Domain → Domain) : (d.onDom k f).gov = d.gov := rfl
@[simp] theorem onDom_therm (k : Nat) (f : Domain → Domain) : (d.onDom k f).therm = d.therm := rfl
@[simp] theorem onDom_clk (k : Nat) (f : Domain → Domain) : (d.onDom k f).clk = d.clk := rfl
@[simp] theorem onDom_boot (k : Nat) (f : Domain → Domain) : (d.onDom k f).boot = d.boot := rfl
@[simp] theorem onDom_cal (k : Nat) (f : Domain → Domain) : (d.onDom k f).cal = d.cal := rfl
@[simp] theorem onDom_mc (k : Nat) (f : Domain → Domain) : (d.onDom k f).mc = d.mc := rfl
@[simp] theorem onDom_geo (k : Nat) (f : Domain → Domain) : (d.onDom k f).geo = d.geo := rfl
@[simp] theorem onDom_lib (k : Nat) (f : Domain → Domain) : (d.onDom k f).lib = d.lib := rfl
@[simp] theorem onDom_layers (k : Nat) (f : Domain → Domain) : (d.onDom k f).layers = d.layers := rfl
@[simp] theorem onDom_mar (k : Nat) (f : Domain → Domain) : (d.onDom k f).mar = d.mar := rfl
@[simp] theorem onDom_eng (k : Nat) (f : Domain → Domain) : (d.onDom k f).eng = d.eng := rfl
@[simp] theorem onDom_loops (k : Nat) (f : Domain → Domain) : (d.onDom k f).loops = d.loops := rfl
@[simp] theorem onDom_melt (k : Nat) (f : Domain → Domain) : (d.onDom k f).melt = d.melt := rfl
@[simp] theorem onDom_recd (k : Nat) (f : Domain → Domain) : (d.onDom k f).recd = d.recd := rfl
@[simp] theorem onDom_links (k : Nat) (f : Domain → Domain) : (d.onDom k f).links = d.links := rfl
@[simp] theorem onDom_slides (k : Nat) (f : Domain → Domain) : (d.onDom k f).slides = d.slides := rfl
@[simp] theorem onDom_img (k : Nat) (f : Domain → Domain) : (d.onDom k f).img = d.img := rfl
@[simp] theorem onDom_time (k : Nat) (f : Domain → Domain) : (d.onDom k f).time = { d.time with doms := upd d.time.doms k f } := rfl
@[simp] theorem onDom_flash (k : Nat) (f : Domain → Domain) : (d.onDom k f).flash = d.flash := rfl
@[simp] theorem onDom_free (k : Nat) (f : Domain → Domain) : (d.onDom k f).free = d.free := rfl

@[simp] theorem onEth_host (p : Nat) (f : EthPort → EthPort) : (d.onEth p f).host = d.host := rfl
@[simp] theorem onEth_logs (p : Nat) (f : EthPort → EthPort) : (d.onEth p f).logs = d.logs := rfl
@[simp] theorem onEth_fuses (p : Nat) (f : EthPort → EthPort) : (d.onEth p f).fuses = d.fuses := rfl
@[simp] theorem onEth_pins (p : Nat) (f : EthPort → EthPort) : (d.onEth p f).pins = d.pins := rfl
@[simp] theorem onEth_ump (p : Nat) (f : EthPort → EthPort) : (d.onEth p f).ump = d.ump := rfl
@[simp] theorem onEth_mode (p : Nat) (f : EthPort → EthPort) : (d.onEth p f).mode = d.mode := rfl
@[simp] theorem onEth_gov (p : Nat) (f : EthPort → EthPort) : (d.onEth p f).gov = d.gov := rfl
@[simp] theorem onEth_therm (p : Nat) (f : EthPort → EthPort) : (d.onEth p f).therm = d.therm := rfl
@[simp] theorem onEth_clk (p : Nat) (f : EthPort → EthPort) : (d.onEth p f).clk = d.clk := rfl
@[simp] theorem onEth_boot (p : Nat) (f : EthPort → EthPort) : (d.onEth p f).boot = d.boot := rfl
@[simp] theorem onEth_cal (p : Nat) (f : EthPort → EthPort) : (d.onEth p f).cal = d.cal := rfl
@[simp] theorem onEth_mc (p : Nat) (f : EthPort → EthPort) : (d.onEth p f).mc = d.mc := rfl
@[simp] theorem onEth_geo (p : Nat) (f : EthPort → EthPort) : (d.onEth p f).geo = d.geo := rfl
@[simp] theorem onEth_lib (p : Nat) (f : EthPort → EthPort) : (d.onEth p f).lib = d.lib := rfl
@[simp] theorem onEth_layers (p : Nat) (f : EthPort → EthPort) : (d.onEth p f).layers = d.layers := rfl
@[simp] theorem onEth_mar (p : Nat) (f : EthPort → EthPort) : (d.onEth p f).mar = d.mar := rfl
@[simp] theorem onEth_eng (p : Nat) (f : EthPort → EthPort) : (d.onEth p f).eng = d.eng := rfl
@[simp] theorem onEth_loops (p : Nat) (f : EthPort → EthPort) : (d.onEth p f).loops = d.loops := rfl
@[simp] theorem onEth_melt (p : Nat) (f : EthPort → EthPort) : (d.onEth p f).melt = d.melt := rfl
@[simp] theorem onEth_recd (p : Nat) (f : EthPort → EthPort) : (d.onEth p f).recd = d.recd := rfl
@[simp] theorem onEth_links (p : Nat) (f : EthPort → EthPort) : (d.onEth p f).links = d.links := rfl
@[simp] theorem onEth_slides (p : Nat) (f : EthPort → EthPort) : (d.onEth p f).slides = d.slides := rfl
@[simp] theorem onEth_img (p : Nat) (f : EthPort → EthPort) : (d.onEth p f).img = d.img := rfl
@[simp] theorem onEth_time (p : Nat) (f : EthPort → EthPort) : (d.onEth p f).time = { d.time with eth := upd d.time.eth p f } := rfl
@[simp] theorem onEth_flash (p : Nat) (f : EthPort → EthPort) : (d.onEth p f).flash = d.flash := rfl
@[simp] theorem onEth_free (p : Nat) (f : EthPort → EthPort) : (d.onEth p f).free = d.free := rfl

end Sys2Proof.Laws
end

