-- ==== Sys2Proof/Tests/Slice0.lean ====
section
/-! SUPPORT. The model's own tests: an ill-formed term for each check of WellFormed, worked examples of the spec, and for
every statement of Certificates/Slice0/Obligations.lean that has premises a concrete state and operands that meet them
together, clause by clause (`wit_<statement>`). Nothing here is a statement for the provers. -/

set_option Elab.async false
set_option linter.unusedVariables false
namespace Sys2Proof.Tests
open Sys2Proof.Machine Sys2Proof.Safety

/-- A device out of its ladder and with its host link up, in mode `m`. -/
def up (m : Mode) : Dev :=
  { Dev.reset with
    mode := { ModeCtl.reset with mode := m }
    boot := { Dev.reset.boot with next := 15, running := some 0 }
    host := { HostIf.reset with linkUp := true, link1Up := true }
    clk := { Dev.reset.clk with qualified := [true, true, true], locks := Dev.reset.clk.locks.set 0 true } }

def late (f : Dev → Dev := id) (d : Dev) : Dev := f { d with time := { d.time with tick := 2 ^ 40 } }

/-- The device with a command in its mailbox, queued and started. -/
def place (c : Instr) (d : Dev) : Dev :=
  match cmdOf c with
  | none => d
  | some (m, op, p) =>
    d.onMbx m fun b => { b with
      st := .queued, startTick := some 0, seq := 1
      cmd := memWrite [] 0 (u16 0x4D42 ++ u8 2 ++ u8 (mbxClass m) ++ u16 op ++ u16 0 ++ u32 7 ++ u16 p.length ++ u16 0 ++ u64 0 ++ u64 0 ++ p) }

def issuer (c : Instr) : Ctx :=
  match cmdOf c with
  | some (m, op, _) => ⟨m, op, 7, 0⟩
  | none => ⟨0, 0, 0, 0⟩

def held (c : Instr) (m : Mode) (f : Dev → Dev := id) : State := { State.reset with dev := place c (f (up m)) }
def calm (m : Mode) (f : Dev → Dev := id) : State := { State.reset with dev := f (up m) }

def aRing (d : Dev) : Dev := d.onRec fun r => { r with rings := r.rings.set 0 { Ring.reset with configured := true, size := 65536, cb := 131072 } }
def ethUp (d : Dev) : Dev := d.onEth 0 fun e => { e with up := true }

/-- A safety set in which only oar 0 takes part, with the oar flags `fl`. -/
def aSet (fl : Nat) : List Byte :=
  u16 0x5346 ++ u8 1 ++ u8 0 ++ u32 10 ++ u16 0x100 ++ List.replicate 54 0 ++
    (List.range 32).flatMap fun k => u8 k ++ u8 (if k = 0 then fl else 0) ++ List.replicate 254 0

def aSafe : SafetySet := ⟨aSet 7, []⟩
def withSafety (d : Dev) : Dev := { d with pins := { d.pins with estopA := true, estopB := true, intlk := true }, ump := { d.ump with active := some aSafe } }

/-- A frame of gang peer 1 for a device in a gang of two. -/
def gangFrame (sub n seq digest : Nat) (tail : List Byte) : List Byte :=
  u16 0x4347 ++ u8 1 ++ u8 sub ++ u8 1 ++ u8 2 ++ u16 n ++ u32 seq ++ List.replicate 12 0 ++ u32 digest ++ tail

def gang (seen : List Nat) (d : Dev) : Dev :=
  (d.onEth 0 fun e => { e with up := true }).onTime fun t => { t with
    gangSize := 2, peers := t.peers.map fun p => { p with present := true, gseq := seen } }

/-- A frame with the gang frames' address and EtherType before it. -/
def ether (bs : List Byte) : List Byte := [0x03, 0x00, 0x1F, 0x5C, 0x00, 0x01] ++ List.replicate 6 0 ++ [0x88, 0xB5] ++ bs

abbrev dma0 : DmaDesc := default
abbrev leave0 : Leave := default
abbrev mig0 : Migration := default
abbrev sync0 : SyncMsg := default
abbrev ann0 : AnnounceMsg := default
abbrev calRun0 : CalRun := default
def grant (w : Requester) (d : Dev) : Dev := { d with gov := { d.gov with grants := [{ leave0 with who := w }] } }
def timeLocked (d : Dev) : Dev := (d.onDom 0 fun x => { x with locked := true }).onTime fun t => { t with steer := some 0 }

/-! ## CRC-32C over long ranges of memory, in steps that the kernel takes quickly -/

theorem crcBits_xor (n : Nat) : ∀ a b, crc32cBits n (a ^^^ b) = crc32cBits n a ^^^ crc32cBits n b := by
  induction n with
  | zero => intro a b; rfl
  | succ n ih =>
    intro a b
    have hd : (a ^^^ b) / 2 = a / 2 ^^^ b / 2 := by
      simpa [Nat.shiftRight_eq_div_pow] using Nat.shiftRight_xor_distrib (a := a) (b := b) (i := 1)
    have hm : (a ^^^ b) % 2 = (a % 2 + b % 2) % 2 := by
      rcases Nat.mod_two_eq_zero_or_one a with h | h <;> rcases Nat.mod_two_eq_zero_or_one b with h' | h' <;>
        simp [Nat.xor_mod_two_eq, h, h', Nat.add_mod]
    have hP : ∀ x y p : Nat, x ^^^ p ^^^ (y ^^^ p) = x ^^^ y := by
      intro x y p; rw [Nat.xor_assoc, ← Nat.xor_assoc p, Nat.xor_comm p y, Nat.xor_assoc y, Nat.xor_self, Nat.xor_zero]
    simp only [crc32cBits, ← ih, hd, hm]
    congr 1
    rcases Nat.mod_two_eq_zero_or_one a with h | h <;> rcases Nat.mod_two_eq_zero_or_one b with h' | h' <;>
      simp [h, h', hP, Nat.xor_assoc, Nat.xor_comm, Nat.xor_left_comm]

theorem crcBits_shift (n : Nat) : ∀ y, crc32cBits n (y * 2 ^ n) = y := by
  induction n with
  | zero => intro y; simp [crc32cBits]
  | succ n ih => intro y; rw [Nat.pow_succ, ← Nat.mul_assoc, crc32cBits, if_neg (by omega), Nat.mul_div_cancel _ (by decide), ih]

/-- What a byte adds to a CRC-32C, 32 bits for each value. -/
def crcTable : Nat := (List.range 256).foldr (fun b t => t * 2 ^ 32 + crc32cBits 8 b) 0

def crcStep (s b : Nat) : Nat := s / 256 ^^^ (crcTable >>> (32 * ((s % 256) ^^^ b))) % 2 ^ 32

theorem crcTable_entry : ∀ v < 256, crcTable >>> (32 * v) % 2 ^ 32 = crc32cBits 8 v := by decide +kernel

theorem crcStep_eq (s : Nat) (b : Byte) : crc32cBits 8 (s ^^^ b.toNat) = crcStep s b.toNat := by
  have hb := b.isLt
  have hs : s = s / 256 * 2 ^ 8 ^^^ s % 256 := by
    apply Nat.eq_of_testBit_eq; intro i
    rw [Nat.testBit_xor, Nat.testBit_mul_two_pow, show (256 : Nat) = 2 ^ 8 from rfl, Nat.testBit_mod_two_pow, Nat.testBit_div_two_pow]
    by_cases h : i < 8
    · simp [h, Nat.not_le.mpr h]
    · simp [h, Nat.not_lt.mp h, Nat.sub_add_cancel (Nat.not_lt.mp h)]
  conv_lhs => rw [hs, Nat.xor_assoc, crcBits_xor, crcBits_shift]
  rw [crcStep, crcTable_entry _ (Nat.xor_lt_two_pow (n := 8) (Nat.mod_lt _ (by decide)) hb)]

/-- A CRC-32C over zero bytes; the running value is compared, and so evaluated, at each. -/
noncomputable def crcZeros (n : Nat) : Nat → Nat :=
  Nat.rec (fun s => s) (fun _ ih s => bif Nat.beq s 0 then ih (crcStep 0 0) else ih (crcStep s 0)) n

/-- The same over `n` bytes from `a` on of memory that holds the listed bytes, in rising order. -/
noncomputable def crcOver : Cells → Nat → Nat → Nat → Nat
  | [], _, n, s => crcZeros n s
  | (x, v) :: t, a, n, s => crcOver t (x + 1) (a + n - (x + 1)) (crcStep (crcZeros (x - a) s) v.toNat)

abbrev crcFold (s : Nat) (bs : List Byte) : Nat := bs.foldl (fun c b => crc32cBits 8 (c ^^^ b.toNat)) s

theorem crcZeros_eq (n : Nat) : ∀ s, crcZeros n s = crcFold s (List.replicate n 0) := by
  induction n with
  | zero => intro s; rfl
  | succ n ih =>
    intro s
    have h : crcZeros (n + 1) s = bif Nat.beq s 0 then crcZeros n (crcStep 0 0) else crcZeros n (crcStep s 0) := rfl
    have e : crcFold s (List.replicate (n + 1) 0) = crcFold (crcStep s 0) (List.replicate n 0) := by
      rw [List.replicate_succ, crcFold, List.foldl_cons, crcStep_eq]; rfl
    rw [h, e, ih, ih]
    by_cases hs : s = 0
    · simp [hs]
    · cases s with
      | zero => exact absurd rfl hs
      | succ _ => rfl

theorem memGet_absent (c : Cells) (y : Nat) (h : ∀ p ∈ c, p.1 ≠ y) : memGet c y = 0 := by
  induction c with
  | nil => rfl
  | cons p t ih => rw [memGet, if_neg (h p (by simp)), ih fun q hq => h q (by simp [hq])]

theorem memBytes_split (c : Cells) (a m n : Nat) : memBytes c a (m + n) = memBytes c a m ++ memBytes c (a + m) n := by
  simp [memBytes, List.range_add, Function.comp_def, Nat.add_assoc]

theorem memBytes_absent (c : Cells) (a n : Nat) (h : ∀ p ∈ c, p.1 < a ∨ a + n ≤ p.1) : memBytes c a n = List.replicate n 0 := by
  rw [List.eq_replicate_iff]; refine ⟨by simp [memBytes], fun b hb => ?_⟩
  simp only [memBytes, List.mem_map, List.mem_range] at hb
  obtain ⟨i, hi, rfl⟩ := hb
  exact memGet_absent _ _ fun p hp => by have := h p hp; omega

theorem crcOver_eq (c : Cells) : ∀ a n s, c.Pairwise (fun p q => p.1 < q.1) → (∀ p ∈ c, a ≤ p.1 ∧ p.1 < a + n) →
    crcOver c a n s = crcFold s (memBytes c a n) := by
  induction c with
  | nil => intro a n s _ _; rw [crcOver, crcZeros_eq, memBytes_absent _ _ _ (by simp)]
  | cons p t ih =>
    obtain ⟨x, v⟩ := p
    intro a n s hp hr
    have hx := hr (x, v) (by simp)
    have ht := (List.pairwise_cons.1 hp).1
    have hd : memBytes ((x, v) :: t) a n =
        List.replicate (x - a) 0 ++ v :: memBytes t (x + 1) (a + n - (x + 1)) := by
      rw [show n = (x - a) + (1 + (a + n - (x + 1))) by simp only at hx; omega, memBytes_split, memBytes_split]
      rw [memBytes_absent _ a (x - a) (by
        intro q hq; simp only [List.mem_cons] at hq
        rcases hq with rfl | hq
        · simp only at hx ⊢; omega
        · have := ht q hq; simp only at this hx; omega)]
      congr 1
      rw [show a + (x - a) = x by simp only at hx; omega]
      have h1 : memBytes ((x, v) :: t) x 1 = [v] := by simp [memBytes, memGet]
      rw [h1, List.singleton_append]
      congr 1
      rw [show a + (x - a + (1 + (a + n - (x + 1)))) - (x + 1) = a + n - (x + 1) by simp only at hx; omega]
      unfold memBytes
      apply List.map_congr_left
      intro i _
      rw [memGet, if_neg (by omega)]
    rw [hd, crcFold, List.foldl_append, List.foldl_cons, crcOver, ih _ _ _ (List.pairwise_cons.1 hp).2, crcZeros_eq, crcStep_eq]
    intro q hq
    have h1 := ht q hq
    have h2 := hr q (by simp [hq])
    simp only at h1 hx
    omega

theorem crc_of (c : Cells) (a n v : Nat) (hp : c.Pairwise (fun p q => p.1 < q.1)) (hr : ∀ p ∈ c, a ≤ p.1 ∧ p.1 < a + n)
    (h : crcOver c a n 0xFFFFFFFF ^^^ 0xFFFFFFFF = v) : crc32c (memBytes c a n) = v := by
  rw [crcOver_eq _ _ _ _ hp hr] at h; exact h

/-- The bytes of `aSet 0` that are not zero. -/
def aCells : Cells :=
  [(0, 0x46), (1, 0x53), (2, 1), (4, 10), (9, 1)] ++ (List.range 31).map fun k => (320 + 256 * k, BitVec.ofNat 8 (k + 1))

theorem aCells_crc : crc32c (memBytes aCells 0 8256) = 1981120787 :=
  crc_of _ _ _ _ (by decide +kernel) (by decide +kernel) (by decide +kernel)

theorem zeros_crc : crc32c (memBytes [] 0 50700) = 1864542422 := crc_of _ _ _ _ (by decide) (by decide) (by decide +kernel)

abbrev grid0 : GridArg := default
abbrev edge0 : Edge := default
abbrev buf0 : BufStroke := default
abbrev pool0 : PoolItem := default
abbrev pend0 : PendingItem := default
abbrev layer0 : LayerRec := LayerRec.ofAddr 0 5
abbrev job0 : Job := default
abbrev plan0 : JumpPlan := default
def aBed (d : Dev) : Dev := { d with geo := { d.geo with active := { d.geo.active with bed := some (0, 0, 6400000, 6400000) } } }
def linked (n : Nat) (d : Dev) : Dev := d.onPort n fun p => { p with st := .trained, hstate := 2, sleep := 0, acks := 0 }
def released (l : LayerRec) (d : Dev) : Dev := { d with layers := { d.layers with released := some l } }
def closedPath (d : Dev) : Dev := { linked 0 d with ump := { d.ump with closed := 1 }, geo := { d.geo with disabled := 0 } }
/-- Oar 0 rated and configured. -/
def fit (d : Dev) : Dev :=
  { d.onEng 0 fun e => { e with motion := { e.motion with rateMax := some [1, 1, 1], accMax := some [1, 1, 1] } } with
    gov := { d.gov with power := d.gov.power.set 0 (1, 1) } }

theorem some_getD {α β : Type} [Inhabited (α × β)] (o : Option (α × β)) (h : o.isSome = true) :
    o = some ((o.getD default).1, (o.getD default).2) := by
  cases o with
  | none => cases h
  | some _ => rfl

theorem opt_eta {α : Type} [Inhabited α] {o : Option α} (h : o.isSome = true) : o = some (o.getD default) := by
  cases o with
  | none => cases h
  | some _ => rfl


def after (c : Instr) (s : State) : State := match exec c s with | .next t => t | _ => s

/-- A fence and the end of the list, and the layer descriptor that names them. -/
def twoRecs : List Byte := u8 8 ++ List.replicate 31 0 ++ u8 0xF ++ List.replicate 27 0 ++ u32 1
def aDesc : List Byte :=
  let b := u16 0x4C44 ++ u8 1 ++ u8 4 ++ u32 1 ++ u32 0 ++ u32 1280 ++ u64 0x2000 ++ u32 2 ++ u32 (crc32c twoRecs) ++ u32 150000 ++
    u16 1024 ++ u16 20 ++ List.replicate 12 0 ++ u32 1000 ++ u16 1 ++ List.replicate 66 0
  b ++ u32 (crc32c b)
def aList : Dram := { mem := memWrite (memWrite [] 0x1000 aDesc) 0x2000 twoRecs, poison := [], injected := [] }
def listed : LayerRec := { layer0 with desc := descOf aDesc, blocks := [⟨crc32c twoRecs, ParseState.start, []⟩] }

def axis0 : AxisDesc where
  axis := 0
  aflags := 0
  encSel := 0xFF
  loopUse := 0
  microFine := 0
  microCoarse := 0
  msMap := 0
  vMax := 1000
  aMax := 1
  dMax := 1
  jMax := 1
  msUp := 10
  msDown := 5
  stepW := 100
  dirSetup := 100
  msSetup := 100
  elecOffset := 0
  trimMax := 0
  followMax := 0
  inPos := 10
  moveDrawW := 0
  softMin := -1000
  softMax := 1000
def axisReady (a : Nat) (d : Dev) : Dev := d.onAxis a fun x => { x with desc := some axis0, st := .idle }
abbrev enc0 : EncDesc := { (default : EncDesc) with minEdge := 1, obsBw := 100, num := 1, den := 1, idxMaxOn := 1, stillTime := 100 }
abbrev home0 : HomeArg := { (default : HomeArg) with direction := 1, speed := 1, qualWin := 1 }
abbrev homing0 : Homing := { (default : Homing) with arg := home0 }
abbrev recoat0 : RecoatArg := { (default : RecoatArg) with platform := 1, doser := 0xFF }
def image0 : ImageArg where
  start := 0
  stop := 1000
  lineW := 16
  lineX0 := 0
  lineExp := 1000
  strobeDelay := 0
  dirs := [⟨0, 0, 1000⟩]
  dutyMax := 1
  bufBase := 0
  slots := 1
  nMax := 1
  required := 0
def image1 : ImageArg := { image0 with dirs := [⟨0x80, 1000, 1000⟩], dutyMax := 1 }
abbrev lamp0 : LampArg := { (default : LampArg) with rPu := 1, r25 := 1, beta := 1, tMax := 1 }
abbrev line0 : LineRx := default
abbrev motion0 : MotionArg := ⟨5000, [1, 1, 1], [1, 1, 1], 1, 100, 100, 1, 1, 1, 50, 0⟩
abbrev camera0 : CameraArg := ⟨1, 0, 0, 16, 16, 20, 100, 1, 1⟩

theorem of_first {α β : Type} {r : α × β} {a : α} (h : r.1 = a) : r = (a, r.2) := by rw [← h]
theorem of_third {α β γ : Type} {r : α × β × γ} {c : γ} (h : r.2.2 = c) : r = (r.1, r.2.1, c) := by rw [← h]
theorem all_nth {α : Type} [Inhabited α] {p : α → Prop} {l : List α} (h : ∀ c ∈ l, p c) (h0 : p default) (i : Nat) : p (nth l i) := by
  unfold nth
  by_cases hi : i < l.length
  · rw [List.getD_eq_getElem _ _ hi]; exact h _ (List.getElem_mem hi)
  · rw [List.getD_eq_default _ _ (Nat.le_of_not_lt hi)]; exact h0

abbrev slot0 : SlotDesc := { (default : SlotDesc) with slot := 159, eNorm := 1, uMax := 1, dFilt := 1 }
/-- A gain table: 32 points, of which point i stands at |e| = i. -/
def gainCells : Cells := (List.range 31).map fun i => (16 * (i + 1), BitVec.ofNat 8 (i + 1))
abbrev svc0 : SvcReq := ⟨0, 0, 0, 0, [], 0, 0, false⟩
abbrev report0 : TrainReport := { (default : TrainReport) with ok := true }
def fw0 : FwSlot := ⟨[], 0, 1, 0, [], true, true⟩
def locked (d : Dev) : Dev := d.onClk fun c => { c with locks := List.replicate 9 true }
def loadSlots (n : Nat) (d : Dev) : Dev :=
  d.onLoops fun l => { l with gains := [(0, ⟨[]⟩)], slots := l.slots.mapIdx fun i x => if i < n then { x with desc := some { slot0 with slot := i } } else x }

/-- A firmware image of a header alone: magic, version 1, no body. -/
def imgCells : Cells := [(0, 0x57), (1, 0x46), (2, 0x43), (3, 0x51), (4, 1)]

theorem allLoads_nil : ∀ w ∈ allLoads ([].map fun c : SlotDesc => (c.slot, c.rate)), w.2.2 ≤ 240 := by
  have h : ∀ p, worstLoad [] p = (0, 0, 0) := by
    intro p
    refine List.foldl_fixed' (fun q => ?_) _
    split
    · rfl
    · exact List.foldl_fixed' (fun n => by simp [frameLoad]) _
  simp only [allLoads, List.map_nil, List.mem_map]
  rintro w ⟨p, -, rfl⟩
  rw [h]; decide

/-! ## An ill-formed term for each check of WellFormed -/

abbrev refused (cs : List Instr) : Prop := ∀ c ∈ cs, c.wf = false

theorem test_wf_mailbox_and_widths : refused
    [.sysIdentify 17, .logSpoilstat 4 (2 ^ 32), .safeStage 4 (2 ^ 64) 0 0, .loopSetpoint 4 0 (2 ^ 31), .loopSetpoint 4 0 (-2 ^ 31 - 1),
      .slideSetpos 4 0 (2 ^ 63), .slideMove 4 0 0 (some (2 ^ 32)), .fieldBed 4 (2 ^ 31) 0 0 0, .layerStatus 4 (some (2 ^ 32)),
      .loopMode 4 (2 ^ 160) 0 none, .loopMode 4 0 0 (some (2 ^ 31)), .ledPattern 4 0 [⟨0, 2 ^ 16, 0⟩],
      .ledPattern 4 0 [⟨256, 0, 0⟩]] := by
  decide +kernel

theorem test_wf_lists : refused
    [.oarPowermap 4 0 [] 0, .oarSvc 4 0 0 0 0 (List.replicate 2001 0), .fieldPolygon 4 0 (List.replicate 17 ⟨0, 0⟩),
      .fieldPolygon 4 0 [⟨2 ^ 31, 0⟩], .fieldKeepout 4 0 0 (List.replicate 9 ⟨0, 0⟩),
      .fieldStitch 4 (List.replicate 257 ⟨0, 1, 1, ⟨0, 0⟩⟩), .loopConfig 4 (List.replicate 161 slot0), .loopIo 4 [] [],
      .loopTrace 4 [0, 0, 0, 0, 0] 0 0, .slideConfig 4 (List.replicate 9 axis0), .slideEncoder 4 (List.replicate 9 enc0),
      .ledPattern 4 0 (List.replicate 33 ⟨0, 0, 0⟩), .ledSet 4 0 0 0 [], .safeCommit 4 [], .logNote 4 [],
      .modeBudget 4 0 (some (0, List.replicate 33 default)), .usbCommand (List.replicate 2049 0), .bar2Write 0 (List.replicate 513 0) .clean,
      .dmaPoll 0 [], .returnFrame 0 0 [], .commandAreaWrite 0 2000 (List.replicate 49 0)] := by
  decide +kernel

theorem test_wf_arguments : refused
    [.oarMotion 4 0 { motion0 with obsBw := 2 ^ 16 }, .oarMotion 4 0 { motion0 with rateMax := [1] },
      .oarCamera 4 0 { camera0 with thresh := 2 ^ 32 }, .fieldGrid 4 { grid0 with temp := 2 ^ 15 },
      .fieldStitch 4 [⟨256, 0, 0, ⟨0, 0⟩⟩], .loopConfig 4 [{ slot0 with lflags := 32 }], .slideConfig 4 [{ axis0 with aflags := 64 }],
      .slideEncoder 4 [{ enc0 with eflags := 8 }], .slideHome 4 0 { home0 with homePos := 2 ^ 63 },
      .slideRecoat 4 { recoat0 with platform := 2 ^ 32 }, .imageConfig 4 { image0 with dirs := List.replicate 5 default },
      .ledLamp 4 { lamp0 with tMax := 2 ^ 31 }, .timePort 4 { (default : TimePortArg) with vlan := none, ipv4 := some 1 },
      .timePort 4 { (default : TimePortArg) with vlan := some (2 ^ 32, 0) }, .timeDomain 4 { (default : TimeDomainArg) with logSync := 2 ^ 31 },
      .oarLatency 4 (some (2 ^ 32, 0, 0)), .marshalThermal 4 (some (0, 2 ^ 32)), .marshalWake 4 (some (2 ^ 32, 0, 0, 0)),
      .sysLadder 4 (some (2 ^ 32, 0, 0)), .modeBudget 4 0 (some (2 ^ 32, []))] := by
  decide +kernel

theorem test_wf_instances : refused
    [.doorbell 16 0, .registerWrite false 2 0, .registerWrite false (2 ^ 20) 0, .bar2Read 0 4097 .clean, .recordApertureRead (2 ^ 64) 0,
      .coxTaskWatchdog 4 0, .irqHoldoffExpiry false 64, .pcieLinkChange 9 0 none [], .dmaTimeout 8, .dmaDescriptorComplete 8 [] .clean,
      .lgateTransition 32, .inPosition 8, .loopSlotExecute 160 0 0, .loopSlotExecute 0 4096 0, .loopSlotExecute 0 0 4096, .loopSlotOverrun 160, .loopSelfTest 8 0,
      .controlBlockUpdate 3, .returnFrame 33 0 (List.replicate 40 0), .returnFrame 0 0 (List.replicate 40 (2 ^ 66)), .linkLockLoss 33,
      .eyeProbeComplete (2 ^ 64) 0, .encoderEdge 0 4 default, .strobeSenseSample 12 0 0 false, .lampTemperature 4096,
      .retrainingPause 4 [] none, .migrationChunkCopy 2 [], .domainLost 2, .ethPortChange 2 false, .otherFrame 0 5, .peerLost 4,
      .monitorSample 0 (2 ^ 14), .coxHeartbeat 4, .voteLivenessLoss 3, .railOutOfWindow 5 0, .pllFailure 2, .referenceQualified 3,
      .blockReleaseTimeout (2 ^ 32) 0, .pllLockLoss 7, .encoderGlitch 0 3, .retrainLate 4] := by
  decide +kernel

/-! ## Worked examples of the spec -/

/-- Stitching: of the residuals of 30.41, 30.41 and 29.70 LSB the greatest. -/
theorem test_stitch_example :
    stitchResid [⟨9, 10, 1, ⟨256, 0⟩⟩, ⟨10, 14, 1, ⟨0, -128⟩⟩, ⟨9, 14, 1, ⟨320, -64⟩⟩]
      (List.replicate 9 ⟨0, 0⟩ ++ [⟨-192, 21⟩, ⟨85, 43⟩, ⟨0, 0⟩, ⟨0, 0⟩, ⟨0, 0⟩, ⟨107, -64⟩]) = 30 := by
  decide +kernel

/-- The usable fields of the reference machine: 298 mm squares. -/
def refField (k : Nat) : List Pt :=
  let x : Int := (-300 + 200 * (k % 4 : Nat)) * 64000
  let y : Int := (-350 + 100 * (k / 4 : Nat)) * 64000
  let h : Int := 149 * 64000
  [⟨x - h, y - h⟩, ⟨x + h, y - h⟩, ⟨x + h, y + h⟩, ⟨x - h, y + h⟩]
def refGeo : Geometry :=
  { State.reset.dev.geo.active with bed := some (-25600000, -25600000, 51200000, 51200000), fields := (List.range 32).map refField }

/-- Eligibility: the hatch stroke of the reference machine. -/
theorem test_eligibility_example : refGeo.eligibility ⟨800000, -2400000⟩ ⟨992000, -2400000⟩ 0xFFFF = some 0x00066600 := by
  decide +kernel

/-- The control law: heater 3 switched from MAN to AUTO, its first two periods. -/
def heater : SlotDesc :=
  { slot0 with slot := 139, eNorm := 100, uMin := 0, uMax := 65535, iMin := 0, iMax := 65535, aw := 0, dFilt := 0, slew := 0, lflags := 0 }
def heaterGains : GainTable :=
  ⟨[(0, 60 * 65536, 16384, 0), (2048, 80 * 65536, 16384, 0), (8192, 120 * 65536, 6554, 0)]⟩
theorem test_heater_example :
    let a := LoopSlot.law { (default : LoopSlot) with preset := true, uPrev := 24576 } heater ⟨50, 1950, 0, 0, 65535, heaterGains, false⟩
    let b := LoopSlot.law a.1 heater ⟨49, 1951, 0, 0, 65535, heaterGains, false⟩
    (a.2.i, a.1.outNow, a.1.integ, (gainLookup heaterGains 2007).1, b.1.outNow, b.1.integ) =
      (20576 * 65536, 24576, 20588 * 65536 + 32768, 5216640, 24489, 20600 * 65536 + 49152) := by
  decide +kernel

/-- The loop array's home schedule: a peak of 198 cycles in a frame. -/
theorem test_load_example :
    ((List.range 8).map (frameLoad ((List.range 160).map fun s => (s, 2)) none 3)).foldl max 0 = 198 := by
  decide +kernel

/-- The migration plan for the loss of processor 3: its worst survivor spends 228 cycles in a frame. -/
theorem test_migration_example :
    ((List.range 8).map (frameLoad ((List.range 160).map fun s => (s, 2)) (some 3) 7)).foldl max 0 = 228 := by
  decide +kernel

/-- CRC-32C, on the catalogue's check string "123456789". -/
theorem test_crc32c : crc32c [0x31, 0x32, 0x33, 0x34, 0x35, 0x36, 0x37, 0x38, 0x39] = 0xE3069283 := by
  decide +kernel

/-! ## States and operands that meet the premises of the statements -/

/-- The last three statements about SPOIL: a record that matches, none and no place, none and room. -/
def spoilt : SpoilRec := ⟨1, 1, 0, 5, false, 1, 0, 0, 0, 0, 0, false⟩
def fullSpoil (d : Dev) : Dev := { d with logs := { d.logs with spoil := List.replicate 4032 spoilt } }
theorem wit_LogbookChainsAndSpoilCoalesces :
    { (up .ready).logs with spoil := [spoilt] }.spoilMatch 1 0 5 = some spoilt ∧
    ((fullSpoil (up .ready)).logs.spoilMatch 2 0 5 = none ∧ (fullSpoil (up .ready)).logs.spoilPlace false = none) ∧
    (up .ready).logs.spoilMatch 1 0 5 = none ∧ (up .ready).logs.spoilUsed false < 4032 := by
  refine ⟨by decide +kernel, ⟨?_, ?_⟩, by decide +kernel, by decide +kernel⟩
  · decide +kernel
  · decide +kernel

abbrev reqBusy (m : Mode) : State := calm m fun d => { d with host := { d.host with modeReq := { d.host.modeReq with busy := true } } }
theorem wit_modeReq :
    (Live (.modeReq 4) (reqBusy .ready) ∧ (reqBusy .ready).dev.host.linkUp = true ∧ (reqBusy .ready).dev.host.modeReq.busy = true) ∧
    (Live (.modeReq 7) (calm .ready) ∧ (calm .ready).dev.host.modeReq.busy = false ∧ 7 % 16 ∉ [4, 5, 6]) ∧
    (Live (.modeReq 6) (calm .safe) ∧ (calm .safe).dev.host.modeReq.busy = false ∧ 6 % 16 ∈ [4, 5, 6] ∧
      (calm .safe).dev.mode.mode ∈ [.start, .safe]) ∧
    (Live (.modeReq 4) (calm .build) ∧ (calm .build).dev.host.modeReq.busy = false ∧ 4 % 16 = 4 ∧
      (calm .build).dev.mode.mode = .build ∧ (calm .build).dev.mode.transition = false ∧
      (calm .build).dev.layers.released = none) := by
  decide +kernel

theorem wit_LadderOutcomes :
    (haltedAt (up .start)).halt = true ∧ ((passed (up .start)).halt = false ∧ 14 ≤ 14) ∧
    14 < (failed (up .start)).dev.boot.keep.steps.length ∧ (failed (up .start)).outcome ≤ 3 := by
  decide +kernel

theorem wit_SafeEntryOpensEveryCutPath : (up .build).mode.mode = .build ∧ (up .hold).mode.mode = .hold ∧ (up .safe).mode.mode = .safe := by
  decide +kernel

/-- A command that passes every examination, and the same with a field spoiled for each step. -/
abbrev posted (f : List Byte → List Byte) : Dev := (place (.sysIdentify 15) (up .ready)).onMbx 15 fun b => { b with cmd := memWrite [] 0 (f (memBytes b.cmd 0 64)) }
abbrev h15 (f : List Byte → List Byte) : Hdr := (posted f).hdr 15
theorem wit_ExaminationOrder :
    (h15 (·.set 0 0)).magic ≠ 0x4D42 ∧ ((h15 (·.set 2 1)).magic = 0x4D42 ∧ (h15 (·.set 2 1)).version ≠ 2) ∧
    ((h15 (·.set 3 0)).version = 2 ∧ (h15 (·.set 3 0)).cls ≠ mbxClass 15) ∧
    ((h15 id).cls = mbxClass 15 ∧ (opRow (h15 id).opcode).isSome = true ∧
      (∀ o ∈ opRow (h15 id).opcode, classAccepted 15 o.cls = true ∧ o.form.ok ((posted id).payload 15) = true ∧
        originPermits 15 false o = true)) ∧
    (2016 < (h15 ((·.set 13 8) ∘ (·.set 12 1))).length) ∧ (8 ≤ (h15 (·.set 6 8)).flags) ∧
    ((h15 id).length ≤ 2016 ∧ (h15 id).reserved = 0 ∧ (h15 id).flags < 8) ∧ opRow (h15 (·.set 5 0xFF)).opcode = none ∧
    (posted id).host.serviceOn = false ∧ (posted id).examine 15 = none ∧
    (∀ o ∈ opRow 0x0113, originPermits 15 false o = false) ∧ (opRow 0x0113).isSome = true := by
  decide +kernel

/-- A step out of a state whose memory is in order. -/
abbrev fewCells : State :=
  { State.reset with dram := { State.reset.dram with mem := [(0, 1), (7, 2)] }, pending := [.frameTick] }
abbrev inReset : State :=
  { (match execResetAssert .rstn (calm .build) with | .next t => t | _ => calm .build) with pending := [.frameTick] }
theorem wit_StepKeepsMemoryCanonical :
    (MemOk fewCells ∧ step fewCells = .next (match step fewCells with | .next t => t | _ => fewCells)) ∧
    HeldInReset inReset ∧ step inReset = .next (match step inReset with | .next t => t | _ => inReset) := by
  refine ⟨⟨by decide +kernel, ?_⟩, ⟨by decide +kernel, by decide +kernel, by decide +kernel, by decide +kernel, by decide +kernel⟩, ?_⟩
  · rfl
  · rfl

theorem wit_TimeSteers : { (up .ready).time with select := 0 }.select < 2 ∧
    (timeLocked (up .ready)).time.chosen = some 0 := by
  decide +kernel

theorem wit_EligibilityByMaskOrField : 0 < { refGeo with masks := [5] }.masks.length ∧ 0 < 0xFFFF := by
  decide +kernel

/-- A gain table of zeros: its EN does not rise. -/
theorem zeros512_crc : crc32c (memBytes [] 0 512) = 821882304 := crc_of _ _ _ _ (by decide) (by decide) (by decide +kernel)

abbrev gains0 : Instr := .loopGains 4 127 1 0 821882304
theorem wit_GainTablesMustAscend :
    (Starts gains0 (held gains0 .ready) (issuer gains0) ∧ 1 ≤ 1 ∧ 127 + 1 ≤ 128 ∧ 0 + 512 * 1 ≤ (held gains0 .ready).dev.mc.hostLimit ∧
      (∀ j < 1, (held gains0 .ready).dev.tableBusy (127 + j) = false) ∧ (held gains0 .ready).dram.marked 0 (512 * 1) = [] ∧
      crc32c (memBytes (held gains0 .ready).dram.mem 0 (512 * 1)) = 821882304 ∧ 0 < 1 ∧
      ∃ j < 31, fieldOf (entryAt (memBytes (held gains0 .ready).dram.mem 0 (512 * 1)) 512 0) (16 * (j + 1)) 2 ≤
        fieldOf (entryAt (memBytes (held gains0 .ready).dram.mem 0 (512 * 1)) 512 0) (16 * j) 2) ∧
    (gainTable (memBytes gainCells 0 512)).pts.length = 32 ∧ (gainTable (memBytes gainCells 0 512)).ok = true ∧
      (nth (gainTable (memBytes gainCells 0 512)).pts 31).1 ≤ 31 := by
  refine ⟨⟨?_, ?_, ?_, ?_, ?_, ?_, zeros512_crc, ?_, 0, ?_, ?_⟩, ?_, ?_, ?_⟩ <;> decide +kernel

/-- A record of PF0 that is not in flash. -/
theorem wit_LogbookChainsAndSpoilCoalesces_flash :
    { (default : LogArg) with origin := 1 }.origin = 1 ∧ (up .ready).logs.flushed < (up .ready).logs.nextLog := by
  decide +kernel

theorem wit_StepTakesTheFront :
    ((fun c rest (s : State) => s.pending = c :: rest) (.sysIdentify 4) [.frameTick] { State.reset with pending := [.sysIdentify 4, .frameTick] }) ∧
    ((fun (s : State) => s.pending = []) (State.reset)) := by
  and_intros <;> decide +kernel

theorem wit_SysCommandsComplete :
    ((fun m (s : State) x => Starts (.sysIdentify m) s x) 4 (held (.sysIdentify 4) .ready) (issuer (.sysIdentify 4))) ∧
    ((fun m b n (s : State) x => Starts (.sysCq m b n) s x ∧ (n = 0 ∨ b % 4096 = 0 ∧ ∃ k, 6 ≤ k ∧ k ≤ 16 ∧ n = 2 ^ k)) 4 4096 64 (held (.sysCq 4 4096 64) .ready) (issuer (.sysCq 4 4096 64))) ∧
    ((fun m f n (s : State) x => Starts (.sysCompletions m f n) s x ∧ 1 ≤ n ∧ n ≤ 15) 4 0 15 (held (.sysCompletions 4 0 15) .ready) (issuer (.sysCompletions 4 0 15))) ∧
    ((fun m c b n p (s : State) x => Starts (.sysDma m c b n p 1) s x ∧ c < 8 ∧ b % 4096 = 0 ∧ isPow2 4 16 n = true ∧ 1 ≤ p ∧ p ≤ 1000) 4 7 4096 16 10 (held (.sysDma 4 7 4096 16 10 1) .ready) (issuer (.sysDma 4 7 4096 16 10 1))) ∧
    ((fun m c b n p (s : State) x => Starts (.sysDma m c b n p 0) s x ∧ c < 8 ∧ b % 4096 = 0 ∧ isPow2 4 16 n = true ∧ 1 ≤ p ∧ p ≤ 1000 ∧ (nth s.dev.host.dma c).running = false ∧ (nth s.dev.host.dma c).cur = none) 4 7 4096 16 1000 (held (.sysDma 4 7 4096 16 1000 0) .ready) (issuer (.sysDma 4 7 4096 16 1000 0))) ∧
    ((fun m k (s : State) x => Starts (.sysDmastatus m k) s x ∧ k < 256) 4 255 (held (.sysDmastatus 4 255) .ready) (issuer (.sysDmastatus 4 255))) ∧
    ((fun m b (s : State) x => Starts (.sysAperture m b) s x ∧ b % s.dev.host.bar2Size = 0 ∧ b < s.dev.mc.hostLimit) 4 0 (held (.sysAperture 4 0) .ready) (issuer (.sysAperture 4 0))) ∧
    ((fun m (s : State) x => Starts (.sysMbxstat m 0) s x) 4 (held (.sysMbxstat 4 0) .ready) (issuer (.sysMbxstat 4 0))) ∧
    ((fun m (s : State) x => Starts (.sysMbxstat m 1) s x) 4 (held (.sysMbxstat 4 1) .ready) (issuer (.sysMbxstat 4 1))) ∧
    ((fun m (s : State) x => Starts (.sysService m 0) s x) 4 (held (.sysService 4 0) .ready) (issuer (.sysService 4 0))) ∧
    ((fun m (s : State) x => Starts (.sysService m 1) s x ∧ s.dev.host.serviceOn = true ∧ (nth s.dev.host.mbx 16).st ≠ .queued ∧ (nth s.dev.host.mbx 16).st ≠ .executing) 4 (held (.sysService 4 1) .ready (fun d => { d with host := { d.host with serviceOn := true } })) (issuer (.sysService 4 1))) ∧
    ((fun m target tag (s : State) x => Starts (.sysAbort m target tag) s x ∧ target < 16 ∧ target ≠ x.mbx ∧ (nth s.dev.host.mbx target).st = .queued ∧ (s.dev.hdr target).tag = tag ∧ (nth s.dev.host.mbx target).effect = false ∧ (∀ j ∈ s.dev.host.jobs, j.mbx ≠ target)) 4 5 0 (held (.sysAbort 4 5 0) .ready (fun d => d.onMbx 5 fun b => { b with st := .queued })) (issuer (.sysAbort 4 5 0))) := ⟨by decide +kernel, ⟨by decide, .inr ⟨by decide, 6, by decide⟩⟩, by decide +kernel, by decide +kernel, (by decide +kernel), by decide +kernel, by decide +kernel, (by decide +kernel), by decide +kernel, by decide +kernel, (by decide +kernel), by decide +kernel⟩

theorem wit_RegisterWritesComplete :
    ((fun v (s : State) => Live (.hostStop v) s ∧ s.dev.host.linkUp = true) 1 (calm .ready)) ∧
    ((fun n tag (s : State) => Live (.doorbell n tag) s ∧ s.dev.host.linkUp = true ∧ s.dev.hostOpen = true ∧ (nth s.dev.host.mbx n).st = .free ∧ (s.dev.hdr n).tag = tag) 0 0 (calm .ready)) ∧
    ((fun k (s : State) => Live (.mbxAck k) s ∧ s.dev.host.linkUp = true) 65535 (calm .ready)) ∧
    ((fun v (s : State) => s.dev.awake = true ∧ s.dev.host.linkUp = true ∧ v % 2 = 1) 1 (calm .ready)) ∧
    ((fun v (s : State) => s.dev.awake = true ∧ s.dev.host.linkUp = true) 0 (calm .ready)) ∧
    ((fun n o ds (s : State) => Live (.commandAreaWrite n o ds) s ∧ s.dev.host.linkUp = true ∧ (ds.length = 1 ∨ ds.length = 2 ∧ o % 2 = 0 ∨ 4 ≤ ds.length ∧ ds.length ≤ 128 ∧ ds.length % 4 = 0 ∧ o % 4 = 0) ∧ (nth s.dev.host.mbx n).st = .free) 4 2044 [1, 2, 3, 4] (calm .ready)) ∧
    ((fun p (s : State) => s.dev.awake = true ∧ s.dev.host.answers p = true) false (calm .ready)) ∧
    ((fun p (s : State) => s.dev.awake = true ∧ s.dev.host.answers p = true) false (calm .ready)) ∧
    ((fun v (s : State) pf1 => Live (.registerWrite pf1 0x4000 v) s ∧ s.dev.host.answers pf1 = true) 1 (calm .ready) true) ∧
    ((fun v (s : State) pf1 => Live (.registerWrite pf1 0x4004 v) s ∧ s.dev.host.answers pf1 = true) 1 (calm .ready) false) ∧
    ((fun v (s : State) pf1 => Live (.registerWrite pf1 0x4010 v) s ∧ s.dev.host.answers pf1 = true) 1023 (calm .ready) true) ∧
    ((fun v (s : State) => Live (.registerWrite false 0x3048 v) s ∧ s.dev.host.linkUp = true) 65535 (calm .ready)) ∧
    ((fun v (s : State) => Live (.registerWrite false 0x30008 v) s ∧ s.dev.host.linkUp = true) 3 (calm .ready)) ∧
    ((fun v (s : State) => Live (.registerWrite false 0x38008 v) s ∧ s.dev.host.linkUp = true) 3 (calm .ready)) ∧
    ((fun v (s : State) => Live (.registerWrite false 0x1004 v) s ∧ s.dev.host.linkUp = true) 5 (calm .ready)) ∧
    ((fun v (s : State) => Live (.registerWrite false 0x2010 v) s ∧ s.dev.host.linkUp = true) 1 (calm .ready)) ∧
    ((fun v (s : State) n => n < 16 ∧ Live (.registerWrite false (0x3000 + 4 * n) v) s ∧ s.dev.host.linkUp = true) 0 (calm .ready) 15) ∧
    ((fun v (s : State) => Live (.registerWrite false 0x3044 v) s ∧ s.dev.host.linkUp = true) 1 (calm .ready)) ∧
    ((fun v (s : State) pf1 => Live (.registerWrite pf1 0x4008 v) s ∧ s.dev.host.answers pf1 = true) 1 (calm .ready) true) ∧
    ((fun v (s : State) pf1 => Live (.registerWrite pf1 0x4018 v) s ∧ s.dev.host.answers pf1 = true) 1 (calm .ready) false) ∧
    ((fun v (s : State) => Live (.registerWrite false 0x20000 v) s ∧ s.dev.host.linkUp = true) 1 (calm .ready)) ∧
    ((fun v (s : State) => Live (.registerWrite false 0x3800C v) s ∧ s.dev.host.linkUp = true) 0 (calm .ready)) ∧
    ((fun v (s : State) o => o ∈ [0x0, 0x4, 0x18, 0x1000, 0x100C, 0x2000, 0x2004, 0x304C, 0x5000, 0x20004, 0x30000, 0x38000] ∧ Live (.registerWrite false o v) s ∧ s.dev.host.linkUp = true) 0 (calm .ready) 0x5000) ∧
    ((fun v (s : State) o => o < 0x4000 ∧ Live (.registerWrite true o v) s ∧ s.dev.host.link1Up = true) 0 (calm .ready) 0x3FFC) := by
  and_intros <;> decide +kernel

theorem wit_InterruptRegisters :
    ((fun pf1 hi v (s : State) => Live (.irqTest pf1 hi v) s ∧ s.dev.host.answers pf1 = true) false false 0xFFFFFFFF (calm .ready)) ∧
    ((fun pf1 hi v (s : State) => Live (.irqEnable pf1 hi v) s ∧ s.dev.host.answers pf1 = true) true true 0xFFF (calm .ready)) ∧
    ((fun v l (s : State) => Live (.irqHoldoffExpiry false v) s ∧ v ∈ s.dev.host.irq0.held ∧ s.dev.host.irq0.masked v = false ∧ s.dev.host.irq0.last.find? (fun p => p.1 = v) = some l ∧ l.2 + usT s.dev.host.irq0.holdoff ≤ s.dev.now) 5 (5, 0) (calm .ready (late <| fun d => { d with host := { d.host with irq0 := { d.host.irq0 with held := [5], last := [(5, 0)] } } }))) ∧
    ((fun v l (s : State) => Live (.irqHoldoffExpiry true v) s ∧ v ∈ s.dev.host.irq1.held ∧ s.dev.host.irq1.masked v = false ∧ s.dev.host.irq1.last.find? (fun p => p.1 = v) = some l ∧ l.2 + usT s.dev.host.irq1.holdoff ≤ s.dev.now) 5 (5, 0) (calm .ready (late <| fun d => { d with host := { d.host with irq1 := { d.host.irq1 with held := [5], last := [(5, 0)] } } }))) ∧
    ((fun v l (s : State) => Live (.irqHoldoffExpiry false v) s ∧ v ∈ s.dev.host.irq0.held ∧ s.dev.host.irq0.masked v = true ∧ s.dev.host.irq0.last.find? (fun p => p.1 = v) = some l ∧ l.2 + usT s.dev.host.irq0.holdoff ≤ s.dev.now) 5 (5, 0) (calm .ready (late <| fun d => { d with host := { d.host with irq0 := { d.host.irq0 with held := [5], last := [(5, 0)], table := d.host.irq0.table.set 5 (0, 0, true) } } }))) ∧
    ((fun p v l (s : State) => Live (.irqHoldoffExpiry p v) s ∧ (if p then s.dev.host.irq1 else s.dev.host.irq0).last.find? (fun p => p.1 = v) = some l ∧ s.dev.now < l.2 + usT (if p then s.dev.host.irq1 else s.dev.host.irq0).holdoff) false 5 (5, 0) (calm .ready (fun d => { d with host := { d.host with irq0 := { d.host.irq0 with held := [5], last := [(5, 0)], holdoff := 1 } } }))) := by
  and_intros <;> decide +kernel

theorem wit_AperturesComplete :
    ((fun o n (s : State) => Live (.bar2Read o n .clean) s ∧ s.dev.host.linkUp = true ∧ s.dev.hostOpen = true ∧ 1 ≤ n ∧ o + n ≤ s.dev.host.bar2Size ∧ s.dev.host.bar2Base + o + n ≤ s.dev.mc.hostLimit ∧ (s.dev.posted s.dram).marked (s.dev.host.bar2Base + o) n = []) 1073741820 4 (calm .ready)) ∧
    ((fun o n (s : State) => Live (.recordApertureRead o n) s ∧ s.dev.host.link1Up = true ∧ 1 ≤ n ∧ (∀ i < n, ∀ r ∈ s.dev.recordRegions, ¬ (r.1 ≤ s.dev.host.bar2Base + o + i ∧ s.dev.host.bar2Base + o + i < r.1 + r.2))) 0 4 (calm .ready)) ∧
    ((fun o n (s : State) => Live (.recordApertureRead o n) s ∧ s.dev.host.link1Up = true ∧ s.dev.hostOpen = true ∧ 1 ≤ n ∧ o + n ≤ s.dev.host.bar2Size ∧ s.dev.host.bar2Base + o + n ≤ s.dev.mc.hostLimit ∧ (s.dev.posted s.dram).marked (s.dev.host.bar2Base + o) n = [] ∧ (∀ i < n, ∃ r ∈ s.dev.recordRegions, r.1 ≤ s.dev.host.bar2Base + o + i ∧ s.dev.host.bar2Base + o + i < r.1 + r.2)) 65532 4 (calm .ready aRing)) ∧
    ((fun o n i j (s : State) => Live (.recordApertureRead o n) s ∧ s.dev.host.link1Up = true ∧ s.dev.hostOpen = true ∧ i < n ∧ j < n ∧ o + n ≤ s.dev.host.bar2Size ∧ s.dev.host.bar2Base + o + n ≤ s.dev.mc.hostLimit ∧ (s.dev.posted s.dram).marked (s.dev.host.bar2Base + o) n = [] ∧ (∃ r ∈ s.dev.recordRegions, r.1 ≤ s.dev.host.bar2Base + o + i ∧ s.dev.host.bar2Base + o + i < r.1 + r.2) ∧ (∀ r ∈ s.dev.recordRegions, ¬ (r.1 ≤ s.dev.host.bar2Base + o + j ∧ s.dev.host.bar2Base + o + j < r.1 + r.2))) 65532 5 0 4 (calm .ready aRing)) ∧
    ((fun ds (s : State) => Live (.usbCommand ds) s ∧ s.dev.fuses.caps.testBit 1 = true ∧ s.dev.hostOpen = true ∧ ((nth s.dev.host.mbx 16).st = .free ∨ (nth s.dev.host.mbx 16).st = .done)) [] (calm .ready (fun d => { d with fuses := { d.fuses with caps := 2 } }))) ∧
    ((fun o ds e (s : State) => Live (.bar2Write o ds e) s ∧ MemOk s ∧ s.dev.host.linkUp = true ∧ s.dev.hostOpen = true ∧ o + ds.length ≤ s.dev.host.bar2Size ∧ s.dev.host.bar2Base + o + ds.length ≤ s.dev.mc.hostLimit) 1073741820 [1, 2, 3, 4] .clean (calm .ready)) := by
  and_intros <;> decide +kernel

theorem wit_HostEventsComplete :
    ((fun n (s : State) t => Live (.classDeadlineExpiry n) s ∧ (nth s.dev.host.mbx n).startTick = some t ∧ t + s.dev.deadlineOf n ≤ s.dev.now ∧ ((nth s.dev.host.mbx n).st = .queued ∨ (nth s.dev.host.mbx n).st = .executing ∧ (nth s.dev.host.mbx n).effect = false)) 4 (calm .ready (late <| fun d => d.onMbx 4 fun b => { b with st := .queued, startTick := some 0 })) 0) ∧
    ((fun n (s : State) t => Live (.classDeadlineExpiry n) s ∧ (nth s.dev.host.mbx n).startTick = some t ∧ t + s.dev.deadlineOf n ≤ s.dev.now ∧ (nth s.dev.host.mbx n).st = .executing ∧ (nth s.dev.host.mbx n).effect = true) 4 (calm .ready (late <| fun d => d.onMbx 4 fun b => { b with st := .executing, effect := true, startTick := some 0 })) 0) ∧
    ((fun c k (s : State) => Live (.coxTaskWatchdog c k) s ∧ ((nth s.dev.host.mbx k).effect = true ∨ s.dev.running k = [])) 3 0 (calm .ready)) ∧
    ((fun c k mask (s : State) => Live (.coxTaskWatchdog c k) s ∧ (nth s.dev.host.mbx k).effect = false ∧ s.dev.running k = [.dark mask]) 3 0 1 (calm .ready (fun d => { d with host := { d.host with jobs := [{ job0 with kind := .dark 1 }] } }))) ∧
    ((fun c k mask (s : State) => Live (.coxTaskWatchdog c k) s ∧ (nth s.dev.host.mbx k).effect = false ∧ s.dev.running k = [.measure mask]) 3 0 1 (calm .ready (fun d => { d with host := { d.host with jobs := [{ job0 with kind := .measure 1 }] } }))) ∧
    ((fun (s : State) => s.dev.awake = true ∧ s.dev.host.link1Up = true) (calm .ready)) ∧
    ((fun (s : State) => s.dev.awake = true ∧ s.dev.host.linkUp = true) (calm .ready)) ∧
    ((fun (s : State) => s.dev.awake = true) (calm .ready)) ∧
    ((fun l r (s : State) => Live (.pcieLinkChange l r none []) s ∧ ¬ (l = s.dev.host.lanes ∧ r = s.dev.host.rate)) 4 16 (calm .ready (fun d => { d with host := { d.host with lanes := 8, rate := 32 } }))) ∧
    ((fun c (s : State) => Live (.pcieLinkChange s.dev.host.lanes s.dev.host.rate (some c) []) s ∧ s.dev.host.lanes ≠ 0 ∧ (s.dev.host.linkUp = true ∨ s.dev.host.cfg.d3hot = true)) (HostIf.reset.cfg) (calm .ready (fun d => { d with host := { d.host with lanes := 8, rate := 32 } }))) ∧
    ((fun v a w (s : State) => Live (.pcieLinkChange s.dev.host.lanes s.dev.host.rate none [⟨false, v, a, w, true⟩]) s ∧ s.dev.host.linkUp = true) 5 0xFEE00000 17 (calm .ready (fun d => { d with host := { d.host with lanes := 8, rate := 32 } }))) ∧
    ((fun k (s : State) => s.dev.awake = true) 1 (calm .ready)) := by
  and_intros <;> decide +kernel

theorem wit_DmaComplete :
    ((fun c bs (s : State) => Live (.dmaPoll c bs) s ∧ (nth s.dev.host.dma c).running = true ∧ (nth s.dev.host.dma c).cur = none ∧ s.dev.host.linkUp = true ∧ s.dev.blockLive 5 c = true ∧ (nth s.dev.host.dma c).pollTick ≤ s.dev.now ∧ (bs.headD 0).getLsbD 0 ≠ (nth s.dev.host.dma c).phase) 7 (List.replicate 64 0) (calm .ready (fun d => d.onDma 7 fun q => { q with running := true, phase := true }))) ∧
    ((fun c bs (s : State) => Live (.dmaPoll c bs) s ∧ (nth s.dev.host.dma c).running = true ∧ (nth s.dev.host.dma c).cur = none ∧ s.dev.host.linkUp = true ∧ s.dev.blockLive 5 c = true ∧ (nth s.dev.host.dma c).pollTick ≤ s.dev.now ∧ (bs.headD 0).getLsbD 0 = (nth s.dev.host.dma c).phase) 7 (List.replicate 64 0) (calm .ready (fun d => d.onDma 7 fun q => { q with running := true, phase := false }))) ∧
    ((fun c bs ecc e (s : State) => Live (.dmaDescriptorComplete c bs ecc) s ∧ s.dev.host.linkUp = true ∧ (nth s.dev.host.dma c).cur = some e ∧ e.op = 1 ∧ bs.length = e.length) 0 [1, 2, 3, 4] .clean { dma0 with op := 1, length := 4 } (calm .ready (fun d => d.onDma 0 fun q => { q with cur := some { dma0 with op := 1, length := 4 } }))) ∧
    ((fun c bs e (s : State) => Live (.dmaDescriptorComplete c bs .clean) s ∧ s.dev.host.linkUp = true ∧ (nth s.dev.host.dma c).cur = some e ∧ e.op = 2 ∧ s.dram.marked e.devAddr e.length = []) 0 [] { dma0 with op := 2, length := 4 } (calm .ready (fun d => d.onDma 0 fun q => { q with cur := some { dma0 with op := 2, length := 4 } }))) ∧
    ((fun c e (s : State) => Live (.dmaTimeout c) s ∧ (nth s.dev.host.dma c).cur = some e ∧ e.startTick + msT 100 ≤ s.dev.now) 0 { dma0 with op := 2 } (calm .ready (late <| fun d => d.onDma 0 fun q => { q with cur := some { dma0 with op := 2 } }))) ∧
    ((fun c e (s : State) => Live (.pcieCompletionTimeout c) s ∧ (nth s.dev.host.dma c).cur = some e ∧ e.op = 1 ∧ e.startTick + usT s.dev.host.cfg.completionUs ≤ s.dev.now) 0 { dma0 with op := 1 } (calm .ready (late <| fun d => d.onDma 0 fun q => { q with cur := some { dma0 with op := 1 } }))) ∧
    ((fun c e (s : State) => Live (.drainWaitExpiry c) s ∧ (nth s.dev.host.dma c).cur = some e ∧ e.op = 3 ∧ s.dev.host.linkUp = true ∧ e.startTick + usT e.waitUs ≤ s.dev.now) 0 { dma0 with op := 3 } (calm .ready (late <| fun d => d.onDma 0 fun q => { q with cur := some { dma0 with op := 3 } }))) ∧
    ((fun (d : Dev) c st n e => (nth d.host.dma c).cur = some e ∧ c < d.host.dma.length) ((up .ready).onDma 7 fun q => { q with cur := some default }) 7 0 0 default) := by
  and_intros <;> decide +kernel

theorem wit_ModeCommandsComplete :
    ((fun m u (s : State) x => Starts (.modeHold m u) s x ∧ u ≤ 1 ∧ s.dev.mode.mode ≠ .hold) 0 1 (held (.modeHold 0 1) .build) (issuer (.modeHold 0 1))) ∧
    ((fun m u (s : State) x => Starts (.modeHold m u) s x ∧ u ≤ 1 ∧ s.dev.mode.mode = .hold) 0 1 (held (.modeHold 0 1) .hold) (issuer (.modeHold 0 1))) ∧
    ((fun m (s : State) x => Starts (.modeSet m 4) s x ∧ s.dev.mode.transition = false ∧ (s.dev.mode.mode = .build ∧ s.dev.layers.released = none ∨ s.dev.mode.mode = .hold ∧ true ∉ s.dev.pins.railBad ∧ ∀ k < 32, (nth s.dev.eng k).exposing = false)) 0 (held (.modeSet 0 4) .build) (issuer (.modeSet 0 4))) ∧
    ((fun m (s : State) x => Starts (.modeSet m 6) s x ∧ s.dev.mode.transition = false ∧ s.dev.mode.mode = .build) 0 (held (.modeSet 0 6) .build) (issuer (.modeSet 0 6))) ∧
    ((fun m (s : State) x => Starts (.modeSet m 5) s x ∧ s.dev.mode.transition = false ∧ s.dev.mode.mode ≠ .build ∧ (s.dev.mode.mode = .hold → true ∉ s.dev.pins.railBad) ∧ s.dev.buildRefusal = none) 0 (held (.modeSet 0 5) .hold withSafety) (issuer (.modeSet 0 5))) ∧
    ((fun m w (s : State) x => Starts (.modeStandby m w) s x ∧ w < 8 ∧ s.dev.layers.released = none ∧ s.dev.layers.queue = [] ∧ s.dev.host.serviceOn = false ∧ s.dev.mode.transition = false) 4 7 (held (.modeStandby 4 7) .ready) (issuer (.modeStandby 4 7))) ∧
    ((fun m (s : State) x => Starts (.modeStatus m) s x) 0 (held (.modeStatus 0) .ready) (issuer (.modeStatus 0))) ∧
    ((fun m c (s : State) x => Starts (.modeBudget m c none) s x ∧ 30000 ≤ c ∧ c ≤ 55000) 0 55000 (held (.modeBudget 0 55000 none) .ready) (issuer (.modeBudget 0 55000 none))) ∧
    ((fun m c p os (s : State) x => Starts (.modeBudget m c (some (p, os))) s x ∧ 30000 ≤ c ∧ c ≤ 55000 ∧ s.dev.mode.mode = .ready ∧ 1000 ≤ p ∧ p ≤ 200000 ∧ (∀ o ∈ os, OarPowerArg.ok s.dev o = true) ∧ s.dev.layers.queue = []) 0 30000 1000 [] (held (.modeBudget 0 30000 (some (1000, []))) .ready) (issuer (.modeBudget 0 30000 (some (1000, []))))) ∧
    ((fun m c (s : State) x => Starts (.modeLeave m c) s x ∧ c ≤ 1) 0 1 (held (.modeLeave 0 1) .ready) (issuer (.modeLeave 0 1))) ∧
    ((fun m c (s : State) x => Starts (.modeThermal m c) s x ∧ c ≤ 1) 0 1 (held (.modeThermal 0 1) .ready) (issuer (.modeThermal 0 1))) ∧
    ((fun v (s : State) => Live (.modeReq v) s ∧ s.dev.host.linkUp = true) 4 (calm .ready)) := by
  and_intros <;> decide +kernel

theorem wit_LogCommandsComplete :
    ((fun (s : State) => Live .logbookFlush s) (calm .ready)) ∧
    ((fun m f n (s : State) x => Starts (.logRead m f n) s x ∧ 1 ≤ n ∧ n ≤ 15) 4 0 15 (held (.logRead 4 0 15) .ready) (issuer (.logRead 4 0 15))) ∧
    ((fun m f l (s : State) x => Starts (.logVerify m f l) s x ∧ f ≤ l) 4 0 0 (held (.logVerify 4 0 0) .ready) (issuer (.logVerify 4 0 0))) ∧
    ((fun m c (s : State) x => Starts (.logSpoilstat m c) s x ∧ c ≤ 1) 4 1 (held (.logSpoilstat 4 1) .ready) (issuer (.logSpoilstat 4 1))) ∧
    ((fun m ds (s : State) x => Starts (.logNote m ds) s x) 4 (List.replicate 32 1) (held (.logNote 4 (List.replicate 32 1)) .ready) (issuer (.logNote 4 (List.replicate 32 1)))) ∧
    ((fun m so c (s : State) x => Starts (.logDescribe m so c) s x ∧ 1 ≤ so ∧ so ≤ 16) 4 16 0 (held (.logDescribe 4 16 0) .ready) (issuer (.logDescribe 4 16 0))) := by
  and_intros <;> decide +kernel

theorem wit_CalCommandsComplete :
    ((fun m k i (s : State) x => Starts (.calRun m k i) s x ∧ calBlocks k ≠ [] ∧ k % 2 = 0 ∧ k < 128 ∧ s.dev.layers.released = none ∧ s.dev.cal.run = none ∧ (s.dev.request (.cal ((calBlocks k).headD 0)) 4 1000 0).1 = .granted) 4 2 1 (held (.calRun 4 2 1) .ready) (issuer (.calRun 4 2 1))) ∧
    ((fun p b bs run (s : State) => s.dev.awake = true ∧ s.dev.cal.run = some run ∧ run.granted = true ∧ run.blocks = b :: bs ∧ run.startTick + msT (calMs b) ≤ s.dev.now ∧ s.dev.mode.mode = .ready) 5 2 [] { calRun0 with blocks := [2], granted := true } (calm .ready (late <| fun d => { d with cal := { d.cal with run := some { calRun0 with blocks := [2], granted := true } } }))) ∧
    ((fun p b bs run (s : State) => s.dev.awake = true ∧ s.dev.cal.run = some run ∧ run.granted = true ∧ run.blocks = b :: bs ∧ run.startTick + msT (calMs b) ≤ s.dev.now ∧ s.dev.mode.mode ≠ .ready) 5 2 [] { calRun0 with blocks := [2], granted := true } (calm .build (late <| fun d => { d with cal := { d.cal with run := some { calRun0 with blocks := [2], granted := true } } }))) ∧
    ((fun (cs : List Int) (i : Nat) (c : Int) => i < 4 ∧ -2000 + 3000 * (i : Int) ≤ c ∧ c ≤ -2000 + 3000 * ((i : Int) + 1)) [0, 1, 2, 3, 4] 3 7000) ∧
    ((fun m (s : State) x => Starts (.calStatus m) s x) 4 (held (.calStatus 4) .ready) (issuer (.calStatus 4))) ∧
    ((fun m k (s : State) x => Starts (.calFactory m k) s x ∧ calBlocks k ≠ [] ∧ k % 2 = 0 ∧ k < 128 ∧ s.dev.layers.released = none ∧ s.dev.cal.run = none) 4 2 (held (.calFactory 4 2) .ready) (issuer (.calFactory 4 2))) ∧
    ((fun m f n (s : State) x => Starts (.healthRecords m f n) s x ∧ 1 ≤ n ∧ n ≤ 31) 4 0 31 (held (.healthRecords 4 0 31) .ready) (issuer (.healthRecords 4 0 31))) ∧
    ((fun m (s : State) x => Starts (.healthReport m) s x) 4 (held (.healthReport 4) .ready) (issuer (.healthReport 4))) ∧
    ((fun m (s : State) x => Starts (.healthReplan m) s x ∧ s.dev.cal.replanSince = none) 4 (held (.healthReplan 4) .ready) (issuer (.healthReplan 4))) ∧
    ((fun (s : State) => Live .replanComplete s ∧ s.dev.coxRuns = true ∧ s.dev.cal.replanSince ≠ none) (calm .ready (fun d => { d with cal := { d.cal with replanSince := some 0 } }))) := by
  and_intros <;> decide +kernel

theorem wit_MemCommandsComplete :
    ((fun m (s : State) x => Starts (.memFence m) s x) 4 (held (.memFence 4) .ready) (issuer (.memFence 4))) ∧
    ((fun m o k sc ce r (s : State) x => Starts (.memConfig m o k sc ce r) s x ∧ o ≤ 3 ∧ 6 ≤ k ∧ k ≤ 16 ∧ 1 ≤ sc ∧ sc ≤ 168 ∧ (ce = 0 ∨ 10 ≤ ce ∧ ce ≤ 1000000) ∧ 1 ≤ r ∧ r ≤ 8 ∧ s.dev.queueEmpty = true ∧ (o = s.dev.mc.order ∨ ∀ g ∈ s.dev.recd.rings, g.configured = false)) 4 0 16 168 10 8 (held (.memConfig 4 0 16 168 10 8) .ready) (issuer (.memConfig 4 0 16 168 10 8))) ∧
    ((fun m a b c (s : State) x => Starts (.memQos m a b c) s x ∧ 1 ≤ a ∧ a ≤ 15 ∧ 1 ≤ b ∧ b ≤ 15 ∧ 1 ≤ c ∧ c ≤ 15) 4 1 15 1 (held (.memQos 4 1 15 1) .ready) (issuer (.memQos 4 1 15 1))) ∧
    ((fun m (s : State) x => Starts (.memStatus m) s x) 4 (held (.memStatus 4) .ready) (issuer (.memStatus 4))) ∧
    ((fun m f n c (s : State) x => Starts (.memErrlog m f n c) s x ∧ c ≤ 1 ∧ 1 ≤ n ∧ n ≤ 62) 4 0 62 1 (held (.memErrlog 4 0 62 1) .ready) (issuer (.memErrlog 4 0 62 1))) ∧
    ((fun m c r (s : State) x => Starts (.memMigrate m c r) s x ∧ c < 2 ∧ r < (nth s.dev.mc.chans c).roles.length ∧ (nth s.dev.mc.chans c).hasSpare = true ∧ (s.dev.request (.migration c) 4 s.dev.mc.migDraw 0).1 = .granted) 4 0 0 (held (.memMigrate 4 0 0) .ready) (issuer (.memMigrate 4 0 0))) ∧
    ((fun m c r (s : State) x => Starts (.memUnretire m c r) s x ∧ c < 2 ∧ r < 3 ∧ nth (nth s.dev.mc.chans c).ranks r = .retired ∧ s.dev.queueEmpty = true ∧ (nth s.dev.mc.chans c).mig = none ∧ (nth s.dev.mc.chans c).testing = none) 4 0 0 (held (.memUnretire 4 0 0) .ready (fun d => { d with mc := { d.mc with chans := d.mc.chans.modify 0 fun c => { c with ranks := [.retired, .working, .working] } } })) (issuer (.memUnretire 4 0 0))) ∧
    ((fun m k (s : State) x => Starts (.memRetrain m k) s x ∧ 1 ≤ k ∧ k < 16 ∧ (s.dev.askPauses (bitsOf 4 k)).1 = none) 4 15 (held (.memRetrain 4 15) .ready) (issuer (.memRetrain 4 15))) ∧
    ((fun m a k (s : State) x => Starts (.memInject m a k) s x ∧ (k = 1 ∨ k = 2) ∧ a + 64 ≤ s.dev.mc.hostLimit) 4 0 1 (held (.memInject 4 0 1) .ready) (issuer (.memInject 4 0 1))) := by
  and_intros <;> decide +kernel

theorem wit_MemEventsComplete :
    ((fun (s : State) => Live .dramRefresh s ∧ s.dev.mc.refreshDue ≤ (s.dev.now : Rat) ∧ s.dev.blockLive 8 0 = true) (calm .ready)) ∧
    ((fun (s : State) => s.dev.awake = true ∧ s.dev.mc.scrubDue ≤ (s.dev.now : Rat) ∧ s.dev.blockLive 8 0 = true ∧ s.dev.holdsLeave isScrub = true ∧ s.dev.mc.scrubPos < s.dev.mc.workBursts ∧ burstOf (64 * s.dev.mc.scrubPos) ∉ s.dram.poison ∧ (∀ e ∈ s.dram.injected, e.1 ≠ burstOf (64 * s.dev.mc.scrubPos))) (calm .ready (grant .scrub))) ∧
    ((fun c ds (s : State) => Live (.retrainingPause c ds none) s ∧ s.dev.pauseDue c = true ∧ s.dev.blockLive 8 0 = true ∧ s.dev.mc.panic0 = false ∧ s.dev.mc.panic1 = false ∧ s.dev.holdsLeave (isRetraining c) = true) 0 (List.replicate 40 0) (calm .ready (late (grant (.retraining 0))))) ∧
    ((fun c ds a (s : State) => Live (.retrainingPause c ds (some a)) s ∧ s.dev.pauseDue c = true ∧ s.dev.blockLive 8 0 = true ∧ s.dev.mc.panic0 = false ∧ s.dev.mc.panic1 = false ∧ s.dev.holdsLeave (isRetraining c) = true ∧ a / 64 % 4 = c ∧ a < s.dev.mc.capacity) 0 (List.replicate 40 0) 0 (calm .ready (late (grant (.retraining 0))))) ∧
    ((fun c ds k (s : State) => Live (.retrainingPause c ds k) s ∧ s.dev.pauseDue c = true ∧ s.dev.blockLive 8 0 = true ∧ (s.dev.mc.panic0 = true ∨ s.dev.mc.panic1 = true)) 0 (List.replicate 40 0) none (calm .ready (late <| fun d => { d with mc := { d.mc with panic0 := true } }))) ∧
    ((fun c t (s : State) => Live (.retrainLate c) s ∧ nth s.dev.mc.dueSince c = some t ∧ t + sT 1 < s.dev.now ∧ s.dev.mc.panic0 = false) 0 0 (calm .ready (late <| fun d => { d with mc := { d.mc with dueSince := [some 0, none, none, none] } }))) ∧
    ((fun c f g (s : State) => Live (.migrationChunkCopy c f) s ∧ (nth s.dev.mc.chans c).mig = some g ∧ s.dev.blockLive 8 0 = true ∧ s.dev.holdsLeave (isMigration c) = true ∧ g.due ≤ (s.dev.now : Rat)) 0 [] mig0 (calm .ready (late <| fun d => grant (.migration 0) { d with mc := { d.mc with chans := d.mc.chans.modify 0 fun c => { c with mig := some mig0 } } }))) ∧
    ((fun (d : Dev) (m : Dram) c n r => m.injected = []) (up .ready) State.reset.dram 0 0 0) ∧
    ((fun c p r (s : State) => Live (.unretireTestComplete c p) s ∧ (nth s.dev.mc.chans c).testing = some r ∧ c < s.dev.mc.chans.length ∧ (∀ j ∈ s.dev.host.jobs, j.kind ≠ .unretire c)) 0 true 1 (calm .ready (fun d => { d with mc := { d.mc with chans := d.mc.chans.modify 0 fun c => { c with testing := some 1 } } }))) := by
  and_intros <;> decide +kernel

theorem wit_SafeCommandsComplete :
    ((fun m (s : State) x => Starts (.safeEnter m) s x) 0 (held (.safeEnter 0) .ready) (issuer (.safeEnter 0))) ∧
    ((fun m k (s : State) x => Starts (.safeStop m k) s x ∧ s.dev.badOarMask k = false) 0 0xFFFFFFFF (held (.safeStop 0 0xFFFFFFFF) .ready) (issuer (.safeStop 0 0xFFFFFFFF))) ∧
    ((fun m k (s : State) x => Starts (.safeRearm m k) s x ∧ s.dev.badOarMask k = false ∧ (∀ i < 32, Nat.testBit k i = true → s.dev.inT i = true → s.dev.causeGone i = true)) 0 0xFFFFFFFF (held (.safeRearm 0 0xFFFFFFFF) .ready) (issuer (.safeRearm 0 0xFFFFFFFF))) ∧
    ((fun m (s : State) x => Starts (.safeClear m) s x ∧ s.dev.clearRefusal = none) 0 (held (.safeClear 0) .safe (fun d => { withSafety d with ump := { d.ump with safeCause := 4 } })) (issuer (.safeClear 0))) ∧
    ((fun m a c (s : State) x => Starts (.safeStage m a 8256 c) s x ∧ a + 8256 ≤ s.dev.mc.hostLimit ∧ s.dram.marked a 8256 = [] ∧ crc32c (memBytes s.dram.mem a 8256) = c ∧ s.dev.imageFailure ⟨memBytes s.dram.mem a 8256, sha256 (memBytes s.dram.mem a 8256)⟩ = none) 4 0 1981120787 ({ held (.safeStage 4 0 8256 1981120787) .ready with dram := { mem := aCells, poison := [], injected := [] } } : State) (issuer (.safeStage 4 0 8256 1981120787))) ∧
    ((fun m g set (s : State) x => Starts (.safeCommit m g) s x ∧ s.dev.layers.released = none ∧ s.dev.ump.staged = some set ∧ s.dev.commitRefusal set g = none) 4 (List.replicate 32 0) ⟨aSet 0, List.replicate 32 0⟩ (held (.safeCommit 4 (List.replicate 32 0)) .ready (fun d => { d with ump := { d.ump with staged := some ⟨aSet 0, List.replicate 32 0⟩ } })) (issuer (.safeCommit 4 (List.replicate 32 0)))) ∧
    ((fun m (s : State) x => Starts (.safeDiscard m) s x) 4 (held (.safeDiscard 4) .ready) (issuer (.safeDiscard 4))) ∧
    ((fun m w (s : State) x => Starts (.safeQuery m w) s x ∧ w ≤ 1) 4 1 (held (.safeQuery 4 1) .ready) (issuer (.safeQuery 4 1))) ∧
    ((fun m (s : State) x => Starts (.safeStatus m) s x) 0 (held (.safeStatus 0) .ready) (issuer (.safeStatus 0))) ∧
    ((fun m f n (s : State) x => Starts (.safeEvents m f n) s x ∧ 1 ≤ n ∧ n ≤ 62) 4 0 62 (held (.safeEvents 4 0 62) .ready) (issuer (.safeEvents 4 0 62))) ∧
    ((fun m r (s : State) x => Starts (.safeHoldpolicy m r) s x ∧ r ≤ 1) 4 1 (held (.safeHoldpolicy 4 1) .ready) (issuer (.safeHoldpolicy 4 1))) ∧
    ((fun m k (s : State) x => Starts (.safeProof m k) s x ∧ s.dev.badOarMask k = false ∧ ((bitsOf 32 k).filter fun i => s.dev.unprovable i = 0) = []) 4 0 (held (.safeProof 4 0) .ready) (issuer (.safeProof 4 0))) ∧
    ((fun m k ks (s : State) x => Starts (.safeProof m k) s x ∧ s.dev.badOarMask k = false ∧ ((bitsOf 32 k).filter fun i => s.dev.unprovable i = 0) = ks ∧ ks ≠ []) 4 1 [0] (held (.safeProof 4 1) .ready withSafety) (issuer (.safeProof 4 1))) := ⟨by decide +kernel, by decide +kernel, (by decide +kernel), by decide +kernel, ⟨by decide +kernel, by decide +kernel, rfl, aCells_crc, by decide +kernel⟩, ⟨by decide +kernel, rfl, rfl, by decide +kernel⟩, by decide +kernel, by decide +kernel, (by decide +kernel), by decide +kernel, by decide +kernel, (by decide +kernel), by decide +kernel⟩

theorem wit_UmpireEventsComplete :
    ((fun b (s : State) => s.dev.awake = true ∧ (if b then s.dev.pins.estopB else s.dev.pins.estopA) = true) true (calm .ready (fun d => { d with pins := { d.pins with estopA := true, estopB := true } }))) ∧
    ((fun b (s : State) => (if b then s.dev.pins.estopB else s.dev.pins.estopA) = false) false (calm .ready (fun d => { d with pins := { d.pins with estopA := false } }))) ∧
    ((fun t (s : State) => Live .discrepancyLatch s ∧ s.dev.ump.disagreeSince = some t ∧ s.dev.ump.latched = false ∧ t + msT s.dev.ump.discMs < s.dev.now) 0 (calm .ready (late <| fun d => { d with ump := { d.ump with disagreeSince := some 0 } }))) ∧
    ((fun (s : State) => s.dev.awake = true ∧ s.dev.pins.intlk = true ∧ (s.dev.mode.mode = .build ∨ s.dev.mode.mode = .hold)) (calm .build (fun d => { d with pins := { d.pins with intlk := true } }))) ∧
    ((fun (s : State) => s.dev.awake = true ∧ s.dev.pins.intlk = true ∧ s.dev.mode.mode = .ready ∧ s.dev.mode.entry = none) (calm .ready (fun d => { d with pins := { d.pins with intlk := true } }))) ∧
    ((fun (s : State) => s.dev.pins.intlk = false) (calm .ready (fun d => { d with pins := { d.pins with intlk := false } }))) ∧
    ((fun k set (s : State) => Live (.lalmLow k true) s ∧ s.dev.ump.active = some set ∧ s.dev.oarExists k = true ∧ set.oarEn k = true ∧ (set.field k 1 1).testBit 1 = true) 0 aSafe (calm .ready withSafety)) ∧
    ((fun k (s : State) => Live (.lalmLow k false) s) 31 (calm .ready)) ∧
    ((fun k c (s : State) => Live (.monitorSample k c) s ∧ s.dev.ump.active = none) 0 0 (calm .ready)) ∧
    ((fun k c set tol exp (s : State) => Live (.monitorSample k c) s ∧ s.dev.ump.active = some set ∧ s.dev.oarExists k = true ∧ set.oarEn k = true ∧ (set.field k 1 1).testBit 2 = true ∧ exp = set.expected k ((nth s.dev.ump.oars k).dacLine.getD (set.field k 18 2) 0) ∧ tol = (set.field k 6 2 : Rat) + (set.field k 16 1 : Rat) * exp / 100) 0 0 aSafe ((aSafe.field 0 6 2 : Rat) + aSafe.field 0 16 1 * aSafe.expected 0 0 / 100) (aSafe.expected 0 0) (calm .ready withSafety)) ∧
    ((fun c (s : State) => Live (.coxHeartbeat c) s ∧ s.dev.coxClocked = false) 3 (calm .ready (fun d => d.onClk fun c => { c with locks := List.replicate 9 false, lost := none }))) ∧
    ((fun c (s : State) => Live (.coxHeartbeat c) s ∧ s.dev.coxClocked = true) 3 (calm .ready)) ∧
    ((fun (s : State) => Live .heartbeatLoss s ∧ s.dev.ump.hbWatch = true ∧ (∀ t ∈ s.dev.ump.heartbeats, t + usT 100 < s.dev.now) ∧ s.dev.mode.mode ≠ .safe) (calm .ready (late <| fun d => { d with ump := { d.ump with hbWatch := true } }))) ∧
    ((fun (s : State) => Live .heartbeatAbsent1s s ∧ s.dev.ump.hbWatch = true ∧ (∀ t ∈ s.dev.ump.heartbeats, t + sT 1 < s.dev.now)) (calm .ready (late <| fun d => { d with ump := { d.ump with hbWatch := true } }))) ∧
    ((fun c (s : State) => Live (.coxCoreMissing c) s ∧ s.dev.ump.hbWatch = true ∧ c ∉ s.dev.ump.hbMissing ∧ nth s.dev.ump.heartbeats c + usT 100 < s.dev.now) 3 (calm .ready (late <| fun d => { d with ump := { d.ump with hbWatch := true } }))) ∧
    ((fun c (s : State) => Live (.voteLivenessLoss c) s ∧ (nth s.dev.ump.cores c).inService = true) 2 (calm .ready)) ∧
    ((fun (s : State) => s.dev.awake = true) (calm .ready)) ∧
    ((fun c (s : State) => s.dev.awake = true ∧ (nth s.dev.ump.cores c).differs < 2 ∧ c < s.dev.ump.cores.length) 2 (calm .ready)) ∧
    ((fun c (s : State) => s.dev.awake = true ∧ (nth s.dev.ump.cores c).differs = 2 ∧ (nth s.dev.ump.cores c).inService = true ∧ c < s.dev.ump.cores.length) 2 (calm .ready (fun d => { d with ump := { d.ump with cores := d.ump.cores.mapIdx fun i x => if i = 2 then { x with differs := 2 } else x } }))) ∧
    ((fun (d : Dev) k => k < 32) (up .ready) 31) ∧
    ((fun (s : State) => Live .umpireTimeResync s) (calm .ready)) ∧
    ((fun k (s : State) => Live (.proofStart k) s ∧ s.dev.ump.proof = none ∧ s.dev.provable k = true ∧ s.dev.proofDue k = true ∧ s.dev.allOpen = false ∧ (nth s.dev.eng k).cur = none) 0 (calm .ready withSafety)) ∧
    ((fun k n d (s : State) => Live (.proofStep k true d) s ∧ s.dev.ump.proof = some ⟨k, n⟩ ∧ n < 5 ∧ (2 ≤ n → n ≤ 4 → d ≤ proofLimit n)) 0 4 0 (calm .ready (fun d => { d with ump := { d.ump with proof := some ⟨0, 4⟩ } }))) ∧
    ((fun k d (s : State) => Live (.proofStep k true d) s ∧ s.dev.ump.proof = some ⟨k, 5⟩) 0 0 (calm .ready (fun d => { d with ump := { d.ump with proof := some ⟨0, 5⟩ } }))) ∧
    ((fun k n d (s : State) => Live (.proofStep k false d) s ∧ s.dev.ump.proof = some ⟨k, n⟩) 0 3 0 (calm .ready (fun d => { d with ump := { d.ump with proof := some ⟨0, 3⟩ } }))) := ⟨by decide +kernel, by decide +kernel, (by decide +kernel), by decide +kernel, by decide +kernel, (by decide +kernel), ⟨by decide +kernel, rfl, by decide +kernel⟩, by decide +kernel, by decide +kernel, ⟨by decide +kernel, rfl, by decide +kernel⟩, by decide +kernel, by decide +kernel, by decide +kernel, (by decide +kernel), by decide +kernel, by decide +kernel, (by decide +kernel), by decide +kernel, by decide +kernel, by decide +kernel, by decide +kernel, (by decide +kernel), by decide +kernel, by decide +kernel, (by decide +kernel)⟩

theorem wit_ProofPads :
    (fun k n (d : Dev) => d.ump.proof = some ⟨k, n⟩ ∧ (nth d.eng k).lgate = false ∧ (nth d.eng k).len = false ∧ (nth d.eng k).dac = 0) 0 2
      { Dev.reset with ump := { Umpire.reset with proof := some ⟨0, 2⟩ } } := by decide +kernel

theorem wit_TimeCommandsComplete :
    ((fun m a (s : State) x => Starts (.timePort m a) s x ∧ TimePortArg.ok a = true) 4 default (held (.timePort 4 default) .ready) (issuer (.timePort 4 default))) ∧
    ((fun m a (s : State) x => Starts (.timeDomain m a) s x ∧ TimeDomainArg.ok a = true) 4 ((Dev.reset.dom 0).cfg) (held (.timeDomain 4 ((Dev.reset.dom 0).cfg)) .ready) (issuer (.timeDomain 4 ((Dev.reset.dom 0).cfg)))) ∧
    ((fun m b st l w n (s : State) x => Starts (.timeServo m b st l w n) s x ∧ 10 ≤ b ∧ b ≤ 10000 ∧ 1000 ≤ st ∧ st ≤ 1000000000 ∧ 10 ≤ l ∧ l ≤ 100000 ∧ 1 ≤ w ∧ w ≤ 500 ∧ 1 ≤ n ∧ n ≤ 100) 4 10 1000 10 1 1 (held (.timeServo 4 10 1000 10 1 1) .ready) (issuer (.timeServo 4 10 1000 10 1 1))) ∧
    ((fun m n k p r w (s : State) x => Starts (.timeGang m n k p r w) s x ∧ 1 ≤ n ∧ n ≤ 4 ∧ k < n ∧ p ≤ 2 ∧ r ≤ 1 ∧ 100 ≤ w ∧ w ≤ 100000 ∧ s.dev.boot.compat = false ∧ s.dev.queueEmpty = true) 4 4 3 0 0 100 (held (.timeGang 4 4 3 0 0 100) .ready) (issuer (.timeGang 4 4 3 0 0 100))) ∧
    ((fun m sec ns (s : State) x => Starts (.timeSet m sec ns) s x ∧ ns < 1000000000 ∧ s.dev.time.gangSize ≤ 2 ∧ (∀ k < 2, s.dev.time.canSteer k = false) ∧ s.dev.layers.released = none) 4 0 999999999 (held (.timeSet 4 0 999999999) .ready) (issuer (.timeSet 4 0 999999999))) ∧
    ((fun m sec ns l (s : State) x => Starts (.timeSet m sec ns) s x ∧ ns < 1000000000 ∧ s.dev.time.gangSize ≤ 2 ∧ (∀ k < 2, s.dev.time.canSteer k = false) ∧ s.dev.layers.released = some l) 4 0 999999999 layer0 (held (.timeSet 4 0 999999999) .ready (released layer0)) (issuer (.timeSet 4 0 999999999))) ∧
    ((fun m k (s : State) x => Starts (.timeSelect m k) s x ∧ k ≤ 2) 4 2 (held (.timeSelect 4 2) .ready) (issuer (.timeSelect 4 2))) ∧
    ((fun m c (s : State) x => Starts (.timeStatus m c) s x ∧ c ≤ 1) 4 1 (held (.timeStatus 4 1) .ready) (issuer (.timeStatus 4 1))) ∧
    ((fun m c (s : State) x => Starts (.timePeers m c) s x ∧ c ≤ 1) 4 1 (held (.timePeers 4 1) .ready) (issuer (.timePeers 4 1))) := by
  and_intros <;> decide +kernel

theorem wit_EthernetEventsComplete :
    ((fun k (y : SyncMsg) (s : State) => Live (.ptpSync k y) s ∧ y.kind = .oneStep ∧ (s.dev.dom k).slave = true ∧ (s.dev.dom k).follows y = true ∧ (nth s.dev.time.eth (s.dev.dom k).cfg.port).up = true) 0 { sync0 with kind := .oneStep } (calm .ready (fun d => (ethUp d).onDom 0 fun x => { x with gm := some ann0 }))) ∧
    ((fun k (y : SyncMsg) (s : State) => Live (.ptpSync k y) s ∧ y.kind = .twoStep ∧ (s.dev.dom k).slave = true ∧ (s.dev.dom k).follows y = true ∧ (nth s.dev.time.eth (s.dev.dom k).cfg.port).up = true) 0 { sync0 with kind := .twoStep } (calm .ready (fun d => (ethUp d).onDom 0 fun x => { x with gm := some ann0 }))) ∧
    ((fun k (y : SyncMsg) (s : State) => Live (.ptpSync k y) s ∧ (s.dev.dom k).slave = true ∧ (s.dev.dom k).follows y = false ∧ (nth s.dev.time.eth (s.dev.dom k).cfg.port).up = true) 0 { sync0 with source := 1 } (calm .ready (fun d => (ethUp d).onDom 0 fun x => { x with gm := some ann0 }))) ∧
    ((fun k (y : SyncMsg) (s : State) => Live (.ptpSync k y) s ∧ y.kind = .followUp ∧ (s.dev.dom k).slave = true ∧ (s.dev.dom k).follows y = true ∧ (nth s.dev.time.eth (s.dev.dom k).cfg.port).up = true ∧ (s.dev.dom k).await = true) 0 { sync0 with kind := .followUp } (calm .ready (fun d => (ethUp d).onDom 0 fun x => { x with gm := some ann0, await := true }))) ∧
    ((fun k t4 (s : State) => Live (.ptpDelayResp k t4) s ∧ (s.dev.dom k).slave = true ∧ (s.dev.dom k).asked = true ∧ s.dev.portUp (s.dev.dom k).cfg.port = true) 0 0 (calm .ready (fun d => (ethUp d).onDom 0 fun x => { x with asked := true }))) ∧
    ((fun k y (s : State) => Live (.ptpAnnounce k y) s ∧ (s.dev.dom k).slave = true ∧ s.dev.portUp (s.dev.dom k).cfg.port = true) 0 default (calm .ready ethUp)) ∧
    ((fun now (c : Domain) g => (c.bestMaster now).gm = some g ∧ (∃ t, (g, t) ∈ c.masters ∧ now < t + 3 * c.announceTicks ∧ ∀ a ∈ c.masters, now < a.2 + 3 * c.announceTicks)) 0 { (Dev.reset.dom 0) with masters := [(ann0, 0)] } ann0) ∧
    ((fun now (c : Domain) a => (c.bestMaster now).gm = none ∧ a ∈ c.masters) (2 ^ 40) { (Dev.reset.dom 0) with masters := [(ann0, 0)] } (ann0, 0)) ∧
    ((fun k r t (s : State) => Live (.ptpDelayReq k r t) s ∧ (s.dev.dom k).slave = false ∧ s.dev.portUp (s.dev.dom k).cfg.port = true) 0 0 0 (calm .ready (fun d => (ethUp d).onDom 0 fun x => { x with cfg := { x.cfg with role := 1, oneStep := 1 }, syncTurn := 1, announceTurn := 1 }))) ∧
    ((fun k (s : State) => Live (.ptpMasterTx k true) s ∧ (s.dev.dom k).slave = false ∧ s.dev.portUp (s.dev.dom k).cfg.port = true ∧ s.dev.turnOf (s.dev.dom k).announceTicks ≠ (s.dev.dom k).announceTurn) 0 (calm .ready (late <| fun d => (ethUp d).onDom 0 fun x => { x with cfg := { x.cfg with role := 1, oneStep := 1 }, syncTurn := 1, announceTurn := 1 }))) ∧
    ((fun k (s : State) => Live (.ptpMasterTx k false) s ∧ (s.dev.dom k).slave = false ∧ s.dev.portUp (s.dev.dom k).cfg.port = true ∧ s.dev.turnOf (s.dev.dom k).syncTicks ≠ (s.dev.dom k).syncTurn ∧ (s.dev.dom k).cfg.oneStep = 1) 0 (calm .ready (late <| fun d => (ethUp d).onDom 0 fun x => { x with cfg := { x.cfg with role := 1, oneStep := 1 }, syncTurn := 1, announceTurn := 1 }))) ∧
    ((fun k (s : State) => Live (.domainLost k) s ∧ s.dev.domainSilent k = true) 0 (calm .ready (late ethUp))) ∧
    ((fun (s : State) => Live .preferredRelockHold s) (calm .ready)) ∧
    ((fun (s : State) => Live .keepSecondsWrite s ∧ s.dev.time.locked = true ∧ s.dev.coxRuns = true) (calm .ready (fun d => locked (timeLocked d)))) ∧
    ((fun p i (s : State) => Live (.arpRequest p i) s ∧ (nth s.dev.time.eth p).up = true ∧ (nth s.dev.time.eth p).ipv4 = some i) 0 1 (calm .ready (fun d => d.onEth 0 fun e => { e with up := true, ipv4 := some 1 }))) ∧
    ((fun p k (s : State) => Live (.otherFrame p k) s ∧ s.dev.portUp p = true) 0 0 (calm .ready ethUp)) ∧
    ((fun (s : State) => Live .marksSend s ∧ s.dev.turnOf (usT 20) ≠ s.dev.mar.marksTurn ∧ 2 ≤ s.dev.time.gangSize) (calm .ready (fun d => { d with time := { d.time with gangSize := 4, helloTurn := 1 }, mar := { d.mar with marksTurn := 1 } }))) ∧
    ((fun (s : State) => Live .helloSend s ∧ 2 ≤ s.dev.time.gangSize ∧ s.dev.turnOf (msT 1) ≠ s.dev.time.helloTurn) (calm .ready (fun d => { d with time := { d.time with gangSize := 4, helloTurn := 1 }, mar := { d.mar with marksTurn := 1 } }))) ∧
    ((fun (e : EthPort) bs => e.mac < 2 ^ 48 ∧ (∀ v ∈ e.vlan, v.1 < 4096 ∧ v.2 < 8)) { (default : EthPort) with vlan := some (4095, 7) } [1, 2, 3]) ∧
    ((fun p f bs (s : State) => Live (.marksReceived p f) s ∧ gangPayload f = some bs ∧ s.dev.portUp p = true ∧ s.dev.gangFrameOk p bs 2 = true ∧ fieldAt bs 4 1 < s.dev.time.gangSize ∧ fieldAt bs 8 4 ∉ (nth s.dev.time.peers (fieldAt bs 4 1)).gseq ∧ s.dev.marksOk bs = true) 0 (ether (gangFrame 2 1 1 1114675946 (List.replicate 20 0))) (gangFrame 2 1 1 1114675946 (List.replicate 20 0)) (calm .ready (gang []))) ∧
    ((fun p f bs (s : State) => Live (.marksReceived p f) s ∧ gangPayload f = some bs ∧ s.dev.portUp p = true ∧ s.dev.gangFrameOk p bs 2 = true ∧ fieldAt bs 4 1 < s.dev.time.gangSize ∧ fieldAt bs 8 4 ∈ (nth s.dev.time.peers (fieldAt bs 4 1)).gseq) 0 (ether (gangFrame 2 1 1 1114675946 (List.replicate 20 0))) (gangFrame 2 1 1 1114675946 (List.replicate 20 0)) (calm .ready (gang [1]))) ∧
    ((fun p f bs (s : State) => Live (.marksReceived p f) s ∧ gangPayload f = some bs ∧ s.dev.portUp p = true ∧ s.dev.gangFrameOk p bs 2 = true ∧ fieldAt bs 4 1 < s.dev.time.gangSize ∧ fieldAt bs 8 4 ∉ (nth s.dev.time.peers (fieldAt bs 4 1)).gseq ∧ s.dev.marksOk bs = false) 0 (ether (gangFrame 2 92 1 1114675946 (List.replicate 20 0))) (gangFrame 2 92 1 1114675946 (List.replicate 20 0)) (calm .ready (gang []))) ∧
    ((fun p f (s : State) => Live (.marksReceived p f) s ∧ gangPayload f = none ∧ s.dev.portUp p = true) 1 [] (calm .ready (fun d => d.onEth 1 fun e => { e with up := true }))) ∧
    ((fun p f bs r (s : State) => Live (.helloReceived p f r) s ∧ gangPayload f = some bs ∧ s.dev.portUp p = true ∧ s.dev.gangFrameOk p bs 1 = true ∧ bs.length = 64 ∧ fieldAt bs 5 1 ≠ s.dev.time.gangSize ∧ (nth s.dev.time.peers (fieldAt bs 4 1)).mismatch = false) 0 (ether (gangFrame 1 0 1 0 (List.replicate 36 0))) (gangFrame 1 0 1 0 (List.replicate 36 0)) 0 (calm .ready (fun d => (gang [] d).onTime fun t => { t with gangSize := 3 }))) ∧
    ((fun p f bs r (s : State) => Live (.helloReceived p f r) s ∧ gangPayload f = some bs ∧ s.dev.portUp p = true ∧ s.dev.gangFrameOk p bs 1 = true ∧ bs.length = 64 ∧ fieldAt bs 4 1 < s.dev.time.gangSize ∧ fieldAt bs 5 1 = s.dev.time.gangSize ∧ fieldAt bs 8 4 ∉ (nth s.dev.time.peers (fieldAt bs 4 1)).gseq ∧ signed 32 (fieldAt bs (48 + 4 * s.dev.time.deviceNo) 4) = -2 ^ 31) 0 (ether (gangFrame 1 0 1 0 (List.replicate 20 0 ++ u32 (2 ^ 31) ++ List.replicate 12 0))) (gangFrame 1 0 1 0 (List.replicate 20 0 ++ u32 (2 ^ 31) ++ List.replicate 12 0)) 0 (calm .ready (gang []))) ∧
    ((fun k (s : State) => Live (.peerLost k) s ∧ (nth s.dev.time.peers k).present = true ∧ (nth s.dev.time.peers k).helloTick + msT 10 ≤ s.dev.now) 3 (calm .ready (late <| fun d => { d with time := { d.time with peers := d.time.peers.map fun p => { p with present := true } } }))) := by
  and_intros <;> first
    | decide +kernel
    | exact ⟨0, by decide +kernel⟩

theorem wit_TimeGoesOnAndSteers :
    ((fun (d : Dev) k => d.time.chosen = some k) (timeLocked (up .ready)) 0) ∧
    (fun (s : State) => Live .frameTick s) (calm .ready) := by decide +kernel

theorem wit_FieldCommandsComplete :
    ((fun m x0 y0 w h (s : State) x => Starts (.fieldBed m x0 y0 w h) s x ∧ 64000 ≤ w ∧ w ≤ 65536000 ∧ 64000 ≤ h ∧ h ≤ 65536000) 4 0 0 64000 65536000 (held (.fieldBed 4 0 0 64000 65536000) .ready) (issuer (.fieldBed 4 0 0 64000 65536000))) ∧
    ((fun m (g : GridArg) (s : State) x => Starts (.fieldGrid m g) s x ∧ g.oar < 32 ∧ s.dev.oarExists g.oar = true ∧ g.set < 4 ∧ 64000 ≤ g.pitch ∧ g.pitch ≤ 1024000 ∧ g.len = 50700 ∧ g.addr + 50700 ≤ s.dev.mc.hostLimit ∧ s.dram.marked g.addr 50700 = [] ∧ crc32c (memBytes s.dram.mem g.addr 50700) = g.crc) 4 { grid0 with pitch := 64000, len := 50700, crc := 1864542422 } (held (.fieldGrid 4 { grid0 with pitch := 64000, len := 50700, crc := 1864542422 }) .ready) (issuer (.fieldGrid 4 { grid0 with pitch := 64000, len := 50700, crc := 1864542422 }))) ∧
    ((fun m k vs (s : State) x => Starts (.fieldPolygon m k vs) s x ∧ s.dev.oarExists k = true) 4 31 [⟨0, 0⟩, ⟨1, 0⟩, ⟨0, 1⟩] (held (.fieldPolygon 4 31 [⟨0, 0⟩, ⟨1, 0⟩, ⟨0, 1⟩]) .ready) (issuer (.fieldPolygon 4 31 [⟨0, 0⟩, ⟨1, 0⟩, ⟨0, 1⟩]))) ∧
    ((fun m z k vs (s : State) x => Starts (.fieldKeepout m z k vs) s x ∧ z < 64) 4 63 1 [⟨0, 0⟩, ⟨1, 0⟩, ⟨0, 1⟩] (held (.fieldKeepout 4 63 1 [⟨0, 0⟩, ⟨1, 0⟩, ⟨0, 1⟩]) .ready) (issuer (.fieldKeepout 4 63 1 [⟨0, 0⟩, ⟨1, 0⟩, ⟨0, 1⟩]))) ∧
    ((fun m ps (s : State) x => Starts (.fieldStitch m ps) s x ∧ (∀ p ∈ ps, (p.a < 32 → s.dev.oarExists p.a = true) ∧ (p.b < 32 → s.dev.oarExists p.b = true))) 4 [{ a := 0, b := 31, w := 0, s := ⟨0, 0⟩ }] (held (.fieldStitch 4 [{ a := 0, b := 31, w := 0, s := ⟨0, 0⟩ }]) .ready) (issuer (.fieldStitch 4 [{ a := 0, b := 31, w := 0, s := ⟨0, 0⟩ }]))) ∧
    ((fun m a n c (s : State) x => Starts (.fieldMasks m a n c) s x ∧ 1 ≤ n ∧ n ≤ 65535 ∧ a + 4 * n ≤ s.dev.mc.hostLimit ∧ s.dram.marked a (4 * n) = [] ∧ crc32c (memBytes s.dram.mem a (4 * n)) = c) 4 0 1 1214729159 (held (.fieldMasks 4 0 1 1214729159) .ready) (issuer (.fieldMasks 4 0 1 1214729159))) ∧
    ((fun m ts (s : State) x => Starts (.fieldCommit m) s x ∧ s.dev.queueEmpty = true ∧ ts = stitchTrans s.dev.boot.compat s.dev.geo.staged.stitch ∧ s.dev.geoFailure s.dev.geo.staged ts = none) 4 (stitchTrans false ((held (.fieldCommit 4) .ready (fun d => { d with geo := { d.geo with staged := { d.geo.staged with bed := some (0, 0, 64000, 64000) } } }))).dev.geo.staged.stitch) (held (.fieldCommit 4) .ready (fun d => { d with geo := { d.geo with staged := { d.geo.staged with bed := some (0, 0, 64000, 64000) } } })) (issuer (.fieldCommit 4))) ∧
    ((fun m (s : State) x => Starts (.fieldDiscard m) s x) 4 (held (.fieldDiscard 4) .ready) (issuer (.fieldDiscard 4))) ∧
    ((fun m w i n bs (s : State) x => Starts (.fieldQuery m w i n) s x ∧ w ≤ 1 ∧ (i = 2 → s.dev.oarExists n = true) ∧ (if w = 0 then s.dev.geo.active else s.dev.geo.staged).item i n = some bs) 4 1 5 0 ((((held (.fieldQuery 4 1 5 0) .ready)).dev.geo.staged.item 5 0).getD []) (held (.fieldQuery 4 1 5 0) .ready) (issuer (.fieldQuery 4 1 5 0))) ∧
    ((fun m p q i g (s : State) x => Starts (.fieldEligible m p q i) s x ∧ s.dev.geo.active.eligibility p q (i.getD 0xFFFF) = some g) 4 ⟨0, 0⟩ ⟨1, 1⟩ none (((held (.fieldEligible 4 ⟨0, 0⟩ ⟨1, 1⟩ none) .ready)).dev.geo.active.computedG ⟨0, 0⟩ ⟨1, 1⟩) (held (.fieldEligible 4 ⟨0, 0⟩ ⟨1, 1⟩ none) .ready) (issuer (.fieldEligible 4 ⟨0, 0⟩ ⟨1, 1⟩ none))) ∧
    ((fun k b (s : State) => Live (.gridBlendComplete k) s ∧ (nth s.dev.geo.oars k).blending = some b ∧ k < s.dev.geo.oars.length) 31 (0, 0) (calm .ready (fun d => { d with geo := { d.geo with oars := upd d.geo.oars 31 fun o => { o with blending := some (0, 0) } } }))) := ⟨by decide +kernel, ⟨by decide +kernel, by decide, by decide +kernel, by decide, by decide, by decide, rfl, by decide +kernel, rfl, zeros_crc⟩, by decide +kernel, by decide +kernel, (by decide +kernel), by decide +kernel, by decide +kernel, (by decide +kernel), by decide +kernel, by decide +kernel, (by decide +kernel)⟩

theorem wit_OarCommandsComplete :
    ((fun m k (s : State) x => Starts (.oarEnable m k) s x ∧ s.dev.badOarMask k = false ∧ (∀ i < 32, Nat.testBit k i = true → (s.dev.port i).linked = true ∧ s.dev.ump.closed.getLsbD i = true ∧ (nth s.dev.eng i).lat.tooLong = false)) 4 1 (held (.oarEnable 4 1) .ready closedPath) (issuer (.oarEnable 4 1))) ∧
    ((fun m k (s : State) x => Starts (.oarDisable m k) s x ∧ s.dev.badOarMask k = false) 4 0x80000000 (held (.oarDisable 4 0x80000000) .ready) (issuer (.oarDisable 4 0x80000000))) ∧
    ((fun m (s : State) x => Starts (.oarStatus m) s x) 4 (held (.oarStatus 4) .ready) (issuer (.oarStatus 4))) ∧
    ((fun m k (a : MotionArg) (s : State) x => Starts (.oarMotion m k a) s x ∧ s.dev.badOarMask k = false ∧ MotionArg.ok a = true ∧ (∀ i < 32, ∀ p, Nat.testBit k i = true → s.dev.posTol i = some p → a.predWarn < p) ∧ s.dev.layers.released = none) 4 1 motion0 (held (.oarMotion 4 1 motion0) .ready) (issuer (.oarMotion 4 1 motion0))) ∧
    ((fun m (s : State) x => Starts (.oarLatency m none) s x) 4 (held (.oarLatency 4 none) .ready) (issuer (.oarLatency 4 none))) ∧
    ((fun m k l c (s : State) x => Starts (.oarLatency m (some (k, l, c))) s x ∧ s.dev.mode.mode = .ready ∧ s.dev.badOarMask k = false ∧ l ≤ 3500000 ∧ c ≤ 100000 ∧ (∀ i ∈ bitsOf 32 k, Latency.tooLong { (nth s.dev.eng i).lat with lLaser := l } = false) ∧ s.dev.layers.released = none) 4 1 180000 0 (held (.oarLatency 4 (some (1, 180000, 0))) .ready) (issuer (.oarLatency 4 (some (1, 180000, 0))))) ∧
    ((fun m k cs i (s : State) x => Starts (.oarPowermap m k cs i) s x ∧ s.dev.badOarMask k = false ∧ (∀ c ∈ cs, c < 65536) ∧ i < 65536 ∧ rising cs = true ∧ s.dev.layers.released = none) 4 1 ((List.range 33).map (· * 1985)) 65535 (held (.oarPowermap 4 1 ((List.range 33).map (· * 1985)) 65535) .ready) (issuer (.oarPowermap 4 1 ((List.range 33).map (· * 1985)) 65535))) ∧
    ((fun m k c (s : State) x => Starts (.oarPlacement m k c) s x ∧ s.dev.badOarMask k = false ∧ c ≤ 1) 4 1 1 (held (.oarPlacement 4 1 1) .ready) (issuer (.oarPlacement 4 1 1))) ∧
    ((fun m k (s : State) x => Starts (.oarMeasure m k) s x ∧ s.dev.badOarMask k = false ∧ s.dev.layers.released = none ∧ (∀ i ∈ bitsOf 32 k, (nth s.dev.eng i).test = none)) 4 1 (held (.oarMeasure 4 1) .ready (fun d => linked 0 (fit d))) (issuer (.oarMeasure 4 1))) ∧
    ((fun m k (s : State) x => Starts (.oarDark m k) s x ∧ s.dev.badOarMask k = false ∧ s.dev.layers.released = none ∧ bitsOf 32 k ≠ [] ∧ (∀ i ∈ bitsOf 32 k, (s.dev.port i).hearing = true)) 4 1 (held (.oarDark 4 1) .ready (linked 0)) (issuer (.oarDark 4 1))) ∧
    ((fun m k (c : CameraArg) (s : State) x => Starts (.oarCamera m k c) s x ∧ s.dev.badOarMask k = false ∧ CameraArg.ok c = true ∧ s.dev.layers.released = none) 4 1 camera0 (held (.oarCamera 4 1 camera0) .ready) (issuer (.oarCamera 4 1 camera0))) ∧
    ((fun m k (s : State) x => Starts (.oarSense m k) s x ∧ s.dev.badOarMask k = false) 4 1 (held (.oarSense 4 1) .ready) (issuer (.oarSense 4 1))) ∧
    ((fun m k (s : State) x => Starts (.oarEnable m k) s x ∧ s.dev.badOarMask k = false ∧ (∀ i < 32, Nat.testBit k i = true → (s.dev.port i).linked = true ∧ s.dev.ump.closed.getLsbD i = true ∧ (nth s.dev.eng i).lat.tooLong = false)) 4 1 (held (.oarEnable 4 1) .ready closedPath) (issuer (.oarEnable 4 1))) ∧
    ((fun m k (s : State) x => Starts (.oarEnable m k) s x ∧ s.dev.badOarMask k = false ∧ (∃ i < 32, Nat.testBit k i = true ∧ ((s.dev.port i).linked = false ∨ s.dev.ump.closed.getLsbD i = false ∨ (nth s.dev.eng i).lat.tooLong = true))) 4 3 (held (.oarEnable 4 3) .ready closedPath) (issuer (.oarEnable 4 3))) := ⟨by decide +kernel, by decide +kernel, (by decide +kernel), ⟨by decide +kernel, by decide, by decide, fun _ _ p _ h => absurd h.symm (Option.some_ne_none p), rfl⟩, by decide +kernel, by decide +kernel, (by decide +kernel), by decide +kernel, by decide +kernel, (by decide +kernel), by decide +kernel, by decide +kernel, (by decide +kernel), by decide +kernel⟩

theorem wit_LayerCommandsComplete :
    ((fun m f n a c (s : State) x => Starts (.layerParams m f n a c) s x ∧ Loadable .params s f n a c) 4 1023 1 0 136799451 (held (.layerParams 4 1023 1 0 136799451) .ready) (issuer (.layerParams 4 1023 1 0 136799451))) ∧
    ((fun m f n a c (s : State) x => Starts (.layerProfiles m f n a c) s x ∧ Loadable .profiles s f n a c) 4 255 1 0 136799451 (held (.layerProfiles 4 255 1 0 136799451) .ready) (issuer (.layerProfiles 4 255 1 0 136799451))) ∧
    ((fun m f n a c (s : State) x => Starts (.layerTargets m f n a c) s x ∧ Loadable .targets s f n a c) 4 63 1 0 2324772522 (held (.layerTargets 4 63 1 0 2324772522) .ready) (issuer (.layerTargets 4 63 1 0 2324772522))) ∧
    ((fun m f n a c (s : State) x => Starts (.marshalThermtable m f n a c) s x ∧ Loadable .tables s f n a c) 4 63 1 0 821882304 (held (.marshalThermtable 4 63 1 0 821882304) .ready) (issuer (.marshalThermtable 4 63 1 0 821882304))) ∧
    ((fun m k i kind (s : State) x => Starts (.layerLibrary m k i) s x ∧ libKindOf k = some kind ∧ i < kind.held) 4 2 63 .targets (held (.layerLibrary 4 2 63) .ready) (issuer (.layerLibrary 4 2 63))) ∧
    ((fun m a l (s : State) x => Starts (.layerCommit m a) s x ∧ l = unle (memBytes s.dram.mem (a + 4) 4)) 4 0 0 (held (.layerCommit 4 0) .ready) (issuer (.layerCommit 4 0))) ∧
    ((fun m l n (s : State) x => Starts (.layerCancel m l) s x ∧ (∀ r, s.dev.layers.released = some r → r.desc.layer ≠ l) ∧ n = s.dev.layers.queue.findIdx (fun r => r.desc.layer = l) ∧ n < s.dev.layers.queue.length) 4 5 0 (held (.layerCancel 4 5) .ready (fun d => { d with layers := { d.layers with queue := [layer0] } })) (issuer (.layerCancel 4 5))) ∧
    ((fun m l r (s : State) x => Starts (.layerAbandon m l) s x ∧ (s.dev.mode.mode = .ready → s.dev.layers.afterSafe = true) ∧ s.dev.layers.released = some r ∧ r.desc.layer = l) 4 5 layer0 (held (.layerAbandon 4 5) .hold (released layer0)) (issuer (.layerAbandon 4 5))) ∧
    ((fun m l f n r (s : State) x => Starts (.layerReload m l f n) s x ∧ s.dev.layers.committed.find? (fun q => q.desc.layer = l) = some r ∧ 1 ≤ n ∧ f + n ≤ r.blocks.length ∧ r.damaged = []) 4 5 0 1 { layer0 with blocks := [default] } (held (.layerReload 4 5 0 1) .ready (fun d => { d with layers := { d.layers with queue := [{ layer0 with blocks := [default] }] } })) (issuer (.layerReload 4 5 0 1))) ∧
    ((fun m (s : State) x => Starts (.layerStatus m none) s x) 4 (held (.layerStatus 4 none) .ready) (issuer (.layerStatus 4 none))) ∧
    ((fun m l (s : State) x => Starts (.layerStatus m (some l)) s x ∧ (∃ q ∈ s.dev.layers.all, q.2.desc.layer = l)) 4 5 (held (.layerStatus 4 (some 5)) .ready (released layer0)) (issuer (.layerStatus 4 (some 5)))) ∧
    ((fun m l r (s : State) x => Starts (.layerReport m l) s x ∧ s.dev.layers.closed.find? (fun q => q.desc.layer = l) = some r) 4 5 layer0 (held (.layerReport 4 5) .ready (fun d => { d with layers := { d.layers with closed := [layer0] } })) (issuer (.layerReport 4 5))) ∧
    ((fun m l b r (s : State) x => Starts (.layerReload m l b 1) s x ∧ s.dev.layers.committed.find? (fun q => q.desc.layer = l) = some r ∧ b < r.blocks.length ∧ b ∈ r.damaged ∧ s.dram.marked (r.desc.listAddr + 65536 * b) (r.blockLen b) = [] ∧ crc32c (memBytes s.dram.mem (r.desc.listAddr + 65536 * b) (r.blockLen b)) = (nth r.blocks b).crc) 4 1 0 { listed with damaged := [0] } ({ held (.layerReload 4 1 0 1) .ready (released { listed with damaged := [0] }) with dram := aList } : State) (issuer (.layerReload 4 1 0 1))) ∧
    ((fun m l b r (s : State) x => Starts (.layerReload m l b 1) s x ∧ s.dev.layers.committed.find? (fun q => q.desc.layer = l) = some r ∧ b < r.blocks.length ∧ b ∈ r.damaged ∧ s.dram.marked (r.desc.listAddr + 65536 * b) (r.blockLen b) = [] ∧ crc32c (memBytes s.dram.mem (r.desc.listAddr + 65536 * b) (r.blockLen b)) ≠ (nth r.blocks b).crc) 4 5 0 { layer0 with blocks := [⟨1, ParseState.start, []⟩], damaged := [0] } (held (.layerReload 4 5 0 1) .ready (released { layer0 with blocks := [⟨1, ParseState.start, []⟩], damaged := [0] })) (issuer (.layerReload 4 5 0 1))) := ⟨by decide +kernel, by decide +kernel, (by decide +kernel), ⟨by decide +kernel, by decide, by decide, by decide +kernel, rfl, crc_of _ _ _ _ (by decide) (by decide) (by decide +kernel), by decide +kernel⟩, by decide +kernel, by decide +kernel, (by decide +kernel), by decide +kernel, by decide +kernel, (by decide +kernel), by decide +kernel, by decide +kernel, (by decide +kernel), by decide +kernel⟩

/-- A commit whose checks are to end, over the list of one block. -/
abbrev aCheck : State := ({ calm .ready (fun d => { d with layers := { d.layers with checking := [LayerRec.ofAddr 0x1000 1] }, host := { d.host with jobs := [{ job0 with kind := .layerCommit 1 }] } }) with dram := aList } : State)
theorem wit_LayerEventsComplete :
    ((fun c rest j f d ops (s : State) => Live .layerChecksComplete s ∧ s.dev.coxRuns = true ∧ s.dev.layers.checking = c :: rest ∧ s.dev.commitJob = some j ∧ s.dev.checkLayer s.dram s.dev.layers.early c.descAddr = (d, ops, .inl f)) layer0 [] { job0 with kind := .layerCommit 5 } (5, 0xFFFFFFFF) (((calm .ready (fun d => { d with layers := { d.layers with checking := [layer0], early := some 5 }, host := { d.host with jobs := [{ job0 with kind := .layerCommit 5 }] } }))).dev) [] (calm .ready (fun d => { d with layers := { d.layers with checking := [layer0], early := some 5 }, host := { d.host with jobs := [{ job0 with kind := .layerCommit 5 }] } }))) ∧
    ((fun c rest j l d ops (s : State) => Live .layerChecksComplete s ∧ s.dev.coxRuns = true ∧ s.dev.layers.checking = c :: rest ∧ s.dev.commitJob = some j ∧ s.dev.checkLayer s.dram s.dev.layers.early c.descAddr = (d, ops, .inr l)) (LayerRec.ofAddr 0x1000 1) [] { job0 with kind := .layerCommit 1 } (aCheck.dev.layerOf 0x1000 aDesc twoRecs ((recsOf twoRecs).foldl (aCheck.dev.chkRec aCheck.dev.plantBudget 2) Chk.start)) (aCheck.dev.checkLayer aCheck.dram aCheck.dev.layers.early (LayerRec.ofAddr 0x1000 1).descAddr).1 (aCheck.dev.checkLayer aCheck.dram aCheck.dev.layers.early (LayerRec.ofAddr 0x1000 1).descAddr).2.1 aCheck) ∧
    ((fun l rest (s : State) => Live .fenceRelease s ∧ s.dev.layers.queue = l :: rest ∧ s.dev.mode.mode = .build ∧ s.dev.layers.released = none ∧ (s.dev.layers.recoatDone = true ∧ s.dev.img.ready = true ∨ s.dev.layers.firstSinceReset = true ∧ l.desc.noRecoat = true)) layer0 [] (calm .build (fun d => { d with layers := { d.layers with queue := [layer0], recoatDone := true }, img := { d.img with ready := true } }))) ∧
    ((fun (s : State) => Live .fenceRelease s ∧ (s.dev.mode.mode ≠ .build ∨ s.dev.layers.released ≠ none ∨ s.dev.layers.queue = [])) (calm .ready)) ∧
    ((fun l (s : State) => Live .fenceClose s ∧ s.dev.layers.released = some l ∧ l.settled = l.strokeCount ∧ l.damaged = []) layer0 (calm .build (released layer0))) := ⟨⟨by decide +kernel, rfl, rfl, rfl, rfl⟩, ⟨by decide +kernel, by decide +kernel, by decide +kernel, by decide +kernel, of_third (by decide +kernel)⟩, by decide +kernel, by decide +kernel, (by decide +kernel)⟩

theorem wit_ExposureEventsComplete :
    ((fun k ed es b (s : State) => Live (.lgateTransition k) s ∧ (nth s.dev.eng k).edges = ed :: es ∧ (nth s.dev.eng k).cur = some b ∧ ed.frame ≤ s.dev.now ∧ ed.finish = false ∧ (nth s.dev.eng k).exposing = false ∧ s.dev.lightable k = true) 0 edge0 [] buf0 (calm .build (fun d => { d.onEng 0 fun e => { e with edges := [edge0], cur := some buf0, len := true } with ump := { d.ump with closed := 1 } }))) ∧
    ((fun k ed es b (s : State) => Live (.lgateTransition k) s ∧ (nth s.dev.eng k).edges = ed :: es ∧ (nth s.dev.eng k).cur = some b ∧ ed.frame ≤ s.dev.now ∧ ed.finish = false ∧ (nth s.dev.eng k).exposing = false ∧ s.dev.lightable k = false) 0 edge0 [] buf0 (calm .build (fun d => { d.onEng 0 fun e => { e with edges := [edge0], cur := some buf0, len := false } with ump := { d.ump with closed := 1 } }))) ∧
    ((fun k ed es b (s : State) => Live (.lgateTransition k) s ∧ (nth s.dev.eng k).edges = ed :: es ∧ (nth s.dev.eng k).cur = some b ∧ ed.frame ≤ s.dev.now ∧ ed.finish = true ∧ (nth s.dev.eng k).exposing = true) 31 { edge0 with finish := true } [] buf0 (calm .build (fun d => d.onEng 31 fun e => { e with edges := [{ edge0 with finish := true }], cur := some buf0, exposing := true }))) ∧
    ((fun k b (s : State) => Live (.finishBackstop k) s ∧ (nth s.dev.eng k).cur = some b ∧ s.dev.backstopDue k b.item.stroke = true) 0 buf0 (calm .build (late <| fun d => d.onEng 0 fun e => { e with exposing := true, cur := some buf0 }))) ∧
    ((fun k b (s : State) => Live (.dotSettleTimeout k) s ∧ (nth s.dev.eng k).cur = some b ∧ b.item.stroke.dot = true ∧ (nth s.dev.eng k).phase = .settle ∧ s.dev.boot.compat = false ∧ s.dev.dotReady k b.item.stroke ≤ s.dev.now ∧ (nth s.dev.eng k).jumpEndPs + 1000000 * ((nth s.dev.eng k).motion.dotSettleMax : Rat) ≤ s.dev.psNow) 0 { buf0 with item := { pool0 with stroke := { pool0.stroke with dot := true } } } (calm .build (late <| fun d => d.onEng 0 fun e => { e with phase := .settle, cur := some { buf0 with item := { pool0 with stroke := { pool0.stroke with dot := true } } } }))) ∧
    ((fun k b rest (s : State) => Live (.jumpPlanning k) s ∧ s.dev.planDue k = true ∧ (nth s.dev.mar.oars k).buf = b :: rest) 0 buf0 [] (calm .build (fun d => d.onMar fun m => { m with oars := upd m.oars 0 fun o => { o with buf := [buf0] } }))) ∧
    ((fun k b p (s : State) => Live (.jumpEnd k) s ∧ (nth s.dev.eng k).cur = some b ∧ (nth s.dev.eng k).plan = some p ∧ (nth s.dev.eng k).phase = .jump ∧ (nth s.dev.eng k).jumpEndPs ≤ s.dev.psNow ∧ p.hold = false ∧ (s.dev.boot.compat = true → (nth s.dev.eng k).exposing = false ∧ (nth s.dev.eng k).edges = []) ∧ s.dev.catchClear k b.item.stroke = true) 0 buf0 plan0 (calm .build (fun d => d.onEng 0 fun e => { e with phase := .jump, cur := some buf0, plan := some plan0, len := true, lenSettled := true }))) ∧
    ((fun k b p (s : State) => Live (.jumpEnd k) s ∧ (nth s.dev.eng k).cur = some b ∧ (nth s.dev.eng k).plan = some p ∧ (nth s.dev.eng k).jumpEndPs ≤ s.dev.psNow ∧ ((nth s.dev.eng k).phase = .stopping ∨ (nth s.dev.eng k).phase = .jump ∧ p.hold = true ∧ b.item.stroke.dot = false ∧ s.dev.boot.compat = false)) 0 buf0 plan0 (calm .build (fun d => d.onEng 0 fun e => { e with phase := .stopping, cur := some buf0, plan := some plan0 }))) ∧
    ((fun (d : Dev) k (s : Stroke) => k < d.eng.length) (up .ready) 31 pool0.stroke) ∧
    ((fun k b t (s : State) => Live (.catchHoldLimit k) s ∧ (nth s.dev.eng k).phase = .hold ∧ (nth s.dev.eng k).cur = some b ∧ (nth s.dev.eng k).holdSince = some t ∧ s.dev.wakeClear b.item.stroke k = false ∧ t + usT s.dev.relDesc.wakeLife ≤ s.dev.now) 0 buf0 0 (calm .build (late <| fun d => released { layer0 with desc := { layer0.desc with wakeLen := 1, wakeLife := 100000 } } ((aBed (d.onEng 0 fun e => { e with phase := .hold, cur := some buf0, holdSince := some 0 })).onMar fun m => { m with wake := [(0, 0, 0, 2)] })))) ∧
    ((fun k (s : State) => Live (.lenRise k) s ∧ s.dev.lenWanted k = true ∧ (nth s.dev.eng k).len = false) 0 (calm .build (fun d => released layer0 (fit (closedPath d))))) ∧
    ((fun k (s : State) => Live (.lenSettleExpiry k) s ∧ (nth s.dev.eng k).len = true ∧ (nth s.dev.eng k).lenTick + usT (nth s.dev.eng k).motion.lenSettle ≤ s.dev.now) 0 (calm .build (late <| fun d => d.onEng 0 fun e => { e with len := true }))) := by
  and_intros <;> decide +kernel

theorem wit_CatchOpensTheGate :
    (fun (d : Dev) k (s : Stroke) (ed : Edge) => k < d.eng.length) (up .build) 31 default default := by decide +kernel

theorem wit_MarshalEventsComplete :
    ((fun o l d ops q n (s : State) => s.dev.awake = true ∧ s.dev.layers.released = some l ∧ s.dev.mar.places .window < 16384 ∧ (∀ p ∈ s.dev.mar.skipped, p.1 ∈ l.damaged) ∧ s.dev.mar.nextRec < l.desc.listCount ∧ s.dev.mar.nextRec / 2048 ∉ l.damaged ∧ s.dev.blockLive 7 0 = true ∧ s.dev.readBlock s.dram l (s.dev.mar.nextRec / 2048) s.dev.mar.nextRec s.dev.mar.parse o = (d, ops, some (q, n))) .clean listed ((((({ calm .build (released listed) with dram := aList } : State))).dev.readBlock ((({ calm .build (released listed) with dram := aList } : State))).dram listed (((({ calm .build (released listed) with dram := aList } : State))).dev.mar.nextRec / 2048) ((({ calm .build (released listed) with dram := aList } : State))).dev.mar.nextRec ((({ calm .build (released listed) with dram := aList } : State))).dev.mar.parse .clean).1) ((((({ calm .build (released listed) with dram := aList } : State))).dev.readBlock ((({ calm .build (released listed) with dram := aList } : State))).dram listed (((({ calm .build (released listed) with dram := aList } : State))).dev.mar.nextRec / 2048) ((({ calm .build (released listed) with dram := aList } : State))).dev.mar.nextRec ((({ calm .build (released listed) with dram := aList } : State))).dev.mar.parse .clean).2.1) (((((({ calm .build (released listed) with dram := aList } : State))).dev.readBlock ((({ calm .build (released listed) with dram := aList } : State))).dram listed (((({ calm .build (released listed) with dram := aList } : State))).dev.mar.nextRec / 2048) ((({ calm .build (released listed) with dram := aList } : State))).dev.mar.nextRec ((({ calm .build (released listed) with dram := aList } : State))).dev.mar.parse .clean).2.2.getD default).1) (((((({ calm .build (released listed) with dram := aList } : State))).dev.readBlock ((({ calm .build (released listed) with dram := aList } : State))).dram listed (((({ calm .build (released listed) with dram := aList } : State))).dev.mar.nextRec / 2048) ((({ calm .build (released listed) with dram := aList } : State))).dev.mar.nextRec ((({ calm .build (released listed) with dram := aList } : State))).dev.mar.parse .clean).2.2.getD default).2) ({ calm .build (released listed) with dram := aList } : State)) ∧
    ((fun o l d ops (s : State) => s.dev.awake = true ∧ s.dev.layers.released = some l ∧ s.dev.mar.places .window < 16384 ∧ (∀ p ∈ s.dev.mar.skipped, p.1 ∈ l.damaged) ∧ s.dev.mar.nextRec < l.desc.listCount ∧ s.dev.mar.nextRec / 2048 ∉ l.damaged ∧ s.dev.blockLive 7 0 = true ∧ s.dev.readBlock s.dram l (s.dev.mar.nextRec / 2048) s.dev.mar.nextRec s.dev.mar.parse o = (d, ops, none)) .clean listed ((((calm .build (released listed))).dev.readBlock ((calm .build (released listed))).dram listed (((calm .build (released listed))).dev.mar.nextRec / 2048) ((calm .build (released listed))).dev.mar.nextRec ((calm .build (released listed))).dev.mar.parse .clean).1) ((((calm .build (released listed))).dev.readBlock ((calm .build (released listed))).dram listed (((calm .build (released listed))).dev.mar.nextRec / 2048) ((calm .build (released listed))).dev.mar.nextRec ((calm .build (released listed))).dev.mar.parse .clean).2.1) (calm .build (released listed))) ∧
    ((fun (s : State) => Live .dispatchCycle s) (calm .ready)) ∧
    ((fun (s : State) => Live .dispatchOverrun s) (calm .ready)) ∧
    ((fun q (s : State) => s.dev.awake = true) 0 (calm .ready)) ∧
    ((fun q i t (s : State) => s.dev.awake = true ∧ (s.dev.mar.window ++ s.dev.mar.repairs).find? (fun i => i.stroke.seq = q) = some i ∧ i.orphanSince = some t ∧ t + msT s.dev.mar.inOrphan ≤ s.dev.now ∧ s.dev.offeredSet i.stroke = [] ∧ (∀ k ∈ s.dev.eligible i.stroke, s.dev.inT k = true)) 0 { pool0 with orphanSince := some 0 } 0 (calm .build (late <| fun d => d.onMar fun m => { m with window := [{ pool0 with orphanSince := some 0 }] }))) ∧
    ((fun (s : State) => Live .wakeSweep s) (calm .ready)) ∧
    ((fun (s : State) => Live .thermalSweep s) (calm .ready)) ∧
    ((fun i rest (s : State) => Live .repairPlaceFreed s ∧ s.dev.mar.waitRepairs = i :: rest ∧ s.dev.mar.repairRoom = true) { pool0 with waitUs := 0 } [] (calm .build (fun d => d.onMar fun m => { m with waitRepairs := [{ pool0 with waitUs := 0 }] }))) := ⟨⟨by decide +kernel, by decide +kernel, (by decide +kernel), by decide +kernel, by decide +kernel, (by decide +kernel), by decide +kernel, of_third (some_getD _ (by decide +kernel))⟩, ⟨by decide +kernel, by decide +kernel, (by decide +kernel), by decide +kernel, by decide +kernel, (by decide +kernel), by decide +kernel, of_third (by decide +kernel)⟩, by decide +kernel, by decide +kernel, (by decide +kernel), by decide +kernel, by decide +kernel, (by decide +kernel), by decide +kernel⟩

theorem wit_LeaveEventsComplete :
    ((fun r p (s : State) => s.dev.awake = true ∧ s.dev.mar.pending.find? (·.req = r) = some p ∧ s.dev.mayGrant (p.leave s.dev.now) = true ∧ s.dev.seniorFirst p.item.stroke = false) 0 pend0 (calm .build (fun d => d.onMar fun m => { m with pending := [pend0] }))) ∧
    ((fun r p (s : State) => s.dev.awake = true ∧ s.dev.mar.pending.find? (·.req = r) = some p ∧ (s.dev.mayGrant (p.leave s.dev.now) = false ∨ s.dev.seniorFirst p.item.stroke = true)) 0 { pend0 with prio := 5, plantW := 1000000 } (calm .build (fun d => d.onMar fun m => { m with pending := [{ pend0 with prio := 5, plantW := 1000000 }] }))) ∧
    ((fun l (s : State) => Live .leaveGrant s ∧ (∀ w ∈ s.dev.gov.waiting, s.dev.refusal w = 0) ∧ s.dev.nextGrant = some l) leave0 (calm .build (fun d => { d with gov := { d.gov with waiting := [leave0] } }))) ∧
    ((fun l (s : State) => Live .leaveGrant s ∧ s.dev.gov.waiting.find? (fun l => s.dev.refusal l ≠ 0) = some l) { leave0 with who := .scrub, prio := 4, plantW := 1000000 } (calm .build (fun d => { d with gov := { d.gov with waiting := [{ leave0 with who := .scrub, prio := 4, plantW := 1000000 }] } }))) ∧
    ((fun l x xs (s : State) => Live .p5Revocation s ∧ s.dev.mc.panic0 = false ∧ s.dev.mc.panic1 = false ∧ s.dev.gov.waiting.find? (fun l => l.prio = 4 && decide (l.since + msT 100 ≤ s.dev.now) && ! s.dev.mayGrant l && (s.dev.revokeFor l).any (· ≠ [])) = some l ∧ s.dev.revokeFor l = some (x :: xs)) { leave0 with prio := 4, plantW := 100000 } { leave0 with id := 1, who := .trace, prio := 5, plantW := 100000 } [] (calm .build (late <| fun d => { d with gov := { d.gov with waiting := [{ leave0 with prio := 4, plantW := 100000 }], grants := [{ leave0 with id := 1, who := .trace, prio := 5, plantW := 100000 }], plantBudget := 100000 } }))) ∧
    ((fun (s : State) => Live .p5Revocation s ∧ s.dev.mc.panic0 = false ∧ s.dev.mc.panic1 = false ∧ (∀ l ∈ s.dev.gov.waiting, l.prio = 4 → l.since + msT 100 ≤ s.dev.now → s.dev.mayGrant l = false → s.dev.revokeFor l = none ∨ s.dev.revokeFor l = some [])) (calm .build (late <| fun d => { d with gov := { d.gov with waiting := [{ leave0 with prio := 4, plantW := 1000000 }] } }))) ∧
    ((fun (s : State) => Live .p5Revocation s ∧ (s.dev.mc.panic0 = true ∨ s.dev.mc.panic1 = true) ∧ (∀ l ∈ s.dev.gov.waiting, l.prio ≠ 4)) (calm .build (fun d => { d with mc := { d.mc with panic1 := true } }))) := by
  and_intros <;> decide +kernel

theorem wit_GrantedStrokeFits :
    (fun r p (s : State) t => s.dev.mar.pending.find? (·.req = r) = some p ∧ exec (.leaveAnswer r) s = .next t ∧ s.dev.awake = true ∧ (nth t.dev.mar.oars p.oar).buf ≠ (nth s.dev.mar.oars p.oar).buf) 0 pend0 (calm .build (fun d => d.onMar fun m => { m with pending := [pend0] })) (after (.leaveAnswer 0) ((calm .build (fun d => d.onMar fun m => { m with pending := [pend0] })))) := ⟨by decide +kernel, rfl, by decide +kernel, by decide +kernel⟩

theorem wit_MarshalCommandsComplete :
    ((fun m h b o (s : State) x => Starts (.marshalConfig m h b o) s x ∧ 1000 ≤ h ∧ h ≤ 50000 ∧ b ≤ 1000 ∧ o ≤ 10000) 4 50000 1000 0 (held (.marshalConfig 4 50000 1000 0) .ready) (issuer (.marshalConfig 4 50000 1000 0))) ∧
    ((fun m (s : State) x => Starts (.marshalThermal m none) s x ∧ s.dev.queueEmpty = true) 4 (held (.marshalThermal 4 none) .ready) (issuer (.marshalThermal 4 none))) ∧
    ((fun m e l (s : State) x => Starts (.marshalThermal m (some (e, l))) s x ∧ s.dev.queueEmpty = true ∧ e % 16000 = 0 ∧ 16000 ≤ e ∧ e ≤ 256000 ∧ 1 ≤ l ∧ l ≤ 65535 ∧ (s.dev.heatSizeAt e).1 * (s.dev.heatSizeAt e).2 ≤ 1048576) 4 16000 1 (held (.marshalThermal 4 (some (16000, 1))) .ready) (issuer (.marshalThermal 4 (some (16000, 1))))) ∧
    ((fun m (s : State) x => Starts (.marshalStatus m) s x) 4 (held (.marshalStatus 4) .ready) (issuer (.marshalStatus 4))) ∧
    ((fun m l r (s : State) x => Starts (.marshalStats m l) s x ∧ s.dev.layers.kept l = some r) 4 5 layer0 (held (.marshalStats 4 5) .ready (released layer0)) (issuer (.marshalStats 4 5))) ∧
    ((fun m l f n r (s : State) x => Starts (.marshalInterrupted m l f n) s x ∧ s.dev.layers.kept l = some r) 4 5 0 1 layer0 (held (.marshalInterrupted 4 5 0 1) .ready (released layer0)) (issuer (.marshalInterrupted 4 5 0 1))) ∧
    ((fun m (s : State) x => Starts (.marshalWake m none) s x ∧ s.dev.mode.mode = .ready) 4 (held (.marshalWake 4 none) .ready) (issuer (.marshalWake 4 none))) ∧
    ((fun m c r w h (s : State) x => Starts (.marshalWake m (some (c, r, w, h))) s x ∧ 1 ≤ w ∧ 1 ≤ h ∧ c + w ≤ 256 ∧ r + h ≤ 256) 4 0 0 256 256 (held (.marshalWake 4 (some (0, 0, 256, 256))) .ready) (issuer (.marshalWake 4 (some (0, 0, 256, 256))))) ∧
    ((fun m c r w h a (s : State) x => Starts (.marshalHeat m c r w h a 0) s x ∧ 1 ≤ w ∧ 1 ≤ h ∧ c + w ≤ s.dev.heatSize.1 ∧ r + h ≤ s.dev.heatSize.2 ∧ s.dev.rangeOk a (4 * (w * h)) = true) 4 0 0 1 1 0 (held (.marshalHeat 4 0 0 1 1 0 0) .ready aBed) (issuer (.marshalHeat 4 0 0 1 1 0 0))) ∧
    ((fun m c r w h a (s : State) x => Starts (.marshalHeat m c r w h a 1) s x ∧ 1 ≤ w ∧ 1 ≤ h ∧ c + w ≤ s.dev.heatSize.1 ∧ r + h ≤ s.dev.heatSize.2 ∧ a + 4 * (w * h) ≤ s.dev.mc.hostLimit ∧ s.dev.mode.mode = .ready ∧ s.dev.queueEmpty = true ∧ s.dram.marked a (4 * (w * h)) = []) 4 0 0 1 1 0 (held (.marshalHeat 4 0 0 1 1 0 1) .ready aBed) (issuer (.marshalHeat 4 0 0 1 1 0 1))) := by
  and_intros <;> decide +kernel

theorem wit_SlideCommandsComplete :
    ((fun m c (s : State) x => Starts (.slideConfig m [c]) s x ∧ AxisDesc.ok c = true ∧ (s.dev.axis c.axis).busy = false ∧ c.axis < s.dev.slides.axes.length) 4 axis0 (held (.slideConfig 4 [axis0]) .ready) (issuer (.slideConfig 4 [axis0]))) ∧
    ((fun m c (s : State) x => Starts (.slideConfig m [c]) s x ∧ AxisDesc.ok c = true ∧ (s.dev.axis c.axis).busy = true) 4 axis0 (held (.slideConfig 4 [axis0]) .ready (fun d => d.onAxis 0 fun x => { x with st := .moving })) (issuer (.slideConfig 4 [axis0]))) ∧
    ((fun m cs (s : State) x => Starts (.slideEncoder m cs) s x ∧ (∀ c ∈ cs, EncDesc.ok c = true) ∧ (∀ c ∈ cs, s.dev.encBusy c.enc = false)) 4 [enc0] (held (.slideEncoder 4 [enc0]) .ready) (issuer (.slideEncoder 4 [enc0]))) ∧
    ((fun m a p v d (s : State) x => Starts (.slideMove m a p v) s x ∧ a < 8 ∧ fits40 p = true ∧ (∀ n ∈ v, 1 ≤ n ∧ n ≤ 1024000000) ∧ (s.dev.axis a).targetDetail p = 0 ∧ (s.dev.axis a).loopUse ≠ 2 ∧ (s.dev.mode.mode = .build ∨ s.dev.mode.mode = .hold → s.dev.slides.recoat.hasRole a = false) ∧ ((s.dev.axis a).st = .idle ∨ (s.dev.axis a).st = .moving ∨ (s.dev.axis a).st = .pending) ∧ (s.dev.onAxis a fun y => y.aim p v).axisRequest a = (.granted, d)) 4 0 100 none (((((held (.slideMove 4 0 100 none) .ready (axisReady 0))).dev.onAxis 0 fun y => y.aim 100 none).axisRequest 0).2) (held (.slideMove 4 0 100 none) .ready (axisReady 0)) (issuer (.slideMove 4 0 100 none))) ∧
    ((fun m k (s : State) x => Starts (.slideStop m k) s x ∧ k < 256) 4 255 (held (.slideStop 4 255) .ready) (issuer (.slideStop 4 255))) ∧
    ((fun m a (h : HomeArg) d (s : State) x => Starts (.slideHome m a h) s x ∧ a < 8 ∧ (s.dev.axis a).st = .idle ∧ HomeArg.ok h (s.dev.axis a) = true ∧ ((s.dev.axis a).limP && (s.dev.axis a).limN) = false ∧ (s.dev.onAxis a fun y => { y with homing := some ⟨h, false, none, 0, 0, false, false⟩, toTarget := false, vUse := none, inPosSince := none, stopStatus := 0 }).axisRequest a = (.granted, d)) 4 0 home0 (((((held (.slideHome 4 0 home0) .ready (fun d => (axisReady 0 d).onAxis 0 fun x => { x with lims := [1000, 1, 1, 1] }))).dev.onAxis 0 fun y => { y with homing := some ⟨home0, false, none, 0, 0, false, false⟩, toTarget := false, vUse := none, inPosSince := none, stopStatus := 0 }).axisRequest 0).2) (held (.slideHome 4 0 home0) .ready (fun d => (axisReady 0 d).onAxis 0 fun x => { x with lims := [1000, 1, 1, 1] })) (issuer (.slideHome 4 0 home0))) ∧
    ((fun m a v c d j (s : State) x => Starts (.slideLimits m a v c d j) s x ∧ a < 8 ∧ 1 ≤ v ∧ v ≤ 1024000000 ∧ 1 ≤ c ∧ 1 ≤ d ∧ 1 ≤ j ∧ (∀ e ∈ (s.dev.axis a).desc, pulseOk v e.microCoarse e.stepW = true)) 4 7 1 1 1 1 (held (.slideLimits 4 7 1 1 1 1) .ready) (issuer (.slideLimits 4 7 1 1 1 1))) ∧
    ((fun m a p (s : State) x => Starts (.slideSetpos m a p) s x ∧ a < 8 ∧ fits40 p = true ∧ ((s.dev.axis a).busy = false ∨ (s.dev.axis a).st = .pending) ∧ (s.dev.axis a).atRest = true) 4 7 549755813887 (held (.slideSetpos 4 7 549755813887) .ready) (issuer (.slideSetpos 4 7 549755813887))) ∧
    ((fun m (r : RecoatArg) (s : State) x => Starts (.slideRecoat m r) s x ∧ RecoatArg.ok s.dev r = true ∧ s.dev.queueEmpty = true) 4 recoat0 (held (.slideRecoat 4 recoat0) .ready (fun d => (axisReady 0 d).onAxis 0 fun x => { x with desc := some { axis0 with encSel := 0 } })) (issuer (.slideRecoat 4 recoat0))) ∧
    ((fun m k (s : State) x => Starts (.slideStatus m k) s x ∧ k < 256) 4 255 (held (.slideStatus 4 255) .ready) (issuer (.slideStatus 4 255))) ∧
    ((fun m k (s : State) x => Starts (.slideClear m k) s x ∧ k < 256 ∧ (∀ a ∈ bitsOf 8 k, (s.dev.axis a).faulted = true → s.dev.faultStands a = false)) 4 255 (held (.slideClear 4 255) .ready) (issuer (.slideClear 4 255))) ∧
    ((fun m k (s : State) x => Starts (.slideClear m k) s x ∧ k < 256 ∧ (∃ a ∈ bitsOf 8 k, (s.dev.axis a).faulted = true ∧ s.dev.faultStands a = true)) 4 1 (held (.slideClear 4 1) .ready (fun d => d.onAxis 0 fun x => { x with flags := 8, st := .moving })) (issuer (.slideClear 4 1))) := ⟨by decide +kernel, by decide +kernel, (by decide +kernel), ⟨by decide +kernel, by decide +kernel, (by decide +kernel), by decide +kernel, by decide +kernel, (by decide +kernel), by decide +kernel, by decide +kernel, of_first (by decide +kernel)⟩, by decide +kernel, ⟨by decide +kernel, by decide +kernel, (by decide +kernel), by decide +kernel, by decide +kernel, of_first (by decide +kernel)⟩, by decide +kernel, by decide +kernel, (by decide +kernel), by decide +kernel, by decide +kernel, (by decide +kernel)⟩

theorem wit_AxisEventsComplete :
    ((fun a (s : State) => Live (.limitActive a true) s ∧ (s.dev.axis a).limP = false ∧ (s.dev.axis a).limN = false ∧ (s.dev.axis a).homing = none ∧ (s.dev.axis a).busy = true ∧ a < s.dev.slides.axes.length) 7 (calm .ready (fun d => d.onAxis 7 fun x => { x with st := .moving }))) ∧
    ((fun a (s : State) => Live (.limitActive a false) s ∧ (s.dev.axis a).limP = false ∧ (s.dev.axis a).limN = false ∧ (s.dev.axis a).homing = none ∧ (s.dev.axis a).busy = true ∧ a < s.dev.slides.axes.length) 7 (calm .ready (fun d => d.onAxis 7 fun x => { x with st := .moving }))) ∧
    ((fun a p (s : State) => Live (.limitClear a p) s) 0 true (calm .ready)) ∧
    ((fun a h (s : State) => Live (.homeEdgeQualified a) s ∧ (s.dev.axis a).homing = some h ∧ (s.dev.axis a).searching = true ∧ h.qualified = false ∧ h.arg.mode ≠ 2 ∧ a < s.dev.slides.axes.length ∧ (((s.dev.axis a).setSwitch true).limP && ((s.dev.axis a).setSwitch true).limN) = false) 0 homing0 (calm .ready (fun d => d.onAxis 0 fun x => { x with homing := some homing0, st := .homing }))) ∧
    ((fun a h l (s : State) => Live (.homingSwitchToggle a) s ∧ (s.dev.axis a).homing = some h ∧ h.latch = some l ∧ (s.dev.axis a).searching = true ∧ |(s.dev.axis a).cmd - l.1| ≤ (h.arg.lockout : Rat) ∧ h.toggles < 8) 0 { homing0 with latch := some (0, 0) } (0, 0) (calm .ready (fun d => d.onAxis 0 fun x => { x with homing := some { homing0 with latch := some (0, 0) }, st := .homing }))) ∧
    ((fun a h l (s : State) => Live (.homingSwitchToggle a) s ∧ (s.dev.axis a).homing = some h ∧ h.latch = some l ∧ (s.dev.axis a).searching = true ∧ |(s.dev.axis a).cmd - l.1| ≤ (h.arg.lockout : Rat) ∧ 8 ≤ h.toggles ∧ s.dev.now ≤ h.latchTick + msT h.arg.qualWin) 0 { homing0 with latch := some (0, 0), toggles := 8 } (0, 0) (calm .ready (fun d => d.onAxis 0 fun x => { x with homing := some { homing0 with latch := some (0, 0), toggles := 8 }, st := .homing }))) ∧
    ((fun a h l (s : State) => Live (.homingQualWinEnd a) s ∧ (s.dev.axis a).homing = some h ∧ h.latch = some l ∧ (s.dev.axis a).searching = true ∧ h.latchTick + msT h.arg.qualWin ≤ s.dev.now) 0 { homing0 with latch := some (0, 0) } (0, 0) (calm .ready (late <| fun d => d.onAxis 0 fun x => { x with homing := some { homing0 with latch := some (0, 0) }, st := .homing }))) ∧
    ((fun n h (s : State) => Live (.encoderEdge n 0 h) s ∧ s.dev.recoatEnc ≠ some n ∧ (nth s.dev.slides.encs n).a ≠ h ∧ (nth s.dev.slides.encs n).wireFault = false ∧ (nth s.dev.slides.encs n).still = false ∧ (nth s.dev.slides.encs n).edgeA h ≠ 0 ∧ (nth s.dev.slides.encs n).desc.eflags.testBit 0 = false) 0 true (calm .ready (fun d => d.onEnc 0 fun e => { e with still := false }))) ∧
    ((fun n h (s : State) => Live (.encoderEdge n 1 h) s ∧ s.dev.recoatEnc ≠ some n ∧ (nth s.dev.slides.encs n).b ≠ h ∧ (nth s.dev.slides.encs n).wireFault = false ∧ (nth s.dev.slides.encs n).still = false ∧ (nth s.dev.slides.encs n).edgeB h ≠ 0 ∧ (nth s.dev.slides.encs n).desc.eflags.testBit 0 = false) 0 true (calm .ready (fun d => d.onEnc 0 fun e => { e with still := false }))) ∧
    ((fun n h (s : State) => Live (.encoderEdge n 3 h) s ∧ s.dev.recoatEnc ≠ some n ∧ (nth s.dev.slides.encs n).desc.emode = 0) 0 true (calm .ready)) ∧
    ((fun n w (s : State) => Live (.encoderGlitch n w) s) 7 1 (calm .ready)) ∧
    ((fun n (s : State) => Live (.wireFault n) s ∧ (nth s.dev.slides.encs n).wireFault = false ∧ (∀ a < 8, (s.dev.axis a).enc ≠ some n)) 7 (calm .ready)) ∧
    ((fun n (s : State) => Live (.wireFaultClear n) s ∧ (nth s.dev.slides.encs n).wireTick + msT 1 ≤ s.dev.now) 7 (calm .ready late)) ∧
    ((fun n (s : State) => Live (.indexStuck n) s ∧ (nth s.dev.slides.encs n).i = true ∧ (nth s.dev.slides.encs n).stuck = false ∧ (nth s.dev.slides.encs n).iSince + usT (nth s.dev.slides.encs n).desc.idxMaxOn < s.dev.now) 0 (calm .ready (late <| fun d => d.onEnc 0 fun e => { e with i := true }))) ∧
    ((fun n (s : State) => Live (.speedObserver n) s ∧ (nth s.dev.slides.encs n).obsUs < s.dev.now / usT 1) 7 (calm .ready late)) ∧
    ((fun n (s : State) => Live (.speedObserver n) s ∧ s.dev.now / usT 1 ≤ (nth s.dev.slides.encs n).obsUs) 7 (calm .ready)) ∧
    ((fun (e : Encoder) => e.still = true) { (default : Encoder) with still := true }) ∧
    ((fun n (s : State) => Live (.encoderStill n) s ∧ (nth s.dev.slides.encs n).still = false ∧ (nth s.dev.slides.encs n).lastCountTick + usT (nth s.dev.slides.encs n).desc.stillTime ≤ s.dev.now) 7 (calm .ready (late <| fun d => d.onEnc 7 fun e => { e with still := false }))) := by
  and_intros <;> decide +kernel

theorem wit_EncoderRatioIsExact :
    (fun (e : Encoder) (ns : List Int) => 0 < e.desc.den) { (default : Encoder) with desc := enc0 } [1, -2] := by decide +kernel

theorem wit_ImagingCommandsComplete :
    ((fun m (c : ImageArg) (s : State) x => Starts (.imageConfig m c) s x ∧ s.dev.imageOk c = true ∧ s.dev.queueEmpty = true ∧ s.dev.imagingBusy = false) 4 { image0 with lineExp := 1000000, dirs := [⟨0, 1, 2000⟩] } (held (.imageConfig 4 { image0 with lineExp := 1000000, dirs := [⟨0, 1, 2000⟩] }) .ready) (issuer (.imageConfig 4 { image0 with lineExp := 1000000, dirs := [⟨0, 1, 2000⟩] }))) ∧
    ((fun m (s : State) x => Starts (.imageStatus m) s x) 4 (held (.imageStatus 4) .ready) (issuer (.imageStatus 4))) ∧
    ((fun m k a c (s : State) x => Starts (.imageLine m k a) s x ∧ s.dev.img.cfg = some c ∧ k < c.dirs.length ∧ s.dev.rangeOk a (imgRecBytes c) = true ∧ s.dev.recoaterMoves = false ∧ s.dev.img.line = none ∧ (s.dev.port 32).hearing = true) 4 0 0 image0 (held (.imageLine 4 0 0) .ready (fun d => (linked 32 d).onImg fun m => { m with cfg := some image0 })) (issuer (.imageLine 4 0 0))) ∧
    ((fun m k r i v (s : State) x => Starts (.ledConfig m k r i v) s x ∧ k < 12 ∧ 1 ≤ r ∧ r ≤ 1000 ∧ 1 ≤ i ∧ i ≤ (if k < 8 then 2000 else 300) ∧ v ≤ 1600 ∧ r * i ≤ 20000 ∧ s.dev.imagingBusy = false) 4 11 1 1 1600 (held (.ledConfig 4 11 1 1 1600) .ready) (issuer (.ledConfig 4 11 1 1 1600))) ∧
    ((fun m n ps (s : State) x => Starts (.ledPattern m n ps) s x ∧ n < 16 ∧ ps ≠ [] ∧ ps.length ≤ 32 ∧ (∀ p ∈ ps, PatternStep.ok p = true)) 4 15 [⟨0, 0, 1⟩] (held (.ledPattern 4 15 [⟨0, 0, 1⟩]) .ready) (issuer (.ledPattern 4 15 [⟨0, 0, 1⟩]))) ∧
    ((fun m k n p ms (s : State) x => Starts (.ledSet m k n p ms) s x ∧ k &&& 0xF00 = k ∧ n < 16 ∧ (∀ q ∈ ms, q < 16 ∨ q = 0xFF)) 4 0xF00 15 0 [0, 0, 0, 0, 255] (held (.ledSet 4 0xF00 15 0 [0, 0, 0, 0, 255]) .ready) (issuer (.ledSet 4 0xF00 15 0 [0, 0, 0, 0, 255]))) ∧
    ((fun m (a : LampArg) (s : State) x => Starts (.ledLamp m a) s x ∧ LampArg.ok a = true ∧ s.dev.imagingBusy = false) 4 lamp0 (held (.ledLamp 4 lamp0) .ready) (issuer (.ledLamp 4 lamp0))) ∧
    ((fun m (s : State) x => Starts (.ledStatus m) s x) 4 (held (.ledStatus 4) .ready) (issuer (.ledStatus 4))) ∧
    ((fun m k (s : State) x => Starts (.ledClear m k) s x ∧ k < 4096 ∧ (∃ c ∈ bitsOf 12 k, (s.dev.led c).fault = true) ∧ (∀ j ∈ s.dev.host.jobs, ∀ q, j.kind ≠ .ledClear q)) 4 1 (held (.ledClear 4 1) .ready (fun d => d.onImg fun m => { m with leds := upd m.leds 0 fun c => { c with fault := true } })) (issuer (.ledClear 4 1))) ∧
    ((fun m k (s : State) x => Starts (.ledClear m k) s x ∧ k < 4096 ∧ (∀ c ∈ bitsOf 12 k, (s.dev.led c).fault = false)) 4 4095 (held (.ledClear 4 4095) .ready) (issuer (.ledClear 4 4095))) := ⟨by decide +kernel, by decide +kernel, (by decide +kernel), by decide +kernel, by decide +kernel, (by decide +kernel), by decide +kernel, by decide +kernel, ⟨by decide +kernel, by decide +kernel, (by decide +kernel), fun j h => (List.not_mem_nil (a := j) h).elim⟩, by decide +kernel⟩

theorem wit_ImagingEventsComplete :
    ((fun l c (s : State) => Live .lineStartSend s ∧ s.dev.img.line = some l ∧ s.dev.img.cfg = some c ∧ l.sent = false ∧ l.edgeTick < s.dev.now ∧ s.dev.imagerFramed = true) line0 image0 (calm .ready (late <| fun d => { (linked 32 d).onImg fun m => { m with cfg := some image0, line := some line0 } with links := { (linked 32 d).links with out := List.replicate 33 [0] } }))) ∧
    ((fun l c (s : State) => Live .strobePulseStart s ∧ s.dev.img.line = some l ∧ s.dev.img.cfg = some c ∧ l.sent = true ∧ l.pulsed = false ∧ l.startTick + c.strobeDelay / 250 ≤ s.dev.now ∧ ¬ (s.dev.img.single.isSome = true ∧ s.dev.mode.mode = .ready) ∧ ¬ (s.dev.mode.mode = .build ∧ s.dev.slides.recoat.step = 2)) { line0 with sent := true } image0 (calm .ready (late <| fun d => { d with img := { d.img with cfg := some image0, line := some { line0 with sent := true } } }))) ∧
    ((fun l c (s : State) => Live .strobePulseStart s ∧ s.dev.img.line = some l ∧ s.dev.img.cfg = some c ∧ l.sent = true ∧ l.pulsed = false ∧ s.dev.strobesLive = true ∧ l.startTick + c.strobeDelay / 250 ≤ s.dev.now ∧ s.dev.img.factor = 0) { line0 with sent := true } image0 (calm .build (late <| fun d => { d with mode := { d.mode with mode := .build }, slides := { d.slides with recoat := { d.slides.recoat with step := 2 } }, img := { d.img with cfg := some image0, line := some { line0 with sent := true }, factor := 0 } }))) ∧
    ((fun l c (s : State) => Live .strobePulseStart s ∧ s.dev.img.line = some l ∧ s.dev.img.cfg = some c ∧ l.sent = true ∧ l.pulsed = false ∧ s.dev.strobesLive = true ∧ l.startTick + c.strobeDelay / 250 ≤ s.dev.now ∧ 0 < s.dev.img.factor ∧ s.dev.img.factor ≤ 1 ∧ (∀ i ∈ bitsOf 8 (nth c.dirs l.dir).mask, (s.dev.led i).configured = true → (s.dev.led i).fault = false → (s.dev.led i).pulseNs (250 * l.startTick + c.strobeDelay) + (nth c.dirs l.dir).width ≤ c.dutyMax * 100000)) { line0 with sent := true } image1 (calm .build (late <| fun d => { d with mode := { d.mode with mode := .build }, slides := { d.slides with recoat := { d.slides.recoat with step := 2 } }, img := { d.img with cfg := some image1, line := some { line0 with sent := true }, factor := 1 / 2, leds := d.img.leds.map fun c => { c with configured := true, pulses := [] } } }))) ∧
    ((fun l c i (s : State) => Live .strobePulseStart s ∧ s.dev.img.line = some l ∧ s.dev.img.cfg = some c ∧ l.sent = true ∧ l.pulsed = false ∧ s.dev.strobesLive = true ∧ l.startTick + c.strobeDelay / 250 ≤ s.dev.now ∧ 0 < s.dev.img.factor ∧ s.dev.img.factor ≤ 1 ∧ i ∈ bitsOf 8 (nth c.dirs l.dir).mask ∧ (s.dev.led i).configured = true ∧ (s.dev.led i).fault = false ∧ c.dutyMax * 100000 < (s.dev.led i).pulseNs (250 * l.startTick + c.strobeDelay) + (nth c.dirs l.dir).width) { line0 with sent := true } image1 7 (calm .build (late <| fun d => { d with mode := { d.mode with mode := .build }, slides := { d.slides with recoat := { d.slides.recoat with step := 2 } }, img := { d.img with cfg := some image1, line := some { line0 with sent := true }, factor := 1 / 2, leds := d.img.leds.map fun c => { c with configured := true, pulses := [(0, 100000)] } } }))) ∧
    ((fun k u v b (s : State) => Live (.strobeSenseSample k u v b) s ∧ (s.dev.led k).test ≠ 1 ∧ s.dev.sampleDue k = true ∧ 8 ≤ k) 8 0 0 true (calm .ready (fun d => d.onImg fun m => { m with leds := upd m.leds 8 fun c => { c with configured := true, level := 32 } }))) ∧
    ((fun l c (s : State) => Live .lineDeadline s ∧ s.dev.img.line = some l ∧ s.dev.img.cfg = some c ∧ l.sent = true ∧ l.startTick * 250 + s.dev.lineMin c + 100000 ≤ s.dev.now * 250) { line0 with sent := true } image0 (calm .ready (late <| fun d => d.onImg fun m => { m with cfg := some image0, line := some { line0 with sent := true } }))) ∧
    ((fun k a (s : State) => Live (.lampTemperature k) s ∧ s.dev.img.lamp = some a ∧ (k < a.thermLo ∨ a.thermHi < k)) 4095 lamp0 (calm .ready (fun d => d.onImg fun m => { m with lamp := some lamp0 }))) ∧
    ((fun k a t (s : State) => Live (.lampTemperature k) s ∧ s.dev.img.lamp = some a ∧ a.thermLo ≤ k ∧ k ≤ a.thermHi ∧ lampTempAt a k = some t) 2048 { lamp0 with thermHi := 4095 } 2500 (calm .ready (fun d => d.onImg fun m => { m with lamp := some { lamp0 with thermHi := 4095 } }))) ∧
    ((fun (s : State) => Live .ledPatternTick s ∧ s.dev.img.baseTick + msT 1 ≤ s.dev.now) (calm .ready late)) ∧
    ((fun c g (s : State) => Live .recoatStart s ∧ s.dev.recoatDue = some c ∧ s.dev.slides.recoat.arg = some g) layer0.desc recoat0 (calm .build (fun d => { d with layers := { d.layers with queue := [layer0] }, slides := { d.slides with recoat := { d.slides.recoat with arg := some recoat0 } } }))) ∧
    ((fun a (s : State) => Live (.inPosition a) s ∧ s.dev.slides.recoat.step ≠ 0 ∧ s.dev.slides.recoat.suspended = false ∧ s.dev.slides.recoat.faulted = false ∧ s.dev.mode.mode = .build ∧ s.dev.slides.recoat.waiting = [a] ∧ s.dev.inPosition a = true) 0 (calm .build (fun d => { axisReady 0 (d.onAxis 0 fun x => { x with inPosSince := some 0, toTarget := true }) with slides := { (axisReady 0 (d.onAxis 0 fun x => { x with inPosSince := some 0, toTarget := true })).slides with recoat := { d.slides.recoat with step := 1, waiting := [0] } } }))) ∧
    ((fun (a : LampArg) (t : Int) (u : Int) => a.tDerate < a.tMax ∧ t ≤ u) lamp0 (-5) 5) := by
  and_intros <;> decide +kernel

theorem wit_LinkCommandsComplete :
    ((fun m p w h q a (s : State) x => Starts (.oarLink m p w h q a) s x ∧ s.dev.badPortMask p = false ∧ 1 ≤ w ∧ w ≤ 63 ∧ 2 ≤ h ∧ h ≤ 508 ∧ q < 8 ∧ a < 2) 4 1 63 508 7 1 (held (.oarLink 4 1 63 508 7 1) .ready) (issuer (.oarLink 4 1 63 508 7 1))) ∧
    ((fun m p c (s : State) x => Starts (.oarLinkstat m p c) s x ∧ s.dev.badPortMask p = false ∧ c ≤ 1) 4 (2 ^ 32) 1 (held (.oarLinkstat 4 (2 ^ 32) 1) .ready) (issuer (.oarLinkstat 4 (2 ^ 32) 1))) ∧
    ((fun m p (s : State) x => Starts (.oarRetrain m p) s x ∧ s.dev.badPortMask p = false ∧ p ≠ 0) 4 (2 ^ 32) (held (.oarRetrain 4 (2 ^ 32)) .ready) (issuer (.oarRetrain 4 (2 ^ 32)))) ∧
    ((fun m p k (s : State) x => Starts (.oarPower m p k) s x ∧ s.dev.badPortMask p = false ∧ 1 ≤ k ∧ k ≤ 3 ∧ (∀ n ∈ bitsOf 33 p, s.dev.maySleep n = true ∧ (s.dev.port n).sleepNow ≠ 4)) 4 1 3 (held (.oarPower 4 1 3) .ready (linked 0)) (issuer (.oarPower 4 1 3))) ∧
    ((fun m p h0 h1 v0 v1 n a d (s : State) x => Starts (.oarEyescan m p h0 h1 v0 v1 n a) s x ∧ p < 33 ∧ s.dev.portExists p = true ∧ -32 ≤ h0 ∧ h0 ≤ h1 ∧ h1 ≤ 31 ∧ -127 ≤ v0 ∧ v0 ≤ v1 ∧ v1 ≤ 127 ∧ 20 ≤ n ∧ n ≤ 34 ∧ s.dev.rangeOk a (4 * scanPoints h0 h1 v0 v1) = true ∧ (s.dev.port p).st = .trained ∧ s.dev.scanning p = false ∧ s.dev.request (.eyescan p) 4 100 0 = (.granted, d)) 4 0 (-32) 31 (-127) 127 34 0 ((((held (.oarEyescan 4 0 (-32) 31 (-127) 127 34 0) .ready (linked 0))).dev.request (.eyescan 0) 4 100 0).2) (held (.oarEyescan 4 0 (-32) 31 (-127) 127 34 0) .ready (linked 0)) (issuer (.oarEyescan 4 0 (-32) 31 (-127) 127 34 0))) ∧
    ((fun m p o a l bs (s : State) x => Starts (.oarSvc m p o a l bs) s x ∧ p < 33 ∧ s.dev.portExists p = true ∧ o ≤ 1 ∧ a % 4 = 0 ∧ l % 4 = 0 ∧ 1 ≤ l ∧ l ≤ 32 ∧ (o = 1 → 0x100 ≤ a ∧ s.dev.mode.mode = .ready) ∧ (s.dev.port p).svc.length < 4) 4 0 1 0x100 32 (List.replicate 32 0) (held (.oarSvc 4 0 1 0x100 32 (List.replicate 32 0)) .ready) (issuer (.oarSvc 4 0 1 0x100 32 (List.replicate 32 0)))) := ⟨by decide +kernel, by decide +kernel, (by decide +kernel), by decide +kernel, ⟨by decide +kernel, by decide +kernel, (by decide +kernel), by decide +kernel, by decide +kernel, (by decide +kernel), by decide +kernel, by decide +kernel, (by decide +kernel), by decide +kernel, by decide +kernel, (by decide +kernel), by decide +kernel, by decide +kernel, of_first (by decide +kernel)⟩, by decide +kernel⟩

theorem wit_LinkEventsComplete :
    ((fun p k (s : State) => Live (.sleepAckTimeout p) s ∧ (s.dev.port p).sleepReq = some k ∧ k ≠ 0 ∧ (s.dev.port p).sleep = 0 ∧ 16 ≤ (s.dev.port p).cmdFrames ∧ (s.dev.port p).acks = 0) 0 1 (calm .ready (fun d => (linked 0 d).onPort 0 fun p => { p with sleepReq := some 1, cmdFrames := 16 }))) ∧
    ((fun p (s : State) => Live (.fastExit p true) s ∧ (s.dev.port p).st = .trained ∧ (s.dev.port p).sleepReq = some 0 ∧ ((s.dev.port p).sleep = 2 ∨ (s.dev.port p).sleep = 3) ∧ 4 ≤ (s.dev.port p).burst) 0 (calm .ready (fun d => d.onPort 0 fun p => { p with st := .trained, sleepReq := some 0, sleep := 2, burst := 4 }))) ∧
    ((fun p (s : State) => Live (.fastExit p false) s ∧ (s.dev.port p).st = .trained ∧ (s.dev.port p).sleepReq = some 0 ∧ (s.dev.port p).sleep = 1 ∧ 2 ≤ (s.dev.port p).goodFrames) 0 (calm .ready (fun d => d.onPort 0 fun p => { p with st := .trained, sleepReq := some 0, sleep := 1, goodFrames := 2 }))) ∧
    ((fun d (s : State) => Live .eyeProbe s ∧ s.dev.mode.mode = .ready ∧ s.dev.links.probing = none ∧ s.dev.waitsLeave isEyeProbe = false ∧ s.dev.links.probeTick + sT 10 ≤ s.dev.now ∧ s.dev.links.probeNext ≠ none ∧ s.dev.askLeave .eyeProbe 4 100 = (.granted, d)) ((((calm .ready (late (linked 32)))).dev.askLeave .eyeProbe 4 100).2) (calm .ready (late (linked 32)))) ∧
    ((fun a v w h n (s : State) => Live (.eyeProbeComplete a v) s ∧ s.dev.links.probing = some n ∧ w = eyeWidth a ∧ h = eyeHeight v ∧ (s.dev.port n).eqWidth ≤ w ∧ (s.dev.port n).eqHeight ≤ h) (2 ^ 64 - 1) (2 ^ 255 - 1) 64 508 0 (calm .ready (fun d => { d with links := { d.links with probing := some 0 } }))) ∧
    ((fun p t r (s : State) => Live (.serviceTimeout p t) s ∧ (s.dev.port p).svc.find? (·.tag = t) = some r ∧ (r.due = false ∨ (s.dev.port p).silent = true) ∧ r.sentTick + usT 100 ≤ s.dev.now ∧ r.repeats < 3) 32 0 svc0 (calm .ready (late <| fun d => d.onPort 32 fun p => { p with svc := [svc0] }))) ∧
    ((fun p t r (s : State) => Live (.serviceTimeout p t) s ∧ (s.dev.port p).svc.find? (·.tag = t) = some r ∧ (r.due = false ∨ (s.dev.port p).silent = true) ∧ r.sentTick + usT 100 ≤ s.dev.now ∧ 3 ≤ r.repeats) 32 0 { svc0 with repeats := 3 } (calm .ready (late <| fun d => d.onPort 32 fun p => { p with svc := [{ svc0 with repeats := 3 }] }))) ∧
    ((fun p k r (s : State) => Live (.trainingPhaseEnd p r) s ∧ (s.dev.port p).st = .training k ∧ k < 2 ∧ r.ok = true ∧ s.dev.now ≤ (s.dev.port p).phaseTick + phaseLimit k) 0 1 report0 (calm .ready (fun d => d.onPort 0 fun p => { p with st := .training 1 }))) ∧
    ((fun p r (s : State) => Live (.trainingPhaseEnd p r) s ∧ (s.dev.port p).st = .training 2 ∧ r.ok = true ∧ s.dev.now ≤ (s.dev.port p).phaseTick + phaseLimit 2 ∧ 4 ≤ (s.dev.port p).goodFrames ∧ (s.dev.port p).setUsed = s.dev.therm.band) 0 report0 (calm .ready (fun d => d.onPort 0 fun p => { p with st := .training 2, goodFrames := 4, setUsed := d.therm.band }))) ∧
    ((fun p r t (s : State) => Live (.trainingPhaseEnd p r) s ∧ (s.dev.port p).st = .training 3 ∧ r.ok = true ∧ s.dev.now ≤ (s.dev.port p).phaseTick + phaseLimit 3 ∧ (s.dev.port p).pickPreset s.dev.now r.margins = some t) 0 { report0 with margins := [(0, 2 ^ 64 - 1, 2 ^ 255 - 1)] } (0, 64, 508) (calm .ready (late <| fun d => d.onPort 0 fun p => { p with st := .training 3, preset := 0, phaseTick := 2 ^ 40 - 2000 }))) ∧
    ((fun p r l (s : State) => Live (.trainingPhaseEnd p r) s ∧ (s.dev.port p).st = .training 4 ∧ r.ok = true ∧ s.dev.now ≤ (s.dev.port p).phaseTick + phaseLimit 4 ∧ (s.dev.port p).decl = 3 ∧ 256 ≤ (s.dev.port p).rtCount ∧ (s.dev.port p).declaredOk p = true ∧ l = linkDelay (s.dev.port p).rtSum (s.dev.port p).dAlign) 32 report0 2 (calm .ready (fun d => d.onPort 32 fun p => { p with st := .training 4, decl := 3, rtCount := 256, rtSum := 256 * 1001250, dAlign := 1000000, parkTime := 1, dHead := 0, caps := 1, camMax := 65536 }))) ∧
    ((fun p r (s : State) => Live (.trainingPhaseEnd p r) s ∧ (s.dev.port p).st = .training 5 ∧ r.ok = true ∧ s.dev.now ≤ (s.dev.port p).phaseTick + phaseLimit 5 ∧ (s.dev.port p).hstate = 3) 0 report0 (calm .ready (fun d => d.onPort 0 fun p => { p with st := .training 5, hstate := 3 }))) ∧
    ((fun p k (s : State) => Live (.trainingPhaseTimeout p) s ∧ (s.dev.port p).st = .training k ∧ (s.dev.port p).phaseTick + phaseLimit k ≤ s.dev.now) 0 5 (calm .ready (late <| fun d => d.onPort 0 fun p => { p with st := .training 5 }))) ∧
    ((fun p (s : State) => Live (.trainingRetry p) s ∧ (s.dev.port p).st = .retryWait ∧ (s.dev.port p).phaseTick + msT 1 ≤ s.dev.now) 32 (calm .ready (late <| fun d => d.onPort 32 fun p => { p with st := .retryWait }))) ∧
    ((fun (s : State) => Live (.lLinkMeasured 32) s ∧ (s.dev.port 32).st = .trained ∧ (s.dev.port 32).rtDue = true ∧ (s.dev.port 32).rtCount = 256) (calm .ready (fun d => d.onPort 32 fun p => { p with st := .trained, rtDue := true, rtCount := 256 }))) ∧
    ((fun p (s : State) => p < 32 ∧ Live (.lLinkMeasured p) s ∧ (s.dev.port p).st = .trained ∧ (s.dev.port p).rtDue = true ∧ (s.dev.port p).rtCount = 256) 31 (calm .ready (fun d => d.onPort 31 fun p => { p with st := .trained, rtDue := true, rtCount := 256 }))) ∧
    ((fun p (s : State) => Live (.linkLockLoss p) s ∧ (s.dev.port p).st = .trained ∧ ((s.dev.port p).sleep = 0 ∨ (s.dev.port p).sleep = 2)) 0 (calm .ready (linked 0))) ∧
    ((fun p (s : State) => Live (.relockComplete p) s ∧ (s.dev.port p).st = .relock ∧ s.dev.now < (s.dev.port p).lossTick + msT 1 ∧ 2 ≤ (s.dev.port p).goodFrames ∧ ((s.dev.port p).fclk = true ∨ (s.dev.port p).fallback = true)) 0 (calm .ready (fun d => d.onPort 0 fun p => { p with st := .relock, goodFrames := 2, fclk := true }))) ∧
    ((fun p (s : State) => Live (.relockComplete p) s ∧ (s.dev.port p).st = .relock ∧ s.dev.now < (s.dev.port p).lossTick + msT 1 ∧ 2 ≤ (s.dev.port p).goodFrames ∧ (s.dev.port p).fclk = false ∧ (s.dev.port p).fallback = false) 0 (calm .ready (fun d => d.onPort 0 fun p => { p with st := .relock, goodFrames := 2, fclk := false }))) ∧
    ((fun p (s : State) => Live (.relockTimeout p) s ∧ (s.dev.port p).st = .relock ∧ (s.dev.port p).lossTick + msT 1 ≤ s.dev.now) 0 (calm .ready (late <| fun d => d.onPort 0 fun p => { p with st := .relock }))) ∧
    ((fun p b (s : State) => Live (.forwardedClockLoss p b) s ∧ (s.dev.port p).st = .trained ∧ (s.dev.port p).fallback = false ∧ ((s.dev.port p).sleep = 0 ∨ (s.dev.port p).sleep = 2)) 0 true (calm .ready (linked 0))) := ⟨by decide +kernel, by decide +kernel, (by decide +kernel), ⟨by decide +kernel, by decide +kernel, (by decide +kernel), by decide +kernel, by decide +kernel, (by decide +kernel), of_first (by decide +kernel)⟩, by decide +kernel, by decide +kernel, (by decide +kernel), by decide +kernel, by decide +kernel, (by decide +kernel), by decide +kernel, by decide +kernel, (by decide +kernel), by decide +kernel, by decide +kernel, (by decide +kernel), by decide +kernel, by decide +kernel, (by decide +kernel)⟩

theorem wit_ReturnFramesComplete :
    ((fun p u bs (s : State) => Live (.returnFrame p u bs) s ∧ s.dev.portExists p = true ∧ (s.dev.port p).hearing = true) 0 0 (List.replicate 40 0) (calm .ready (linked 0))) ∧
    ((fun p u bs (s : State) => Live (.returnFrame p u bs) s ∧ s.dev.portExists p = true ∧ (s.dev.port p).hearing = false ∧ (s.dev.port p).locking = true) 0 0 (List.replicate 40 0) (calm .ready (fun d => d.onPort 0 fun p => { p with st := .training 1 }))) ∧
    ((fun p u bs (s : State) => Live (.returnFrame p u bs) s ∧ (s.dev.port p).hearing = false ∧ (s.dev.port p).locking = false) 32 0 (List.replicate 40 0) (calm .ready)) ∧
    ((fun v (s : State) => Live (.returnFrameMissed 32 v) s ∧ s.dev.portExists 32 = true ∧ (s.dev.port 32).st = .trained ∧ ((s.dev.port 32).sleep = 0 ∨ (s.dev.port 32).sleep = 2)) 7 (calm .ready (linked 32))) ∧
    ((fun p v (s : State) => p < 32 ∧ Live (.returnFrameMissed p v) s ∧ s.dev.portExists p = true ∧ (s.dev.port p).st = .trained ∧ ((s.dev.port p).sleep = 0 ∨ (s.dev.port p).sleep = 2)) 31 (2 ^ 58 - 1) (calm .ready (fun d => (linked 31 d).onPort 31 fun p => { p with missed := 3 }))) ∧
    ((fun p k v (s : State) => Live (.returnFrameMissed p v) s ∧ s.dev.portExists p = true ∧ (s.dev.port p).st = .training k ∧ 1 ≤ k) 0 1 7 (calm .ready (fun d => d.onPort 0 fun p => { p with st := .training 1 }))) := by
  and_intros <;> decide +kernel

theorem wit_LoopCommandsComplete :
    ((fun m ds (s : State) x => Starts (.loopConfig m ds) s x ∧ (∀ c ∈ ds, SlotDesc.ok c = true)) 4 [slot0] (held (.loopConfig 4 [slot0]) .ready) (issuer (.loopConfig 4 [slot0]))) ∧
    ((fun m ds c (s : State) x => Starts (.loopConfig m ds) s x ∧ ds.find? (fun c => ! SlotDesc.ok c) = some c) 4 [slot0, { slot0 with slot := 160 }] { slot0 with slot := 160 } (held (.loopConfig 4 [slot0, { slot0 with slot := 160 }]) .ready) (issuer (.loopConfig 4 [slot0, { slot0 with slot := 160 }]))) ∧
    ((fun m f n a c (s : State) x => Starts (.loopGains m f n a c) s x ∧ 1 ≤ n ∧ f + n ≤ 128 ∧ a + 512 * n ≤ s.dev.mc.hostLimit ∧ (∀ i < n, s.dev.tableBusy (f + i) = false) ∧ s.dram.marked a (512 * n) = [] ∧ crc32c (memBytes s.dram.mem a (512 * n)) = c ∧ (∀ i < n, (gainTable (entryAt (memBytes s.dram.mem a (512 * n)) 512 i)).ok = true)) 4 127 1 0 2788289774 ({ held (.loopGains 4 127 1 0 2788289774) .ready with dram := { mem := gainCells, poison := [], injected := [] } } : State) (issuer (.loopGains 4 127 1 0 2788289774))) ∧
    ((fun m (s : State) x => Starts (.loopCommit m) s x ∧ s.dev.layers.released = none ∧ s.dev.loops.commitOk = true ∧ s.dev.writersOk = true ∧ (∀ w ∈ allLoads (s.dev.loops.committed.map fun c => (c.slot, c.rate)), w.2.2 ≤ 240)) 4 (held (.loopCommit 4) .ready) (issuer (.loopCommit 4))) ∧
    ((fun m k st v (s : State) x => Starts (.loopMode m k st v) s x ∧ st ≤ 2 ∧ s.dev.mode.mode = .ready ∧ (∀ n ∈ bitsOf 160 k, (s.dev.slot n).desc ≠ none) ∧ ((bitsOf 160 k).foldl (fun d n => d.slotMode n st v) s.dev).loops.clashes = false) 4 (2 ^ 159) 2 none (held (.loopMode 4 (2 ^ 159) 2 none) .ready (fun d => d.onSlot 159 fun x => { x with desc := some slot0 })) (issuer (.loopMode 4 (2 ^ 159) 2 none))) ∧
    ((fun m n v c (s : State) x => Starts (.loopSetpoint m n v) s x ∧ n < 160 ∧ (s.dev.slot n).desc = some c ∧ c.spSrc = 1 ∧ s.dev.loops.writer 5 n = none) 4 159 0 { slot0 with spSrc := 1 } (held (.loopSetpoint 4 159 0) .ready (fun d => d.onSlot 159 fun x => { x with desc := some { slot0 with spSrc := 1 } })) (issuer (.loopSetpoint 4 159 0))) ∧
    ((fun m e i n (s : State) x => Starts (.loopGear m e i n) s x ∧ e < 8 ∧ 1 ≤ n ∧ n ≤ 65535) 4 7 0 65535 (held (.loopGear 4 7 0 65535) .ready) (issuer (.loopGear 4 7 0 65535))) ∧
    ((fun m a p (s : State) x => Starts (.loopIo m a p) s x ∧ (∀ f ∈ p, 1 ≤ f ∧ f ≤ 20000)) 4 (List.replicate 8 (0, 0)) (List.replicate 8 20000) (held (.loopIo 4 (List.replicate 8 (0, 0)) (List.replicate 8 20000)) .ready) (issuer (.loopIo 4 (List.replicate 8 (0, 0)) (List.replicate 8 20000)))) ∧
    ((fun m k (s : State) x => Starts (.loopStatus m k) s x) 4 (2 ^ 159) (held (.loopStatus 4 (2 ^ 159)) .ready) (issuer (.loopStatus 4 (2 ^ 159)))) ∧
    ((fun m ks n a d (s : State) x => Starts (.loopTrace m ks n a) s x ∧ ks ≠ [] ∧ 1 ≤ n ∧ n ≤ 1048576 ∧ ks.Nodup ∧ (∀ k ∈ ks, k < 160 ∧ (s.dev.slot k).desc ≠ none) ∧ s.dev.rangeOk a (20 * ks.length * n) = true ∧ s.dev.loops.traces = [] ∧ s.dev.request .trace 5 100 0 = (.granted, d)) 4 [159] 1 0 ((((held (.loopTrace 4 [159] 1 0) .ready (fun d => d.onSlot 159 fun x => { x with desc := some slot0 }))).dev.request .trace 5 100 0).2) (held (.loopTrace 4 [159] 1 0) .ready (fun d => d.onSlot 159 fun x => { x with desc := some slot0 })) (issuer (.loopTrace 4 [159] 1 0))) ∧
    ((fun m (s : State) x => Starts (.loopRestore m) s x ∧ (∀ p < 8, nth s.dev.loops.inService p = true)) 4 (held (.loopRestore 4) .ready (fun d => d.onLoops fun l => { l with inService := List.replicate 8 true })) (issuer (.loopRestore 4))) ∧
    ((fun m p (s : State) x => Starts (.loopRestore m) s x ∧ p < 8 ∧ nth s.dev.loops.inService p = false ∧ (∀ q < 8, q ≠ p → nth s.dev.loops.inService q = true) ∧ s.dev.blockLive 1 p = true) 4 7 (held (.loopRestore 4) .ready (fun d => d.onLoops fun l => { l with inService := [true, true, true, true, true, true, true, false] })) (issuer (.loopRestore 4))) := ⟨by decide +kernel, by decide +kernel, ⟨by decide +kernel, by decide +kernel, (by decide +kernel), by decide +kernel, by decide +kernel, (by decide +kernel), crc_of _ _ _ _ (by decide +kernel) (by decide +kernel) (by decide +kernel), by decide +kernel⟩, ⟨by decide +kernel, rfl, by decide +kernel, by decide +kernel, by rw [show (held (.loopCommit 4) .ready).dev.loops.committed = [] by decide +kernel]; exact allLoads_nil⟩, by decide +kernel, by decide +kernel, (by decide +kernel), by decide +kernel, by decide +kernel, ⟨by decide +kernel, by decide +kernel, (by decide +kernel), by decide +kernel, by decide +kernel, (by decide +kernel), by decide +kernel, by decide +kernel, of_first (by decide +kernel)⟩, by decide +kernel, by decide +kernel⟩

theorem wit_LoopEventsComplete :
    ((fun p (s : State) => Live (.loopSelfTest p 0) s) 7 (calm .ready)) ∧
    ((fun p v (s : State) => Live (.loopSelfTest p v) s ∧ v ∈ [3, 4, 5]) 7 4 (calm .ready)) ∧
    ((fun (s : State) => Live .loopMigration s ∧ s.dev.loops.failing ≠ none ∧ (∃ q < 8, nth s.dev.loops.inService q = true)) (calm .ready (fun d => d.onLoops fun l => { l with failing := some (0, 0), inService := [false, true, true, true, true, true, true, true] }))) ∧
    ((fun n (s : State) => Live (.loopSlotOverrun n) s ∧ s.dev.slotDue n = true ∧ n < 128 ∧ n < s.dev.loops.slots.length) 0 (calm .ready (fun d => d.onSlot 0 fun x => { x with desc := some slot0, st := .auto }))) ∧
    ((fun n (s : State) => Live (.loopSlotOverrun n) s ∧ s.dev.slotDue n = true ∧ 128 ≤ n ∧ n < 160) 159 (calm .ready (fun d => (d.onSlot 159 fun x => { x with desc := some slot0, st := .auto }).onTime fun t => { t with tick := slotPhase 159 % 4 }))) ∧
    ((fun n a b c (s : State) => Live (.loopSlotExecute n a b) s ∧ n < 96 ∧ (s.dev.slot n).desc = some c ∧ s.dev.slotTurn n = true ∧ (s.dev.slot n).st ≠ .off) 0 0 0 slot0 (calm .ready (fun d => d.onSlot 0 fun x => { x with desc := some slot0, st := .auto }))) ∧
    ((fun n a b c (s : State) => Live (.loopSlotExecute n a b) s ∧ 96 ≤ n ∧ n < 128 ∧ s.dev.oarExists (n - 96) = true ∧ (s.dev.slot n).desc = some c ∧ s.dev.slotTurn n = true ∧ (s.dev.slot n).st ≠ .off ∧ s.dev.now % 4 = n % 4 ∧ s.dev.recd.take < 2) 96 0 0 slot0 (calm .ready (fun d => d.onSlot 96 fun x => { x with desc := some slot0, st := .auto }))) ∧
    ((fun n a b c (s : State) => Live (.loopSlotExecute n a b) s ∧ 128 ≤ n ∧ n < 160 ∧ (s.dev.slot n).desc = some c ∧ s.dev.slotTurn n = true ∧ (s.dev.slot n).st ≠ .off) 159 0 4095 slot0 (calm .ready (fun d => (d.onSlot 159 fun x => { x with desc := some slot0, st := .auto }).onTime fun t => { t with tick := slotPhase 159 % 4 }))) := by
  and_intros <;> decide +kernel

theorem wit_LoopLawStaysInLimits :
    ((fun (t : LoopSlot) (c : SlotDesc) (x : LawIn) => x.uMin ≤ x.uMax ∧ c.iMin ≤ c.iMax ∧ (c.slew = 0 ∨ x.uMin ≤ t.uPrev ∧ t.uPrev ≤ x.uMax)) default { slot0 with slew := 3 } ⟨0, 0, 0, -5, 5, ⟨[]⟩, false⟩) := by decide +kernel

theorem wit_PresetIsBumpless :
    (fun (t : LoopSlot) (c : SlotDesc) (x : LawIn) => t.preset = true ∧ x.uMin ≤ t.uPrev ∧ t.uPrev ≤ x.uMax ∧ c.iMin * 65536 ≤ t.uPrev * 65536 - x.ff - (t.law c x).2.p - (t.law c x).2.d ∧ t.uPrev * 65536 - x.ff - (t.law c x).2.p - (t.law c x).2.d ≤ c.iMax * 65536) { (default : LoopSlot) with preset := true } slot0 ⟨0, 0, 0, -5, 5, ⟨[]⟩, false⟩ := by decide +kernel

theorem wit_CameraAndRecorderComplete :
    ((fun k (s : State) => Live (.cameraExposureStart k) s ∧ s.dev.camRuns k = true ∧ s.dev.now % max 1 (nth s.dev.melt k).cam.period = 0 ∧ (∀ e ∈ (nth s.dev.melt k).starts, e.1 ≠ s.dev.now) ∧ (s.dev.recd.take = 0 ∨ s.dev.recd.take ≠ 3 ∧ s.dev.fullNow k = false)) 0 (calm .ready (fun d => (linked 0 d).onMelt 0 fun m => { m with cam := camera0 }))) ∧
    ((fun k (s : State) => Live (.cameraExposureStart k) s ∧ s.dev.camRuns k = true ∧ s.dev.now % max 1 (nth s.dev.melt k).cam.period = 0 ∧ (∀ e ∈ (nth s.dev.melt k).starts, e.1 ≠ s.dev.now) ∧ (s.dev.recd.take = 3 ∨ 1 ≤ s.dev.recd.take ∧ s.dev.fullNow k = true) ∧ ((nth s.dev.melt k).grant ≠ none ∨ (nth s.dev.melt k).waiting = true)) 0 (calm .ready (fun d => ((linked 0 d).onMelt 0 fun m => { m with cam := camera0, grant := some 0 }).onRec fun r => { r with take := 3 }))) ∧
    ((fun k d (s : State) => Live (.cameraExposureStart k) s ∧ s.dev.camRuns k = true ∧ s.dev.now % max 1 (nth s.dev.melt k).cam.period = 0 ∧ (∀ e ∈ (nth s.dev.melt k).starts, e.1 ≠ s.dev.now) ∧ (s.dev.recd.take = 3 ∨ 1 ≤ s.dev.recd.take ∧ s.dev.fullNow k = true) ∧ (nth s.dev.melt k).grant = none ∧ (nth s.dev.melt k).waiting = false ∧ (nth s.dev.recd.rings 2).configured = true ∧ (s.dev.onMelt k fun m => { m with starts := m.starts ++ [(s.dev.now, s.dev.recd.take, m.cam)], lastDue := s.dev.now }).request (.stream k) 5 200 0 = (.granted, d)) 0 ((((calm .ready (fun d => ((linked 0 d).onMelt 0 fun m => { m with cam := camera0 }).onRec fun r => { r with take := 3, rings := r.rings.set 2 { Ring.reset with configured := true } })).dev.onMelt 0 fun m => { m with starts := m.starts ++ [((calm .ready (fun d => ((linked 0 d).onMelt 0 fun m => { m with cam := camera0 }).onRec fun r => { r with take := 3, rings := r.rings.set 2 { Ring.reset with configured := true } })).dev.now, 3, m.cam)], lastDue := (calm .ready (fun d => ((linked 0 d).onMelt 0 fun m => { m with cam := camera0 }).onRec fun r => { r with take := 3, rings := r.rings.set 2 { Ring.reset with configured := true } })).dev.now }).request (.stream 0) 5 200 0).2) (calm .ready (fun d => ((linked 0 d).onMelt 0 fun m => { m with cam := camera0 }).onRec fun r => { r with take := 3, rings := r.rings.set 2 { Ring.reset with configured := true } }))) ∧
    ((fun k (s : State) => Live (.cameraExposureStart k) s ∧ s.dev.now % max 1 (nth s.dev.melt k).cam.period ≠ 0) 0 (calm .ready (fun d => (d.onMelt 0 fun m => { m with cam := camera0 }).onTime fun t => { t with tick := 1 }))) ∧
    ((fun k r (s : State) => Live (.cameraFeaturesReady k) s ∧ (nth s.dev.melt k).rx = some r ∧ r.eof = true) 31 { (default : CamRx) with eof := true } (calm .ready (fun d => d.onMelt 31 fun m => { m with rx := some { (default : CamRx) with eof := true } }))) ∧
    ((fun k r (s : State) => Live (.cameraFrameDeadline k) s ∧ (nth s.dev.melt k).rx = some r ∧ r.eof = false ∧ r.startTick + 2 * (nth s.dev.melt k).rxCam.period ≤ s.dev.now) 31 default (calm .ready (late <| fun d => d.onMelt 31 fun m => { m with rx := some default }))) ∧
    ((fun k t n c q (s : State) => Live (.cameraFrameDeadline k) s ∧ (nth s.dev.melt k).rx = none ∧ (nth s.dev.melt k).starts = (t, n, c) :: q ∧ t + 2 * c.period ≤ s.dev.now) 31 0 0 camera0 [] (calm .ready (late <| fun d => d.onMelt 31 fun m => { m with starts := [(0, 0, camera0)] }))) ∧
    ((fun k (s : State) => Live (.frameStreamRelease k) s ∧ ((nth s.dev.melt k).grant ≠ none ∨ (nth s.dev.melt k).waiting = true) ∧ (nth s.dev.melt k).lastDue + msT 1 ≤ s.dev.now) 31 (calm .ready (late <| fun d => d.onMelt 31 fun m => { m with waiting := true }))) ∧
    ((fun m r b z md cb l (s : State) x => Starts (.recRing m r b z md cb l) s x ∧ r < 3 ∧ b % 65536 = 0 ∧ z % 65536 = 0 ∧ (ringSizes r).1 ≤ z ∧ z ≤ (ringSizes r).2 ∧ md ≤ 1 ∧ s.dev.rangeOk b z = true ∧ s.dev.rangeOk cb 64 = true ∧ overlap b z cb 64 = false ∧ (∀ p ∈ s.dev.recd.ranges r, overlap p.1 p.2 b z = false ∧ overlap p.1 p.2 cb 64 = false)) 4 2 0 (2 ^ 24) 1 (2 ^ 30) 0 (held (.recRing 4 2 0 (2 ^ 24) 1 (2 ^ 30) 0) .ready) (issuer (.recRing 4 2 0 (2 ^ 24) 1 (2 ^ 30) 0))) ∧
    ((fun m t n g (s : State) x => Starts (.recTake m t n g) s x ∧ t ≤ 3 ∧ 1 ≤ n ∧ n ≤ 1000 ∧ g ≤ 1 ∧ (∀ r < t, (nth s.dev.recd.rings r).configured = true)) 4 1 1000 1 (held (.recTake 4 1 1000 1) .ready aRing) (issuer (.recTake 4 1 1000 1))) ∧
    ((fun m r t (s : State) x => Starts (.recConsume m r t) s x ∧ r < 3 ∧ (nth s.dev.recd.rings r).configured = true ∧ (nth s.dev.recd.rings r).consumed ≤ t ∧ t ≤ (nth s.dev.recd.rings r).written) 4 0 0 (held (.recConsume 4 0 0) .ready aRing) (issuer (.recConsume 4 0 0))) ∧
    ((fun m r t (s : State) x => Starts (.recConsume m r t) s x ∧ (3 ≤ r ∨ (nth s.dev.recd.rings r).configured = false ∨ t < (nth s.dev.recd.rings r).consumed ∨ (nth s.dev.recd.rings r).written < t)) 4 3 0 (held (.recConsume 4 3 0) .ready) (issuer (.recConsume 4 3 0))) ∧
    ((fun m (s : State) x => Starts (.recStatus m) s x) 4 (held (.recStatus 4) .ready) (issuer (.recStatus 4))) ∧
    ((fun m v (s : State) x => Starts (.recMark m v) s x) 4 0xFFFFFFFF (held (.recMark 4 0xFFFFFFFF) .ready) (issuer (.recMark 4 0xFFFFFFFF))) ∧
    ((fun r t (s : State) => Live (.controlBlockUpdate r) s ∧ (nth s.dev.recd.rings r).configured = true ∧ (nth s.dev.recd.rings r).dirtyTick = some t) 0 0 (calm .ready (fun d => (aRing d).onRec fun r => { r with rings := upd r.rings 0 fun g => { g with dirtyTick := some 0 } }))) ∧
    ((fun r (s : State) => Live (.controlBlockUpdate r) s ∧ (nth s.dev.recd.rings r).dirtyTick = none) 2 (calm .ready)) := by
  and_intros <;> decide +kernel

theorem wit_ClockCommandsComplete :
    ((fun m c n (s : State) x => Starts (.sysClockplan m c n) s x ∧ (n = 2 ∨ n = 4 ∨ n = 8) ∧ (c = 1500 ∨ c = 1600)) 4 1500 8 (held (.sysClockplan 4 1500 8) .ready) (issuer (.sysClockplan 4 1500 8))) ∧
    ((fun m c n (s : State) x => Starts (.sysClockplan m c n) s x ∧ n ≠ 2 ∧ n ≠ 4 ∧ n ≠ 8) 4 1500 3 (held (.sysClockplan 4 1500 3) .ready) (issuer (.sysClockplan 4 1500 3))) ∧
    ((fun m k (s : State) x => Starts (.sysClocksrc m k) s x ∧ s.dev.selectable k = true) 4 2 (held (.sysClocksrc 4 2) .ready) (issuer (.sysClocksrc 4 2))) ∧
    ((fun m (s : State) x => Starts (.sysClockstat m) s x) 4 (held (.sysClockstat 4) .ready) (issuer (.sysClockstat 4))) ∧
    ((fun m c n f (s : State) x => Starts (.sysClockraw m c n f) s x ∧ 400 ≤ c ∧ c ≤ 1600 ∧ 1 ≤ n ∧ n ≤ 16 ∧ 100 ≤ f ∧ f ≤ 400) 4 400 16 400 (held (.sysClockraw 4 400 16 400) .ready) (issuer (.sysClockraw 4 400 16 400))) ∧
    ((fun m c i (s : State) x => Starts (.sysBlockreset m c i) s x ∧ s.dev.blockNamed c i = true ∧ s.dev.blockIdle c i = true ∧ s.dev.clockGood c = true) 4 4 0 (held (.sysBlockreset 4 4 0) .ready locked) (issuer (.sysBlockreset 4 4 0))) ∧
    ((fun m c i (s : State) x => Starts (.sysBlockreset m c i) s x ∧ s.dev.blockNamed c i = true ∧ s.dev.blockIdle c i = true ∧ s.dev.clockGood c = false) 4 4 0 (held (.sysBlockreset 4 4 0) .ready) (issuer (.sysBlockreset 4 4 0))) ∧
    ((fun m c i (s : State) x => Starts (.sysBlockreset m c i) s x ∧ s.dev.blockNamed c i = true ∧ s.dev.blockIdle c i = false) 4 5 7 (held (.sysBlockreset 4 5 7) .ready (fun d => d.onDma 7 fun q => { q with running := true })) (issuer (.sysBlockreset 4 5 7))) := by
  and_intros <;> decide +kernel

theorem wit_ClockEventsComplete :
    ((fun (s : State) => Live (.pllFailure 0) s ∧ s.dev.clk.fabric.dead = false ∧ s.dev.clk.fabric.standby = true) (calm .ready (fun d => d.onClk fun c => { c with fabric := ⟨0, true, 0, 0, none, false⟩ }))) ∧
    ((fun (s : State) => Live (.pllFailure 1) s ∧ s.dev.clk.exposure.dead = false ∧ s.dev.clk.exposure.standby = true) (calm .ready (fun d => d.onClk fun c => { c with exposure := ⟨0, true, 0, 0, none, false⟩ }))) ∧
    ((fun (s : State) => Live (.pllFailure 0) s ∧ s.dev.clk.fabric.dead = false ∧ s.dev.clk.fabric.standby = false) (calm .ready (fun d => d.onClk fun c => { c with fabric := ⟨0, false, 0, 0, none, false⟩ }))) ∧
    ((fun (s : State) => Live (.pllFailure 1) s ∧ s.dev.clk.exposure.dead = false ∧ s.dev.clk.exposure.standby = false) (calm .ready (fun d => d.onClk fun c => { c with exposure := ⟨0, false, 0, 0, none, false⟩ }))) ∧
    ((fun i t (s : State) => Live (.pllRestart i) s ∧ (s.dev.clk.pair i).restartTick = some t ∧ t + sT 60 ≤ s.dev.now ∧ s.dev.coxRuns = true) 1 0 (calm .ready (late <| fun d => locked (d.onClk fun c => { c with exposure := ⟨0, false, 0, 0, some 0, false⟩ })))) ∧
    ((fun i t (s : State) => Live (.pllStandbyReady i) s ∧ (s.dev.clk.pair i).restartTick = some t ∧ (s.dev.clk.pair i).failTick < t ∧ t + sT 1 ≤ s.dev.now ∧ (s.dev.clk.pair i).dead = false) 1 1 (calm .ready (late <| fun d => d.onClk fun c => { c with exposure := ⟨0, false, 0, 0, some 1, false⟩ }))) ∧
    ((fun (s : State) => Live (.pllLockLoss 0) s) (calm .ready)) ∧
    ((fun (s : State) => Live (.pllLockLoss 3) s) (calm .ready)) ∧
    ((fun (s : State) => Live (.pllLockLoss 4) s) (calm .ready)) ∧
    ((fun (s : State) => Live (.pllLockLoss 5) s) (calm .ready)) ∧
    ((fun (s : State) => Live (.pllLockLoss 6) s) (calm .ready)) ∧
    ((fun i (s : State) => Live (.pllLockLoss i) s ∧ i ∉ [0, 3, 4, 5, 6]) 2 (calm .ready)) ∧
    ((fun k (s : State) => s.dev.awake = true ∧ s.dev.clk.sel = k ∧ k < 2 ∧ s.dev.clk.lost = none ∧ nth s.dev.clk.qualified k = true ∧ nth s.dev.clk.qualified 2 = true) 0 (calm .ready)) ∧
    ((fun b k (s : State) => s.dev.awake = true ∧ s.dev.clk.sel ≠ k ∧ nth s.dev.clk.qualified k = true) true 2 (calm .ready)) ∧
    ((fun k (s : State) => Live (.referenceQualified k) s ∧ nth s.dev.clk.qualified k = false ∧ k ≠ 1 ∧ s.dev.clk.lost ≠ some k ∧ nth s.dev.clk.lossTick k + msT 10 ≤ s.dev.now) 2 (calm .ready (late <| fun d => d.onClk fun c => { c with qualified := [true, true, false] }))) ∧
    ((fun e (s : State) => s.dev.awake = true ∧ s.dev.trimReference ≠ 3 ∧ (∀ t, s.dev.clk.trimTick = some t → t + sT 1 ≤ s.dev.now)) (-5) (calm .ready late)) ∧
    ((fun b o t (s : State) => Live .muxHandshakeBypass s ∧ s.dev.clk.mux = some (b, o, t) ∧ s.dev.now ≤ t + muxTicks) true 1600 0 (calm .ready (fun d => d.onClk fun c => { c with mux := some (true, 1600, 0) }))) ∧
    ((fun o t (s : State) => Live .muxSwitchAbandon s ∧ s.dev.clk.mux = some (true, o, t) ∧ s.dev.now ≤ t + muxTicks) 1600 0 (calm .ready (fun d => d.onClk fun c => { c with mux := some (true, 1600, 0) }))) ∧
    ((fun b (s : State) => s.dev.awake = true) 5 (calm .ready)) := by
  and_intros <;> decide +kernel

theorem wit_SupplyAndThermalEventsComplete :
    ((fun c (s : State) => s.dev.awake = true ∧ -5500 ≤ c ∧ c < 12500) (-5500) (calm .ready)) ∧
    ((fun c (s : State) => s.dev.awake = true ∧ 12500 ≤ c ∧ c ≤ 15000) 15000 (calm .ready)) ∧
    ((fun (s : State) => s.dev.awake = true) (calm .ready)) ∧
    ((fun t (s : State) => Live .avsStepDownHold s ∧ s.dev.therm.fallSince = some t ∧ t + sT 1 ≤ s.dev.now) 0 (calm .ready (late <| fun d => d.onTherm fun t => { t with fallSince := some 0 }))) ∧
    ((fun v i (s : State) => s.dev.awake = true ∧ s.dev.therm.avsTick + usT 100 ≤ s.dev.now ∧ s.dev.therm.avsFault = false ∧ towards s.dev.therm.setUv s.dev.therm.targetUv ≤ v + 15000) 1000000 (some 1000) (calm .ready late)) ∧
    ((fun (s : State) => Live .coreUndervoltage s) (calm .ready)) ∧
    ((fun t (s : State) => Live .coreVoltageRecovered s ∧ s.dev.therm.uvSince = some t ∧ t + msT 10 ≤ s.dev.now) 0 (calm .ready (late <| fun d => d.onTherm fun t => { t with uvSince := some 0 }))) ∧
    ((fun r v (s : State) => Live (.railOutOfWindow r v) s ∧ nth s.dev.pins.railBad r = false ∧ railOff r v = true) 0 0 (calm .ready)) ∧
    ((fun r v (s : State) => Live (.railOutOfWindow r v) s ∧ nth s.dev.pins.railBad r = true ∧ railOff r v = true) 0 0 (calm .ready (fun d => { d with pins := { d.pins with railBad := d.pins.railBad.set 0 true } }))) ∧
    ((fun r (s : State) => Live (.railRecovered r) s ∧ nth s.dev.pins.railTick r + msT 10 ≤ s.dev.now) 0 (calm .ready late)) ∧
    ((fun p (s : State) => Live (.ethPortChange p true) s ∧ (nth s.dev.time.eth p).up = false) 1 (calm .ready)) ∧
    ((fun (s : State) => Live (.ethPortChange 1 false) s ∧ (nth s.dev.time.eth 1).up = true) (calm .ready (fun d => d.onEth 1 fun e => { e with up := true }))) ∧
    ((fun (s : State) => Live (.ethPortChange 0 false) s ∧ (nth s.dev.time.eth 0).up = true ∧ s.dev.clk.sel ≠ 1) (calm .ready (fun d => (d.onEth 0 fun e => { e with up := true }).onClk fun c => { c with sel := 0 }))) ∧
    ((fun c i (s : State) => s.dev.awake = true ∧ s.dev.mode.mode = .hold ∧ s.dev.mode.holdCauses.findSome? HoldCause.blockOf = some (c, i) ∧ (∀ r ∈ s.dev.ump.recoveries, s.dev.now < r.2.2 + sT 3600 → ¬ (r.1 = c ∧ r.2.1 = i)) ∧ s.dev.coxRuns = true ∧ (c = 8 ∨ s.dev.clockGood c = true) ∧ (c = 1 ∨ s.dev.blockIdle c i = true) ∧ s.dev.now ≤ s.dev.mode.holdTick + msT 50) 7 0 (calm .hold (fun d => locked { d with mode := { d.mode with holdCauses := [.rail, .block 7 0] } }))) ∧
    ((fun c i (s : State) => s.dev.awake = true ∧ s.dev.coxRuns = true ∧ s.dev.mode.mode = .hold ∧ s.dev.mode.holdCauses.findSome? HoldCause.blockOf = some (c, i) ∧ ((∃ r ∈ s.dev.ump.recoveries, s.dev.now < r.2.2 + sT 3600 ∧ r.1 = c ∧ r.2.1 = i) ∨ c ≠ 8 ∧ s.dev.clockGood c = false ∨ s.dev.mode.holdTick + msT 50 < s.dev.now)) 7 0 (calm .hold (fun d => locked { d with mode := { d.mode with holdCauses := [.rail, .block 7 0] }, ump := { d.ump with recoveries := [(7, 0, 0)] } }))) ∧
    ((fun c i (s : State) => s.dev.awake = true ∧ s.dev.coxRuns = true ∧ s.dev.mode.mode = .hold ∧ s.dev.mode.holdCauses.findSome? HoldCause.blockOf = some (c, i)) 8 0 (calm .hold (fun d => { d with mode := { d.mode with holdCauses := [.block 8 0] } }))) ∧
    ((fun c (s : State) => s.dev.awake = true ∧ (c = 4 ∨ c = 7 ∨ c = 8)) 8 (calm .ready)) ∧
    ((fun e (s : State) => s.dev.awake = true) 0 (calm .ready)) ∧
    ((fun k (s : State) => s.dev.awake = true ∧ k < 32) 31 (calm .ready)) ∧
    ((fun b u (s : State) => s.dev.awake = true ∧ b < 2 ^ 31 ∧ u < 2 ∧ 64 * b < s.dev.mc.capacity) 0 1 (calm .ready (fun d => { d with mc := { d.mc with chans := [{ DramChan.reset with roles := [0] }] } }))) ∧
    ((fun b (s : State) => s.dev.awake = true ∧ b < 2 ^ 33) 0 (calm .ready)) ∧
    ((fun (s : State) => s.dev.awake = true) (calm .ready)) ∧
    ((fun c (s : State) => s.dev.awake = true ∧ c ∉ [4, 7, 8, 0x0D] ∧ ¬ (0x100 ≤ c ∧ c < 0x120) ∧ c < 2 ^ 32) 0 (calm .ready)) := by
  and_intros <;> decide +kernel

theorem wit_ResetEventsComplete :
    ((fun r (s : State) => (2 ≤ s.dev.mode.mode.code ∨ r ≠ .rstn ∧ r ≠ .porn) ∧ s.dev.boot.fusePulse = [] ∧ s.dev.boot.resetActive = none) ResetSource.rstn (calm .ready)) ∧
    ((fun r (s : State) => (2 ≤ s.dev.mode.mode.code ∨ r ≠ .rstn ∧ r ≠ .porn) ∧ s.dev.boot.fusePulse ≠ [] ∧ s.dev.ump.thermalDown = false ∧ s.dev.boot.delayedReset = none) ResetSource.porn (calm .ready (fun d => d.onBoot fun b => { b with fusePulse := [(0, 0)] }))) ∧
    ((fun (s : State) => s.dev.mode.mode.code < 2 ∧ s.dev.boot.fusePulse = [] ∧ s.dev.boot.resetActive = none) (calm .off)) ∧
    ((fun (s : State) => s.dev.mode.mode.code < 2) (calm .off)) ∧
    ((fun l (s : State) => s.dev.boot.resetActive = some l ∧ (l = .full → true ∉ s.dev.pins.railBad)) Level.soft (calm .ready (fun d => d.onBoot fun b => { b with resetActive := some .soft }))) ∧
    ((fun (s : State) => s.dev.boot.resetActive = some .full ∧ true ∈ s.dev.pins.railBad) (calm .ready (fun d => { d.onBoot fun b => { b with resetActive := some .full } with pins := { d.pins with railBad := d.pins.railBad.set 0 true } }))) ∧
    ((fun (s : State) => 2 ≤ s.dev.mode.mode.code) (calm .ready)) ∧
    ((fun (s : State) => s.dev.mode.mode = .off) (calm .off)) ∧
    ((fun (s : State) => s.dev.mode.mode = .keep) (calm .keep)) ∧
    ((fun (s : State) => s.dev.mode.mode ≠ .off) (calm .ready)) ∧
    ((fun (s : State) => s.dev.mode.mode = .standby ∧ s.dev.mode.wakeArmed.testBit 1 = true ∧ s.dev.boot.resetActive = none) (calm .standby (fun d => { d with mode := { d.mode with wakeArmed := 2 } }))) ∧
    ((fun (s : State) => (s.dev.mode.mode ≠ .standby ∨ s.dev.mode.wakeArmed.testBit 1 = false)) (calm .ready)) ∧
    ((fun (s : State) => s.dev.mode.mode = .standby ∧ s.dev.mode.wakeArmed.testBit 0 = true ∧ s.dev.boot.resetActive = none) (calm .standby (fun d => { d with mode := { d.mode with wakeArmed := 1 } }))) ∧
    ((fun (s : State) => (s.dev.mode.mode ≠ .standby ∨ s.dev.mode.wakeArmed.testBit 0 = false)) (calm .ready)) ∧
    ((fun n (s : State) => 2 ≤ n) 2 (calm .ready)) ∧
    ((fun f (s : State) => s.dev.mode.mode = .standby ∧ s.dev.wakeMatch f = true ∧ s.dev.mode.wakeArmed.testBit 2 = true ∧ s.dev.boot.resetActive = none) ([0xFF, 0xFF, 0xFF, 0xFF, 0xFF, 0xFF] ++ List.replicate 6 0 ++ [0x88, 0xB5] ++ u16 0x4347 ++ [0, 0x0F] ++ List.replicate 28 0 ++ u64 0) (calm .standby (fun d => { d with mode := { d.mode with wakeArmed := 4 }, fuses := { d.fuses with serial := 0 } }))) ∧
    ((fun f (s : State) => s.dev.mode.mode ≠ .standby ∧ s.dev.awake = true ∧ (nth s.dev.time.eth 0).up = true) ([] : List Byte) (calm .ready ethUp)) ∧
    ((fun (d : Dev) l e => d.boot.fusePulse = []) (up .ready) Level.soft true) := by
  and_intros <;> decide +kernel

theorem wit_BootEventsComplete :
    ((fun r (s : State) => s.dev.awake = true ∧ s.dev.laddering = true ∧ s.dev.portsBusy = false ∧ s.dev.stepWaits = false ∧ s.dev.stepLate = false) (⟨true, 0, 0⟩ : StepReport) (calm .start (fun d => d.onBoot fun b => { b with next := 3 }))) ∧
    ((fun r (s : State) => s.dev.awake = true ∧ s.dev.laddering = false) (⟨true, 0, 0⟩ : StepReport) (calm .ready)) ∧
    ((fun t (s : State) => Live .bootStepTimeout s ∧ stepLimit s.dev.boot.next = some t ∧ s.dev.laddering = true ∧ s.dev.boot.stepTick + t < s.dev.now ∧ (s.dev.boot.next = 5 → s.dev.boot.otherSlot = true)) 80000 (calm .start (late <| fun d => d.onBoot fun b => { b with next := 3 }))) ∧
    ((fun (s : State) => Live .bootStepTimeout s ∧ s.dev.boot.next = 5 ∧ s.dev.laddering = true ∧ s.dev.boot.stepTick + msT 2000 < s.dev.now ∧ s.dev.boot.otherSlot = false) (calm .start (late <| fun d => d.onBoot fun b => { b with next := 5 }))) ∧
    ((fun c i (s : State) => Live (.blockReleaseTimeout c i) s ∧ i < blockCount c ∧ s.dev.clockGood c = false ∧ (∃ j ∈ s.dev.host.jobs, j.kind.waitedFor c i s.dev.now = true) ∧ s.dev.laddering = false) 4 0 (calm .ready (late <| fun d => { d with host := { d.host with jobs := [{ job0 with kind := .blockreset 4 0 0 }] } }))) ∧
    ((fun p q ps (s : State) => Live .fusePulseEnd s ∧ s.dev.boot.fusePulse = p :: q :: ps ∧ s.dev.boot.delayedReset = none) (0, 0) (0, 1) [] (calm .ready (fun d => d.onBoot fun b => { b with fusePulse := [(0, 0), (0, 1)] }))) ∧
    ((fun p ps r (s : State) => Live .fusePulseEnd s ∧ s.dev.boot.fusePulse = p :: ps ∧ s.dev.boot.delayedReset = some r) (0, 0) [] ResetSource.porn (calm .ready (fun d => d.onBoot fun b => { b with fusePulse := [(0, 0)], delayedReset := some .porn }))) := by
  and_intros <;> decide +kernel

theorem wit_BootCommandsComplete :
    ((fun m (s : State) x => Starts (.sysLadder m none) s x) 4 (held (.sysLadder 4 none) .ready) (issuer (.sysLadder 4 none))) ∧
    ((fun m k i w (s : State) x => Starts (.sysLadder m (some (k, i, w))) s x ∧ k ≤ 1 ∧ w ≤ 1 ∧ (k = 0 → i < 15) ∧ (k = 1 → s.dev.portExists i = true)) 4 1 32 1 (held (.sysLadder 4 (some (1, 32, 1))) .ready) (issuer (.sysLadder 4 (some (1, 32, 1))))) ∧
    ((fun m n v p ps (s : State) x => Starts (.sysFuse m n v) s x ∧ n ≤ 2 ∧ v < 2 ^ fieldBits n ∧ (n = 0 → s.dev.fuses.rstMap = 0) ∧ v ||| s.dev.fuses.field n = v ∧ s.dev.boot.fusePulse = [] ∧ s.dev.fuses.pulses n v = p :: ps) 4 2 8 (2, 3) [] (held (.sysFuse 4 2 8) .ready) (issuer (.sysFuse 4 2 8))) ∧
    ((fun m n v (s : State) x => Starts (.sysFuse m n v) s x ∧ n ≤ 2 ∧ v ||| s.dev.fuses.field n ≠ v) 4 2 7 (held (.sysFuse 4 2 7) .ready (fun d => { d with fuses := { d.fuses with keyRevoke := 8 } })) (issuer (.sysFuse 4 2 7))) ∧
    ((fun m a n c i (s : State) x => Starts (.fwStage m a n c) s x ∧ 512 ≤ n ∧ n ≤ 58720256 ∧ a + n ≤ s.dev.mc.hostLimit ∧ s.dram.marked a n = [] ∧ crc32c (memBytes s.dram.mem a n) = c ∧ FwSlot.ofImage (memBytes s.dram.mem a n) = some i) 4 0 512 54185048 ((FwSlot.ofImage (memBytes imgCells 0 512)).getD default) ({ held (.fwStage 4 0 512 54185048) .ready with dram := { mem := imgCells, poison := [], injected := [] } } : State) (issuer (.fwStage 4 0 512 54185048))) ∧
    ((fun m i (s : State) x => Starts (.fwActivate m i) s x ∧ i ≤ 1 ∧ s.dev.boot.slot i ≠ none) 4 1 (held (.fwActivate 4 1) .ready (fun d => d.onBoot fun b => { b with slotB := some fw0 })) (issuer (.fwActivate 4 1))) ∧
    ((fun m (s : State) x => Starts (.fwStatus m) s x) 4 (held (.fwStatus 4) .ready) (issuer (.fwStatus 4))) ∧
    ((fun m (s : State) x => Starts (.fwCommit m) s x ∧ s.dev.boot.fusePulse = [] ∧ s.dev.fuses.svnMin < s.dev.runningSvn) 4 (held (.fwCommit 4) .ready (fun d => d.onBoot fun b => { b with slotA := some fw0 })) (issuer (.fwCommit 4))) ∧
    ((fun m (s : State) x => Starts (.fwCommit m) s x ∧ s.dev.boot.fusePulse = [] ∧ s.dev.runningSvn ≤ s.dev.fuses.svnMin) 4 (held (.fwCommit 4) .ready) (issuer (.fwCommit 4))) := ⟨by decide +kernel, by decide +kernel, (by decide +kernel), by decide +kernel, ⟨by decide +kernel, by decide +kernel, (by decide +kernel), by decide +kernel, by decide +kernel, crc_of _ _ _ _ (by decide +kernel) (by decide +kernel) (by decide +kernel), opt_eta (by decide +kernel)⟩, by decide +kernel, by decide +kernel, (by decide +kernel), by decide +kernel⟩

theorem wit_RefusedCommandLeavesOnlyItsAnswer :
    ((fun c (s : State) x st de => (∀ m t, c = .modeSet m t → s.dev.hasJob (fun k => match k with | .modeSet 5 => true | _ => false) = false) ∧ s.dev.startOf c = some x ∧ s.dev.startRefusal x = some (st, de)) (.modeStandby 4 0) (held (.modeStandby 4 0) .build) (issuer (.modeStandby 4 0)) 0x10 0xFF09) ∧
    ((fun c (s : State) => (∀ m t, c = .modeSet m t → s.dev.hasJob (fun k => match k with | .modeSet 5 => true | _ => false) = false) ∧ (cmdOf c).isSome = true ∧ s.dev.startOf c = none) (.sysIdentify 4) (calm .ready)) := ⟨⟨(fun _ _ h => nomatch h), by decide +kernel⟩, ⟨(fun _ _ h => nomatch h), by decide +kernel⟩⟩

theorem wit_ExaminationOrder_premises :
    (fun (d : Dev) m => m < 16 ∧ d.boot.compat = false) (up .ready) 15 := by decide +kernel

theorem wit_AnswerStandsInItsMailbox :
    (fun (d : Dev) m st de h i r => m < 16 ∧ m < d.host.mbx.length ∧ d.boot.compat = false) (up .ready) 15 0 0 0 0 ([] : List Byte) := by decide +kernel

theorem wit_PowerStaysWithinTheGrant :
    (fun (d : Dev) k (b : BufStroke) => k < d.eng.length ∧ 0 ≤ b.plantW ∧ 0 < (nth d.gov.power k).1 ∧ 0 < (nth d.gov.power k).2) (fit (up .build)) 0 buf0 := by decide +kernel

end Sys2Proof.Tests
end

section
/-! PROOFS. Masks as lists of their bits, and the change of one place of a bank. -/

namespace Sys2Proof.Proofs

open Sys2Proof.Machine

/-- The set bits below n. -/
@[simp] theorem mem_bitsOf {n mask i : Nat} : i ∈ bitsOf n mask ↔ i < n ∧ mask.testBit i = true := by
  simp only [bitsOf, List.mem_filter, List.mem_range]

theorem any_bitsOf_eq_false {n mask : Nat} {f : Nat → Bool} (h : ∀ i ∈ bitsOf n mask, f i = false) :
    (bitsOf n mask).any f = false :=
  List.any_eq_false.2 fun i hi => by simp [h i hi]

/-- The bits set along a list are those of the start and those listed. -/
theorem testBit_foldl_or {is : List Nat} {a i : Nat} :
    (is.foldl (fun m j => m ||| 2 ^ j) a).testBit i = true ↔ a.testBit i = true ∨ i ∈ is := by
  induction is generalizing a with
  | nil => simp
  | cons j is ih =>
    rw [List.foldl_cons, ih, Nat.testBit_or, Bool.or_eq_true, Nat.testBit_two_pow, decide_eq_true_eq, List.mem_cons,
      or_assoc, eq_comm (a := j)]

theorem testBit_maskOf {is : List Nat} {i : Nat} : (maskOf is).testBit i = true ↔ i ∈ is := by
  simp [maskOf, testBit_foldl_or]

/-- Two changes of one place agree when they agree on what stands there. -/
theorem upd_congr {α : Type} [Inhabited α] {l : List α} {i : Nat} {f g : α → α} (h : f (nth l i) = g (nth l i)) :
    upd l i f = upd l i g := by
  refine List.ext_getElem? fun j => ?_
  rw [upd, upd, List.getElem?_modify, List.getElem?_modify]
  split
  · subst_vars
    cases e : l[j]? with
    | none => rfl
    | some a => simp_all [nth]
  · rfl

end Sys2Proof.Proofs
end

section
/-! PROOFS. Which oars a stroke is eligible for (R55, R57): O59. -/

namespace Sys2Proof.Proofs

open Sys2Proof.Machine

theorem inside_iff {vs : List Pt} {p : Pt} : inside vs p = true ↔ ∀ e ∈ edges vs, 0 ≤ turn e.1 e.2 p := by
  simp [inside]

theorem not_inside_iff {vs : List Pt} {p : Pt} : inside vs p = false ↔ ∃ e ∈ edges vs, turn e.1 e.2 p < 0 := by
  simp [inside]

/-- R55: a segment clears a zone when both ends lie outside it and it touches none of its edges. -/
theorem meets_eq_false_iff {z : List Pt} {p q : Pt} : meets z p q = false ↔
    (∃ e ∈ edges z, turn e.1 e.2 p < 0) ∧ (∃ e ∈ edges z, turn e.1 e.2 q < 0) ∧
      ∀ e ∈ edges z, segmentsTouch e.1 e.2 p q = false := by
  rw [meets, Bool.or_eq_false_iff, Bool.or_eq_false_iff, not_inside_iff, not_inside_iff, List.any_eq_false, and_assoc]
  simp

variable {g : Geometry} {p q : Pt} {k : Nat}

/-- A test that `none` fails holds nowhere in a list of places when it fails every one that is taken. -/
theorem any_places_eq_false {α : Type} {l : List (Option α)} {f : Option α → Bool} (hf : f none = false) :
    l.any f = false ↔ ∀ a, some a ∈ l → f (some a) = false := by
  rw [List.any_eq_false]
  constructor
  · intro h a ha
    simpa using h (some a) ha
  · rintro h (_ | a) ha
    · simp [hf]
    · simp [h a ha]

/-- R55: an oar's field exposes a segment whose ends it holds and that the oar's zones leave clear. -/
theorem reaches_iff : g.reaches p q k = true ↔ nth g.fields k ≠ [] ∧
    (∀ e ∈ edges (nth g.fields k), 0 ≤ turn e.1 e.2 p ∧ 0 ≤ turn e.1 e.2 q) ∧
    ∀ z, some z ∈ g.zones → z.mask.testBit k = true → meets z.vs p q = false := by
  rw [Geometry.reaches, Bool.and_eq_true, Bool.and_eq_true, Bool.and_eq_true, Bool.not_eq_true', any_places_eq_false rfl,
    inside_iff, inside_iff, decide_eq_true_eq]
  simp only [forall₂_and, and_assoc, Bool.and_eq_false_imp]

/-- R55: the computed mask names exactly the oars whose field exposes a segment of the bed. -/
theorem testBit_computedG : (g.computedG p q).testBit k = true ↔
    g.inBed p = true ∧ g.inBed q = true ∧ k < 32 ∧ g.reaches p q k = true := by
  rw [Geometry.computedG, ← and_assoc, ← Bool.and_eq_true]
  split
  case isTrue hbed => simp only [hbed, true_and, testBit_maskOf, List.mem_filter, List.mem_range]
  case isFalse hbed => simp only [hbed, Nat.zero_testBit, Bool.false_eq_true, false_and]

theorem eligibility_supplied {i : Nat} (hi : i < g.masks.length) (hn : i < 0xFFFF) :
    g.eligibility p q i = some (nth g.masks i) := by
  rw [Geometry.eligibility, if_neg hn.ne, if_pos hi]

/-- Settles O59: a supplied mask is read at its index; the computed one is unfolded bit by bit (R55). -/
theorem eligibilityByMaskOrField : Obligations.EligibilityByMaskOrField := by
  refine fun g p q => ⟨fun i => eligibility_supplied, g.computedG p q, rfl, fun k => ?_⟩
  rw [testBit_computedG, reaches_iff]
  simp only [meets_eq_false_iff]
  tauto

end Sys2Proof.Proofs
end

section
/-! PROOFS. What the bodies of the `field` commands come to (R35 to R67), and with it O22. -/

namespace Sys2Proof.Proofs

open Sys2Proof.Machine Sys2Proof.Safety Sys2Proof.Laws

section Bodies

variable {x : Ctx} {mem : Dram} {d : Dev}

theorem fieldBedBody_inRange {x0 y0 w h : Int} (hw : 64000 ≤ w) (hw' : w ≤ 65536000) (hh : 64000 ≤ h)
    (hh' : h ≤ 65536000) :
    fieldBedBody x0 y0 w h x mem d = .done (d.onStaged fun g => { g with bed := some (x0, y0, w, h) }) :=
  if_neg (by omega)

/-- R38, R39: sound data of one set's size under its check code is staged as that set. -/
theorem fieldGridBody_sound {g : GridArg} (ho : g.oar < 32) (he : d.oarExists g.oar = true) (hs : g.set < 4)
    (hp : 64000 ≤ g.pitch) (hp' : g.pitch ≤ 1024000) (hl : g.len = 50700) (ha : g.addr + 50700 ≤ d.mc.hostLimit)
    (hm : mem.marked g.addr 50700 = []) (hc : crc32c (memBytes mem.mem g.addr 50700) = g.crc) :
    fieldGridBody g x mem d = .done ((d.activate g.addr 50700).onStaged fun y =>
      { y with sets := upd y.sets g.oar fun ss => ss.set g.set (some
        ⟨g.temp, g.gx0, g.gy0, g.pitch, g.focusGain, nodesOf (memBytes mem.mem g.addr 50700)⟩) }) := by
  have hr : d.rangeOk g.addr g.len = true := decide_eq_true (hl ▸ ha)
  rw [fieldGridBody, if_neg (by simp only [he, hr, Bool.not_true, Bool.false_eq_true, false_or, or_false]; omega), hl, withData_sound hm hc]
  rfl

theorem fieldPolygonBody_ofOar {k : Nat} {vs : List Pt} (he : d.oarExists k = true) :
    fieldPolygonBody k vs x mem d = .done (d.onStaged fun g => { g with fields := g.fields.set k (ccw vs) }) :=
  if_neg (by simp [he])

theorem fieldKeepoutBody_ofZone {z k : Nat} {vs : List Pt} (hz : z < 64) :
    fieldKeepoutBody z k vs x mem d = .done (d.onStaged fun g =>
      { g with zones := g.zones.set z (if vs = [] then none else some ⟨k, ccw vs⟩) }) :=
  if_neg (by omega)

theorem fieldStitchBody_ofOars {ps : List StitchArg}
    (hp : ∀ p ∈ ps, (p.a < 32 → d.oarExists p.a = true) ∧ (p.b < 32 → d.oarExists p.b = true)) :
    fieldStitchBody ps x mem d = .done (d.onStaged fun g => { g with stitch := ps }) := by
  refine if_neg fun h => ?_
  obtain ⟨p, hmem, h⟩ := List.any_eq_true.1 h
  obtain ⟨ha, hb⟩ := hp p hmem
  simp only [Bool.or_eq_true, Bool.and_eq_true, decide_eq_true_eq, Bool.not_eq_true'] at h
  obtain ⟨hlt, hno⟩ | ⟨hlt, hno⟩ := h
  · exact Bool.false_ne_true (hno.symm.trans (ha hlt))
  · exact Bool.false_ne_true (hno.symm.trans (hb hlt))

/-- R58: sound data of 1 to 65 535 words under its check code is staged as the mask table. -/
theorem fieldMasksBody_sound {a n c : Nat} (h1 : 1 ≤ n) (hn : n ≤ 65535) (ha : a + 4 * n ≤ d.mc.hostLimit)
    (hm : mem.marked a (4 * n) = []) (hc : crc32c (memBytes mem.mem a (4 * n)) = c) :
    fieldMasksBody a n c x mem d = .done
      ((d.activate a (4 * n)).onStaged fun g => { g with masks := words32 (memBytes mem.mem a (4 * n)) }) := by
  have hr : d.rangeOk a (4 * n) = true := decide_eq_true ha
  rw [fieldMasksBody, if_neg (by simp only [hr, Bool.not_true, Bool.false_eq_true, or_false]; omega), withData_sound hm hc]
  rfl

/-- R62, R64: a geometry without a failing item, committed with no layer queued or released. -/
theorem fieldCommitBody_sound {ts : List Pt} (hq : d.queueEmpty = true)
    (ht : ts = stitchTrans d.boot.compat d.geo.staged.stitch) (hf : d.geoFailure d.geo.staged ts = none) :
    fieldCommitBody x mem d =
      let g := { d.geo.staged with trans := ts, resid := stitchResid d.geo.staged.stitch ts }
      .done ((({ d with geo := { d.geo with active := g, staged := g, stored := g } }).gridsInit).logDigest
        x 0 0x01 0xFFFF d.geo.active.digest g.digest) (g.digest ++ u32 g.resid ++ ts.flatMap ptBytes) := by
  subst ht
  simp only [fieldCommitBody, hq, Bool.not_true, Bool.false_eq_true, if_false, hf]

theorem fieldQueryBody_item {w i n : Nat} {bs : List Byte} (hw : w ≤ 1) (ho : i = 2 → d.oarExists n = true)
    (hi : (if w = 0 then d.geo.active else d.geo.staged).item i n = some bs) :
    fieldQueryBody w i n x mem d =
      .done d (bs ++ (if w = 0 then d.geo.active else d.geo.staged).digest) := by
  simp only [fieldQueryBody, hi]
  refine if_neg ?_
  rintro (h | ⟨h, hn⟩)
  · omega
  · simp [ho h] at hn

theorem fieldEligibleBody_some {p q : Pt} {i : Option Nat} {g : Nat}
    (h : d.geo.active.eligibility p q (i.getD 0xFFFF) = some g) :
    fieldEligibleBody p q i x mem d = .done d (u32 g ++ u32 (g &&& d.offered)) := by
  simp only [fieldEligibleBody, h]

/-- R43, R44: the blend that an oar has under way becomes its grid, or the one that waits for its next jump. -/
theorem blendDone_of_blending {k : Nat} {b : Int × Nat} (hb : (nth d.geo.oars k).blending = some b) :
    d.blendDone k = { d with geo := { d.geo with
      oars := upd d.geo.oars k fun o =>
        if o.grid.isNone then { o with grid := some ⟨b.1⟩, blending := none }
        else { o with ready := some ⟨b.1⟩, blending := none } } } := by
  rw [Dev.blendDone, upd_congr]
  simp only [hb]

end Bodies

/-- Settles O22: each command that starts runs its body, and an event of the running device its device step. -/
theorem fieldCommandsComplete : Obligations.FieldCommandsComplete := by
  refine ⟨?bed, ?grid, ?polygon, ?keepout, ?stitch, ?masks, ?commit, ?discard, ?query, ?eligible, ?blend⟩
  case bed => exact fun m x0 y0 w h s x hs hw hw' hh hh' =>
    exec_fieldBed.trans (runCmd_answered hs (fieldBedBody_inRange hw hw' hh hh'))
  case grid => exact fun m g s x hs ho he hset hp hp' hl ha hm hc =>
    exec_fieldGrid.trans (runCmd_answered hs (fieldGridBody_sound ho he hset hp hp' hl ha hm hc))
  case polygon => exact fun m k vs s x hs he =>
    exec_fieldPolygon.trans (runCmd_answered hs (fieldPolygonBody_ofOar he))
  case keepout => exact fun m z k vs s x hs hz =>
    exec_fieldKeepout.trans (runCmd_answered hs (fieldKeepoutBody_ofZone hz))
  case stitch => exact fun m ps s x hs hp =>
    exec_fieldStitch.trans (runCmd_answered hs (fieldStitchBody_ofOars hp))
  case masks => exact fun m a n c s x hs h1 hn ha hm hc =>
    exec_fieldMasks.trans (runCmd_answered hs (fieldMasksBody_sound h1 hn ha hm hc))
  case commit => exact fun m ts s x hs hq ht hf =>
    exec_fieldCommit.trans (runCmd_answered hs (fieldCommitBody_sound hq ht hf))
  case discard => exact fun m s x hs => exec_fieldDiscard.trans (runCmd_answered hs rfl)
  case query => exact fun m w i n bs s x hs hw ho hi =>
    exec_fieldQuery.trans (runCmd_answered hs (fieldQueryBody_item hw ho hi))
  case eligible => exact fun m p q i g s x hs h =>
    exec_fieldEligible.trans (runCmd_answered hs (fieldEligibleBody_some h))
  case blend => exact fun k b s hl hb _ =>
    exec_gridBlendComplete.trans ((onDev_live hl).trans (by rw [blendDone_of_blending hb]))

end Sys2Proof.Proofs
end

section
/-! PROOFS. What the bodies of the commands of an oar come to (R60, R65, R143, R169 to R171, R183, R192 to R194, R232 to
R235), and with it O23. -/

namespace Sys2Proof.Proofs

open Sys2Proof.Machine Sys2Proof.Safety Sys2Proof.Laws

section Bodies

variable {x : Ctx} {mem : Dram} {d : Dev} {k : Nat}

/-- R65, R170: the oar of index i may be enabled. -/
def MayEnable (d : Dev) (i : Nat) : Prop :=
  (d.port i).linked = true ∧ d.ump.closed.getLsbD i = true ∧ (nth d.eng i).lat.tooLong = false

theorem oarEnableBody_mayEnable (hk : d.badOarMask k = false) (h : ∀ i < 32, Nat.testBit k i = true → MayEnable d i) :
    oarEnableBody k x mem d =
      let t := d.setDisabled (d.geo.disabled &&& ~~~ BitVec.ofNat 32 k)
      .done (t.log x 0x11 0xFFFF (u32 d.disabledWord) (u32 t.disabledWord))
        (u32 (t.log x 0x11 0xFFFF (u32 d.disabledWord) (u32 t.disabledWord)).offered) := by
  rw [oarEnableBody, if_neg (by simp [hk]), any_bitsOf_eq_false, if_neg Bool.false_ne_true]
  intro i hi
  obtain ⟨hlt, hbit⟩ := mem_bitsOf.1 hi
  obtain ⟨hlinked, hclosed, hlat⟩ := h i hlt hbit
  simp [hlinked, hclosed, hlat]

/-- R65: one oar that may not be enabled turns the whole mask away (log 112). -/
theorem oarEnableBody_deferred (hk : d.badOarMask k = false)
    (h : ∃ i < 32, Nat.testBit k i = true ∧ ((d.port i).linked = false ∨ d.ump.closed.getLsbD i = false ∨
      (nth d.eng i).lat.tooLong = true)) :
    oarEnableBody k x mem d = .refuse 0x02 0 0 := by
  obtain ⟨i, hlt, hbit, hfail⟩ := h
  rw [oarEnableBody, if_neg (by simp [hk]), if_pos]
  refine List.any_eq_true.2 ⟨i, mem_bitsOf.2 ⟨hlt, hbit⟩, ?_⟩
  simpa [or_assoc] using hfail

theorem oarDisableBody_ofMask (hk : d.badOarMask k = false) :
    oarDisableBody k x mem d =
      let t := ((bitsOf 32 k).filter fun i => ! d.geo.disabled.getLsbD i).foldl (fun d i => d.withdraw i false)
        (d.setDisabled (d.geo.disabled ||| BitVec.ofNat 32 k))
      .done (t.log x 0x11 0xFFFF (u32 d.disabledWord) (u32 t.disabledWord)) (u32 t.disabledWord) :=
  if_neg (by simp [hk])

/-- R183, R193, R194: settings in range, whose prediction warning lies below every POS_TOL, with no layer released. -/
theorem oarMotionBody_accepted {a : MotionArg} (hk : d.badOarMask k = false) (ha : MotionArg.ok a = true)
    (hw : ∀ i < 32, ∀ p, Nat.testBit k i = true → d.posTol i = some p → a.predWarn < p) (hr : d.layers.released = none) :
    oarMotionBody k a x mem d =
      let e := d.onEngs k fun e => { e with motion := MotionArg.toMotion a }
      let t := { e with flash := { e.flash with
        motion := (bitsOf 32 k).foldl (fun l i => l.set i (MotionArg.toMotion a)) e.flash.motion } }
      .done (t.log x 0x11 0xFFFF (d.oarForms k (·.motion.bytes)) (t.oarForms k (·.motion.bytes)))
        (t.oarForms k (·.motion.bytes)) := by
  simp only [oarMotionBody, hk, ha, hr, Option.isSome_none, Bool.false_eq_true, Bool.not_true, false_or, if_false]
  rw [any_bitsOf_eq_false, if_neg Bool.false_ne_true]
  intro i hi
  obtain ⟨hlt, hbit⟩ := mem_bitsOf.1 hi
  cases hp : d.posTol i with
  | none => rfl
  | some p => simpa using hw i hlt p hbit hp

/-- R169, R170: latencies in range that keep every oar of the mask within the limit, in Ready with no layer released. -/
theorem oarLatencyBody_set {l c : Nat} (hm : d.mode.mode = .ready) (hk : d.badOarMask k = false) (hl : l ≤ 3500000)
    (hc : c ≤ 100000) (hlat : ∀ i ∈ bitsOf 32 k, Latency.tooLong { (nth d.eng i).lat with lLaser := l } = false)
    (hr : d.layers.released = none) :
    oarLatencyBody (some (k, l, c)) x mem d =
      let t := ((bitsOf 32 k).foldl (fun d i => d.setLat i fun t => { t with lLaser := l, dacDelay := c }) d).storeLat
        (bitsOf 32 k)
      .done (t.log x 0x11 0xFFFF (d.oarForms k (·.lat.bytes)) (t.oarForms k (·.lat.bytes))) t.latencies := by
  simp only [oarLatencyBody, hm, hk, hr, any_bitsOf_eq_false hlat, Nat.not_lt.2 hl, Nat.not_lt.2 hc, beq_self_eq_true,
    Bool.not_true, Bool.false_eq_true, Option.isSome_none, false_or, if_false]

/-- R183: a rising map of 16-bit codes, with no layer released. -/
theorem oarPowermapBody_rising {cs : List Nat} {i : Nat} (hk : d.badOarMask k = false) (hcs : ∀ c ∈ cs, c < 65536)
    (hi : i < 65536) (hup : rising cs = true) (hr : d.layers.released = none) :
    oarPowermapBody k cs i x mem d =
      let e := d.onEngs k fun e => { e with map := cs, idleCode := i }
      let t := { e with flash := { e.flash with map := (bitsOf 32 k).foldl (fun l j => l.set j (cs, i)) e.flash.map } }
      .done (t.log x 0x11 0xFFFF (d.oarForms k fun e => mapBytes e.map e.idleCode)
        (t.oarForms k fun e => mapBytes e.map e.idleCode)) (sha256 (mapBytes cs i)) := by
  have hany : (cs.any (65536 ≤ ·)) = false := List.any_eq_false.2 fun c hc => by simpa using hcs c hc
  simp only [oarPowermapBody, hk, hany, hup, hr, Nat.not_le.2 hi, Bool.not_true, Bool.false_eq_true, Option.isSome_none,
    or_self, if_false]

theorem oarPlacementBody_ofMask {c : Nat} (hk : d.badOarMask k = false) (hc : c ≤ 1) :
    oarPlacementBody k c x mem d =
      .done (if c = 1 then d.onEngs k Engine.clearStats else d) (d.oarForms k Engine.placement) :=
  if_neg (by simp only [hk, Bool.false_eq_true, false_or]; omega)

/-- R171: with no layer released and no measurement of these oars under way. -/
theorem oarMeasureBody_free (hk : d.badOarMask k = false) (hr : d.layers.released = none)
    (ht : ∀ i ∈ bitsOf 32 k, (nth d.eng i).test = none) :
    oarMeasureBody k x mem d = if ∀ i ∈ bitsOf 32 k, d.measurable i = true
      then .executing ((bitsOf 32 k).foldl Dev.testBegin d) (.measure k) false else .refuse 0x40 0 0 := by
  have hany : ((bitsOf 32 k).any fun i => (nth d.eng i).test.isSome) = false :=
    any_bitsOf_eq_false fun i hi => by rw [ht i hi]; rfl
  simp only [oarMeasureBody, hk, hr, hany, Option.isSome_none, Bool.false_eq_true, or_self, if_false,
    Bool.not_eq_true', ← Bool.not_eq_true, List.all_eq_true, ite_not]

/-- R235: heads that hear, with no layer released. -/
theorem oarDarkBody_hearing (hk : d.badOarMask k = false) (hr : d.layers.released = none) (hne : bitsOf 32 k ≠ [])
    (hh : ∀ i ∈ bitsOf 32 k, (d.port i).hearing = true) :
    oarDarkBody k x mem d = .executing ((bitsOf 32 k).foldl Dev.darkBegin d) (.dark k) false := by
  have hall : ((bitsOf 32 k).all fun i => (d.port i).hearing) = true := List.all_eq_true.2 hh
  simp only [oarDarkBody, hk, hr, hall, hne, Option.isSome_none, Bool.not_true, Bool.false_eq_true, if_false]

/-- R232, R233: a block in range, with no layer released. -/
theorem oarCameraBody_accepted {c : CameraArg} (hk : d.badOarMask k = false) (hc : CameraArg.ok c = true)
    (hr : d.layers.released = none) :
    oarCameraBody k c x mem d =
      let t := (bitsOf 32 k).foldl (fun d i =>
        let e := d.onMelt i fun q => { q with cam := c }
        if (e.port i).linked ∨ (e.port i).trainingPhase = some 4 ∨ (e.port i).trainingPhase = some 5 then e.sendCamera i
        else e) d
      .done (t.log x 0x11 0xFFFF (d.meltForms k fun q => cameraBytes q.cam) (t.meltForms k fun q => cameraBytes q.cam))
        (t.meltForms k fun q => cameraBytes q.cam) := by
  simp only [oarCameraBody, hk, hc, hr, Option.isSome_none, Bool.not_true, Bool.false_eq_true, or_self, if_false,
    Bool.or_eq_true, decide_eq_true_eq, or_assoc]

theorem oarSenseBody_ofMask (hk : d.badOarMask k = false) :
    oarSenseBody k x mem d = .done d (d.meltForms k Melt.sense) :=
  if_neg (by simp [hk])

end Bodies

/-- R66: taking the oars of a mask out of the disabled set clears exactly the bits of the mask. -/
theorem getLsbD_and_not_ofNat {b : BitVec 32} {k i : Nat} (hi : i < 32) :
    (b &&& ~~~ BitVec.ofNat 32 k).getLsbD i = (b.getLsbD i && ! Nat.testBit k i) := by
  rw [BitVec.getLsbD_and, BitVec.getLsbD_not, BitVec.getLsbD_ofNat, decide_eq_true hi, Bool.true_and, Bool.true_and]

/-- The whole next state of `oar.enable`, of oars that may all be enabled (R65, R170). -/
theorem exec_oarEnable_mayEnable {m k : Nat} {s : State} {x : Ctx} (hs : Starts (.oarEnable m k) s x)
    (hk : s.dev.badOarMask k = false) (h : ∀ i < 32, Nat.testBit k i = true → MayEnable s.dev i) :
    exec (.oarEnable m k) s = .next (
      let d := s.dev.setDisabled (s.dev.geo.disabled &&& ~~~ BitVec.ofNat 32 k)
      answered s x (d.log x 0x11 0xFFFF (u32 s.dev.disabledWord) (u32 d.disabledWord))
        (u32 (d.log x 0x11 0xFFFF (u32 s.dev.disabledWord) (u32 d.disabledWord)).offered)) :=
  exec_oarEnable.trans (runCmd_answered hs (oarEnableBody_mayEnable hk h))

/-- `oar.measure` runs on where every oar of the mask can fly, and is turned away where one cannot (R171, log 143). -/
theorem exec_oarMeasure_free {m k : Nat} {s : State} {x : Ctx} (hs : Starts (.oarMeasure m k) s x)
    (hk : s.dev.badOarMask k = false) (hr : s.dev.layers.released = none)
    (ht : ∀ i ∈ bitsOf 32 k, (nth s.dev.eng i).test = none) :
    exec (.oarMeasure m k) s = .next (if ∀ i ∈ bitsOf 32 k, s.dev.measurable i = true
      then running s x ((bitsOf 32 k).foldl Dev.testBegin s.dev) (.measure k) false
      else turnedAway s x 0x40 0 0) := by
  have hbody := oarMeasureBody_free (x := x) (mem := s.dram) hk hr ht
  split at hbody
  case isTrue hall => rw [if_pos hall]; exact exec_oarMeasure.trans (runCmd_running hs hbody)
  case isFalse hnot => rw [if_neg hnot]; exact exec_oarMeasure.trans (runCmd_turnedAway hs hbody)

/-- Settles O23: each command that starts has the outcome of its body. -/
theorem oarCommandsComplete : Obligations.OarCommandsComplete := by
  refine ⟨⟨?enable, ?disable, ?status, ?motion, ?latencyRead, ?latencySet, ?powermap, ?placement, ?measure, ?dark,
    ?camera, ?sense⟩, ?disabledSet, ?deferred⟩
  case enable => exact fun m k s x hs hk h => exec_oarEnable_mayEnable hs hk h
  case disable => exact fun m k s x hs hk =>
    exec_oarDisable.trans (runCmd_answered hs (oarDisableBody_ofMask hk))
  case status => exact fun m s x hs => exec_oarStatus.trans (runCmd_answered hs rfl)
  case motion => exact fun m k a s x hs hk ha hw hr =>
    exec_oarMotion.trans (runCmd_answered hs (oarMotionBody_accepted hk ha hw hr))
  case latencyRead => exact fun m s x hs => exec_oarLatency.trans (runCmd_answered hs rfl)
  case latencySet => exact fun m k l c s x hs hm hk hl hc hlat hr =>
    exec_oarLatency.trans (runCmd_answered hs (oarLatencyBody_set hm hk hl hc hlat hr))
  case powermap => exact fun m k cs i s x hs hk hcs hi hup hr =>
    exec_oarPowermap.trans (runCmd_answered hs (oarPowermapBody_rising hk hcs hi hup hr))
  case placement => exact fun m k c s x hs hk hc =>
    exec_oarPlacement.trans (runCmd_answered hs (oarPlacementBody_ofMask hk hc))
  case measure => exact fun m k s x hs hk hr ht => exec_oarMeasure_free hs hk hr ht
  case dark => exact fun m k s x hs hk hr hne hh =>
    exec_oarDark.trans (runCmd_running hs (oarDarkBody_hearing hk hr hne hh))
  case camera => exact fun m k c s x hs hk hc hr =>
    exec_oarCamera.trans (runCmd_answered hs (oarCameraBody_accepted hk hc hr))
  case sense => exact fun m k s x hs hk => exec_oarSense.trans (runCmd_answered hs (oarSenseBody_ofMask hk))
  case disabledSet =>
    intro m k s x hs hk h
    refine ⟨_, exec_oarEnable_mayEnable hs hk h, rfl, ?_, ?_, fun i hi => ?_⟩
    · simp [answered, Dev.setDisabled]
    · simp [answered, Dev.setDisabled]
    · simp only [answered, respond_geo, log_geo]
      exact getLsbD_and_not_ofNat hi
  case deferred => exact fun m k s x hs hk h =>
    exec_oarEnable.trans (runCmd_turnedAway hs (oarEnableBody_deferred hk h))

end Sys2Proof.Proofs
end

section
/-! PROOFS. What the bodies of the library and layer commands come to (R88, R89, R93 to R103, R138), and with it O24. -/

namespace Sys2Proof.Proofs

open Sys2Proof.Machine Sys2Proof.Safety Sys2Proof.Laws

/-- An interrupt cause changes no mailbox. -/
theorem raise_mbx (d : Dev) (v : Nat) : (d.raise v).host.mbx = d.host.mbx := by
  simp only [Dev.raise, HostIf.onIrq, apply_ite HostIf.mbx, ite_self]

/-- R417: the mailbox answered holds the STATUS and DETAIL of the answer. -/
theorem resp_of_respond {d : Dev} {m st de hint id : Nat} {r : List Byte} {q : Mailbox}
    (h : q ∈ (d.respond m st de hint id r).host.mbx[m]?) : ∃ p ∈ q.resp, p.status = st ∧ p.detail = de := by
  have hraised : ∀ e : Dev, (if m < 16 then e.raise m else e).host.mbx = e.host.mbx := fun e => by
    split
    · exact raise_mbx e m
    · rfl
  simp only [Dev.respond, Dev.refreshStarts, hraised, upd, List.getElem?_mapIdx, List.getElem?_modify_eq,
    Option.map_eq_map, Option.mem_def, Option.map_eq_some_iff] at h
  obtain ⟨_, ⟨b, -, rfl⟩, rfl⟩ := h
  split <;> exact ⟨_, rfl, rfl, rfl⟩

section Bodies

variable {x : Ctx} {mem : Dram} {d : Dev}

/-- R88, R89: a run of entries that may be loaded passes every check and is installed. -/
theorem loadBody_loadable {k : LibKind} {first count addr crc : Nat} {s : State}
    (h : Loadable k s first count addr crc) :
    loadBody k first count addr crc x s.dram s.dev = .done (loaded k s x first count addr) := by
  obtain ⟨hpos, hheld, hlim, hmarked, hcrc, hentries⟩ := h
  have hrange : s.dev.rangeOk addr (k.size * count) = true := decide_eq_true hlim
  have hfree : ((List.range count).map (first + ·)).find? (fun i => s.dev.layers.refCount k i ≠ 0) = none := by
    rw [List.find?_eq_none, List.forall_mem_map]
    exact fun i hi => by simp [(hentries i (List.mem_range.1 hi)).1]
  have hok : (List.range count).find?
      (fun i => ! k.ok (entryAt (memBytes s.dram.mem addr (k.size * count)) k.size i)) = none :=
    List.find?_eq_none.2 fun i hi => by simp [(hentries i (List.mem_range.1 hi)).2]
  simp only [loadBody, hrange, hfree]
  rw [if_neg (by simp only [Bool.not_true, Bool.false_eq_true, or_false]; omega), withData_sound hmarked hcrc]
  simp only [hok, activate_lib]
  rfl

theorem layerLibraryBody_held {n i : Nat} {k : LibKind} (hk : libKindOf n = some k) (hi : i < k.held) :
    layerLibraryBody n i x mem d =
      .done d (d.lib.form k i ++ u32 (d.layers.refCount k i) ++ sha256 (d.lib.form k i)) := by
  simp only [layerLibraryBody, hk]
  exact if_neg (Nat.not_le.2 hi)

/-- R94, R98: the commit joins those to be checked, and its checks begin where it is the first. -/
theorem layerCommitBody_accepted {a l : Nat} (hl : l = unle (memBytes mem.mem (a + 4) 4)) :
    layerCommitBody a x mem d = .accepted
      (let e := { d with layers := { d.layers with checking := d.layers.checking ++ [LayerRec.ofAddr a l] } }
       if d.layers.checking = [] then e.nextCheck else e)
      (commitHint (min (unle (memBytes mem.mem (a + 24) 4)) 67108864)) (.layerCommit l) [] := by
  subst hl
  simp only [layerCommitBody, List.isEmpty_iff]

/-- R99: a queued layer that is not the released one leaves the queue with those behind it. -/
theorem layerCancelBody_queued {l n : Nat} (hr : ∀ r, d.layers.released = some r → r.desc.layer ≠ l)
    (hn : n = d.layers.queue.findIdx fun r => r.desc.layer = l) (hlt : n < d.layers.queue.length) :
    layerCancelBody l x mem d =
      let ls := { (d.abortChecks 0).layers with queue := d.layers.queue.take n }
      let e := { d.abortChecks 0 with layers := if n = 0 then ls.dropRecoat else ls }
      .done (e.log x 0x03 0xFFFF (layersForm (d.layers.queue ++ d.layers.checking)) (layersForm (d.layers.queue.take n)))
        (layersForm (d.layers.queue.drop n ++ d.layers.checking)) := by
  have hnot : ((d.layers.released.map fun r => decide (r.desc.layer = l)).getD false) = false := by
    cases h : d.layers.released with
    | none => rfl
    | some r => exact decide_eq_false (hr r h)
  subst hn
  simp only [layerCancelBody, hnot, Bool.false_eq_true, if_false, if_pos hlt]

/-- R99: the released layer is abandoned in every mode of the command but a Ready that no Safe precedes. -/
theorem layerAbandonBody_released {r : LayerRec} (hm : d.mode.mode = .ready → d.layers.afterSafe = true)
    (hr : d.layers.released = some r) :
    layerAbandonBody r.desc.layer x mem d =
      .done (((d.abandonAll r).closeFence).log x 0x03 0xFFFF r.digest []) (u32 (r.strokeCount - r.settled)) := by
  have hmode : (d.mode.mode == .ready && ! d.layers.afterSafe) = false := by
    simpa only [Bool.and_eq_false_imp, beq_iff_eq, Bool.not_eq_false'] using hm
  simp only [layerAbandonBody, hmode, hr, Bool.false_eq_true, if_false, ne_eq, not_true_eq_false]

theorem layerStatusBody_layer {l : Nat} (h : ∃ q ∈ d.layers.all, q.2.desc.layer = l) :
    layerStatusBody (some l) x mem d = .done d
      (listOf (fun (q : Nat × LayerRec) => q.2.statusBytes q.1) (d.layers.all.filter fun q => q.2.desc.layer = l)) := by
  obtain ⟨q, hq, hl⟩ := h
  have hne : (d.layers.all.filter fun q => q.2.desc.layer = l) ≠ [] :=
    List.ne_nil_of_mem (List.mem_filter.2 ⟨hq, decide_eq_true hl⟩)
  exact if_neg fun h => hne h.2

theorem layerReportBody_closed {l : Nat} {r : LayerRec} (h : d.layers.closed.find? (fun q => q.desc.layer = l) = some r) :
    layerReportBody l x mem d = .done d (d.reportBytes r) := by
  simp only [layerReportBody, h]

/-- A change that changes no layer record changes nothing. -/
theorem onCommitted_id {l : Nat} {f : LayerRec → LayerRec} (h : ∀ r, f r = r) : d.onCommitted l f = d := by
  have hg : (fun r : LayerRec => if r.desc.layer = l then f r else r) = id := by simp only [h, ite_self]; rfl
  simp only [Dev.onCommitted, hg, Option.map_id_fun, List.map_id_fun, id_eq]

/-- R92, R100: a block read without errors is sound when its stored CRC says so. -/
theorem blockSound_unmarked {b : Nat} {r : LayerRec}
    (hm : mem.marked (r.desc.listAddr + 65536 * b) (r.blockLen b) = []) :
    d.blockSound mem r b = (d.activate (r.desc.listAddr + 65536 * b) (r.blockLen b), [],
      decide (crc32c (memBytes mem.mem (r.desc.listAddr + 65536 * b) (r.blockLen b)) = (nth r.blocks b).crc)) := by
  simp only [Dev.blockSound, hostData_sound hm]

/-- The one block that is named is compared, for it is damaged. -/
theorem damaged_of_named {b : Nat} {r : LayerRec} (hd : b ∈ r.damaged) :
    ((List.range 1).map (b + ·)).filter r.damaged.contains = [b] := by
  simp [hd]

section Reload

variable {l b : Nat} {r : LayerRec} (hr : d.layers.committed.find? (fun q => q.desc.layer = l) = some r)

include hr

/-- R101: a reload of blocks none of which is damaged reads nothing. -/
theorem layerReloadBody_undamaged {f n : Nat} (hn : 1 ≤ n) (hf : f + n ≤ r.blocks.length) (hd : r.damaged = []) :
    layerReloadBody l f n x mem d = .done d (listOf u32 []) := by
  have hrange : ¬(n = 0 ∨ r.blocks.length < f + n) := by omega
  have hnone : ((List.range n).map (f + ·)).filter r.damaged.contains = [] :=
    List.filter_eq_nil_iff.2 fun i _ => by simp [hd]
  simp only [layerReloadBody, hr, hnone, hrange, if_false, List.foldl_nil]
  rw [onCommitted_id fun q => by simp]
  rfl

variable (hb : b < r.blocks.length) (hd : b ∈ r.damaged)
  (hm : mem.marked (r.desc.listAddr + 65536 * b) (r.blockLen b) = [])

include hb hd hm

/-- R100, R101: a damaged block whose stored bytes match again is damaged no longer. -/
theorem layerReloadBody_sound
    (hc : crc32c (memBytes mem.mem (r.desc.listAddr + 65536 * b) (r.blockLen b)) = (nth r.blocks b).crc) :
    layerReloadBody l b 1 x mem d = .done
      ((d.activate (r.desc.listAddr + 65536 * b) (r.blockLen b)).onCommitted l fun q =>
        { q with damaged := q.damaged.filter fun i => ! [b].contains i }) (listOf u32 [b]) := by
  have hrange : ¬(1 = 0 ∨ r.blocks.length < b + 1) := by omega
  simp only [layerReloadBody, hr, hrange, if_false, damaged_of_named hd, List.foldl_cons, List.foldl_nil,
    blockSound_unmarked hm, hc, decide_true, if_true]
  rfl

/-- R100, R101: one that does not match stays damaged, and the refusal names it. -/
theorem layerReloadBody_failing
    (hc : crc32c (memBytes mem.mem (r.desc.listAddr + 65536 * b) (r.blockLen b)) ≠ (nth r.blocks b).crc) :
    layerReloadBody l b 1 x mem d =
      .refuseWith (d.activate (r.desc.listAddr + 65536 * b) (r.blockLen b)) 0x21 b 0 [] [] := by
  have hrange : ¬(1 = 0 ∨ r.blocks.length < b + 1) := by omega
  simp only [layerReloadBody, hr, hrange, if_false, damaged_of_named hd, List.foldl_cons, List.foldl_nil,
    blockSound_unmarked hm, hc, decide_false, Bool.false_eq_true]
  rw [onCommitted_id fun q => by simp]
  rfl

end Reload

end Bodies

/-- Settles O24: each command that starts has the outcome of its body. -/
theorem layerCommandsComplete : Obligations.LayerCommandsComplete := by
  refine ⟨⟨?params, ?profiles, ?targets, ?tables, ?library, ?commit, ?cancel, ?abandon, ?undamaged, ?statusAll, ?statusOne,
    ?report⟩, ?sound, ?failing⟩
  case params => exact fun m f n a c s x hs h =>
    exec_layerParams.trans (runCmd_answered hs (loadBody_loadable h))
  case profiles => exact fun m f n a c s x hs h =>
    exec_layerProfiles.trans (runCmd_answered hs (loadBody_loadable h))
  case targets => exact fun m f n a c s x hs h =>
    exec_layerTargets.trans (runCmd_answered hs (loadBody_loadable h))
  case tables => exact fun m f n a c s x hs h =>
    exec_marshalThermtable.trans (runCmd_answered hs (loadBody_loadable h))
  case library => exact fun m k i kind s x hs hk hi =>
    exec_layerLibrary.trans (runCmd_answered hs (layerLibraryBody_held hk hi))
  case commit => exact fun m a l s x hs hl =>
    exec_layerCommit.trans (runCmd_taken hs (layerCommitBody_accepted hl))
  case cancel => exact fun m l n s x hs hr hn hlt =>
    exec_layerCancel.trans (runCmd_answered hs (layerCancelBody_queued hr hn hlt))
  case abandon =>
    rintro m _ r s x hs hm hr rfl
    exact exec_layerAbandon.trans (runCmd_answered hs (layerAbandonBody_released hm hr))
  case undamaged => exact fun m l f n r s x hs hr hn hf hd =>
    exec_layerReload.trans (runCmd_answered hs (layerReloadBody_undamaged hr hn hf hd))
  case statusAll => exact fun m s x hs => exec_layerStatus.trans (runCmd_answered hs rfl)
  case statusOne => exact fun m l s x hs h =>
    exec_layerStatus.trans (runCmd_answered hs (layerStatusBody_layer h))
  case report => exact fun m l r s x hs h =>
    exec_layerReport.trans (runCmd_answered hs (layerReportBody_closed h))
  case sound => exact fun m l b r s x hs hr hb hd hm hc =>
    exec_layerReload.trans (runCmd_answered hs (layerReloadBody_sound hr hb hd hm hc))
  case failing =>
    intro m l b r s x hs hr hb hd hm hc
    have hnext := runCmd_starts (c := .layerReload m l b 1) (body := layerReloadBody l b 1) hs
    rw [layerReloadBody_failing hr hb hd hm hc] at hnext
    refine ⟨_, exec_layerReload.trans hnext, rfl, ?_, ?_, fun q hq => resp_of_respond hq⟩ <;>
      simp only [withMem, settle, respond_layers, faultRec_layers, activate_layers]

end Sys2Proof.Proofs
end

section
/-! PROOFS. What the Marshal's own events come to (R100, R105, R106, R113, R118, R125, R136, R145), and with it O28. -/

namespace Sys2Proof.Proofs

open Sys2Proof.Machine Sys2Proof.Safety Sys2Proof.Laws

variable {d : Dev}

section Reader

/-- The device once the next block of the released list has been read: the reader stands behind its records, or, where
the block is damaged, behind the block, which is named. -/
def placeBlock (d : Dev) (l : LayerRec) (r : Dev × List DramOp × Option (ParseState × Nat)) : Dev × List DramOp :=
  let b := d.mar.nextRec / 2048
  match r.2.2 with
  | none => ((((r.1.onLayer (LayerRec.damage b)).damageReport b).skipBlock l b d.mar.nextRec d.mar.parse).rt0Check, r.2.1)
  | some (q, n) => ((r.1.onMar fun m => { m with nextRec := n, parse := q }).rt0Check, r.2.1)

variable {mem : Dram} {o : EccOutcome} {l : LayerRec}
  (hl : d.layers.released = some l) (hroom : d.mar.places .window < 16384)
  (hskip : ∀ p ∈ d.mar.skipped, p.1 ∈ l.damaged) (hmore : d.mar.nextRec < l.desc.listCount)
  (hsound : d.mar.nextRec / 2048 ∉ l.damaged) (hlive : d.blockLive 7 0 = true)

include hl hroom hskip hmore hsound hlive

/-- R100: with no reloaded block to read first, the reader goes on with the next block of the list. -/
theorem rt0Read_nextBlock : d.rt0Read mem o =
    placeBlock d l (d.readBlock mem l (d.mar.nextRec / 2048) d.mar.nextRec d.mar.parse o) := by
  have hroom' : decide (16384 ≤ d.mar.places .window) = false := decide_eq_false hroom.not_ge
  have hskip' : d.mar.skipped.find? (fun p => ! l.damaged.contains p.1) = none :=
    List.find?_eq_none.2 fun p hp => by simp [hskip p hp]
  have hsound' : l.damaged.contains (d.mar.nextRec / 2048) = false := by simpa using hsound
  simp only [Dev.rt0Read, hl, hlive, hroom', hskip', hmore.not_ge, hsound', Bool.not_true, Bool.or_false,
    Bool.false_eq_true, if_false]
  rfl

end Reader

/-- R118: a candidate is made senior by its deferral alone, and never loses its seniority. -/
theorem makeSenior_eq (d : Dev) (seq : Nat) : d.makeSenior seq = d.onItem seq fun i => { i with
    senior := i.senior || match i.deferred with | some t => decide (t + 50000000 < d.timeNs) | none => false } := by
  refine congrArg (d.onItem seq) (funext fun i => ?_)
  obtain ⟨_, _, deferred⟩ := i
  cases deferred with
  | none => simp
  | some t => by_cases ht : t + 50000000 < d.timeNs <;> simp [ht]

/-- R113: an orphan whose time is out is reported as not exposable. -/
theorem orphanOver_due {seq t : Nat} {i : PoolItem}
    (hi : (d.mar.window ++ d.mar.repairs).find? (fun i => i.stroke.seq = seq) = some i) (ho : i.orphanSince = some t)
    (ht : t + msT d.mar.inOrphan ≤ d.now) (hoff : d.offeredSet i.stroke = []) (hT : ∀ k ∈ d.eligible i.stroke, d.inT k = true) :
    d.orphanOver seq = (d.dropItem seq).unexposable i.stroke := by
  have hall : (d.eligible i.stroke).all d.inT = true := List.all_eq_true.2 hT
  simp only [Dev.orphanOver, hi, ho, ht, hoff, hall, decide_true, List.isEmpty_nil, Bool.and_self, if_true]

/-- Settles O28: an event of the running device is its device step. -/
theorem marshalEventsComplete : Obligations.MarshalEventsComplete := by
  refine ⟨?sound, ?damaged, ?cycle, ?overrun, ?senior, ?orphan, ?wake, ?thermal, ?freed⟩
  case sound => exact fun o l d ops q n s ha hl hroom hskip hmore hsound hlive h =>
    exec_rt0BlockRead.trans ((onMemAny_awake ha).trans (by rw [rt0Read_nextBlock hl hroom hskip hmore hsound hlive, h]; rfl))
  case damaged => exact fun o l d ops s ha hl hroom hskip hmore hsound hlive h =>
    exec_rt0BlockRead.trans ((onMemAny_awake ha).trans (by rw [rt0Read_nextBlock hl hroom hskip hmore hsound hlive, h]; rfl))
  case cycle => exact fun s h => exec_dispatchCycle.trans (onDev_live h)
  case overrun => exact fun s h => exec_dispatchOverrun.trans (onDev_live h)
  case senior =>
    intro q s ha
    have hstep := exec_strokeSenior.trans (onDevAny_awake (f := fun _ d => d.makeSenior q) ha)
    exact hstep.trans (congrArg (fun d => Host.Outcome.next (withDev s d)) (makeSenior_eq s.dev q))
  case orphan => exact fun q i t s ha hi ho ht hoff hT =>
    exec_orphanTimeout.trans ((onDevAny_awake ha).trans (by rw [orphanOver_due hi ho ht hoff hT]))
  case wake => exact fun s h => exec_wakeSweep.trans (onDev_live h)
  case thermal => exact fun s h => exec_thermalSweep.trans (onDev_live h)
  case freed => exact fun i rest s h hw hroom =>
    exec_repairPlaceFreed.trans ((onDev_live h).trans (by simp only [Dev.onMar, hw, hroom, if_true]))

end Sys2Proof.Proofs
end

section
/-! PROOFS. One place of a bank changed, and what it leaves. -/

namespace Sys2Proof.Proofs

open Sys2Proof.Machine

section Bank

variable {α : Type} {l : List α} {i j : Nat} {f g : α → α}

theorem upd_upd : upd (upd l i f) i g = upd l i (g ∘ f) := List.modify_modify_eq ..

variable [Inhabited α]

theorem nth_upd_same (h : i < l.length) : nth (upd l i f) i = f (nth l i) := by
  simp [nth, upd, List.getD_eq_getElem?_getD, h]

theorem nth_upd_ne (h : j ≠ i) : nth (upd l i f) j = nth l j := by
  simp [nth, upd, List.getD_eq_getElem?_getD, h.symm]

/-- What a change of a place keeps of every entry, it keeps at every place of the bank. -/
theorem nth_upd_keeps {β : Type} {p : α → β} (h : ∀ a, p (f a) = p a) : p (nth (upd l i f) j) = p (nth l j) := by
  by_cases hj : j = i
  · subst hj
    by_cases hl : j < l.length
    · rw [nth_upd_same hl, h]
    · rw [upd, List.modify_eq_self (Nat.le_of_not_lt hl)]
  · rw [nth_upd_ne hj]

end Bank

end Sys2Proof.Proofs
end

section
/-! PROOFS. The age of a wake cell (R124): O58. -/

namespace Sys2Proof.Proofs

open Sys2Proof.Machine

theorem wakeLive_iff {d : Dev} {k c : Nat} : d.wakeLive k c = true ↔
    ((d.mar.wakeAt c).2.2 = 2 ∨ (d.mar.wakeAt c).2.2 = 1 ∧ (d.mar.wakeAt c).2.1 ≠ k) ∧
      wakeAge d.us32 (d.mar.wakeAt c).1 < d.relDesc.wakeLife := by
  simp [Dev.wakeLive]

/-- The whole microseconds of a second are those of its nanoseconds. -/
theorem us32_eq (d : Dev) : d.us32 = (d.time.sec * 1000000 + d.nsNow / 1000) % 2 ^ 32 := by
  have hus : d.timeUs = d.time.sec * 1000000 + d.nsNow / 1000 := by
    rw [Dev.timeUs, Dev.timeNs]
    omega
  rw [Dev.us32, hus]

/-- Settles O58: the source and the owner of the cell are one conjunct, its age, in µs, the other. -/
theorem wakeLivesForItsLife : Obligations.WakeLivesForItsLife :=
  fun d _ _ => ⟨wakeLive_iff, us32_eq d⟩

end Sys2Proof.Proofs
end

section
/-! PROOFS. The power of a frame and the grant of its stroke (R121, R122, R182): O57. -/

namespace Sys2Proof.Proofs

open Sys2Proof.Machine Sys2Proof.Laws

section Grant

/-- What is cut off a value that is not negative is not added to it. -/
theorem natOf_floor_le {q : Rat} (hq : 0 ≤ q) : ((natOf q.floor : Nat) : Rat) ≤ q := by
  have hfloor : 0 ≤ q.floor := Rat.le_floor_iff.2 (by simpa using hq)
  calc ((natOf q.floor : Nat) : Rat) = (q.floor : Rat) := by
        rw [natOf, ← Int.cast_natCast, Int.toNat_of_nonneg hfloor]
    _ ≤ q := Rat.floor_le q

/-- R122, R182: a command up to the cap draws at most the grant that the cap was made from. -/
theorem plantDraw_le_of_le_grantCap {d : Dev} {k n : Nat} {w : Rat} (hw : 0 ≤ w) (hp : 0 < (nth d.gov.power k).1)
    (hq : 0 < (nth d.gov.power k).2) (hn : n ≤ d.grantCap k w) : plantDraw (nth d.gov.power k) (n / 65535 : Rat) ≤ w := by
  rw [Dev.grantCap] at hn
  generalize nth d.gov.power k = pq at hp hq hn ⊢
  have hp' : (0 : Rat) < pq.1 := by exact_mod_cast hp
  have hq' : (0 : Rat) < pq.2 := by exact_mod_cast hq
  have hcap : (n : Rat) ≤ w * pq.2 / 65536 / pq.1 * 65535 :=
    (Nat.cast_le.2 hn).trans (natOf_floor_le (by positivity))
  rw [plantDraw, div_le_iff₀ hq']
  calc (pq.1 : Rat) * (n / 65535) * 65536
      ≤ pq.1 * (w * pq.2 / 65536 / pq.1 * 65535 / 65535) * 65536 := by gcongr
    _ = w * pq.2 := by field_simp

theorem power3_le (d : Dev) (s : Stroke) (x : Rat) (scale : Nat) (trim : Int) : d.power3 s x scale trim ≤ 0xFFFF :=
  Nat.min_le_left ..

theorem framePower_p4_le (d : Dev) (k : Nat) (b : BufStroke) : (d.framePower k b).p4 ≤ 0xFFFF :=
  (Nat.min_le_left ..).trans (power3_le ..)

theorem framePower_p4_le_grantCap (d : Dev) (k : Nat) (b : BufStroke) : (d.framePower k b).p4 ≤ d.grantCap k b.plantW :=
  Nat.min_le_right ..

end Grant

section Engines

variable {k : Nat} {d t : Dev}

/-- The engines of a device are those of another but for what place k holds beside its power map. -/
def SameMaps (k : Nat) (d t : Dev) : Prop := ∃ g : Engine → Engine, (∀ e, (g e).map = e.map) ∧ t.eng = upd d.eng k g

theorem SameMaps.of_eng (h : t.eng = d.eng) : SameMaps k d t := ⟨id, fun _ => rfl, h.trans (List.modify_id ..).symm⟩

theorem SameMaps.onEng {g : Engine → Engine} (h : SameMaps k d t) (hg : ∀ e, (g e).map = e.map) :
    SameMaps k d (t.onEng k g) := by
  obtain ⟨f, hf, ht⟩ := h
  exact ⟨g ∘ f, fun e => (hg _).trans (hf e), by rw [onEng_eng, ht, upd_upd]⟩

theorem deposit_eng {px py qx qy : Int} {energy : Rat} : (d.deposit px py qx qy energy).eng = d.eng := by
  rw [Dev.deposit]
  split
  · rfl
  · refine foldl_leaves (p := Dev.eng) ?_ _ d
    exact fun _ _ => rfl

theorem SameMaps.depositStep {s : Stroke} {f : Rat} (h : SameMaps k d t) : SameMaps k d (t.depositStep k s f) := by
  simp only [Dev.depositStep]
  split
  · exact h
  · refine SameMaps.onEng ?_ fun _ => rfl
    obtain ⟨g, hg, ht⟩ := h
    exact ⟨g, hg, deposit_eng.trans ht⟩

theorem SameMaps.stepTo {s : Stroke} {i : Nat} (h : SameMaps k d t) : SameMaps k d (t.stepTo k s i) := by
  rw [Dev.stepTo]
  split
  · exact h
  · exact h.depositStep.onEng fun _ => rfl

/-- An engine whose DAC carries what a stroke commands in the frame that begins. -/
def withPower (f : FramePower) (e : Engine) : Engine := { e with power := f.p4, trim := f.trim, dac := mapCode e.map f.p4 }

@[simp] theorem withPower_power (f : FramePower) (e : Engine) : (withPower f e).power = f.p4 := rfl

@[simp] theorem withPower_dac (f : FramePower) (e : Engine) : (withPower f e).dac = mapCode e.map f.p4 := rfl

/-- R182: the power and the code of the frame stand in the oar's engine, and no other engine changes. -/
theorem strokePower_eng (d : Dev) (k : Nat) (b : BufStroke) : ∃ g : Engine → Engine, (∀ e, (g e).map = e.map) ∧
    (d.strokePower k b).eng = upd d.eng k (withPower (d.framePower k b) ∘ g) := by
  have hcount : SameMaps k d (if (d.framePower k b).p4 < (d.framePower k b).p3 && ! (nth d.eng k).clampedStroke then
      (d.countClamp k).onEng k fun e => { e with clampedStroke := true } else d) := by
    split
    · exact (SameMaps.of_eng rfl).onEng fun _ => rfl
    · exact .of_eng rfl
  obtain ⟨g, hg, ht⟩ := hcount.stepTo (s := b.item.stroke) (i := b.item.stroke.stepOf (d.framePower k b).share)
  exact ⟨g, hg, by rw [← upd_upd, ← ht]; rfl⟩

end Engines

/-- Settles O57: the command of the frame is the smaller of what the stroke asks for and what its grant allows. -/
theorem powerStaysWithinTheGrant : Obligations.PowerStaysWithinTheGrant := by
  intro d k b hk hw hp hq
  obtain ⟨g, hmap, heng⟩ := strokePower_eng d k b
  have hoar : nth (d.strokePower k b).eng k = withPower (d.framePower k b) (g (nth d.eng k)) := by
    rw [heng, nth_upd_same hk, Function.comp_apply]
  simp only [hoar, withPower_power, withPower_dac, hmap, true_and]
  exact ⟨plantDraw_le_of_le_grantCap hw hp hq (framePower_p4_le_grantCap ..), framePower_p4_le ..,
    fun j hj => by rw [heng, nth_upd_ne hj]⟩

end Sys2Proof.Proofs
end

section
/-! PROOFS. What a dispatch cycle adds to the pending stage (R104, R105): O29. -/

namespace Sys2Proof.Proofs

open Sys2Proof.Machine Sys2Proof.Laws

@[simp] theorem fly_mar (d : Dev) (k : Nat) (start : Rat) (tr : Traj) : (d.fly k start tr).mar = d.mar := rfl

@[simp] theorem flyMark_mar (d : Dev) (k : Nat) (temp : Int) (s : Stroke) (start : Rat) :
    (d.flyMark k temp s start).mar = d.mar := by
  rw [Dev.flyMark]
  split <;> rfl

@[simp] theorem compatMark_mar (d : Dev) (k : Nat) (s : Stroke) : (d.compatMark k s).mar = d.mar := by
  simp only [Dev.compatMark]
  split <;> simp

@[simp] theorem readFirstScale_mar (d : Dev) (k : Nat) (s : Stroke) : (d.readFirstScale k s).mar = d.mar := rfl

@[simp] theorem beginLead_mar (d : Dev) (k : Nat) (s : Stroke) (r : Bool) : (d.beginLead k s r).mar = d.mar := by
  simp only [Dev.beginLead]
  split_ifs <;> simp

/-- R130: the repeated check of a beam that holds leaves the Marshal as it is. -/
@[simp] theorem holdCheck_mar (d : Dev) (k : Nat) : (d.holdCheck k).mar = d.mar := by
  simp only [Dev.holdCheck, Dev.checkHold]
  split
  · split <;> simp
  · rfl

@[simp] theorem rt0Check_mar (d : Dev) : d.rt0Check.mar = d.mar := by
  simp only [Dev.rt0Check]
  split_ifs <;> rfl

@[simp] theorem layerStat_mar (d : Dev) (f : LayerStat → LayerStat) : (d.layerStat f).mar = d.mar := rfl

@[simp] theorem noteAge_mar (d : Dev) (i : PoolItem) : (d.noteAge i).mar = d.mar := rfl

@[simp] theorem noteReason_mar (d : Dev) (i : PoolItem) (c : Nat) : (d.noteReason i c).2.mar = d.mar := by
  simp only [Dev.noteReason]
  split <;> rfl

@[simp] theorem settleStroke_pending (d : Dev) (s : Stroke) : (d.settleStroke s).mar.pending = d.mar.pending := by
  simp only [Dev.settleStroke]
  split
  · rfl
  · split <;> rfl

@[simp] theorem onItem_pendingCount (d : Dev) (q : Nat) (f : PoolItem → PoolItem) :
    (d.onItem q f).mar.pending.length = d.mar.pending.length := by
  simp [Dev.onItem]

@[simp] theorem endEval_pendingCount (d : Dev) (i : PoolItem) (c w : Nat) :
    (d.endEval i c w).mar.pending.length = d.mar.pending.length := by
  simp [Dev.endEval]

@[simp] theorem retire_pending (d : Dev) (s : Stroke) : (d.retire s).mar.pending = d.mar.pending := by
  simp [Dev.retire, Dev.dropItem]

@[simp] theorem orphanWatch_pendingCount (d : Dev) (i : PoolItem) :
    (d.orphanWatch i).1.mar.pending.length = d.mar.pending.length := by
  simp only [Dev.orphanWatch]
  split <;> simp

@[simp] theorem requestStroke_pendingCount (d : Dev) (i : PoolItem) (k : Nat) (f : Rat) :
    (d.requestStroke i k f).mar.pending.length = d.mar.pending.length + 1 := by
  simp [Dev.requestStroke, Dev.dropItem]

/-- R109: an evaluation takes as many oars as it sends requests, one at most: it holds, retires or defers its candidate and
sends none, or chooses an oar and sends one. -/
theorem evaluate_counts (d : Dev) (taken : List Nat) (i : PoolItem) :
    ((d.evaluate taken i).1.mar.pending.length = d.mar.pending.length ∧ (d.evaluate taken i).2.length = taken.length) ∨
    ((d.evaluate taken i).1.mar.pending.length = d.mar.pending.length + 1 ∧
      (d.evaluate taken i).2.length = taken.length + 1) := by
  simp only [Dev.evaluate]
  split
  · exact .inl ⟨by simp, rfl⟩
  · split_ifs
    any_goals exact .inl ⟨by simp, rfl⟩
    split
    · exact .inr ⟨by simp, by simp⟩
    · exact .inl ⟨by simp, rfl⟩

/-- A cycle under way over a stage of n requests: as many added as oars taken, up to four, and none beyond eight. -/
def CycleBound (n : Nat) (c : Dev × List Nat) : Prop :=
  c.1.mar.pending.length = n + c.2.length ∧ c.2.length ≤ 4 ∧ c.1.mar.pending.length ≤ max 8 n

/-- What a cycle does with its next candidate (R105). -/
def candidateStep (c : Dev × List Nat) (i : PoolItem) : Dev × List Nat :=
  if 4 ≤ c.2.length ∨ 8 ≤ c.1.mar.pending.length then c else c.1.evaluate c.2 i

theorem candidateStep_bound {n : Nat} {c : Dev × List Nat} (h : CycleBound n c) (i : PoolItem) :
    CycleBound n (candidateStep c i) := by
  rw [candidateStep]
  split
  case isTrue => exact h
  case isFalse hgo =>
    obtain ⟨hsum, htaken, hroom⟩ := h
    obtain ⟨hp, ht⟩ | ⟨hp, ht⟩ := evaluate_counts c.1 c.2 i <;> exact ⟨by omega, by omega, by omega⟩

theorem foldl_candidateStep_bound {n : Nat} (is : List PoolItem) {c : Dev × List Nat} (h : CycleBound n c) :
    CycleBound n (is.foldl candidateStep c) := by
  induction is generalizing c with
  | nil => exact h
  | cons i is ih => exact ih (candidateStep_bound h i)

theorem runCycle_bound (d : Dev) : ∃ taken, CycleBound d.mar.pending.length (d.runCycle, taken) :=
  ⟨_, foldl_candidateStep_bound (d.mar.candidates.take 64) (c := (d, [])) ⟨rfl, Nat.zero_le _, Nat.le_max_right ..⟩⟩

theorem landMarks_pending (d : Dev) : d.landMarks.mar.pending = d.mar.pending := rfl

theorem foldl_holdCheck_pending (ks : List Nat) (d : Dev) :
    (ks.foldl (fun d k => d.holdCheck k) d).mar.pending = d.mar.pending :=
  foldl_leaves (f := fun d k => d.holdCheck k) (p := fun d => d.mar.pending) (fun d k => by rw [holdCheck_mar]) ks d

/-- R118: an entry kept for a senior stroke is kept for the cycle only. -/
theorem foldl_keptFor_pending (ks : List Nat) (d : Dev) :
    (ks.foldl (fun d k => d.onMar fun m =>
      { m with oars := upd m.oars k fun o => { o with keptFor := none } }) d).mar.pending = d.mar.pending :=
  foldl_leaves (p := fun d => d.mar.pending) (by exact fun _ _ => rfl) ks d

/-- R105: what follows the evaluation leaves the pending stage alone; outside Build, or with no layer, none takes place. -/
theorem dispatchCycle_pending (d : Dev) :
    d.dispatchCycle.mar.pending = d.runCycle.mar.pending ∨ d.dispatchCycle.mar.pending = d.mar.pending := by
  rw [Dev.dispatchCycle, rt0Check_mar, foldl_keptFor_pending, landMarks_pending, foldl_holdCheck_pending]
  split
  · exact .inl rfl
  · exact .inr rfl

/-- Settles O29: a cycle counts the oars it takes, and adds a request with each. -/
theorem dispatchCycleIsBounded : Obligations.DispatchCycleIsBounded := by
  intro d
  obtain hcycle | hnone := dispatchCycle_pending d
  · obtain ⟨taken, hsum, htaken, hroom⟩ := runCycle_bound d
    dsimp only at hsum htaken hroom
    rw [hcycle]
    omega
  · rw [hnone]
    omega

end Sys2Proof.Proofs
end

section
/-! PROOFS. What the bodies of the `marshal` commands come to (R123, R133, R138, R150, R154 to R157), and with it O32. -/

namespace Sys2Proof.Proofs

open Sys2Proof.Machine Sys2Proof.Safety Sys2Proof.Laws

section Bodies

variable {x : Ctx} {mem : Dram} {d : Dev}

theorem marshalConfigBody_inRange {h b o : Nat} (hh : 1000 ≤ h) (hh' : h ≤ 50000) (hb : b ≤ 1000) (ho : o ≤ 10000) :
    marshalConfigBody h b o x mem d =
      let t := d.onMar fun m => { m with horizon := h, balance := b, orphanMs := o }
      .done (t.log x 0x10 0 d.mar.cfgBytes t.mar.cfgBytes)
        (if d.layers.released.isSome then u32 d.mar.inHorizon ++ u32 d.mar.inBalance ++ u32 d.mar.inOrphan
         else t.mar.cfgBytes) :=
  if_neg (by omega)

theorem marshalThermalBody_reset (hq : d.queueEmpty = true) :
    marshalThermalBody none x mem d = .done
      ((d.onMar fun m => { m with heat := [] }).log x 0x10 1 (u32 d.mar.edge ++ u32 d.mar.energyLsb)
        (u32 d.mar.edge ++ u32 d.mar.energyLsb)) (u32 d.heatSize.1 ++ u32 d.heatSize.2) := by
  simp only [marshalThermalBody, hq, Bool.not_true, Bool.false_eq_true, if_false]

/-- R133, R157: a cell size and a unit in range are taken, and others than before empty the map. -/
theorem marshalThermalBody_inRange {e l : Nat} (hq : d.queueEmpty = true) (hmod : e % 16000 = 0) (he : 16000 ≤ e)
    (he' : e ≤ 256000) (hl : 1 ≤ l) (hl' : l ≤ 65535) (hn : (d.heatSizeAt e).1 * (d.heatSizeAt e).2 ≤ 1048576) :
    marshalThermalBody (some (e, l)) x mem d = .done
      ((d.onMar fun m => { m with
        edge := e, energyLsb := l, heat := if e = d.mar.edge ∧ l = d.mar.energyLsb then m.heat else [] }).log x 0x10 1
        (u32 d.mar.edge ++ u32 d.mar.energyLsb) (u32 e ++ u32 l))
      (u32 (d.heatSizeAt e).1 ++ u32 (d.heatSizeAt e).2) := by
  have hok : ¬(e % 16000 ≠ 0 ∨ e < 16000 ∨ 256000 < e ∨ l < 1 ∨ 65535 < l ∨
      1048576 < (d.heatSizeAt e).1 * (d.heatSizeAt e).2) := by
    simp only [not_or, not_lt, ne_eq, not_not]
    exact ⟨hmod, he, he', hl, hl', hn⟩
  simp only [marshalThermalBody, hq, hok, Bool.not_true, Bool.false_eq_true, if_false, Bool.and_eq_true, decide_eq_true_eq]

theorem marshalStatsBody_kept {l : Nat} {r : LayerRec} (hr : d.layers.kept l = some r) :
    marshalStatsBody l x mem d = .done d (d.statBytes r) := by
  simp only [marshalStatsBody, hr]

theorem marshalInterruptedBody_kept {l f n : Nat} {r : LayerRec} (hr : d.layers.kept l = some r) :
    marshalInterruptedBody l f n x mem d = .done d (listOf IntRec.bytes (((r.ints.drop f).take n).take 62)) := by
  simp only [marshalInterruptedBody, hr]

theorem marshalWakeBody_empty (hm : d.mode.mode = .ready) :
    marshalWakeBody none x mem d = .done ((d.onMar fun m => { m with wake := [] }).log x 0x10 2 [] []) := by
  simp only [marshalWakeBody, hm]
  rfl

theorem marshalWakeBody_rect {c r w h : Nat} (hw : 1 ≤ w) (hh : 1 ≤ h) (hc : c + w ≤ 256) (hr : r + h ≤ 256) :
    marshalWakeBody (some (c, r, w, h)) x mem d = .done d ((rectCells 256 c r w h).flatMap d.mar.wakeBytes) :=
  if_neg (by omega)

section Heat

variable {c r w h a : Nat} (hw : 1 ≤ w) (hh : 1 ≤ h) (hc : c + w ≤ d.heatSize.1) (hr : r + h ≤ d.heatSize.2)
  (ha : d.rangeOk a (4 * (w * h)) = true)

include hw hh hc hr ha

theorem heatRect_inRange {n : Nat} (hn : n ≤ 1) :
    ¬(w = 0 ∨ h = 0 ∨ d.heatSize.1 < c + w ∨ d.heatSize.2 < r + h ∨ (! d.rangeOk a (4 * (w * h))) = true ∨ 1 < n) := by
  simp only [ha, Bool.not_true, Bool.false_eq_true, false_or]
  omega

/-- R156: the rectangle is written to device memory, each cell as it is now. -/
theorem marshalHeatBody_write : marshalHeatBody c r w h a 0 x mem d =
    let bs := (rectCells d.heatSize.1 c r w h).flatMap fun c => u16 (d.heatNow c) ++ u16 d.stamp
    .ok ((d.activate a bs.length).partialPoison mem 4 a bs.length) [] [.write a bs] := by
  have hok := heatRect_inRange hw hh hc hr ha (Nat.zero_le 1)
  simp only [marshalHeatBody, hok, if_false, if_true]
  rfl

/-- R156: the rectangle is loaded from sound device memory, in Ready with no layer. -/
theorem marshalHeatBody_load (hm : d.mode.mode = .ready) (hq : d.queueEmpty = true)
    (hd : mem.marked a (4 * (w * h)) = []) : marshalHeatBody c r w h a 1 x mem d =
    let bs := memBytes mem.mem a (4 * (w * h))
    .ok (((d.activate a (4 * (w * h))).onMar fun m => { m with
      heat := ((rectCells d.heatSize.1 c r w h).zipIdx).foldl (fun g c =>
        setHeat g c.1 (fieldOf bs (4 * c.2) 2) d.stamp) m.heat }).log x 0x10 3 [] bs) [] [] := by
  have hok := heatRect_inRange hw hh hc hr ha (Nat.le_refl 1)
  simp only [marshalHeatBody, hok, hm, hq, hostData_sound hd, if_false]
  rfl

end Heat

end Bodies

/-- Settles O32: each command that starts has the outcome of its body. -/
theorem marshalCommandsComplete : Obligations.MarshalCommandsComplete := by
  refine ⟨?config, ?reset, ?thermal, ?status, ?stats, ?interrupted, ?wake, ?wakeRect, ?heatWrite, ?heatLoad⟩
  case config => exact fun m h b o s x hs hh hh' hb ho =>
    exec_marshalConfig.trans (runCmd_answered hs (marshalConfigBody_inRange hh hh' hb ho))
  case reset => exact fun m s x hs hq =>
    exec_marshalThermal.trans (runCmd_answered hs (marshalThermalBody_reset hq))
  case thermal => exact fun m e l s x hs hq hmod he he' hl hl' hn =>
    exec_marshalThermal.trans (runCmd_answered hs (marshalThermalBody_inRange hq hmod he he' hl hl' hn))
  case status => exact fun m s x hs => ⟨_, exec_marshalStatus.trans (runCmd_answered hs rfl)⟩
  case stats => exact fun m l r s x hs hr =>
    exec_marshalStats.trans (runCmd_answered hs (marshalStatsBody_kept hr))
  case interrupted => exact fun m l f n r s x hs hr =>
    exec_marshalInterrupted.trans (runCmd_answered hs (marshalInterruptedBody_kept hr))
  case wake => exact fun m s x hs hm =>
    exec_marshalWake.trans (runCmd_answered hs (marshalWakeBody_empty hm))
  case wakeRect => exact fun m c r w h s x hs hw hh hc hr =>
    exec_marshalWake.trans (runCmd_answered hs (marshalWakeBody_rect hw hh hc hr))
  case heatWrite => exact fun m c r w h a s x hs hw hh hc hr ha =>
    exec_marshalHeat.trans (runCmd_ok hs (marshalHeatBody_write hw hh hc hr ha))
  case heatLoad => exact fun m c r w h a s x hs hw hh hc hr ha hm hq hd =>
    exec_marshalHeat.trans (runCmd_answered hs (marshalHeatBody_load hw hh hc hr (decide_eq_true ha) hm hq hd))

end Sys2Proof.Proofs
end

section
/-! PROOFS. Leave for strokes and for what else waits (R107, R112, R118, R525 to R528), and with it O30 and O31. -/

namespace Sys2Proof.Proofs

open Sys2Proof.Machine Sys2Proof.Safety Sys2Proof.Laws

variable {d : Dev}

section Stroke

variable {r : Nat} {p : PendingItem} (hp : d.mar.pending.find? (·.req = r) = some p)

include hp

theorem strokeAnswer_granted (hg : d.mayGrant (p.leave d.now) = true) (hs : d.seniorFirst p.item.stroke = false) :
    d.strokeAnswer r = (d.strokeGranted p).rt0Check := by
  simp only [Dev.strokeAnswer, hp, hg, hs, Bool.not_false, Bool.and_self, if_true]

theorem strokeAnswer_deferred (h : d.mayGrant (p.leave d.now) = false ∨ d.seniorFirst p.item.stroke = true) :
    d.strokeAnswer r = (d.strokeDeferred p).rt0Check := by
  have hno : (d.mayGrant (p.leave d.now) && ! d.seniorFirst p.item.stroke) = false := by
    obtain h | h := h <;> simp [h]
  simp only [Dev.strokeAnswer, hp, hno, Bool.false_eq_true, if_false]

end Stroke

theorem leaveGrant_next {m : Dram} {l : Leave} (hr : ∀ w ∈ d.gov.waiting, d.refusal w = 0) (hn : d.nextGrant = some l) :
    d.leaveGrant m = (d.grantLeave l).leaveTaken m l.who := by
  have hnone : d.gov.waiting.find? (fun l => d.refusal l ≠ 0) = none :=
    List.find?_eq_none.2 fun w hw => by simp [hr w hw]
  simp only [Dev.leaveGrant, hnone, hn]

theorem leaveGrant_refused {m : Dram} {l : Leave} (hl : d.gov.waiting.find? (fun l => d.refusal l ≠ 0) = some l) :
    d.leaveGrant m = (({ d with gov := { d.gov.refused l.prio (d.refusal l) with
      waiting := d.gov.waiting.filter (·.id ≠ l.id) } }).leaveRefused l.who (d.refusal l), []) := by
  simp only [Dev.leaveGrant, hl]

section Revocation

/-- What the first entry that gives something gives, where it is known which entries do. -/
theorem findSome?_of_find? {α β : Type} {f : α → Option β} {q : α → Bool} (hq : ∀ a, q a = (f a).isSome) {l : List α} {a : α}
    (h : l.find? q = some a) : l.findSome? f = f a := by
  obtain ⟨ha, l₁, l₂, rfl, hl⟩ := List.find?_eq_some_iff_append.1 h
  obtain ⟨b, hb⟩ := Option.isSome_iff_exists.1 ((hq a).symm.trans ha)
  rw [hb]
  exact List.findSome?_eq_some_iff.2 ⟨l₁, a, l₂, rfl, hb, fun c hc => by simpa [hq] using hl c hc⟩

/-- R526: the grants that make room for a P4 request that has waited 100 ms. -/
def p4Gain (d : Dev) (l : Leave) : Option (List Leave) :=
  if l.prio = 4 && decide (l.since + msT 100 ≤ d.now) && ! d.mayGrant l then (d.revokeFor l).filter (· ≠ []) else none

theorem p4Room_eq (d : Dev) : d.p4Room = (d.gov.waiting.findSome? (p4Gain d)).getD [] := rfl

theorem isSome_p4Gain (d : Dev) (l : Leave) : (p4Gain d l).isSome =
    (l.prio = 4 && decide (l.since + msT 100 ≤ d.now) && ! d.mayGrant l && (d.revokeFor l).any (· ≠ [])) := by
  rw [p4Gain]
  split
  case isTrue h => rw [h, Bool.true_and, Option.isSome_filter]
  case isFalse h => rw [Bool.eq_false_of_not_eq_true h, Bool.false_and, Option.isSome_none]

theorem p4Room_first {l x : Leave} {xs : List Leave}
    (hl : d.gov.waiting.find? (fun l => l.prio = 4 && decide (l.since + msT 100 ≤ d.now) && ! d.mayGrant l &&
      (d.revokeFor l).any (· ≠ [])) = some l) (hx : d.revokeFor l = some (x :: xs)) : d.p4Room = x :: xs := by
  have hdue := List.find?_some hl
  rw [p4Room_eq, findSome?_of_find? (fun a => (isSome_p4Gain d a).symm) hl, p4Gain, if_pos (Bool.and_elim_left hdue), hx]
  rfl

theorem p4Room_none (h : ∀ l ∈ d.gov.waiting, l.prio = 4 → l.since + msT 100 ≤ d.now → d.mayGrant l = false →
    d.revokeFor l = none ∨ d.revokeFor l = some []) : d.p4Room = [] := by
  rw [p4Room_eq, List.findSome?_eq_none_iff.2, Option.getD_none]
  intro l hl
  rw [p4Gain]
  split
  case isFalse => rfl
  case isTrue hdue =>
    simp only [Bool.and_eq_true, decide_eq_true_eq, Bool.not_eq_true'] at hdue
    obtain ⟨⟨hprio, hage⟩, hno⟩ := hdue
    obtain hr | hr := h l hl hprio hage hno <;> rw [hr] <;> rfl

theorem p5Revoke_calm (h0 : d.mc.panic0 = false) (h1 : d.mc.panic1 = false) :
    d.p5Revoke = d.p4Room.foldl Dev.revoked d := by
  simp only [Dev.p5Revoke, h0, h1, Bool.or_self, Bool.false_eq_true, if_false]

/-- R526: with no P4 request that could be made room for, panic alone says how many P5 grants end. -/
theorem p5Revoke_panic (h : d.mc.panic0 = true ∨ d.mc.panic1 = true) (hr : d.p4Room = []) : d.p5Revoke =
    let n := d.draw (d.gov.revocable.length + 1)
    (n.2.gov.revocable.take n.1).foldl Dev.revoked n.2 := by
  have hpanic : (d.mc.panic0 || d.mc.panic1) = true := by simpa using h
  simp only [Dev.p5Revoke, hpanic, hr, List.foldl_nil, if_true]

end Revocation

/-- Settles O30: each answer and each event of leave is its device step. -/
theorem leaveEventsComplete : Obligations.LeaveEventsComplete := by
  refine ⟨?granted, ?deferred, ?next, ?refused, ?revoked, ?calm, ?panic⟩
  case granted => exact fun r p s ha hp hg hs =>
    exec_leaveAnswer.trans ((onDevAny_awake ha).trans (by rw [strokeAnswer_granted hp hg hs]))
  case deferred => exact fun r p s ha hp h =>
    exec_leaveAnswer.trans ((onDevAny_awake ha).trans (by rw [strokeAnswer_deferred hp h]))
  case next => exact fun l s hl hr hn =>
    exec_leaveGrant.trans ((onMem_live hl).trans (by rw [leaveGrant_next hr hn]))
  case refused => exact fun l s hl hr =>
    exec_leaveGrant.trans ((onMem_live hl).trans (by rw [leaveGrant_refused hr]; rfl))
  case revoked => exact fun l x xs s hl h0 h1 hw hx =>
    exec_p5Revocation.trans ((onDev_live hl).trans (by rw [p5Revoke_calm h0 h1, p4Room_first hw hx]))
  case calm => exact fun s hl h0 h1 hw =>
    exec_p5Revocation.trans ((onDev_live hl).trans (by rw [p5Revoke_calm h0 h1, p4Room_none hw]; rfl))
  case panic => exact fun s hl hp hw =>
    exec_p5Revocation.trans ((onDev_live hl).trans
      (by rw [p5Revoke_panic hp (p4Room_none fun l hl h => absurd h (hw l hl))]))

/-! ## A stroke that enters a buffer (R107, R525) -/

/-- R525: a request is granted at P0, or where both of its draws fit. -/
theorem fits_of_mayGrant {l : Leave} (h : d.mayGrant l = true) :
    l.prio = 0 ∨ d.chipFits l = true ∧ d.plantFits l = true := by
  simp only [Dev.mayGrant, Bool.or_eq_true, Bool.and_eq_true, decide_eq_true_eq] at h
  obtain h | ⟨⟨⟨hchip, hplant⟩, -⟩, -⟩ := h
  · exact .inl h
  · exact .inr ⟨hchip, hplant⟩

theorem strokeGranted_pending (d : Dev) (p : PendingItem) :
    (d.strokeGranted p).mar.pending = d.mar.pending.filter (·.req ≠ p.req) := rfl

/-- R115: a prediction made anew leaves every buffer as it was. -/
theorem redrain_buf (d : Dev) (k j : Nat) : (nth (d.redrain k).mar.oars j).buf = (nth d.mar.oars j).buf := by
  simp only [Dev.redrain]
  split
  · exact nth_upd_keeps (p := OarQueue.buf) fun _ => rfl
  · rfl

theorem enterPool_oars (m : Marshal) (i : PoolItem) : (m.enterPool i).oars = m.oars := by
  rw [Marshal.enterPool]
  split <;> rfl

/-- R107: a stroke deferred enters no buffer. -/
theorem strokeDeferred_buf (d : Dev) (p : PendingItem) (j : Nat) :
    (nth (d.strokeDeferred p).mar.oars j).buf = (nth d.mar.oars j).buf := by
  rw [Dev.strokeDeferred, redrain_buf, noteAge_mar, onMar_mar, enterPool_oars, Dev.unpend, onMar_mar]
  dsimp only
  rw [noteReason_mar]

/-- Settles O31: a buffer that has changed tells that the request was granted. -/
theorem grantedStrokeFits : Obligations.GrantedStrokeFits := by
  intro r p s t hp ht ha hbuf
  have hstep : t = withDev s (s.dev.strokeAnswer r) :=
    (Host.Outcome.next.inj ((exec_leaveAnswer.trans (onDevAny_awake ha)).symm.trans ht)).symm
  have hreq : p.req = r := by simpa using List.find?_some hp
  by_cases hg : s.dev.mayGrant (p.leave s.dev.now) = true ∧ s.dev.seniorFirst p.item.stroke = false
  · obtain ⟨hgrant, hsenior⟩ := hg
    refine ⟨fits_of_mayGrant hgrant, ?_⟩
    rw [hstep, strokeAnswer_granted hp hgrant hsenior, withDev, rt0Check_mar, strokeGranted_pending, hreq]
  · have hdef : s.dev.mayGrant (p.leave s.dev.now) = false ∨ s.dev.seniorFirst p.item.stroke = true := by
      simpa only [not_and_or, Bool.not_eq_true, Bool.not_eq_false] using hg
    refine absurd ?_ hbuf
    rw [hstep, strokeAnswer_deferred hp hdef, withDev, rt0Check_mar, strokeDeferred_buf]

end Sys2Proof.Proofs
end

section
/-! PROOFS. What the events of an exposure engine come to (R130, R163, R165, R175, R178, R186 to R188), and with it O26. -/

namespace Sys2Proof.Proofs

open Sys2Proof.Machine Sys2Proof.Safety Sys2Proof.Laws

variable {d : Dev} {k : Nat} {b : BufStroke}

section Edge

variable {ed : Edge} {es : List Edge} (he : (nth d.eng k).edges = ed :: es) (hc : (nth d.eng k).cur = some b)
  (hf : ed.frame ≤ d.now)

include he hc hf

/-- R188: a committed catch of an engine that does not expose fires where LEN and the cut path let it, else is discarded. -/
theorem fireEdge_catch (hfin : ed.finish = false) (hexp : (nth d.eng k).exposing = false) : d.fireEdge k =
    if d.lightable k then d.fireCatch k b.item.stroke ed else d.onEng k fun e => { e with edges := [] } := by
  simp only [Dev.fireEdge, he, hc, hf.not_gt, hfin, hexp, Bool.false_eq_true, if_false]

/-- R188: a committed finish of an engine that exposes fires. -/
theorem fireEdge_finish (hfin : ed.finish = true) (hexp : (nth d.eng k).exposing = true) :
    d.fireEdge k = d.fireFinish k b ed := by
  simp only [Dev.fireEdge, he, hc, hf.not_gt, hfin, hexp, if_true, if_false]

end Edge

section InHand

variable (hc : (nth d.eng k).cur = some b)

include hc

theorem backstop_due (h : d.backstopDue k b.item.stroke = true) :
    d.backstop k = d.commitFinish k b.item.stroke (800 * (d.now + 1)) 4 none := by
  simp only [Dev.backstop, hc, h, if_true]

/-- R178: a DOT that has not settled in DOT_SETTLE_MAX is caught at slot 0 of the next frame, with a flag. -/
theorem dotTimeout_due (hdot : b.item.stroke.dot = true) (hph : (nth d.eng k).phase = .settle)
    (hcompat : d.boot.compat = false) (hready : d.dotReady k b.item.stroke ≤ d.now)
    (hmax : (nth d.eng k).jumpEndPs + 1000000 * ((nth d.eng k).motion.dotSettleMax : Rat) ≤ d.psNow) :
    d.dotTimeout k = (d.commitEdge k b.item.stroke false (d.now + 1) 0 1 none).onEng k Engine.toMark := by
  simp only [Dev.dotTimeout, hc, hdot, hph, hcompat, hready, hmax, decide_true, beq_self_eq_true, Bool.not_false,
    Bool.and_self, if_true]

theorem holdAt_inHand : d.holdAt k =
    (d.onEng k fun e => { e with phase := .hold, holdSince := none }).checkHold k b.item.stroke := by
  simp only [Dev.holdAt, hc]

section Arrival

variable {p : JumpPlan} (hp : (nth d.eng k).plan = some p) (ht : (nth d.eng k).jumpEndPs ≤ d.psNow)

include hp ht

/-- R130, R165: a beam that arrives with a clear catch check begins its lead-in. -/
theorem jumpEnd_clear (hph : (nth d.eng k).phase = .jump) (hhold : p.hold = false)
    (hcompat : d.boot.compat = true → (nth d.eng k).exposing = false ∧ (nth d.eng k).edges = [])
    (hclear : d.catchClear k b.item.stroke = true) : d.jumpEnd k = d.beginLead k b.item.stroke false := by
  have hready : (d.boot.compat && ((nth d.eng k).exposing || (nth d.eng k).edges ≠ [])) = false := by
    rw [Bool.and_eq_false_imp]
    intro h
    obtain ⟨hexp, hedges⟩ := hcompat h
    simp [hexp, hedges]
  simp only [Dev.jumpEnd, hc, hp, hph, hhold, hready, hclear, ht.not_gt, decide_false]
  rfl

/-- R165: a beam brought to rest, or whose jump was planned for a hold, holds. -/
theorem jumpEnd_hold (h : (nth d.eng k).phase = .stopping ∨
    (nth d.eng k).phase = .jump ∧ p.hold = true ∧ b.item.stroke.dot = false ∧ d.boot.compat = false) :
    d.jumpEnd k = d.holdAt k := by
  obtain hph | ⟨hph, hhold, hdot, hcompat⟩ := h
  · simp only [Dev.jumpEnd, hc, hp, hph, ht.not_gt, decide_false]
    rfl
  · simp only [Dev.jumpEnd, hc, hp, hph, hhold, hdot, hcompat, ht.not_gt, decide_false]
    rfl

end Arrival

/-- R130: a hold whose check has failed for WAKE_LIFE gives its stroke back, counted for the wake. -/
theorem giveBack_due {t : Nat} (hph : (nth d.eng k).phase = .hold) (hs : (nth d.eng k).holdSince = some t)
    (hw : d.wakeClear b.item.stroke k = false) (ht : t + usT d.relDesc.wakeLife ≤ d.now) : d.giveBack k =
    let p := if b.item.stroke.dot then ((b.item.stroke.x0 : Rat), (b.item.stroke.y0 : Rat))
      else b.item.stroke.along (-(d.ellLsb k b.item.stroke : Rat))
    let r := (d.onEng k fun e =>
      { e.drop with fromObs := false, loose := false, posX := roundRat p.1, posY := roundRat p.2 }).noteReason b.item 7
    r.2.returnStroke k true { b with item := r.1 } := by
  simp only [Dev.giveBack, hc, hph, hs, hw, ht.not_gt, decide_false, Bool.or_self, Bool.false_eq_true, if_false]

end InHand

/-- R163: the head of the buffer is taken and its jump planned; it waits for the stroke that exposes, or starts. -/
theorem jumpPlanning_due {rest : List BufStroke} (hdue : d.planDue k = true) (hb : (nth d.mar.oars k).buf = b :: rest) :
    d.jumpPlanning k =
      let d1 := (d.onMar fun m => { m with oars := upd m.oars k fun o => { o with buf := rest } }).keepEntry k
      let r := d1.planInto k b
      if (nth r.2.eng k).exposing then r.2.onEng k fun e => { e with next := some (b, r.1) }
      else r.2.startJump k b r.1 (max (d.now + 1) (nth r.2.eng k).t0) := by
  simp only [Dev.jumpPlanning, hdue, hb, Bool.not_true, Bool.false_eq_true, if_false]

/-- R130: the check's tick is kept while it fails, and cleared where it passes. -/
theorem checkHold_holdSince (hk : k < d.eng.length) (s : Stroke) : (nth (d.checkHold k s).eng k).holdSince =
    if d.wakeClear s k = true then none else some ((nth d.eng k).holdSince.getD d.now) := by
  rw [Dev.checkHold, onEng_eng, nth_upd_same hk]

theorem raiseLen_wanted (hw : d.lenWanted k = true) (hl : (nth d.eng k).len = false) : d.raiseLen k =
    d.onEng k fun e => { e with len := true, lenTick := d.now, lenSettled := e.motion.lenSettle = 0 } := by
  simp only [Dev.raiseLen, hw, hl, Bool.not_false, Bool.and_self, if_true]

theorem settleLen_due (hl : (nth d.eng k).len = true)
    (ht : (nth d.eng k).lenTick + usT (nth d.eng k).motion.lenSettle ≤ d.now) :
    d.settleLen k = d.onEng k fun e => { e with lenSettled := true } := by
  simp only [Dev.settleLen, hl, ht, decide_true, Bool.and_self, if_true]

/-- Settles O26: each event of the running device is its device step, where its conditions are met. -/
theorem exposureEventsComplete : Obligations.ExposureEventsComplete := by
  refine ⟨?fired, ?discarded, ?finished, ?backstop, ?dot, ?planned, ?lead, ?held, ?check, ?back, ?len, ?settled⟩
  case fired => exact fun k ed es b s hl he hc hf hfin hexp hlight =>
    exec_lgateTransition.trans ((onDev_live hl).trans (by rw [fireEdge_catch he hc hf hfin hexp, if_pos hlight]))
  case discarded => exact fun k ed es b s hl he hc hf hfin hexp hdark =>
    exec_lgateTransition.trans ((onDev_live hl).trans
      (by rw [fireEdge_catch he hc hf hfin hexp, if_neg (Bool.eq_false_iff.1 hdark)]))
  case finished => exact fun k ed es b s hl he hc hf hfin hexp =>
    exec_lgateTransition.trans ((onDev_live hl).trans (by rw [fireEdge_finish he hc hf hfin hexp]))
  case backstop => exact fun k b s hl hc hdue =>
    exec_finishBackstop.trans ((onDev_live hl).trans (by rw [backstop_due hc hdue]))
  case dot => exact fun k b s hl hc hdot hph hcompat hready hmax =>
    exec_dotSettleTimeout.trans ((onDev_live hl).trans (by rw [dotTimeout_due hc hdot hph hcompat hready hmax]))
  case planned => exact fun k b rest s hl hdue hb =>
    exec_jumpPlanning.trans ((onDev_live hl).trans (by rw [jumpPlanning_due hdue hb]))
  case lead => exact fun k b p s hl hc hp hph ht hhold hcompat hclear =>
    exec_jumpEnd.trans ((onDev_live hl).trans (by rw [jumpEnd_clear hc hp ht hph hhold hcompat hclear]))
  case held => exact fun k b p s hl hc hp ht h =>
    exec_jumpEnd.trans ((onDev_live hl).trans (by rw [jumpEnd_hold hc hp ht h, holdAt_inHand hc]))
  case check => exact fun d k s hk => checkHold_holdSince hk s
  case back => exact fun k b t s hl hph hc hs hw ht =>
    exec_catchHoldLimit.trans ((onDev_live hl).trans (by rw [giveBack_due hc hph hs hw ht]))
  case len => exact fun k s hl hw hlow =>
    exec_lenRise.trans ((onDev_live hl).trans (by rw [raiseLen_wanted hw hlow]))
  case settled => exact fun k s hl hhigh ht =>
    exec_lenSettleExpiry.trans ((onDev_live hl).trans (by rw [settleLen_due hhigh ht]))

end Sys2Proof.Proofs
end

section
/-! PROOFS. What the firing of a catch leaves of the engines (R188, R191): O27. -/

namespace Sys2Proof.Proofs

open Sys2Proof.Machine Sys2Proof.Laws

variable {k : Nat} {d t : Dev}

/-- The engines of a device are those of another but for the step scales that place k has read (R139). -/
def SameButScales (k : Nat) (d t : Dev) : Prop :=
  ∃ r : Engine → List (Nat × Nat), t.eng = upd d.eng k fun e => { e with scales := r e }

theorem SameButScales.refl : SameButScales k d d := ⟨Engine.scales, (List.modify_id ..).symm⟩

theorem SameButScales.cons (h : SameButScales k d t) (x : Nat × Nat) :
    SameButScales k d (t.onEng k fun e => { e with scales := x :: e.scales }) := by
  obtain ⟨r, ht⟩ := h
  exact ⟨fun e => x :: r e, by rw [onEng_eng, ht, upd_upd]; rfl⟩

/-- Scales read one after another leave the engines as they were but for the scales read. -/
theorem SameButScales.foldl_cons (f : Dev → Nat → Nat × Nat) (is : List Nat) (h : SameButScales k d t) :
    SameButScales k d (is.foldl (fun t i => t.onEng k fun e => { e with scales := f t i :: e.scales }) t) := by
  induction is generalizing t with
  | nil => exact h
  | cons i is ih => exact ih (h.cons (f t i))

theorem readScales_sameButScales (d : Dev) (k : Nat) (s : Stroke) : SameButScales k d (d.readScales k s) :=
  SameButScales.refl.foldl_cons (fun t i => (i, t.stepScale s i)) _

theorem markWake_eng (d : Dev) (k : Nat) (x y : Int) (ps : Rat) : (d.markWake k x y ps).eng = d.eng := by
  rw [Dev.markWake]
  split <;> rfl

theorem meltOn_eng (d : Dev) (k : Nat) : (d.meltOn k).eng = d.eng := rfl

/-- An engine whose catch `ed` has left the pad: `o` waits for its placement error, `r` are the scales read (R139, R180). -/
def withCatch (ed : Edge) (o : OpenEdge) (r : List (Nat × Nat)) (e : Engine) : Engine :=
  { e with
    lgate := true
    exposing := true
    edges := e.edges.drop 1
    catchPs := ed.optPs
    openEdges := e.openEdges ++ [o]
    openSlots := 800 - ed.slot
    stepIdx := 0
    stepEnergy := 0
    cellShare := 0
    cellPs := ed.optPs
    scales := r }

/-- R188: a fired catch stands in its own engine, and no other engine changes. -/
theorem fireCatch_eng (d : Dev) (k : Nat) (s : Stroke) (ed : Edge) : ∃ (o : OpenEdge) (r : Engine → List (Nat × Nat)),
    (d.fireCatch k s ed).eng = upd d.eng k fun e => withCatch ed o (r e) e := by
  simp only [Dev.fireCatch, apply_ite Dev.eng, meltOn_eng, markWake_eng, ite_self]
  obtain ⟨r, hr⟩ := readScales_sameButScales ((d.openEdge k s ed).onEng k _) k s
  rw [hr, onEng_eng, Dev.openEdge, onEng_eng, upd_upd, upd_upd]
  exact ⟨_, _, rfl⟩

/-- Settles O27: the engine of the catch is the one `withCatch` names, and the bank is changed at its place alone. -/
theorem catchOpensTheGate : Obligations.CatchOpensTheGate := by
  intro d k s ed hk
  obtain ⟨o, r, heng⟩ := fireCatch_eng d k s ed
  have hfired : nth (d.fireCatch k s ed).eng k = withCatch ed o (r (nth d.eng k)) (nth d.eng k) := by
    rw [heng, nth_upd_same hk]
  simp only [hfired]
  exact ⟨rfl, rfl, rfl, rfl, List.length_append .., rfl, rfl, rfl, rfl, fun j hj => by rw [heng, nth_upd_ne hj]⟩

end Sys2Proof.Proofs
end

section
/-! PROOFS. The control law (R201, R202): what bounds its output and its integrator, and how it starts under a preset
(R206, R208), and with it O43 and O44. -/

namespace Sys2Proof.Proofs

open Sys2Proof.Machine

section Rounding

variable {lo hi x : Int}

theorem clampI_mem (h : lo ≤ hi) : lo ≤ clampI lo hi x ∧ clampI lo hi x ≤ hi :=
  ⟨le_max_left .., max_le h (min_le_left ..)⟩

theorem clampI_of_mem (hl : lo ≤ x) (hh : x ≤ hi) : clampI lo hi x = x := by
  rw [clampI, min_eq_right hh, max_eq_right hl]

/-- R202: what is rounded to the nearest, ties away from zero, keeps its order. -/
theorem roundRat_mono {a b : Rat} (h : a ≤ b) : roundRat a ≤ roundRat b := by
  have floor_half_nonneg : ∀ q : Rat, 0 ≤ q → 0 ≤ (q + 1 / 2).floor := fun q hq =>
    Rat.le_floor_iff.2 (by push_cast; linarith)
  rw [roundRat, roundRat]
  split_ifs with ha hb hb
  · exact Rat.floor_monotone (by linarith)
  · exact absurd (ha.trans h) hb
  · have := floor_half_nonneg (-a) (by linarith)
    have := floor_half_nonneg b hb
    omega
  · exact neg_le_neg (Rat.floor_monotone (by linarith))

theorem q16_mono {a b : Int} (h : a ≤ b) : q16 a ≤ q16 b :=
  roundRat_mono (by gcongr)

theorem floor_add_half (n : Int) : ((n : Rat) + 1 / 2).floor = n := by
  refine le_antisymm (Int.lt_add_one_iff.1 (Rat.floor_lt_iff.2 ?_)) (Rat.le_floor_iff.2 ?_) <;> push_cast <;> linarith

theorem roundRat_intCast (n : Int) : roundRat n = n := by
  rw [roundRat, ← Int.cast_neg, floor_add_half, floor_add_half, neg_neg, ite_self]

@[simp] theorem q16_mul_65536 (n : Int) : q16 (n * 65536) = n := by
  rw [q16, Int.cast_mul, Int.cast_ofNat, mul_div_cancel_right₀ _ (by norm_num), roundRat_intCast]

/-- Between two whole units a value with 16 fractional bits stays when it is rounded. -/
theorem q16_mem (hl : lo * 65536 ≤ x) (hh : x ≤ hi * 65536) : lo ≤ q16 x ∧ q16 x ≤ hi :=
  ⟨q16_mul_65536 lo ▸ q16_mono hl, q16_mul_65536 hi ▸ q16_mono hh⟩

end Rounding

section Law

variable (t : LoopSlot) (c : SlotDesc) (x : LawIn)

/-- R201: the sum of feed-forward and terms, before any limit. -/
def lawSum : Int := x.ff + (t.law c x).2.p + (t.law c x).2.i + (t.law c x).2.d

theorem law_outNow : (t.law c x).1.outNow = q16 (t.law c x).2.u := rfl

/-- R201: the sum under the output's limits, then under the slew. -/
theorem law_u : (t.law c x).2.u =
    if c.slew = 0 then clampI (x.uMin * 65536) (x.uMax * 65536) (lawSum t c x)
    else clampI ((t.uPrev - c.slew) * 65536) ((t.uPrev + c.slew) * 65536)
      (clampI (x.uMin * 65536) (x.uMax * 65536) (lawSum t c x)) := rfl

theorem law_preset : (t.law c x).1.preset = false := rfl

variable {t c x}

/-- R206, R208: a preset asks of the integrator what the output before needs. -/
theorem law_i_of_preset (h : t.preset = true) : (t.law c x).2.i =
    clampI (c.iMin * 65536) (c.iMax * 65536) (t.uPrev * 65536 - x.ff - (t.law c x).2.p - (t.law c x).2.d) :=
  if_pos h

/-- R202: an integrator that is not frozen is clamped. -/
theorem law_integ_of_free (h : x.freeze = false) : ∃ y, (t.law c x).1.integ = clampI (c.iMin * 65536) (c.iMax * 65536) y :=
  ⟨_, if_neg (Bool.eq_false_iff.1 h)⟩

theorem law_u_limits (hu : x.uMin ≤ x.uMax) (hs : c.slew = 0 ∨ x.uMin ≤ t.uPrev ∧ t.uPrev ≤ x.uMax) :
    x.uMin * 65536 ≤ (t.law c x).2.u ∧ (t.law c x).2.u ≤ x.uMax * 65536 := by
  rw [law_u]
  obtain ⟨hl, hh⟩ := clampI_mem (x := lawSum t c x) (mul_le_mul_of_nonneg_right hu (by norm_num : (0 : Int) ≤ 65536))
  split_ifs with h0
  · exact ⟨hl, hh⟩
  · obtain ⟨hlp, hpu⟩ := hs.resolve_left h0
    rw [clampI]
    omega

theorem law_u_slew (h : c.slew ≠ 0) :
    (t.uPrev - c.slew) * 65536 ≤ (t.law c x).2.u ∧ (t.law c x).2.u ≤ (t.uPrev + c.slew) * 65536 := by
  rw [law_u, if_neg h]
  exact clampI_mem (by omega)

end Law

/-- Settles O43: the limits and the slew bound the term `u`, which rounds to the output; the integrator is clamped last. -/
theorem loopLawStaysInLimits : Obligations.LoopLawStaysInLimits := by
  intro t c x hu hi hs
  obtain ⟨hl, hh⟩ := law_u_limits hu hs
  obtain ⟨hmin, hmax⟩ := q16_mem hl hh
  refine ⟨hmin, hmax, fun hslew => ?slew, fun hfree => ?integ⟩
  case slew =>
    obtain ⟨hdown, hup⟩ := law_u_slew (t := t) (x := x) hslew
    obtain ⟨hlow, hhigh⟩ := q16_mem hdown hup
    rw [law_outNow, abs_le]
    omega
  case integ =>
    obtain ⟨y, hy⟩ := law_integ_of_free (t := t) (c := c) hfree
    rw [hy]
    exact clampI_mem (by omega)

/-- Settles O44: with the integrator that the preset asks for the sum is the output before, which no limit changes. -/
theorem presetIsBumpless : Obligations.PresetIsBumpless := by
  intro t c x hp hl hh hil hih
  have hi := law_i_of_preset (c := c) (x := x) hp
  rw [clampI_of_mem hil hih] at hi
  have hsum : lawSum t c x = t.uPrev * 65536 := by rw [lawSum, hi]; ring
  have hu : (t.law c x).2.u = t.uPrev * 65536 := by
    rw [law_u, hsum, clampI_of_mem (by omega) (by omega), clampI_of_mem (by omega) (by omega), ite_self]
  exact ⟨by rw [law_outNow, hu, q16_mul_65536], law_preset t c x⟩

end Sys2Proof.Proofs
end

section
/-! PROOFS. Gain tables: their order, their last point, and the command that loads them (R203 to R206), and with it O60. -/

namespace Sys2Proof.Proofs

open Sys2Proof.Machine Sys2Proof.Safety Sys2Proof.Laws

section Table

variable {t : GainTable} {bs : List Byte} {en i j : Nat}

theorem gainTable_ok_iff : t.ok = true ↔ (nth t.pts 0).1 = 0 ∧ ∀ i < 31, (nth t.pts i).1 < (nth t.pts (i + 1)).1 := by
  simp [GainTable.ok]

/-- In a table that rises no point lies beyond the last. -/
theorem point_le_last (h : t.ok = true) (hij : i + j = 31) : (nth t.pts i).1 ≤ (nth t.pts 31).1 := by
  induction j generalizing i with
  | zero => rw [← hij, Nat.add_zero]
  | succ j ih => exact ((gainTable_ok_iff.1 h).2 i (by omega)).le.trans (ih (by omega))

/-- R204: where no point lies beyond EN the last one's gains hold. -/
theorem gainLookup_of_all_le (hlen : t.pts.length = 32) (h : ∀ p ∈ t.pts, p.1 ≤ en) :
    gainLookup t en = (nth t.pts 31).2 := by
  have hall : (t.pts.zipIdx.filter fun p => p.1.1 ≤ en) = t.pts.zipIdx :=
    List.filter_eq_self.2 fun p hp => decide_eq_true (h p.1 (List.fst_mem_of_mem_zipIdx hp))
  have hlast : ((t.pts.zipIdx.filter fun p => p.1.1 ≤ en).map (·.2)).foldl max 0 = 31 := by
    rw [hall, List.zipIdx_map_snd, hlen]
    decide
  simp only [gainLookup, hlast, hlen]
  rfl

theorem nth_gainTable (hj : j < 32) : nth (gainTable bs).pts j = tablePoint bs j := by
  simp [gainTable, nth, List.getD_eq_getElem?_getD, hj]

/-- R204: a table as stored is unsound where its EN does not start at 0 or does not rise. -/
theorem gainTable_ok_eq_false (h : fieldOf bs 0 2 ≠ 0 ∨ ∃ j < 31, fieldOf bs (16 * (j + 1)) 2 ≤ fieldOf bs (16 * j) 2) :
    (gainTable bs).ok = false := by
  rw [← Bool.not_eq_true, gainTable_ok_iff]
  rintro ⟨hzero, hrise⟩
  obtain h | ⟨j, hj, h⟩ := h
  · rw [nth_gainTable (by omega)] at hzero
    exact h hzero
  · have hlt := hrise j hj
    rw [nth_gainTable (by omega), nth_gainTable (by omega)] at hlt
    exact absurd hlt (Nat.not_lt.2 h)

end Table

section Load

variable {x : Ctx} {mem : Dram} {d : Dev} {f n a c : Nat}

/-- The tables of a load with their numbers. -/
def numberedTables (bs : List Byte) (f n : Nat) : List (Nat × GainTable) :=
  (List.range n).map fun i => (f + i, gainTable (entryAt bs 512 i))

theorem mem_numberedTables {bs : List Byte} {p : Nat × GainTable} :
    p ∈ numberedTables bs f n ↔ ∃ i < n, (f + i, gainTable (entryAt bs 512 i)) = p := by
  simp [numberedTables]

theorem find?_tableBusy (hb : ∀ i < n, d.tableBusy (f + i) = false) :
    ((List.range n).map (f + ·)).find? d.tableBusy = none := by
  simpa using hb

variable (h1 : 1 ≤ n) (hn : f + n ≤ 128) (ha : a + 512 * n ≤ d.mc.hostLimit)
  (hb : ∀ i < n, d.tableBusy (f + i) = false) (hm : mem.marked a (512 * n) = [])
  (hc : crc32c (memBytes mem.mem a (512 * n)) = c)

include h1 hn ha in
theorem gains_inRange : ¬ (n = 0 ∨ 128 < f + n ∨ (! d.rangeOk a (512 * n)) = true) := by
  simp only [Dev.rangeOk, decide_eq_true ha, Bool.not_true, Bool.false_eq_true, or_false]
  omega

include h1 hn ha hb hm hc

/-- R203, R206: sound data whose tables all rise is held, and the slots that run under it start without a bump. -/
theorem loopGainsBody_sound (hok : ∀ i < n, (gainTable (entryAt (memBytes mem.mem a (512 * n)) 512 i)).ok = true) :
    loopGainsBody f n a c x mem d =
      let ts := numberedTables (memBytes mem.mem a (512 * n)) f n
      .done ((ts.foldl (fun d p => (d.onLoops fun l => l.putTable p.1 p.2).bumpless p.1) (d.activate a (512 * n))).log
        x 0x04 f (ts.flatMap fun p => (d.loops.table p.1).bytes) (ts.flatMap fun p => p.2.bytes)) := by
  have hfind : (numberedTables (memBytes mem.mem a (512 * n)) f n).find? (fun p => ! p.2.ok) = none := by
    rw [List.find?_eq_none]
    intro p hp
    obtain ⟨i, hi, rfl⟩ := mem_numberedTables.1 hp
    simp [hok i hi]
  rw [numberedTables] at hfind ⊢
  simp only [loopGainsBody, if_neg (gains_inRange h1 hn ha), find?_tableBusy hb, withData_sound hm hc, hfind,
    activate_loops, Res.done]

/-- R204: one table that does not rise turns them all away. -/
theorem loopGainsBody_failing {i : Nat} (hi : i < n)
    (hbad : (gainTable (entryAt (memBytes mem.mem a (512 * n)) 512 i)).ok = false) :
    ∃ k < n, loopGainsBody f n a c x mem d = .refuseWith (d.activate a (512 * n)) 0x21 (f + k) 0 [] [] := by
  have hsome : ((numberedTables (memBytes mem.mem a (512 * n)) f n).find? fun p => ! p.2.ok).isSome :=
    List.find?_isSome.2 ⟨_, mem_numberedTables.2 ⟨i, hi, rfl⟩, by simp [hbad]⟩
  obtain ⟨p, hp⟩ := Option.isSome_iff_exists.1 hsome
  obtain ⟨k, hk, rfl⟩ := mem_numberedTables.1 (List.mem_of_find?_eq_some hp)
  refine ⟨k, hk, ?_⟩
  rw [numberedTables] at hp
  simp only [loopGainsBody, if_neg (gains_inRange h1 hn ha), find?_tableBusy hb, withData_sound hm hc, hp]

end Load

/-- A command turned away once it has done `d`: its answer alone is added. -/
theorem runCmd_refusedWith {c : Instr} {body : Body} {s : State} {x : Ctx} {d : Dev} {st de : Nat} (h : Starts c s x)
    (hb : body x s.dram s.dev = .refuseWith d st de 0 [] []) :
    runCmd c body s = .next (turnedAway (withDev s d) x st de 0) := by
  rw [runCmd_starts h, hb]
  rfl

/-- Settles O60: the first table that does not rise is named; beyond the last point every point is behind. -/
theorem gainTablesMustAscend : Obligations.GainTablesMustAscend := by
  refine ⟨?refused, ?last⟩
  case refused =>
    intro m f n a c s x i hs h1 hn ha hb hm hc hi hbad
    obtain ⟨k, hk, hbody⟩ :=
      loopGainsBody_failing (x := x) h1 hn ha hb hm hc hi (gainTable_ok_eq_false hbad)
    exact ⟨k, hk, exec_loopGains.trans (runCmd_refusedWith hs hbody)⟩
  case last =>
    intro t en hlen hok hen
    refine gainLookup_of_all_le hlen fun p hp => ?_
    obtain ⟨j, hj, rfl⟩ := List.mem_iff_getElem.1 hp
    have hlast := point_le_last (i := j) (j := 31 - j) hok (by omega)
    rw [nth, List.getD_eq_getElem _ _ hj] at hlast
    exact hlast.trans hen

end Sys2Proof.Proofs
end

section
/-! PROOFS. What the bodies of the `loop` commands come to (R203 to R209, R212, R213, R222, R225 to R230), and with it O41. -/

namespace Sys2Proof.Proofs

open Sys2Proof.Machine Sys2Proof.Safety Sys2Proof.Laws

theorem eraseDups_of_nodup {α : Type} [BEq α] [LawfulBEq α] {l : List α} (h : l.Nodup) : l.eraseDups = l := by
  induction l with
  | nil => rfl
  | cons a l ih =>
    obtain ⟨ha, hl⟩ := List.nodup_cons.1 h
    rw [List.eraseDups_cons, List.filter_eq_self.2, ih hl]
    intro b hb
    simpa using fun e : b = a => ha (e ▸ hb)

/-- R213: destinations that are all different do not clash. -/
theorem clash_eq_false {ws : List (Nat × Nat)} (h : ws.Nodup) : clash ws = false := by
  simp [clash, eraseDups_of_nodup h]

/-- The one place of a range that passes a test. -/
theorem filter_range_eq_singleton {n p : Nat} {f : Nat → Bool} (hp : p < n) (h : ∀ q < n, f q = true ↔ q = p) :
    (List.range n).filter f = [p] := by
  have hcongr : (List.range n).filter f = (List.range n).filter (· = p) :=
    List.filter_congr fun q hq => Bool.eq_iff_iff.2 ((h q (List.mem_range.1 hq)).trans decide_eq_true_iff.symm)
  rw [hcongr, List.filter_eq, List.count_eq_one_of_mem List.nodup_range (List.mem_range.2 hp), List.replicate_one]

section Bodies

variable {x : Ctx} {mem : Dram} {d : Dev}

theorem loopConfigBody_inRange {ds : List SlotDesc} (h : ∀ c ∈ ds, SlotDesc.ok c = true) :
    loopConfigBody ds x mem d =
      .done (ds.foldl (fun d c => d.onSlot c.slot fun t => { t with staged := some c }) d) := by
  have hfind : ds.find? (fun c => ! SlotDesc.ok c) = none := List.find?_eq_none.2 fun c hc => by simp [h c hc]
  simp only [loopConfigBody, hfind]

theorem loopConfigBody_outOfRange {ds : List SlotDesc} {c : SlotDesc} (h : ds.find? (fun c => ! SlotDesc.ok c) = some c) :
    loopConfigBody ds x mem d = .refuse 0x21 c.slot 0 := by
  simp only [loopConfigBody, h, badArg]

/-- R213: with no layer released a sound staged copy is judged by its schedules. -/
theorem loopCommitBody_ok (hr : d.layers.released = none) (hok : d.loops.commitOk = true) (hw : d.writersOk = true) :
    loopCommitBody x mem d = d.commitFit x (allLoads (d.loops.committed.map fun c => (c.slot, c.rate))) := by
  rw [loopCommitBody, hr, hok, hw, Option.isSome_none, Bool.false_and, if_neg Bool.false_ne_true, if_neg (by simp)]

/-- R200, R227, R228: a staged copy whose schedules all fit comes into force. -/
theorem commitFit_fits {w : List (Nat × Nat × Nat)} (hfit : ∀ p ∈ w, p.2.2 ≤ 240) :
    d.commitFit x w =
      let t := d.commitLoops.onLoops fun l => { l with loads := w.map (·.2.2) }
      .done (t.log x 0x04 0xFFFF d.loops.image t.loops.image) (sha256 t.loops.image ++ w.flatMap fun p => u32 p.2.2) := by
  have hfind : w.find? (fun p => 240 < p.2.2) = none := List.find?_eq_none.2 fun p hp => by simpa using hfit p hp
  simp only [Dev.commitFit, hfind]

/-- R207, R213: slots with a descriptor enter a state in Ready where no two of them then share a destination. -/
theorem loopModeBody_ready {k st : Nat} {v : Option Int} (hst : st ≤ 2) (hm : d.mode.mode = .ready)
    (hd : ∀ n ∈ bitsOf 160 k, (d.slot n).desc ≠ none)
    (hc : ((bitsOf 160 k).foldl (fun d n => d.slotMode n st v) d).loops.clashes = false) :
    loopModeBody k st v x mem d =
      let t := (bitsOf 160 k).foldl (fun d n => d.slotMode n st v) d
      .done t.commandHeads ((bitsOf 160 k).flatMap fun n => u32 (t.slot n).st.code) := by
  have hdesc : ((bitsOf 160 k).any fun n => (d.slot n).desc.isNone) = false :=
    any_bitsOf_eq_false fun n hn => Option.isNone_eq_false_iff.2 (Option.isSome_iff_ne_none.2 (hd n hn))
  simp only [loopModeBody, hm, hdesc, hc, Nat.not_lt.2 hst, bne_self_eq_false, Bool.false_eq_true, false_and, or_self, if_false]

theorem loopSetpointBody_ofCommand {n : Nat} {v : Int} {c : SlotDesc} (hn : n < 160) (hd : (d.slot n).desc = some c)
    (hc : c.spSrc = 1) (hw : d.loops.writer 5 n = none) :
    loopSetpointBody n v x mem d = .done (d.onSlot n fun t => { t with cmd := v }) := by
  simp only [loopSetpointBody, hd, hc, hw, Nat.not_le.2 hn, ne_eq, not_true_eq_false, or_self, Option.isSome_none,
    Bool.false_eq_true, if_false]

theorem loopGearBody_inRange {e n : Nat} {i : Int} (he : e < 8) (h1 : 1 ≤ n) (hn : n ≤ 65535) :
    loopGearBody e i n x mem d =
      let t := d.onLoops fun l => { l with gears := l.gears.set e (i, n) }
      .done (t.log x 0x04 e (d.loops.gearBytes e) (t.loops.gearBytes e)) :=
  if_neg (by omega)

theorem loopIoBody_inRange {a : List (Int × Int)} {p : List Nat} (h : ∀ f ∈ p, 1 ≤ f ∧ f ≤ 20000) :
    loopIoBody a p x mem d =
      let t := d.onLoops fun l => { l with ain := a, pwmHz := p }
      .done (t.log x 0x04 0xFFFF d.loops.ioBytes t.loops.ioBytes) := by
  refine if_neg (Bool.not_eq_true _ ▸ List.any_eq_false.2 fun f hf => ?_)
  obtain ⟨h1, hmax⟩ := h f hf
  simp
  omega

theorem loopStatusBody_eq {k : Nat} : loopStatusBody k x mem d =
    .done d ((bitsOf 160 k).flatMap (fun n => (d.slot n).status) ++
      d.loops.inService.flatMap fun b => u32 (if b then 0 else 1)) := by
  have hword : (fun b => u32 (boolN (! b))) = fun b => u32 (if b then 0 else 1) := by
    funext b
    cases b <;> rfl
  rw [loopStatusBody, hword]

/-- R230: a trace of different slots into memory in range, with none under way and its leave given. -/
theorem loopTraceBody_granted {ks : List Nat} {n a : Nat} {t : Dev} (hne : ks ≠ []) (h1 : 1 ≤ n) (hn : n ≤ 1048576)
    (hks : ks.Nodup) (hd : ∀ k ∈ ks, k < 160 ∧ (d.slot k).desc ≠ none) (hr : d.rangeOk a (20 * ks.length * n) = true)
    (ht : d.loops.traces = []) (hg : d.request .trace 5 100 0 = (.granted, t)) :
    loopTraceBody ks n a x mem d = .done (t.onLoops fun l => { l with traces := [⟨ks, n, a, 0, true⟩] }) := by
  have hany : (ks.any fun k => 160 ≤ k || (d.slot k).desc.isNone) = false := List.any_eq_false.2 fun k hk => by
    obtain ⟨hlt, hsome⟩ := hd k hk
    simp [hlt, hsome]
  have hclash : clash (ks.map fun k => (k, 0)) = false :=
    clash_eq_false (hks.map fun _ _ h => (Prod.mk.inj h).1)
  simp only [loopTraceBody, hne, hany, hclash, hr, ht, hg, Nat.not_lt.2 hn, Nat.ne_of_gt h1, Bool.not_true,
    Bool.false_eq_true, or_self, ne_eq, not_true_eq_false, if_false]

theorem loopRestoreBody_allInService (h : ∀ p < 8, nth d.loops.inService p = true) : loopRestoreBody x mem d = .done d := by
  have hnone : ((List.range 8).filter fun p => ! nth d.loops.inService p) = [] :=
    List.filter_eq_nil_iff.2 fun p hp => by simp [h p (List.mem_range.1 hp)]
  simp only [loopRestoreBody, hnone, List.foldl_nil, if_true]

variable {p : Nat}

/-- R225: with one processor out of service the command ends as its self-test does. -/
theorem loopRestoreBody_oneOut (hp : p < 8) (hout : nth d.loops.inService p = false)
    (hin : ∀ q < 8, q ≠ p → nth d.loops.inService q = true) :
    loopRestoreBody x mem d = if (d.restoreProc p).1 then .done (d.restoreProc p).2
      else .refuseWith (d.restoreProc p).2 0x40 0 0 [] [] := by
  have hone : ((List.range 8).filter fun q => ! nth d.loops.inService q) = [p] := by
    refine filter_range_eq_singleton hp fun q hq => ⟨fun h => ?_, fun h => by simp [h, hout]⟩
    by_contra hne
    simp [hin q hq hne] at h
  simp only [loopRestoreBody, hone, List.foldl_cons, List.foldl_nil, Bool.true_and]

theorem restoreProc_passed (hf : d.flip.1 = true) (hl : d.blockLive 1 p = true) : d.restoreProc p =
    (true, ((List.range 160).filter (homeProc · = p)).foldl (fun d n =>
      d.onSlot n fun t => { t with proc := p, preset := t.preset || t.st == .auto, recent := [], consecutive := 0 })
      (d.flip.2.onLoops fun l => { l with inService := l.inService.set p true })) := by
  simp only [Dev.restoreProc, hf, hl, Bool.and_self, if_true]

theorem restoreProc_failed (hf : d.flip.1 = false) : d.restoreProc p = (false, d.flip.2) := by
  simp only [Dev.restoreProc, hf, Bool.false_and, Bool.false_eq_true, if_false]

end Bodies

/-- Settles O41: each command that starts runs its body; the self-test of `loop.restore` passes or fails. -/
theorem loopCommandsComplete : Obligations.LoopCommandsComplete := by
  refine ⟨?config, ?outOfRange, ?gains, ?commit, ?mode, ?setpoint, ?gear, ?io, ?status, ?trace, ?restoreNone, ?restoreOne⟩
  case config => exact fun m ds s x hs h =>
    exec_loopConfig.trans (runCmd_answered hs (loopConfigBody_inRange h))
  case outOfRange => exact fun m ds c s x hs h =>
    exec_loopConfig.trans (runCmd_turnedAway hs (loopConfigBody_outOfRange h))
  case gains => exact fun m f n a c s x hs h1 hn ha hb hm hc hok =>
    exec_loopGains.trans (runCmd_answered hs (loopGainsBody_sound h1 hn ha hb hm hc hok))
  case commit => exact fun m s x hs hr hok hw hfit =>
    exec_loopCommit.trans (runCmd_answered hs ((loopCommitBody_ok hr hok hw).trans (commitFit_fits hfit)))
  case mode => exact fun m k st v s x hs hst hm hd hc =>
    exec_loopMode.trans (runCmd_answered hs (loopModeBody_ready hst hm hd hc))
  case setpoint => exact fun m n v c s x hs hn hd hc hw =>
    exec_loopSetpoint.trans (runCmd_answered hs (loopSetpointBody_ofCommand hn hd hc hw))
  case gear => exact fun m e i n s x hs he h1 hn =>
    exec_loopGear.trans (runCmd_answered hs (loopGearBody_inRange he h1 hn))
  case io => exact fun m a p s x hs h => exec_loopIo.trans (runCmd_answered hs (loopIoBody_inRange h))
  case status => exact fun m k s x hs => exec_loopStatus.trans (runCmd_answered hs loopStatusBody_eq)
  case trace => exact fun m ks n a d s x hs hne h1 hn hks hd hr ht hg =>
    exec_loopTrace.trans (runCmd_answered hs (loopTraceBody_granted hne h1 hn hks hd hr ht hg))
  case restoreNone => exact fun m s x hs h =>
    exec_loopRestore.trans (runCmd_answered hs (loopRestoreBody_allInService h))
  case restoreOne =>
    intro m p s x hs hp hout hin hl
    have hbody := loopRestoreBody_oneOut (x := x) (mem := s.dram) hp hout hin
    cases hf : s.dev.flip.1 with
    | true =>
      rw [restoreProc_passed hf hl, if_pos rfl] at hbody
      rw [if_pos rfl]
      exact exec_loopRestore.trans (runCmd_answered hs hbody)
    | false =>
      rw [restoreProc_failed hf, if_neg Bool.false_ne_true] at hbody
      rw [if_neg Bool.false_ne_true]
      exact exec_loopRestore.trans (runCmd_refusedWith (d := s.dev.flip.2) hs hbody)

end Sys2Proof.Proofs
end

section
/-! PROOFS. What the events of the loop array do: overruns, the migration of slots, and their execution (R216, R218,
R220 to R225), and with it O42. -/

namespace Sys2Proof.Proofs

open Sys2Proof.Machine Sys2Proof.Safety Sys2Proof.Laws

section Overrun

variable {d : Dev} {n m : Nat} {f : LoopSlot → LoopSlot}

theorem slot_onSlot_same (hn : n < d.loops.slots.length) : (d.onSlot n f).slot n = f (d.slot n) := nth_upd_same hn

theorem slot_onSlot_ne (h : m ≠ n) : (d.onSlot n f).slot m = d.slot m := nth_upd_ne h

theorem onSlot_id (d : Dev) (n : Nat) : d.onSlot n id = d := by
  rw [Dev.onSlot, upd, List.modify_id]

/-- R230: a trace reports of the slots and changes none. -/
@[simp] theorem traceSlot_slots (d : Dev) (n : Nat) (t : LawTerms) : (d.traceSlot n t).loops.slots = d.loops.slots := by
  rw [Dev.traceSlot]
  split
  · dsimp only
    split_ifs <;> rfl
  · rfl

/-- R220: a period in which a slot that is due has not completed enters its history. -/
def withOverrun (d : Dev) (n : Nat) : Dev :=
  (d.traceSlot n (d.slot n).idleTerms).onSlot n fun t => { t with
    ovr := true, overruns := t.overruns + 1, consecutive := t.consecutive + 1, recent := (true :: t.recent).take 256
    lastRun := d.now + 1 }

theorem withOverrun_consecutive (hn : n < d.loops.slots.length) :
    ((withOverrun d n).slot n).consecutive = (d.slot n).consecutive + 1 := by
  rw [withOverrun, slot_onSlot_same (by rwa [traceSlot_slots]), Dev.slot, traceSlot_slots, Dev.slot]

theorem slotOverrun_due (h : d.slotDue n = true) : d.slotOverrun n =
    if n < 128 ∧ 2 ≤ ((withOverrun d n).slot n).consecutive then (withOverrun d n).procFail (d.slot n).proc 1
    else if 16 ≤ (((withOverrun d n).slot n).recent.filter (· == true)).length then
      (withOverrun d n).procFail (d.slot n).proc 2
    else withOverrun d n := by
  rw [Dev.slotOverrun, h]
  rfl

end Overrun

section Migration

variable {d t : Dev} {n m : Nat}

/-- R223: the next processor in service is found round the ring of eight. -/
theorem hostFor_inService {l : Loops} {p : Nat} (h : ∃ q < 8, nth l.inService q = true) :
    nth l.inService (l.hostFor p n) = true := by
  obtain ⟨q, hq, hin⟩ := h
  rw [Loops.hostFor]
  generalize (if homeProc n = p then migrateTo (homeProc n) n else migrateTo p n) = r
  have hmem : q ∈ (List.range 8).map fun i => (r + i) % 8 :=
    List.mem_map.2 ⟨(q + 8 - r % 8) % 8, List.mem_range.2 (by omega), by omega⟩
  obtain ⟨k, hk⟩ := Option.isSome_iff_exists.1 (List.find?_isSome.2 ⟨q, hmem, hin⟩)
  rw [hk, Option.getD_some]
  exact List.find?_some hk

/-- The processor on which a slot lies is in service. -/
def Served (d : Dev) (n : Nat) : Prop := nth d.loops.inService (d.slot n).proc = true

/-- R223: a slot taken over by a processor presets, its history behind it. -/
def takenOver (q : Nat) (t : LoopSlot) : LoopSlot :=
  { t with proc := q, preset := t.preset || t.st == .auto, consecutive := 0, recent := [] }

/-- R223: one slot leaves a processor that is out of service. -/
def adopt (d : Dev) (n : Nat) : Dev :=
  if nth d.loops.inService (d.slot n).proc then d
  else d.onSlot n (takenOver (d.loops.hostFor (d.slot n).proc n))

theorem migrateLoops_failing (h : d.loops.failing ≠ none) :
    d.migrateLoops = ((List.range 160).foldl adopt d).onLoops fun l => { l with failing := none } := by
  rw [Dev.migrateLoops, if_neg (by simpa using h)]
  rfl

theorem adopt_of_served (h : Served d n) : adopt d n = d := if_pos h

theorem adopt_of_not_served (h : ¬ Served d n) :
    adopt d n = d.onSlot n (takenOver (d.loops.hostFor (d.slot n).proc n)) := if_neg h

/-- The device is another but for the slots themselves. -/
def OtherSlots (d t : Dev) : Prop :=
  ∃ ss, ss.length = d.loops.slots.length ∧ t = d.onLoops fun l => { l with slots := ss }

theorem OtherSlots.refl : OtherSlots d d := ⟨d.loops.slots, rfl, rfl⟩

theorem OtherSlots.adopt (h : OtherSlots d t) (n : Nat) : OtherSlots d (adopt t n) := by
  rw [Proofs.adopt]
  split_ifs
  · exact h
  · obtain ⟨ss, hlen, rfl⟩ := h
    exact ⟨_, (List.length_modify ..).trans hlen, rfl⟩

theorem OtherSlots.foldl_adopt (h : OtherSlots d t) (ns : List Nat) : OtherSlots d (ns.foldl Proofs.adopt t) := by
  induction ns generalizing t with
  | nil => exact h
  | cons n ns ih => exact ih (h.adopt n)

theorem OtherSlots.inService (h : OtherSlots d t) : t.loops.inService = d.loops.inService := by
  obtain ⟨ss, -, rfl⟩ := h
  rfl

theorem OtherSlots.length (h : OtherSlots d t) : t.loops.slots.length = d.loops.slots.length := by
  obtain ⟨ss, hlen, rfl⟩ := h
  exact hlen

theorem adopt_served (hq : ∃ q < 8, nth d.loops.inService q = true) (hn : n < d.loops.slots.length) :
    Served (adopt d n) n := by
  by_cases h : Served d n
  · rwa [adopt_of_served h]
  · rw [adopt_of_not_served h, Served, slot_onSlot_same hn]
    exact hostFor_inService hq

theorem Served.adopt (h : Served d m) (n : Nat) : Served (adopt d n) m := by
  by_cases hn : Served d n
  · rwa [adopt_of_served hn]
  · have hne : m ≠ n := fun e => hn (e ▸ h)
    rw [adopt_of_not_served hn, Served, slot_onSlot_ne hne]
    exact h

/-- Slots that adopt one after another are all served, and so is one that was. -/
theorem foldl_adopt_served (hq : ∃ q < 8, nth d.loops.inService q = true) (hm : m < d.loops.slots.length) {ns : List Nat}
    (h : m ∈ ns ∨ Served d m) : Served (ns.foldl adopt d) m := by
  induction ns generalizing d with
  | nil => exact h.resolve_left List.not_mem_nil
  | cons n ns ih =>
    have hother : OtherSlots d (adopt d n) := OtherSlots.refl.adopt n
    refine ih (hother.inService ▸ hq) (hother.length ▸ hm) ?_
    obtain h | h := h
    · obtain rfl | h := List.mem_cons.1 h
      · exact .inr (adopt_served hq hm)
      · exact .inl h
    · exact .inr (h.adopt n)

end Migration

section Records

variable {d t : Dev}

/-- What decides whose turn it is, and whether features are kept, is the same in both. -/
structure SameTurns (d t : Dev) : Prop where
  loops : t.loops = d.loops
  time : t.time = d.time
  take : t.recd.take = d.recd.take

theorem SameTurns.refl : SameTurns d d := ⟨rfl, rfl, rfl⟩

section Store

variable (h : SameTurns d t)

include h

theorem SameTurns.withRecd {r : Recorder} (hr : r.take = t.recd.take) : SameTurns d { t with recd := r } :=
  ⟨h.loops, h.time, hr.trans h.take⟩

theorem SameTurns.onMelt (k : Nat) (f : Melt → Melt) : SameTurns d (t.onMelt k f) := ⟨h.loops, h.time, h.take⟩

theorem SameTurns.raise (v : Nat) : SameTurns d (t.raise v) := ⟨h.loops, h.time, h.take⟩

theorem SameTurns.panicCheck : SameTurns d t.panicCheck := by
  rw [Dev.panicCheck]
  dsimp only
  split_ifs <;> exact ⟨h.loops, h.time, h.take⟩

theorem SameTurns.stage (c : RecClass) (bs : List Byte) : SameTurns d (t.stage c bs) := by
  simp only [Dev.stage]
  split_ifs
  · refine SameTurns.raise (SameTurns.panicCheck (h.withRecd ?_)) _
    rfl
  · refine SameTurns.panicCheck (h.withRecd ?_)
    rfl

theorem SameTurns.emitDrops : SameTurns d t.emitDrops := by
  rw [Dev.emitDrops]
  refine List.foldlRecOn _ _ h fun u hu a _ => ?_
  dsimp only
  split_ifs
  · exact hu
  · refine SameTurns.stage (hu.withRecd ?_) ..
    rfl

theorem SameTurns.tagContour (c : RecClass) (k : Nat) (bs : List Byte) : SameTurns d (t.tagContour c k bs) := by
  rw [Dev.tagContour]
  dsimp only
  split_ifs
  · exact h.withRecd rfl
  · exact h

/-- R260: a record that is staged, or dropped, is the recorder's alone. -/
theorem SameTurns.intake (c : RecClass) (k : Nat) (bs : List Byte) : SameTurns d (t.intake c k bs) := by
  have hdrops : SameTurns d (if c = .event then t.emitDrops else t) := by
    split_ifs
    · exact h.emitDrops
    · exact h
  rw [Dev.intake]
  generalize (if c = .event then t.emitDrops else t) = u at hdrops ⊢
  split
  · exact h
  · dsimp only
    split
    · exact (hdrops.stage ..).tagContour ..
    · exact hdrops.withRecd rfl

theorem SameTurns.eventNow (k kind : Nat) (bs : List Byte) : SameTurns d (t.eventNow k kind bs) := by
  rw [Dev.eventNow, Dev.eventRec]
  split_ifs
  · exact h
  · exact h.intake ..

theorem SameTurns.pdChannel (k c : Nat) : SameTurns d (t.pdChannel k c).2 := by
  simp only [Dev.pdChannel]
  split_ifs <;> exact ⟨h.loops, h.time, h.take⟩

/-- R235: features formed leave the loop array, the time and the take as they are. -/
theorem SameTurns.pdForm (k : Nat) : SameTurns d (t.pdForm k) := by
  have hchannels := ((h.pdChannel k 0).pdChannel k 1).pdChannel k 2
  simp only [Dev.pdForm]
  split_ifs
  · exact (hchannels.onMelt ..).eventNow ..
  · exact hchannels.onMelt ..

end Store

theorem SameTurns.slot (h : SameTurns d t) (n : Nat) : t.slot n = d.slot n := by
  rw [Dev.slot, h.loops, Dev.slot]

theorem SameTurns.now (h : SameTurns d t) : t.now = d.now := congrArg Time.tick h.time

theorem SameTurns.slotTurn (h : SameTurns d t) (n : Nat) : t.slotTurn n = d.slotTurn n := by
  simp only [Dev.slotTurn, h.slot, h.now, h.loops]

end Records

section Turn

variable {d : Dev} {n a b : Nat} {c : SlotDesc}

theorem slotKind_scanner (hn : n < 96) : slotKind n = .scanner := if_pos hn

theorem slotKind_melt (h96 : 96 ≤ n) (hn : n < 128) : slotKind n = .melt := by
  rw [slotKind, if_neg (by omega), if_pos hn]

theorem slotKind_rest (hn : 128 ≤ n) : slotKind n ≠ .scanner ∧ slotKind n ≠ .melt := by
  rw [slotKind, if_neg (by omega), if_neg (by omega)]
  split_ifs <;> decide

theorem slotTurn_lastRun (hd : (d.slot n).desc = some c) (ht : d.slotTurn n = true) : (d.slot n).lastRun ≠ d.now + 1 := by
  simp only [Dev.slotTurn, hd, Bool.and_eq_true, decide_eq_true_eq] at ht
  obtain ⟨⟨-, hlast⟩, -⟩ := ht
  exact hlast

section Due

variable (hd : (d.slot n).desc = some c) (ht : d.slotTurn n = true) (hs : (d.slot n).st ≠ .off)

include hd ht hs

theorem runSlot_scanner (hn : n < 96) : d.runSlot n a b = Dev.slotRan (d.runScanner n c) n d.now := by
  simp only [Dev.runSlot, hd, ht, slotKind_scanner hn, beq_false_of_ne hs, Bool.not_true, Bool.false_eq_true, if_false]

theorem runSlot_melt (h96 : 96 ≤ n) (hn : n < 128) : d.runSlot n a b = Dev.slotRan (d.runMelt n c) n d.now := by
  simp only [Dev.runSlot, hd, ht, slotKind_melt h96 hn, beq_false_of_ne hs, Bool.not_true, Bool.false_eq_true, if_false]

theorem runSlot_general (hn : 128 ≤ n) : d.runSlot n a b = Dev.slotRan (d.runGeneral n c a b) n d.now := by
  obtain ⟨hscanner, hmelt⟩ := slotKind_rest hn
  simp only [Dev.runSlot, hd, ht, beq_false_of_ne hs, Bool.not_true, Bool.false_eq_true, if_false]

end Due

variable {s : State}

/-- R201: outside the melt-pool slots an execution is the slot's own. -/
theorem exec_loopSlotExecute_notMelt (hl : Live (.loopSlotExecute n a b) s) (hn : n < 96 ∨ 128 ≤ n) :
    exec (.loopSlotExecute n a b) s = .next (withDev s (s.dev.runSlot n a b)) := by
  have hperiod : s.dev.pdPeriod n = s.dev := if_neg (by omega)
  have hformed : (decide (96 ≤ n) && decide (n < 128)) = false := by
    rw [← Bool.decide_and, decide_eq_false (by omega)]
  rw [exec_loopSlotExecute, execLoopSlotExecute, onDev_live hl, hperiod, hformed]
  rfl

/-- R235, R247: a melt-pool slot runs behind the features of its oar, of which no record is kept below take FEATURES. -/
theorem exec_loopSlotExecute_melt (hl : Live (.loopSlotExecute n a b) s) (h96 : 96 ≤ n) (hn : n < 128)
    (ho : s.dev.oarExists (n - 96) = true) (hd : (s.dev.slot n).desc = some c) (ht : s.dev.slotTurn n = true)
    (hnow : s.dev.now % 4 = n % 4) (htake : s.dev.recd.take < 2) :
    exec (.loopSlotExecute n a b) s = .next (withDev s ((s.dev.pdForm (n - 96)).runSlot n a b)) := by
  have hperiod : s.dev.pdPeriod n = s.dev.pdForm (n - 96) := by
    rw [Dev.pdPeriod, if_pos ⟨h96, hn, hnow, slotTurn_lastRun hd ht, ho⟩, ht]
    exact onSlot_id ..
  have hrecord : (s.dev.pdForm (n - 96)).pdRecord (n - 96) = s.dev.pdForm (n - 96) := by
    rw [Dev.pdRecord, (SameTurns.refl.pdForm _).take, if_pos htake]
  rw [exec_loopSlotExecute, execLoopSlotExecute, onDev_live hl]
  simp only [hperiod, hrecord, ite_self]

end Turn

/-- Settles O42: an event of the running device is its device step; that step follows the due slot or the failed processor. -/
theorem loopEventsComplete : Obligations.LoopEventsComplete := by
  refine ⟨?sound, ?failed, ?migration, ?overrunFast, ?overrun, ?scanner, ?melt, ?general⟩
  case sound => exact fun p s hl => exec_loopSelfTest.trans (onDev_live hl)
  case failed =>
    intro p v s hl hv
    have hverdict : v = 3 ∨ v = 4 ∨ v = 5 := by simpa using hv
    exact exec_loopSelfTest.trans ((onDev_live hl).trans (by rw [if_pos hverdict]))
  case migration =>
    intro s hl hf hq
    have hother : OtherSlots s.dev ((List.range 160).foldl adopt s.dev) := OtherSlots.refl.foldl_adopt _
    have hserved : ∀ n < 160, n < s.dev.loops.slots.length → Served ((List.range 160).foldl adopt s.dev) n :=
      fun n hn hlen => foldl_adopt_served hq hlen (.inl (List.mem_range.2 hn))
    have hexec : exec .loopMigration s = .next (withDev s s.dev.migrateLoops) := exec_loopMigration.trans (onDev_live hl)
    rw [migrateLoops_failing hf] at hexec
    obtain ⟨ss, hlen, hdev⟩ := hother
    rw [hdev] at hexec hserved
    exact ⟨_, hexec, rfl, rfl, hlen, fun n hn hss => hserved n hn (hlen ▸ hss)⟩
  case overrunFast =>
    intro n s hl hdue hn hlen
    refine exec_loopSlotOverrun.trans ((onDev_live hl).trans ?_)
    rw [slotOverrun_due hdue, withOverrun_consecutive hlen]
    simp only [hn, true_and, Nat.succ_le_succ_iff]
    rfl
  case overrun =>
    intro n s hl hdue h128 hn
    refine exec_loopSlotOverrun.trans ((onDev_live hl).trans ?_)
    rw [slotOverrun_due hdue, if_neg (by omega)]
    rfl
  case scanner => exact fun n a b c s hl hn hd ht hs =>
    (exec_loopSlotExecute_notMelt hl (.inl hn)).trans (by rw [runSlot_scanner hd ht hs hn]; rfl)
  case melt =>
    intro n a b c s hl h96 hn ho hd ht hs hnow htake
    have hsame := (SameTurns.refl (d := s.dev)).pdForm (n - 96)
    rw [exec_loopSlotExecute_melt hl h96 hn ho hd ht hnow htake,
      runSlot_melt (by rwa [hsame.slot]) (by rwa [hsame.slotTurn]) (by rwa [hsame.slot]) h96 hn, hsame.now]
    rfl
  case general => exact fun n a b c s hl h128 hn hd ht hs =>
    (exec_loopSlotExecute_notMelt hl (.inr h128)).trans (by rw [runSlot_general hd ht hs h128]; rfl)

end Sys2Proof.Proofs
end

section
/-! PROOFS. The camera of an oar, its frame stream, and the recorder (R232, R234, R238, R247, R248, R255, R257, R258,
R261, R263), and with it O45. -/

namespace Sys2Proof.Proofs

open Sys2Proof.Machine Sys2Proof.Safety Sys2Proof.Laws

section Stream

variable {d t : Dev} {k : Nat}

theorem onMelt_onMelt (d : Dev) (k : Nat) (f g : Melt → Melt) : (d.onMelt k f).onMelt k g = d.onMelt k (g ∘ f) :=
  congrArg (fun ms => { d with melt := ms }) upd_upd

/-- R247: frames of an oar are due under take FRAMES, and under a lower one while a stroke kept in full exposes. -/
theorem streamDue_iff : d.streamDue k = true ↔ d.recd.take = 3 ∨ 1 ≤ d.recd.take ∧ d.fullNow k = true := by
  simp only [Dev.streamDue, Bool.or_eq_true, Bool.and_eq_true, decide_eq_true_eq]

theorem streamDue_eq_false (h : d.recd.take = 0 ∨ d.recd.take ≠ 3 ∧ d.fullNow k = false) : d.streamDue k = false := by
  refine Bool.eq_false_iff.2 fun hdue => ?_
  obtain htake | ⟨htake, hfull⟩ := streamDue_iff.1 hdue
  · omega
  · obtain h0 | ⟨-, hnot⟩ := h
    · omega
    · exact Bool.false_ne_true (hnot.symm.trans hfull)

/-- R261: a stream that has its leave, or waits for it, notes the frame that is due and asks for nothing. -/
theorem streamAsk_asked (h : (nth d.melt k).grant ≠ none ∨ (nth d.melt k).waiting = true) :
    d.streamAsk k = d.onMelt k fun m => { m with lastDue := d.now } :=
  if_pos (h.imp Option.isSome_iff_ne_none.2 .inl)

/-- R261: a stream without leave asks for it, and holds it from the tick at which it is granted. -/
theorem streamAsk_granted (hg : (nth d.melt k).grant = none) (hw : (nth d.melt k).waiting = false)
    (hc : (nth d.recd.rings 2).configured = true)
    (hr : (d.onMelt k fun m => { m with lastDue := d.now }).request (.stream k) 5 200 0 = (.granted, t)) :
    d.streamAsk k = t.onMelt k fun m => { m with grant := some d.now } := by
  simp only [Dev.streamAsk, hg, hw, hc, hr, Option.isSome_none, Bool.not_true, Bool.false_eq_true, or_self, if_false]

end Stream

section Exposure

variable {s : State} {k : Nat}

/-- R232, R247: the device once an exposure of an oar has started: its tick, the take and the setting in force stand in line. -/
def exposed (d : Dev) (k : Nat) : Dev :=
  d.onMelt k fun m => { m with starts := m.starts ++ [(d.now, d.recd.take, m.cam)] }

theorem exposed_grant (d : Dev) (k : Nat) : (nth (exposed d k).melt k).grant = (nth d.melt k).grant :=
  nth_upd_keeps (p := Melt.grant) fun _ => rfl

theorem exposed_waiting (d : Dev) (k : Nat) : (nth (exposed d k).melt k).waiting = (nth d.melt k).waiting :=
  nth_upd_keeps (p := Melt.waiting) fun _ => rfl

theorem exposed_lastDue (d : Dev) (k : Nat) : ((exposed d k).onMelt k fun m => { m with lastDue := (exposed d k).now }) =
    d.onMelt k fun m => { m with starts := m.starts ++ [(d.now, d.recd.take, m.cam)], lastDue := d.now } :=
  onMelt_onMelt ..

/-- R232: a running camera at its period, not yet exposed at this tick, starts an exposure; a frame due asks for the stream. -/
theorem exec_cameraExposureStart_due (hl : Live (.cameraExposureStart k) s) (hr : s.dev.camRuns k = true)
    (hp : s.dev.now % max 1 (nth s.dev.melt k).cam.period = 0) (hf : ∀ e ∈ (nth s.dev.melt k).starts, e.1 ≠ s.dev.now) :
    exec (.cameraExposureStart k) s = .next (withDev s
      (if s.dev.streamDue k then (exposed s.dev k).streamAsk k else exposed s.dev k)) := by
  have hany : ((nth s.dev.melt k).starts.any (·.1 = s.dev.now)) = false :=
    List.any_eq_false.2 fun e he => by simp [hf e he]
  rw [exec_cameraExposureStart, execCameraExposureStart, onDev_live hl]
  simp only [hr, hp, hany, decide_true, Bool.not_false, Bool.and_self, if_true]
  rfl

theorem exec_cameraExposureStart_outOfPeriod (hl : Live (.cameraExposureStart k) s)
    (hp : s.dev.now % max 1 (nth s.dev.melt k).cam.period ≠ 0) : exec (.cameraExposureStart k) s = .next s := by
  rw [exec_cameraExposureStart, execCameraExposureStart, onDev_live hl]
  simp only [hp, decide_false, Bool.and_false, Bool.false_and, Bool.false_eq_true, if_false]
  rfl

end Exposure

section FrameEnd

variable {s : State} {k : Nat}

/-- R238. -/
theorem exec_cameraFeaturesReady_ended {r : CamRx} (hl : Live (.cameraFeaturesReady k) s)
    (hr : (nth s.dev.melt k).rx = some r) (he : r.eof = true) :
    exec (.cameraFeaturesReady k) s = .next (withDev s (s.dev.camFinish k r false)) := by
  rw [exec_cameraFeaturesReady, execCameraFeaturesReady, onDev_live hl]
  simp only [hr, he, if_true]

/-- R234: a frame under way whose two periods are over. -/
theorem exec_cameraFrameDeadline_late {r : CamRx} (hl : Live (.cameraFrameDeadline k) s)
    (hr : (nth s.dev.melt k).rx = some r) (he : r.eof = false)
    (ht : r.startTick + 2 * (nth s.dev.melt k).rxCam.period ≤ s.dev.now) :
    exec (.cameraFrameDeadline k) s = .next (withDev s (s.dev.camFinish k r true)) := by
  rw [exec_cameraFrameDeadline, execCameraFrameDeadline, onDev_live hl]
  simp only [hr, he, ht, Bool.not_false, decide_true, Bool.and_self, if_true]

/-- R234: with no frame under way the oldest exposure whose two periods are over is lost. -/
theorem exec_cameraFrameDeadline_lost {t n : Nat} {c : CameraArg} {q : List (Nat × Nat × CameraArg)}
    (hl : Live (.cameraFrameDeadline k) s) (hr : (nth s.dev.melt k).rx = none)
    (hs : (nth s.dev.melt k).starts = (t, n, c) :: q) (ht : t + 2 * c.period ≤ s.dev.now) :
    exec (.cameraFrameDeadline k) s = .next (withDev s (s.dev.lostFrame k t n c)) := by
  rw [exec_cameraFrameDeadline, execCameraFrameDeadline, onDev_live hl]
  simp only [hr, hs, ht, if_true]

/-- R261. -/
theorem exec_frameStreamRelease_idle (hl : Live (.frameStreamRelease k) s)
    (hg : (nth s.dev.melt k).grant ≠ none ∨ (nth s.dev.melt k).waiting = true)
    (ht : (nth s.dev.melt k).lastDue + msT 1 ≤ s.dev.now) :
    exec (.frameStreamRelease k) s = .next (withDev s
      ((s.dev.release (isStream k)).onMelt k fun m => { m with grant := none, waiting := false })) := by
  have hasked : ((nth s.dev.melt k).grant.isSome || (nth s.dev.melt k).waiting) = true := by
    rwa [Bool.or_eq_true, Option.isSome_iff_ne_none]
  rw [exec_frameStreamRelease, execFrameStreamRelease, onDev_live hl]
  simp only [hasked, ht, decide_true, Bool.and_self, if_true]

end FrameEnd

section Bodies

variable {x : Ctx} {mem : Dram} {d : Dev} {r : Nat}

/-- R255: a ring within its sizes, in range, on ground that neither its control block nor another ring holds. -/
theorem recRingBody_sound {b z md cb l : Nat} (hr : r < 3) (hb : b % 65536 = 0) (hz : z % 65536 = 0)
    (hmin : (ringSizes r).1 ≤ z) (hmax : z ≤ (ringSizes r).2) (hmd : md ≤ 1) (hbase : d.rangeOk b z = true)
    (hcb : d.rangeOk cb 64 = true) (hown : overlap b z cb 64 = false)
    (hfree : ∀ p ∈ d.recd.ranges r, overlap p.1 p.2 b z = false ∧ overlap p.1 p.2 cb 64 = false) :
    recRingBody r b z md cb l x mem d =
      let g : Ring := { Ring.reset with
        configured := true, base := b, size := z, overwrite := decide (md = 1), cb := cb, level := l }
      .done ((d.onRec fun q => { q with rings := q.rings.set r g }).log x 0x0F r
        (ringBytes (nth d.recd.rings r)) (ringBytes g)) := by
  have hothers : ((d.recd.ranges r).any fun p => [(b, z), (cb, 64)].any fun q => overlap p.1 p.2 q.1 q.2) = false :=
    List.any_eq_false.2 fun p hp => by
      obtain ⟨hring, hblock⟩ := hfree p hp
      simp [hring, hblock]
  simp only [recRingBody, hothers, hb, hz, hbase, hcb, hown, Nat.not_le.2 hr, Nat.not_lt.2 hmin, Nat.not_lt.2 hmax,
    Nat.not_lt.2 hmd, decide_false, ne_eq, not_true_eq_false, Bool.not_true, Bool.or_self, Bool.false_eq_true, if_false]

/-- R247, R248: a take whose rings are configured. -/
theorem recTakeBody_inRange {t n g : Nat} (ht : t ≤ 3) (h1 : 1 ≤ n) (hn : n ≤ 1000) (hg : g ≤ 1)
    (hc : ∀ r < t, (nth d.recd.rings r).configured = true) :
    recTakeBody t n g x mem d = .done
      ((d.onRec fun q => { q with next := some (t, n, decide (g = 1)) }).log x 0x0F 0xFFFF
        (takeBytes d.recd.take d.recd.decim d.recd.gated) (takeBytes t n (decide (g = 1))))
      (takeBytes t n (decide (g = 1))) := by
  have hany : ((List.range t).any fun r => ! (nth d.recd.rings r).configured) = false :=
    List.any_eq_false.2 fun r hr => by simp [hc r (List.mem_range.1 hr)]
  exact if_neg (by simp only [hany, Bool.false_eq_true, or_false]; omega)

/-- R258: a total between what was consumed before and what was written. -/
theorem recConsumeBody_inRange {t : Nat} (hr : r < 3) (hc : (nth d.recd.rings r).configured = true)
    (hmin : (nth d.recd.rings r).consumed ≤ t) (hmax : t ≤ (nth d.recd.rings r).written) :
    recConsumeBody r t x mem d = .done (d.onRec fun q => { q with rings := upd q.rings r (·.consumeTo t) }) :=
  if_neg (by simp only [hc, Bool.not_true, Bool.false_eq_true, false_or]; omega)

theorem recConsumeBody_outOfRange {t : Nat} (h : 3 ≤ r ∨ (nth d.recd.rings r).configured = false ∨
    t < (nth d.recd.rings r).consumed ∨ (nth d.recd.rings r).written < t) :
    recConsumeBody r t x mem d = .refuse 0x21 0 0 :=
  if_pos (by rwa [Bool.not_eq_true'])

end Bodies

section ControlBlock

variable {s : State} {r : Nat}

/-- R257: the block of a ring with something new follows what is staged. -/
theorem exec_controlBlockUpdate_dirty {t : Nat} (hl : Live (.controlBlockUpdate r) s)
    (hc : (nth s.dev.recd.rings r).configured = true) (ht : (nth s.dev.recd.rings r).dirtyTick = some t) :
    exec (.controlBlockUpdate r) s = .next (withMem s (recWrites s.dram <|
      let f := s.dev.flushStaging
      let g : Ring := { nth f.1.recd.rings r with dirtyTick := none, updS := s.dev.secLow, updNs := s.dev.nsNow }
      (f.1.onRec fun q => { q with rings := q.rings.set r g }, f.2 ++ [.write g.cb g.block]))) := by
  rw [exec_controlBlockUpdate, execControlBlockUpdate, onMem_live hl]
  simp only [hc, ht, Option.isNone_some, Bool.not_true, Bool.false_eq_true, or_self, if_false]

/-- Log 17: with nothing new in the ring, only what is staged. -/
theorem exec_controlBlockUpdate_clean (hl : Live (.controlBlockUpdate r) s)
    (ht : (nth s.dev.recd.rings r).dirtyTick = none) :
    exec (.controlBlockUpdate r) s = .next (withMem s (recWrites s.dram s.dev.flushStaging)) := by
  rw [exec_controlBlockUpdate, execControlBlockUpdate, onMem_live hl]
  simp only [ht, Option.isNone_none, or_true, if_true]

end ControlBlock

/-- Settles O45: an exposure is its start in line and what its stream asks for; each other event and command runs its body. -/
theorem cameraAndRecorderComplete : Obligations.CameraAndRecorderComplete := by
  refine ⟨⟨?quiet, ?asked, ?asks, ?outOfPeriod, ?ended, ?late, ?lost, ?idle⟩,
    ?ring, ?take, ?consume, ?refused, ?status, ?mark, ?dirty, ?clean⟩
  case quiet =>
    intro k s hl hr hp hf hdue
    rw [exec_cameraExposureStart_due hl hr hp hf, streamDue_eq_false hdue, if_neg Bool.false_ne_true]
    rfl
  case asked =>
    intro k s hl hr hp hf hdue hg
    rw [exec_cameraExposureStart_due hl hr hp hf, if_pos (streamDue_iff.2 hdue),
      streamAsk_asked (by rwa [exposed_grant, exposed_waiting]), exposed_lastDue]
  case asks =>
    intro k d s hl hr hp hf hdue hg hw hc hreq
    rw [exec_cameraExposureStart_due hl hr hp hf, if_pos (streamDue_iff.2 hdue),
      streamAsk_granted ((exposed_grant ..).trans hg) ((exposed_waiting ..).trans hw) hc
        (by rw [exposed_lastDue, hreq])]
    rfl
  case outOfPeriod => exact fun k s hl hp => exec_cameraExposureStart_outOfPeriod hl hp
  case ended => exact fun k r s hl hr he => exec_cameraFeaturesReady_ended hl hr he
  case late => exact fun k r s hl hr he ht => exec_cameraFrameDeadline_late hl hr he ht
  case lost => exact fun k t n c q s hl hr hs ht => exec_cameraFrameDeadline_lost hl hr hs ht
  case idle => exact fun k s hl hg ht => exec_frameStreamRelease_idle hl hg ht
  case ring => exact fun m r b z md cb l s x hs hr hb hz hmin hmax hmd hbase hcb hown hfree =>
    exec_recRing.trans (runCmd_answered hs (recRingBody_sound hr hb hz hmin hmax hmd hbase hcb hown hfree))
  case take => exact fun m t n g s x hs ht h1 hn hg hc =>
    exec_recTake.trans (runCmd_answered hs (recTakeBody_inRange ht h1 hn hg hc))
  case consume => exact fun m r t s x hs hr hc hmin hmax =>
    exec_recConsume.trans (runCmd_answered hs (recConsumeBody_inRange hr hc hmin hmax))
  case refused => exact fun m r t s x hs h =>
    exec_recConsume.trans (runCmd_turnedAway hs (recConsumeBody_outOfRange h))
  case status => exact fun m s x hs => exec_recStatus.trans (runCmd_answered hs rfl)
  case mark => exact fun m v s x hs => exec_recMark.trans (runCmd_answered hs rfl)
  case dirty => exact fun r t s hl hc ht => exec_controlBlockUpdate_dirty hl hc ht
  case clean => exact fun r s hl ht => exec_controlBlockUpdate_clean hl ht

end Sys2Proof.Proofs
end

section
/-! PROOFS. One Rigger port changed, and when an event of a port is taken (R307). -/

namespace Sys2Proof.Proofs

open Sys2Proof.Machine Sys2Proof.Safety

section Port

variable {d : Dev} {n : Nat} {f g : Port → Port}

theorem onPort_onPort : (d.onPort n f).onPort n g = d.onPort n (g ∘ f) :=
  congrArg (fun ps => { d with links := { d.links with ports := ps } }) upd_upd

theorem port_onPort_same (hn : n < d.links.ports.length) : (d.onPort n f).port n = f (d.port n) := nth_upd_same hn

/-- A place beyond the bank of ports is idle. -/
theorem lt_ports_of_not_idle (h : (d.port n).st ≠ .idle) : n < d.links.ports.length := by
  by_contra hn
  exact h (by rw [Dev.port, nth, List.getD_eq_default _ _ (Nat.le_of_not_lt hn)]; rfl)

end Port

section Taken

variable {c : Instr} {s : State}

/-- An event that the running device takes, its ports take as well. -/
theorem portGate_live (h : Live c s) : (c.wf && (s.dev.awake || s.dev.softHeld)) = true := by
  rw [h.1, h.2]
  rfl

theorem onLink_live {f : Dram → Dev → Dev} (h : Live c s) : onLink c f s = .next (withDev s (f s.dram s.dev)) := by
  rw [onLink, portGate_live h]
  rfl

end Taken

end Sys2Proof.Proofs
end

section
/-! PROOFS. A return frame on a port, and the slot of a frame that is missed (R266 to R285), and with them O40. -/

namespace Sys2Proof.Proofs

open Sys2Proof.Machine Sys2Proof.Safety Sys2Proof.Laws

section Received

variable {s : State} {p u : Nat} {bs : List Nat}

/-- R268, R281: a frame is judged where the port hears, searched for lock where it looks for it, and else nothing. -/
theorem exec_returnFrame_live (hl : Live (.returnFrame p u bs) s) : exec (.returnFrame p u bs) s = .next (withMem s (
    if ! s.dev.portExists p then (s.dev, [])
    else if (s.dev.port p).hearing then recWrites s.dram (s.dev.returnFrame p u bs)
    else if (s.dev.port p).locking then (s.dev.lockFrame p u bs, [])
    else (s.dev, []))) := by
  rw [exec_returnFrame, execReturnFrame, portGate_live hl]
  rfl

end Received

section Missed

variable {d : Dev} {n v k : Nat}

/-- A port whose frame was missed (R281). -/
def missedOne (q : Port) : Port :=
  { q.count 6 1 with missed := q.missed + 1, statSel := 8, sampleOk := [false, false, false], acks := 0 }

theorem missFrame_imager : d.missFrame 32 = d.onPort 32 missedOne := rfl

/-- R168, R281, R282: what an oar's engine and the Umpire make of a missed frame, the m-th in a row. -/
theorem missFrame_oar (hn : n < 32) (ha : d.awake = true) (hp : n < d.links.ports.length) : d.missFrame n =
    let m := (d.port n).missed + 1
    let f := (d.onPort n missedOne).onSafe n fun o => { o with frameBadTick := d.now }
    let e := (if m = 4 then f.headTempAt n none else f).samples n [none, none, none]
    if 4 ≤ m ∧ (nth e.eng n).len = true then e.trip n 0x22 m 4 else e := by
  have hmissed : ((d.onPort n missedOne).port n).missed = (d.port n).missed + 1 := by
    rw [port_onPort_same hp]
    rfl
  have hoar : ¬ 32 ≤ n := by omega
  rw [← hmissed]
  simp only [Dev.missFrame, hoar, ha, decide_false, Bool.not_true, Bool.or_self, Bool.false_eq_true, if_false,
    Bool.and_eq_true, decide_eq_true_eq]
  rfl

variable (hs : (d.port n).sleep = 0 ∨ (d.port n).sleep = 2)

include hs in
/-- A trained port whose return direction is awake misses the frame of the slot. -/
theorem lostSlot_trained (ht : (d.port n).st = .trained) : d.lostSlot n v = (d.onPort n (Port.slotPast v)).missFrame n := by
  have hawake : (decide ((d.port n).sleep = 0) || decide ((d.port n).sleep = 2)) = true := by simpa using hs
  have hasleep : (d.port n).sleep ≠ 1 := by omega
  simp [Dev.lostSlot, Port.linked, Port.locking, ht, hawake, hasleep]

theorem lostSlot_training (ht : (d.port n).st = .training k) (hk : 1 ≤ k) : d.lostSlot n v =
    (d.onPort n (Port.slotPast v)).onPort n fun q => { q with syncRun := 0, goodFrames := 0 } := by
  have hlock : (d.port n).locking = true := by rw [Port.locking, ht]; exact decide_eq_true hk
  have hlink : (d.port n).linked = false := by rw [Port.linked, ht]; rfl
  simp only [Dev.lostSlot, hlock, hlink, Bool.false_and, Bool.false_eq_true, if_true, if_false]

theorem exec_returnFrameMissed_live {s : State} (hl : Live (.returnFrameMissed n v) s) (he : s.dev.portExists n = true) :
    exec (.returnFrameMissed n v) s = .next (withDev s (s.dev.lostSlot n v)) := by
  rw [exec_returnFrameMissed, execReturnFrameMissed, portGate_live hl]
  exact congrArg (fun d => Host.Outcome.next (withDev s d)) (if_pos he)

end Missed

/-- Settles O40: a frame is taken as its port stands; a missed one passes the slot, and a trained port counts it. -/
theorem returnFramesComplete : Obligations.ReturnFramesComplete := by
  refine ⟨?hears, ?looks, ?neither, ?imager, ?oar, ?training⟩
  case hears =>
    intro p u bs s hl he hh
    rw [exec_returnFrame_live hl, he, hh]
    rfl
  case looks =>
    intro p u bs s hl he hh hlock
    rw [exec_returnFrame_live hl, he, hh, hlock]
    rfl
  case neither =>
    intro p u bs s hl hh hlock
    rw [exec_returnFrame_live hl, hh, hlock]
    simp only [Bool.false_eq_true, if_false, ite_self]
    rfl
  case imager =>
    intro v s hl he ht hs
    rw [exec_returnFrameMissed_live hl he, lostSlot_trained hs ht, missFrame_imager]
    rfl
  case oar =>
    intro p v s hp hl he ht hs
    have hlen : p < s.dev.links.ports.length := lt_ports_of_not_idle (by rw [ht]; exact PortState.noConfusion)
    have hmissed : ((s.dev.onPort p (Port.slotPast v)).port p).missed = (s.dev.port p).missed := by
      rw [port_onPort_same hlen]
      rfl
    rw [exec_returnFrameMissed_live hl he, lostSlot_trained hs ht,
      missFrame_oar hp (d := s.dev.onPort p (Port.slotPast v)) hl.2 (by rwa [onPort_links, upd, List.length_modify]), hmissed]
    rfl
  case training =>
    intro p k v s hl he ht hk
    rw [exec_returnFrameMissed_live hl he, lostSlot_training ht hk, onPort_onPort]
    rfl

end Sys2Proof.Proofs
end

section
/-! PROOFS. What the bodies of the commands of a Rigger port come to (R296, R299 to R301, R309), and with it O38. -/

namespace Sys2Proof.Proofs

open Sys2Proof.Machine Sys2Proof.Safety Sys2Proof.Laws

section Bodies

variable {x : Ctx} {mem : Dram} {d : Dev} {p : Nat}

section Mask

variable (hp : d.badPortMask p = false)
include hp

theorem oarLinkBody_inRange {w h q a : Nat} (hw : 1 ≤ w) (hw' : w ≤ 63) (hh : 2 ≤ h) (hh' : h ≤ 508) (hq : q < 8)
    (ha : a < 2) : oarLinkBody p w h q a x mem d =
      let t := (bitsOf 33 p).foldl (fun d n => d.onPort n fun r =>
        { r with eqWidth := w, eqHeight := h, outPreset := q, autoSleep := decide (a = 1) }) d
      .done (t.log x 0x11 (maskIndex 33 p) ((bitsOf 33 p).flatMap fun n => (d.port n).linkBytes)
        ((bitsOf 33 p).flatMap fun n => (t.port n).linkBytes)) ([w, h, q, a].flatMap u32) := by
  refine if_neg ?_
  simp [hp, inRange, hw, hw', hh, hh', hq, ha]

theorem oarLinkstatBody_inRange {c : Nat} (hc : c ≤ 1) : oarLinkstatBody p c x mem d =
    .done (if c = 1 then (bitsOf 33 p).foldl (fun d n => d.onPort n fun r => { r with counters := List.replicate 18 0 }) d
      else d) ((bitsOf 33 p).flatMap fun n => (d.port n).report) := by
  refine if_neg ?_
  simp [hp, hc]

theorem oarRetrainBody_some (hne : p ≠ 0) :
    oarRetrainBody p x mem d = .executing ((bitsOf 33 p).foldl Dev.trainStart d) (.train p) true := by
  rw [oarRetrainBody, hp, if_neg Bool.false_ne_true, if_neg hne]

/-- R296: a sleep state asked of ports that are trained, parked and not IDLE is under way, or in force at once. -/
theorem oarPowerBody_maySleep {k : Nat} (h3 : k ≤ 3)
    (hs : ∀ n ∈ bitsOf 33 p, d.maySleep n = true ∧ (d.port n).sleepNow ≠ 4) : oarPowerBody p k x mem d =
      let t := (bitsOf 33 p).foldl (fun d n => d.askSleep k n) d
      if t.powerSettled p then .done t (t.powerResult p) else .executing t (.power p k) true := by
  have hmay : ((bitsOf 33 p).any fun n => (d.port n).sleepNow ≠ k && (d.port n).sleepNow ≠ 4 && ! d.maySleep n) = false :=
    any_bitsOf_eq_false fun n hn => by rw [(hs n hn).1, Bool.not_true, Bool.and_false]
  have hawake : ((bitsOf 33 p).any fun n => (d.port n).sleepNow = 4) = false :=
    any_bitsOf_eq_false fun n hn => decide_eq_false (hs n hn).2
  simp only [oarPowerBody, hp, hmay, hawake, Nat.not_lt.2 (h3.trans (Nat.le_succ 3)), decide_false, Bool.and_false,
    Bool.or_self, Bool.false_eq_true, if_false]

end Mask

/-- R299, R300: a scan of a trained port whose leave is given at once ends with its counts in memory. -/
theorem oarEyescanBody_granted {h0 h1 v0 v1 : Int} {n a : Nat} {t : Dev} (hp : p < 33) (he : d.portExists p = true)
    (hh0 : -32 ≤ h0) (hh : h0 ≤ h1) (hh1 : h1 ≤ 31) (hv0 : -127 ≤ v0) (hv : v0 ≤ v1) (hv1 : v1 ≤ 127) (hn : 20 ≤ n)
    (hn' : n ≤ 34) (hr : d.rangeOk a (4 * scanPoints h0 h1 v0 v1) = true) (ht : (d.port p).st = .trained)
    (hfree : d.scanning p = false) (hg : d.request (.eyescan p) 4 100 0 = (.granted, t)) :
    oarEyescanBody p h0 h1 v0 v1 n a x mem d =
      let r := (t.release (isEyescan p)).scanCounts (scanPoints h0 h1 v0 v1) n
      let w := r.2.coxWrite mem a r.1
      .ok w.1 [] w.2 := by
  have hpoints : (-32 ≤ h0 && h0 ≤ h1 && h1 ≤ 31 && -127 ≤ v0 && v0 ≤ v1 && v1 ≤ 127 && inRange 20 34 n) = true := by
    simp [inRange, hh0, hh, hh1, hv0, hv, hv1, hn, hn']
  simp only [oarEyescanBody, hpoints, he, hr, ht, hfree, hg, Nat.not_le.2 hp, decide_false, Bool.not_true, Bool.or_self,
    beq_self_eq_true, Bool.false_eq_true, if_false]

/-- R301, R309: a request in range enters the port's list, and the command waits for its tag. -/
theorem oarSvcBody_inRange {o a l : Nat} {bs : List Byte} (hp : p < 33) (he : d.portExists p = true) (ho : o ≤ 1)
    (ha : a % 4 = 0) (hl : l % 4 = 0) (h1 : 1 ≤ l) (h32 : l ≤ 32)
    (hw : o = 1 → 0x100 ≤ a ∧ d.mode.mode = .ready) (hroom : (d.port p).svc.length < 4) :
    oarSvcBody p o a l bs x mem d =
      .executing (d.svcSend p (o + 1) a l bs) (.service p (d.port p).svcTag) true := by
  have hmode : (decide (o = 1) && ! (d.mode.mode == .ready)) = false := by
    by_cases h : o = 1
    · rw [(hw h).2]; simp
    · rw [decide_eq_false h, Bool.false_and]
  have hmaker : (decide (o = 1) && decide (a < 0x100)) = false := by
    simpa using fun h => (hw h).1
  simp [oarSvcBody, hmode, hmaker, he, ha, hl, inRange, h1, h32, Nat.not_le.2 hp, Nat.not_lt.2 ho, Nat.not_le.2 hroom]

end Bodies

/-- Settles O38: each command that starts runs its body. -/
theorem linkCommandsComplete : Obligations.LinkCommandsComplete := by
  refine ⟨?link, ?linkstat, ?retrain, ?power, ?eyescan, ?svc⟩
  case link => exact fun m p w h q a s x hs hp hw hw' hh hh' hq ha =>
    exec_oarLink.trans (runCmd_answered hs (oarLinkBody_inRange hp hw hw' hh hh' hq ha))
  case linkstat => exact fun m p c s x hs hp hc =>
    exec_oarLinkstat.trans (runCmd_answered hs (oarLinkstatBody_inRange hp hc))
  case retrain => exact fun m p s x hs hp hne =>
    exec_oarRetrain.trans (runCmd_running hs (oarRetrainBody_some hp hne))
  case power =>
    intro m p k s x hs hp _ h3 hmay
    have hbody := oarPowerBody_maySleep (x := x) (mem := s.dram) hp h3 hmay
    dsimp only at hbody ⊢
    split at hbody
    case isTrue hset => rw [if_pos hset]; exact exec_oarPower.trans (runCmd_answered hs hbody)
    case isFalse hgo => rw [if_neg hgo]; exact exec_oarPower.trans (runCmd_running hs hbody)
  case eyescan =>
    intro m p h0 h1 v0 v1 n a d s x hs hp he hh0 hh hh1 hv0 hv hv1 hn hn' hr ht hfree hg
    exact exec_oarEyescan.trans
      (runCmd_ok hs (oarEyescanBody_granted hp he hh0 hh hh1 hv0 hv hv1 hn hn' hr ht hfree hg))
  case svc => exact fun m p o a l bs s x hs hp he ho ha hl h1 h32 hw hroom =>
    exec_oarSvc.trans (runCmd_running hs (oarSvcBody_inRange hp he ho ha hl h1 h32 hw hroom))

end Sys2Proof.Proofs
end

section
/-! PROOFS. A service request whose repeats are used up (R302), and with it that O39 does not hold: a write of the camera
registers that found no frame to leave in is owed to the head from then on (R305, log 120), which O39 does not say. -/

namespace Sys2Proof.Proofs

open Sys2Proof.Machine Sys2Proof.Safety Sys2Proof.Laws

section Exhausted

variable {d : Dev} {p t : Nat} {r : SvcReq}

/-- R302: the request leaves the list and its command ends with TIMEOUT; log 120: where it wrote the camera registers and its
port sends no frame, the write is owed. -/
theorem svcTimeout_exhausted (hr : (d.port p).svc.find? (·.tag = t) = some r)
    (hsent : r.due = false ∨ (d.port p).silent = true) (hlate : r.sentTick + usT 100 ≤ d.now) (h3 : 3 ≤ r.repeats) :
    d.svcTimeout p t = (d.onPort p fun q => { q.count 16 1 with
      svc := q.svc.filter (·.tag ≠ r.tag), camDue := q.camDue || (r.isCamera && q.silent) }).svcDone p r.tag 0x30 [] := by
  have hruns : ((r.due && ! (d.port p).silent) || decide (d.now < r.sentTick + usT 100)) = false := by
    rcases hsent with h | h <;> simp [h, hlate]
  simp only [Dev.svcTimeout, hr, hruns, Bool.false_eq_true, if_false]
  exact if_neg (Nat.not_lt.2 h3)

/-- The end of a service command leaves the ports as they are. -/
@[simp] theorem svcDone_links (d : Dev) (n tag status : Nat) (bs : List Byte) : (d.svcDone n tag status bs).links = d.links :=
  foldl_leaves (p := Dev.links) (fun d j => finish_links d j status 0 bs) _ d

/-- What the end of a service command after a change of the port leaves of that port. -/
theorem port_svcDone_onPort {f : Port → Port} {tag status : Nat} {bs : List Byte} (hp : p < d.links.ports.length) :
    ((d.onPort p f).svcDone p tag status bs).port p = f (d.port p) := by
  rw [Dev.port, svcDone_links]
  exact port_onPort_same hp

end Exhausted

/-- The camera registers of an oar's head as `oar.camera` writes them, repeated three times and never sent. -/
def unsentCameraWrite : SvcReq where
  tag := 0
  op := 2
  addr := 0x20
  len := 16
  data := List.replicate 16 0
  sentTick := 0
  repeats := 3
  due := true

/-- A device in Ready, 100 µs after the last repeat of that write; P0 has not trained and sends no frame. -/
def cameraWriteOverdue : State :=
  { State.reset with
    dev := ({ Dev.reset with
      mode := { ModeCtl.reset with mode := .ready }
      time := { Dev.reset.time with tick := usT 100 } }).onPort 0 fun q => { q with svc := [unsentCameraWrite] } }

/-- Refutes O39: at the time-out of a camera write on a silent port the model notes that the write is owed (R305, log 120);
the statement leaves that mark as it was. -/
theorem not_linkEventsComplete : ¬ Obligations.LinkEventsComplete := by
  intro h
  obtain ⟨-, -, -, -, -, -, hclause, -⟩ := h
  have hlive : Live (.serviceTimeout 0 0) cameraWriteOverdue := by decide
  have hfind : (cameraWriteOverdue.dev.port 0).svc.find? (·.tag = 0) = some unsentCameraWrite := by decide
  have hsilent : (cameraWriteOverdue.dev.port 0).silent = true := by decide
  have hlate : unsentCameraWrite.sentTick + usT 100 ≤ cameraWriteOverdue.dev.now := by decide
  have hports : 0 < cameraWriteOverdue.dev.links.ports.length := by decide
  have hstated := hclause 0 0 _ _ hlive hfind (.inr hsilent) hlate (by decide)
  rw [exec_serviceTimeout, execServiceTimeout, onLink_live hlive,
    svcTimeout_exhausted hfind (.inr hsilent) hlate (by decide)] at hstated
  have hport := congrArg (fun s => (s.dev.port 0).camDue) (Host.Outcome.next.inj hstated)
  simp only [withDev, port_svcDone_onPort hports] at hport
  exact absurd hport (by decide)

end Sys2Proof.Proofs
end

section
/-! PROOFS. What a count does to the converted position of an encoder (R334): O35. -/

namespace Sys2Proof.Proofs

open Sys2Proof.Machine

section Count

variable {e : Encoder} {n : Int}

theorem foldl_move_desc (e : Encoder) (ns : List Int) : (ns.foldl Encoder.move e).desc = e.desc := by
  induction ns generalizing e with
  | nil => rfl
  | cons n ns ih => exact ih (e.move n)

/-- R334: position and remainder together move by the count times ENC_NUM / ENC_DEN. -/
theorem move_ratio (hd : 0 < e.desc.den) :
    (e.move n).conv * e.desc.den + (e.move n).rem = e.conv * e.desc.den + e.rem + n * e.desc.num := by
  have hdiv := Int.ediv_mul_add_emod (n * e.desc.num + e.rem) e.desc.den
  simp only [Encoder.move, Nat.max_eq_right hd, add_mul]
  omega

/-- R334: the remainder carried is less than ENC_DEN. -/
theorem move_rem (hd : 0 < e.desc.den) : 0 ≤ (e.move n).rem ∧ (e.move n).rem < e.desc.den := by
  simp only [Encoder.move, Nat.max_eq_right hd]
  exact ⟨Int.emod_nonneg _ (by omega), Int.emod_lt_of_pos _ (by omega)⟩

end Count

/-- Settles O35, by induction on the counts, the last of them leaving the remainder. -/
theorem encoderRatioIsExact : Obligations.EncoderRatioIsExact := by
  intro e ns hd
  induction ns using List.reverseRecOn with
  | nil => simp
  | append_singleton ns n ih =>
    obtain ⟨hratio, -⟩ := ih
    have hdesc := foldl_move_desc e ns
    have hlast : 0 < (ns.foldl Encoder.move e).desc.den := hdesc ▸ hd
    have hmove := move_ratio (n := n) hlast
    have hrem := move_rem (n := n) hlast
    rw [hdesc] at hmove hrem
    rw [List.foldl_concat, List.sum_append, List.sum_singleton]
    refine ⟨?_, fun _ => hrem⟩
    rw [hmove, hratio]
    ring

end Sys2Proof.Proofs
end

section
/-! PROOFS. Axes under a change, and what the bodies of the `slide` commands come to (R310, R316 to R329, R337, R343 to R345),
and with it O33. -/

namespace Sys2Proof.Proofs

open Sys2Proof.Machine Sys2Proof.Safety Sys2Proof.Laws

section Axis

variable {d : Dev} {a b : Nat} {f : SlideAxis → SlideAxis}

theorem axis_onAxis_same (ha : a < d.slides.axes.length) : (d.onAxis a f).axis a = f (d.axis a) := nth_upd_same ha

theorem axis_onAxis_ne (h : b ≠ a) : (d.onAxis a f).axis b = d.axis b := nth_upd_ne h

/-- Neither a Logbook record nor the answer of a command changes an axis. -/
theorem axis_answered_log {s : State} {x : Ctx} {ob ix : Nat} {old new r : List Byte} :
    (answered s x (d.log x ob ix old new) r).dev.axis a = d.axis a := by
  simp [answered, Dev.axis]

end Axis

section Record

variable (d : Dev) (x : Ctx)

/-- R543: a Logbook record takes the next number. -/
@[simp] theorem logRaw_nextLog (a : LogArg) : (d.logRaw a).logs.nextLog = d.logs.nextLog + 1 := by
  rw [Dev.logRaw, raise_logs]
  dsimp only
  split_ifs <;> rfl

@[simp] theorem log_nextLog (ob ix : Nat) (old new : List Byte) :
    (d.log x ob ix old new).logs.nextLog = d.logs.nextLog + 1 := by
  rw [Dev.log, Dev.logDigest, Dev.logAs]
  dsimp only
  split_ifs <;> exact logRaw_nextLog ..

end Record

section Install

variable {c : AxisDesc} {y : SlideAxis}

/-- R344: a descriptor given to an axis at rest is in force at once. -/
theorem install_atRest (h : y.busy = false) : y.install c =
    let z := SlideAxis.adopt { y with pendingDesc := some c }
    { z with st := z.restState } :=
  if_neg (by simp [h])

/-- R344: in motion it waits. -/
theorem install_busy (h : y.busy = true) : y.install c = { y with pendingDesc := some c } := if_pos h

end Install

section Bodies

variable {x : Ctx} {mem : Dram} {d t : Dev} {a k : Nat}

theorem slideConfigBody_one {c : AxisDesc} (h : AxisDesc.ok c = true) : slideConfigBody [c] x mem d =
    .done ((d.onAxis c.axis (SlideAxis.install c)).log x 0x05 c.axis (d.axisDescBytes c.axis) (axisBytes c))
      (sha256 (axisBytes c)) := by
  simp [slideConfigBody, h]

theorem slideEncoderBody_free {cs : List EncDesc} (hok : ∀ c ∈ cs, EncDesc.ok c = true) (hfree : ∀ c ∈ cs, d.encBusy c.enc = false) :
    slideEncoderBody cs x mem d =
      .done ((cs.foldl (fun d c => d.onEnc c.enc (Encoder.install c)) d).log x 0x05 ((cs.head?.map (·.enc)).getD 0)
        (cs.flatMap fun c => encBytes (nth d.slides.encs c.enc).desc) (cs.flatMap encBytes)) := by
  have hall : cs.all EncDesc.ok = true := List.all_eq_true.2 hok
  have hany : (cs.any fun c => d.encBusy c.enc) = false := List.any_eq_false.2 fun c hc => by simp [hfree c hc]
  simp only [slideEncoderBody, hall, hany, Bool.not_true, Bool.false_eq_true, if_false]

/-- R341: a motion whose leave is given is under way. -/
theorem startMotion_granted {f : SlideAxis → SlideAxis} {j : JobKind} (h : (d.onAxis a f).axisRequest a = (.granted, t)) :
    startMotion d a f j = .accepted t 0 j [] := by
  simp only [startMotion, h]

/-- R316, R317: a target in reach of an axis that the command array rules and no recoat holds, at rest or under way. -/
theorem slideMoveBody_granted {p : Int} {v : Option Nat} (ha : a < 8) (hp : fits40 p = true)
    (hv : ∀ n ∈ v, 1 ≤ n ∧ n ≤ 1024000000) (ht : (d.axis a).targetDetail p = 0) (hl : (d.axis a).loopUse ≠ 2)
    (hr : d.mode.mode = .build ∨ d.mode.mode = .hold → d.slides.recoat.hasRole a = false)
    (hst : (d.axis a).st = .idle ∨ (d.axis a).st = .moving ∨ (d.axis a).st = .pending)
    (hg : (d.onAxis a fun y => y.aim p v).axisRequest a = (.granted, t)) :
    slideMoveBody a p v x mem d = .accepted t 0 (.move a) [] := by
  have hrole : ((d.mode.mode == .build || d.mode.mode == .hold) && d.slides.recoat.hasRole a) = false := by
    simpa using hr
  have hmay : ((d.axis a).st == .idle || (d.axis a).st == .moving || (d.axis a).st == .pending) = true := by
    simpa [or_assoc] using hst
  refine (if_neg ?range).trans ((if_neg ?reach).trans ((if_neg hl).trans ((if_neg ?free).trans (startMotion_granted hg))))
  case range =>
    cases v with
    | none => simp [ha, hp]
    | some n => simpa [ha, hp, inRange, Nat.one_le_iff_ne_zero] using hv n rfl
  case reach => simp [ht]
  case free => simp [hrole, hmay]

theorem slideStopBody_ofMask (hk : k < 256) : slideStopBody k x mem d =
    .done ((bitsOf 8 k).foldl (fun d a =>
      (d.axisStop a 0x31).onAxis a fun y => if y.loopUse = 2 then { y with heldStop := true } else y) d) :=
  if_neg (Nat.not_le.2 hk)

/-- R326: a search of an axis at rest whose limits are not both active. -/
theorem slideHomeBody_granted {h : HomeArg} (ha : a < 8) (hst : (d.axis a).st = .idle) (hok : HomeArg.ok h (d.axis a) = true)
    (hlim : ((d.axis a).limP && (d.axis a).limN) = false)
    (hg : (d.onAxis a fun y => { y with
      homing := some ⟨h, false, none, 0, 0, false, false⟩, toTarget := false, vUse := none, inPosSince := none
      stopStatus := 0 }).axisRequest a = (.granted, t)) :
    slideHomeBody a h x mem d = .accepted t 0 (.home a) [] := by
  rw [slideHomeBody, if_neg (Nat.not_le.2 ha), if_neg (by simp [hst]), if_neg (by simp [hok]), if_neg (by simp [hlim])]
  exact startMotion_granted hg

theorem slideLimitsBody_inRange {v c m j : Nat} (ha : a < 8) (hv : 1 ≤ v) (hv' : v ≤ 1024000000) (hc : 1 ≤ c) (hm : 1 ≤ m)
    (hj : 1 ≤ j) (hp : ∀ e ∈ (d.axis a).desc, pulseOk v e.microCoarse e.stepW = true) :
    slideLimitsBody a v c m j x mem d =
      let t := d.onAxis a fun y => y.newLims v c m j
      .done (t.log x 0x05 a ((d.axis a).lims.flatMap u32) ((t.axis a).lims.flatMap u32)) ((t.axis a).lims.flatMap u32) := by
  refine (if_neg ?range).trans (if_neg ?pulse)
  case range => simp [inRange]; omega
  case pulse =>
    cases he : (d.axis a).desc with
    | none => simp
    | some e => simp [hp e he]

/-- R320, R341: an axis without profile and trim that no command moves, or whose command waits for leave, stands still. -/
theorem inMotion_eq_false {y : SlideAxis} (h : y.busy = false ∨ y.st = .pending) (hr : y.atRest = true) :
    y.inMotion = false := by
  rcases h with h | h <;> simp [SlideAxis.inMotion, h, hr]

theorem setPos_eq (y : SlideAxis) (p : Int) : y.setPos p = { y with
    pos := p, off := 0, target := if y.st = .pending then y.target else p, stepPos := y.stepPos + (p - y.units)
    flags := flagSet y.flags 0, inPosSince := none } := by
  simp only [SlideAxis.setPos, beq_iff_eq]

/-- R329. -/
theorem slideSetposBody_still {p : Int} (ha : a < 8) (hp : fits40 p = true) (hm : (d.axis a).inMotion = false) :
    slideSetposBody a p x mem d =
      .done ((d.onAxis a fun y => y.setPos p).log x 0x05 a (i64 (d.axis a).units) (i64 p)) := by
  rw [slideSetposBody, if_neg (by simp [ha, hp]), if_neg (by simp [hm])]

theorem slideRecoatBody_sound {r : RecoatArg} (hr : RecoatArg.ok d r = true) (hq : d.queueEmpty = true) :
    slideRecoatBody r x mem d = .done ((d.onRecoat fun c => { c with arg := some r }).log x 0x05 r.recoater
      ((d.slides.recoat.arg.map recoatBytes).getD []) (recoatBytes r)) := by
  rw [slideRecoatBody, if_neg (by simp [hr]), if_neg (by simp [hq])]

theorem slideStatusBody_ofMask (hk : k < 256) : slideStatusBody k x mem d =
    .done d ((bitsOf 8 k).flatMap d.axisReport ++ u32 d.slides.recoat.step) :=
  if_neg (Nat.not_le.2 hk)

/-- R343: the faults of the mask clear together, or none does while the cause of one stands. -/
theorem slideClearBody_ofMask (hk : k < 256) : slideClearBody k x mem d =
    if ∃ a ∈ bitsOf 8 k, (d.axis a).faulted = true ∧ d.faultStands a = true then .refuse 0x12 0 0
    else .done ((bitsOf 8 k).foldl (fun d a => d.onAxis a SlideAxis.clear) d)
      ((bitsOf 8 k).flatMap fun a => u32 ((d.axis a).flags &&& clearFlags)) := by
  rw [slideClearBody, if_neg (Nat.not_le.2 hk)]
  simp only [List.any_eq_true, Bool.and_eq_true]
  rfl

end Bodies

/-- Settles O33: each command that starts has the outcome of its body. -/
theorem slideCommandsComplete : Obligations.SlideCommandsComplete := by
  refine ⟨?config, ?configBusy, ?encoder, ?move, ?stop, ?home, ?limits, ?setpos, ?recoat, ?status, ?clear, ?stands⟩
  case config =>
    intro m c s x hs hok hb hlen
    have haxis : (s.dev.onAxis c.axis (SlideAxis.install c)).axis c.axis = (s.dev.axis c.axis).install c :=
      axis_onAxis_same hlen
    rw [install_atRest hb] at haxis
    refine ⟨_, exec_slideConfig.trans (runCmd_answered hs (slideConfigBody_one hok)), rfl, ?_⟩
    simp only [axis_answered_log, haxis]
    refine ⟨rfl, rfl, rfl, rfl, rfl, ?_, fun a ha => axis_onAxis_ne ha, ?_⟩ <;> simp [answered]
  case configBusy =>
    intro m c s x hs hok hb
    refine ⟨_, exec_slideConfig.trans (runCmd_answered hs (slideConfigBody_one hok)), rfl, ?_⟩
    have hinstall : upd s.dev.slides.axes c.axis (SlideAxis.install c) =
        upd s.dev.slides.axes c.axis fun y => { y with pendingDesc := some c } := upd_congr (install_busy hb)
    simp [answered, hinstall]
  case encoder => exact fun m cs s x hs hok hfree =>
    exec_slideEncoder.trans (runCmd_answered hs (slideEncoderBody_free hok hfree))
  case move => exact fun m a p v d s x hs ha hp hv ht hl hr hst hg =>
    exec_slideMove.trans (runCmd_taken hs (slideMoveBody_granted ha hp hv ht hl hr hst hg))
  case stop => exact fun m k s x hs hk => exec_slideStop.trans (runCmd_answered hs (slideStopBody_ofMask hk))
  case home => exact fun m a h d s x hs ha hst hok hlim hg =>
    exec_slideHome.trans (runCmd_taken hs (slideHomeBody_granted ha hst hok hlim hg))
  case limits => exact fun m a v c d j s x hs ha hv hv' hc hd hj hp =>
    exec_slideLimits.trans (runCmd_answered hs (slideLimitsBody_inRange ha hv hv' hc hd hj hp))
  case setpos =>
    intro m a p s x hs ha hp hst hr
    have hbody := slideSetposBody_still (x := x) (mem := s.dram) ha hp (inMotion_eq_false hst hr)
    simp only [setPos_eq] at hbody
    exact exec_slideSetpos.trans (runCmd_answered hs hbody)
  case recoat => exact fun m r s x hs hr hq =>
    exec_slideRecoat.trans (runCmd_answered hs (slideRecoatBody_sound hr hq))
  case status => exact fun m k s x hs hk =>
    exec_slideStatus.trans (runCmd_answered hs (slideStatusBody_ofMask hk))
  case clear =>
    intro m k s x hs hk hgone
    refine exec_slideClear.trans (runCmd_answered hs ((slideClearBody_ofMask hk).trans (if_neg ?_)))
    rintro ⟨a, ha, hf, hstands⟩
    exact Bool.false_ne_true ((hgone a ha hf).symm.trans hstands)
  case stands => exact fun m k s x hs hk h =>
    exec_slideClear.trans (runCmd_turnedAway hs ((slideClearBody_ofMask hk).trans (if_pos h)))

end Sys2Proof.Proofs
end

section
/-! PROOFS. Lines and their strobes, the lamp board, patterns and the recoat's steps (R338, R339, R349, R352, R354, R359 to
R365): O37. -/

namespace Sys2Proof.Proofs

open Sys2Proof.Machine Sys2Proof.Safety Sys2Proof.Laws

theorem onDev_eq {c : Instr} {f : Dram → Dev → Dev} {s : State} {d : Dev} (hl : Live c s) (h : f s.dram s.dev = d) :
    onDev c f s = .next (withDev s d) := by
  rw [onDev_live hl, h]

theorem onMem_eq {c : Instr} {f : Dram → Dev → Dev × List DramOp} {s : State} {r : Dev × List DramOp} (hl : Live c s)
    (h : f s.dram s.dev = r) : onMem c f s = .next (withMem s r) := by
  rw [onMem_live hl, h]

section Duty

variable {d : Dev} {c : ImageArg} {a : DirArg} {start : Nat}

/-- R362. -/
theorem strobesLive_iff : d.strobesLive = true ↔
    d.img.single.isSome = true ∧ d.mode.mode = .ready ∨ d.mode.mode = .build ∧ d.slides.recoat.step = 2 := by
  simp only [Dev.strobesLive, Bool.or_eq_true, Bool.and_eq_true, beq_iff_eq, decide_eq_true_eq]

/-- R359: the duty rule forbids a pulse for one string in use that it would light too long. -/
theorem dutyForbids_iff : d.dutyForbids c a start = true ↔ ∃ i ∈ bitsOf 8 a.mask, (d.led i).configured = true ∧
    (d.led i).fault = false ∧ c.dutyMax * 100000 < (d.led i).pulseNs start + a.width := by
  simp only [Dev.dutyForbids, Dev.strings, Dev.led, List.any_filter, List.any_eq_true, Bool.and_eq_true, Bool.not_eq_true',
    decide_eq_true_eq, and_assoc]

theorem dutyForbids_eq_false (h : ∀ i ∈ bitsOf 8 a.mask, (d.led i).configured = true → (d.led i).fault = false →
    (d.led i).pulseNs start + a.width ≤ c.dutyMax * 100000) : d.dutyForbids c a start = false := by
  refine Bool.eq_false_iff.2 fun hd => ?_
  obtain ⟨i, hi, hconf, hfault, hlong⟩ := dutyForbids_iff.1 hd
  exact absurd (h i hi hconf hfault) (Nat.not_le.2 hlong)

end Duty

section Line

variable {d : Dev} {l : LineRx} {c : ImageArg} (hline : d.img.line = some l) (hcfg : d.img.cfg = some c)

include hline hcfg

/-- R349, R352: LINE_START rides in the frame of the tick. -/
theorem lineStart_framed (hsent : l.sent = false) (hedge : l.edgeTick < d.now) (hf : d.imagerFramed = true) :
    d.lineStart = { d.onImg fun m => { m with line := some { l with
        sent := true
        startTick := d.now
        midPs := (d.psNow + ((d.port 32).dHead : Rat) + 500 * c.lineExp).floor } } with
      links := { d.links with out := upd d.links.out 32 fun bs => bs.take 1 ++ lineBlocks c l ++ bs.drop 4 } } := by
  simp only [Dev.lineStart, hline, hcfg]
  exact if_neg (by simp [hsent, hf, hedge])

/-- R354: its deadline over, a line that has started ends. -/
theorem lineDeadline_due (hsent : l.sent = true) (hdue : l.startTick * 250 + d.lineMin c + 100000 ≤ d.now * 250) :
    d.lineDeadline = d.lineEnd := by
  simp only [Dev.lineDeadline, hline, hcfg]
  exact if_pos (by simp only [hsent, Bool.true_and, decide_eq_true_eq]; omega)

variable (hsent : l.sent = true) (hpulse : l.pulsed = false) (hdue : l.startTick + c.strobeDelay / 250 ≤ d.now)

include hsent hpulse hdue

/-- R362: a pulse due where strobes do not fire. -/
theorem strobe_unlit (hlive : d.strobesLive = false) :
    d.strobe = d.onImg fun m => { m with line := some { l with pulsed := true } } := by
  simp only [Dev.strobe, hline, hcfg]
  rw [if_neg (by simp [hsent, hpulse, hdue]), if_pos (by simp [hlive])]

variable (hlive : d.strobesLive = true)

include hlive

/-- R359, R363: a pulse that the lamp's temperature or the duty rule forbids leaves its line dark, flagged by what forbids it. -/
theorem strobe_dark (h : d.img.factor ≤ 0 ∨
      d.dutyForbids c (nth c.dirs l.dir) (250 * l.startTick + c.strobeDelay) = true) :
    d.strobe = d.onImg fun m => { m with line := some { l with
      pulsed := true
      flags := l.flags ||| (if d.img.factor < 1 then 8 else 0) |||
        (if d.dutyForbids c (nth c.dirs l.dir) (250 * l.startTick + c.strobeDelay) && 0 < d.img.factor then 16 else 0)
      strings := 0, current := 0 } } := by
  have hdark : (decide (d.img.factor ≤ 0) ||
      d.dutyForbids c (nth c.dirs l.dir) (250 * l.startTick + c.strobeDelay)) = true := by simpa using h
  simp only [Dev.strobe, hline, hcfg]
  rw [if_neg (by simp [hsent, hpulse, hdue]), if_neg (by simp [hlive])]
  simp only [hdark, if_true]

/-- R359, R363: the pulse of a line lights its strings in use, at the current that the factor leaves. -/
theorem strobe_lit (hpos : 0 < d.img.factor)
    (hduty : d.dutyForbids c (nth c.dirs l.dir) (250 * l.startTick + c.strobeDelay) = false) :
    d.strobe = (d.strings (nth c.dirs l.dir)).foldl
      (fun d i => d.onLed i (LedChan.fire (250 * l.startTick + c.strobeDelay) (nth c.dirs l.dir).width))
      (d.onImg fun m => { m with line := some { l with
        pulsed := true
        flags := l.flags ||| (if d.img.factor < 1 then 8 else 0)
        strings := maskOf (d.strings (nth c.dirs l.dir))
        current := natOf (roundRat ((nth c.dirs l.dir).current * d.img.factor)) } }) := by
  simp only [Dev.strobe, hline, hcfg]
  rw [if_neg (by simp [hsent, hpulse, hdue]), if_neg (by simp [hlive])]
  simp only [hduty, not_le.2 hpos, decide_false, Bool.or_self, Bool.false_and, Bool.false_eq_true, if_false, Nat.or_zero]

end Line

section Channel

variable {d : Dev} {k : Nat}

/-- R365: a general channel's sample is judged for open and short alone. -/
theorem senseSample_general {u v : Nat} {b : Bool} (ht : (d.led k).test ≠ 1) (hdue : d.sampleDue k = true) (hk : 8 ≤ k) :
    d.senseSample k u v b = (d.onLed k fun c => { c with senseUv := u, stringMv := v, sampled := true }).ledResult k
      ((d.led k).judge (d.ledCurrent k) u v false) := by
  simp only [Dev.senseSample, ht, hdue, Nat.not_lt.2 hk, decide_false, Bool.and_false, Bool.not_true, Bool.false_eq_true,
    if_false]

/-- R364, R365: at the end of 1 ms every general channel goes on. -/
theorem patternTick_due (h : d.img.baseTick + msT 1 ≤ d.now) : d.patternTick = d.onImg fun m => { m with
    baseTick := m.baseTick + msT 1, ledMode := d.mode.mode
    leds := m.leds.mapIdx fun i c => if i < 8 then c else m.channelTick d.mode.mode c } :=
  if_neg (Nat.not_lt.2 h)

end Channel

section Lamp

variable {d : Dev} {a : LampArg} {k : Nat}

theorem lampTick_outOfRange (ha : d.img.lamp = some a) (h : k < a.thermLo ∨ a.thermHi < k) :
    d.lampTick k = d.onImg fun m => { m with lampTemp := none, factor := 0 } := by
  simp only [Dev.lampTick, ha, h, if_true]

theorem lampTick_inRange {t : Int} (ha : d.img.lamp = some a) (hlo : a.thermLo ≤ k) (hhi : k ≤ a.thermHi)
    (ht : lampTempAt a k = some t) :
    d.lampTick k = d.onImg fun m => { m with lampTemp := some t, factor := lampFactor a t } := by
  simp only [Dev.lampTick, ha, ht]
  exact if_neg (by omega)

/-- R363: between T_DERATE and T_MAX the factor falls along a line, and it stays where that line has left 0 to 1. -/
theorem lampFactor_eq_clampQ (h : a.tDerate < a.tMax) (t : Int) :
    lampFactor a t = clampQ 0 1 (((a.tMax - t : Int) : Rat) / ((a.tMax - a.tDerate : Int) : Rat)) := by
  have hw : (0 : Rat) < ((a.tMax - a.tDerate : Int) : Rat) := by exact_mod_cast Int.sub_pos.2 h
  have hone : ((a.tMax - t : Int) : Rat) / ((a.tMax - a.tDerate : Int) : Rat) ≤ 1 ↔ a.tDerate ≤ t := by
    rw [div_le_one hw, Int.cast_le]
    omega
  have hzero : ((a.tMax - t : Int) : Rat) / ((a.tMax - a.tDerate : Int) : Rat) ≤ 0 ↔ a.tMax ≤ t := by
    rw [← not_lt, div_pos_iff_of_pos_right hw, Int.cast_pos]
    omega
  rw [lampFactor, clampQ]
  split_ifs with hcold hhot
  · rw [min_eq_left (not_le.1 (mt hone.1 (not_le.2 hcold))).le, max_eq_right zero_le_one]
  · rw [max_eq_left ((min_le_right ..).trans (hzero.2 hhot))]
  · rw [min_eq_right (hone.2 (not_lt.1 hcold)), max_eq_right (not_le.1 (mt hzero.1 hhot)).le]

theorem clampQ_mem {lo hi q : Rat} (h : lo ≤ hi) : lo ≤ clampQ lo hi q ∧ clampQ lo hi q ≤ hi :=
  ⟨le_max_left .., max_le h (min_le_left ..)⟩

theorem clampQ_mono {lo hi p q : Rat} (h : p ≤ q) : clampQ lo hi p ≤ clampQ lo hi q :=
  max_le_max_left _ (min_le_min_left _ h)

/-- R363: the factor never rises with the temperature. -/
theorem lampFactor_antitone (h : a.tDerate < a.tMax) {t u : Int} (htu : t ≤ u) : lampFactor a u ≤ lampFactor a t := by
  rw [lampFactor_eq_clampQ h, lampFactor_eq_clampQ h]
  have hw : (0 : Rat) ≤ ((a.tMax - a.tDerate : Int) : Rat) := by exact_mod_cast (Int.sub_pos.2 h).le
  exact clampQ_mono (div_le_div_of_nonneg_right (Int.cast_le.2 (by omega)) hw)

end Lamp

section Recoat

variable {d : Dev} {a : Nat}

theorem recoatStart_due {c : Desc} {g : RecoatArg} (hc : d.recoatDue = some c) (hg : d.slides.recoat.arg = some g) :
    d.recoatStart = if d.recoatUnhomed then d.enterHold .unhomed false none 4 else d.recoatGo g c := by
  simp only [Dev.recoatStart, hc, hg]

/-- R339: with its last axis in position a step gives way to the next. -/
theorem axisInPosition_last (hstep : d.slides.recoat.step ≠ 0) (hs : d.slides.recoat.suspended = false)
    (hf : d.slides.recoat.faulted = false) (hm : d.mode.mode = .build) (hw : d.slides.recoat.waiting = [a])
    (hp : d.inPosition a = true) :
    d.axisInPosition a = (d.onRecoat fun r => { r with waiting := [] }).recoatNext := by
  have hleft : (d.onRecoat fun r => { r with waiting := r.waiting.filter (· ≠ a) }) =
      d.onRecoat fun r => { r with waiting := [] } := by
    simp [Dev.onRecoat, hw]
  simp only [Dev.axisInPosition, hleft]
  rw [if_neg (by simp [hstep, hs, hf, hm, hw, hp])]
  rfl

end Recoat

/-- Settles O37: each event that the device takes is its update of the device; the derating is a clamped line. -/
theorem imagingEventsComplete : Obligations.ImagingEventsComplete := by
  refine ⟨⟨?start, ?unlit, ?tooHot, ?lit, ?forbidden, ?sample, ?deadline, ?outOfRange, ?derated, ?pattern, ?recoat, ?step⟩,
    ?factor⟩
  case start => exact fun l c s hl hline hcfg hsent hedge hf =>
    exec_lineStartSend.trans (onDev_eq hl (lineStart_framed hline hcfg hsent hedge hf))
  case unlit =>
    intro l c s hl hline hcfg hsent hpulse hdue hready hbuild
    have hlive : s.dev.strobesLive = false := Bool.eq_false_iff.2 fun h => (strobesLive_iff.1 h).elim hready hbuild
    exact exec_strobePulseStart.trans (onDev_eq hl (strobe_unlit hline hcfg hsent hpulse hdue hlive))
  case tooHot =>
    intro l c s hl hline hcfg hsent hpulse hlive hdue hf
    refine exec_strobePulseStart.trans (onDev_eq hl
      ((strobe_dark hline hcfg hsent hpulse hdue hlive (.inl hf.le)).trans ?_))
    simp [Dev.onImg, hf]
  case lit => exact fun l c s hl hline hcfg hsent hpulse hlive hdue hpos _ hduty =>
    exec_strobePulseStart.trans (onDev_eq hl
      (strobe_lit hline hcfg hsent hpulse hdue hlive hpos (dutyForbids_eq_false hduty)))
  case forbidden =>
    intro l c i s hl hline hcfg hsent hpulse hlive hdue hpos _ hi hconf hfault hlong
    have hduty := dutyForbids_iff.2 ⟨i, hi, hconf, hfault, hlong⟩
    refine exec_strobePulseStart.trans (onDev_eq hl
      ((strobe_dark hline hcfg hsent hpulse hdue hlive (.inr hduty)).trans ?_))
    simp [Dev.onImg, hduty, hpos]
  case sample => exact fun k u v b s hl ht hdue hk =>
    exec_strobeSenseSample.trans (onDev_eq hl (senseSample_general ht hdue hk))
  case deadline => exact fun l c s hl hline hcfg hsent hdue =>
    exec_lineDeadline.trans (onMem_eq hl (congrArg (recWrites s.dram) (lineDeadline_due hline hcfg hsent hdue)))
  case outOfRange => exact fun k a s hl ha h =>
    exec_lampTemperature.trans (onDev_eq hl (lampTick_outOfRange ha h))
  case derated => exact fun k a t s hl ha hlo hhi ht =>
    exec_lampTemperature.trans (onDev_eq hl (lampTick_inRange ha hlo hhi ht))
  case pattern => exact fun s hl h => exec_ledPatternTick.trans (onDev_eq hl (patternTick_due h))
  case recoat => exact fun c g s hl hc hg =>
    exec_recoatStart.trans (onDev_eq hl (congrArg Dev.recoatWatch (recoatStart_due hc hg)))
  case step =>
    intro a s hl hstep hs hf hm hw hp
    refine exec_inPosition.trans (onMem_eq hl ?_)
    rw [axisInPosition_last hstep hs hf hm hw hp]
  case factor =>
    intro a t u h htu
    have hmem : ∀ v, 0 ≤ lampFactor a v ∧ lampFactor a v ≤ 1 := fun v =>
      lampFactor_eq_clampQ h v ▸ clampQ_mem zero_le_one
    exact ⟨(hmem u).1, lampFactor_antitone h htu, (hmem t).2⟩

end Sys2Proof.Proofs
end

section
/-! PROOFS. What the bodies of the `image` and `led` commands come to (R351, R359 to R366): O36. -/

namespace Sys2Proof.Proofs

open Sys2Proof.Machine Sys2Proof.Safety Sys2Proof.Laws

section Bodies

variable {x : Ctx} {mem : Dram} {d : Dev}

/-- R351: the camera of a port that is linked is sent the setting. -/
theorem imageConfigBody_sound {c : ImageArg} (hok : d.imageOk c = true) (hq : d.queueEmpty = true)
    (hb : d.imagingBusy = false) : imageConfigBody c x mem d =
      let t := { d with
        img := { d.img with cfg := some c, slots := List.replicate c.slots ImageRun.blank, run := none }
        flash := { d.flash with img := some c } }
      .done ((if (d.port 32).linked then t.sendCamera 32 else t).log x 0x0E 0xFFFF (imageStored d.img.cfg) (imageBytes c))
        (u32 (d.lineMin c) ++ u64 (imgSlotBytes c)) := by
  rw [imageConfigBody, if_neg (by simp [hok]), if_neg (by simp [hq, hb])]
  rfl

/-- R366: the line's edge is the present instant, at the count of the recoater's encoder. -/
theorem imageLineBody_free {k a : Nat} {c : ImageArg} (hc : d.img.cfg = some c) (hk : k < c.dirs.length)
    (hr : d.rangeOk a (imgRecBytes c) = true) (hm : d.recoaterMoves = false) (hl : d.img.line = none)
    (hh : (d.port 32).hearing = true) : imageLineBody k a x mem d =
      let count := match d.recoatEnc with | some n => (nth d.slides.encs n).count | none => 0
      .executing { d with img := { d.img with line := some (d.newLine 0 k 0 count), single := some (k, a) } }
        .imageLine true := by
  rw [imageLineBody, hc]
  exact (if_neg (by simp [hk, hr])).trans (if_neg (by simp [hm, hl, hh]))

theorem ledConfigBody_inRange {k r i v : Nat} (hk : k < 12) (hr : 1 ≤ r) (hr' : r ≤ 1000) (hi : 1 ≤ i)
    (hi' : i ≤ (if k < 8 then 2000 else 300)) (hv : v ≤ 1600) (hp : r * i ≤ 20000) (hb : d.imagingBusy = false) :
    ledConfigBody k r i v x mem d =
      let t := d.onLed k fun c => { c with configured := true, rsense := r, iSet := i, vShort := v }
      .done ({ t with flash := { t.flash with leds := t.flash.leds.set k (some (r, i, v)) } }.log x 0x0E k
        (ledStored ((d.led k).rsense, (d.led k).iSet, (d.led k).vShort)) (ledStored (r, i, v))) := by
  rw [ledConfigBody, if_neg (by omega), if_neg (by simp [hb])]

theorem ledPatternBody_sound {n : Nat} {ps : List PatternStep} (hn : n < 16) (hne : ps ≠ []) (hlen : ps.length ≤ 32)
    (hok : ∀ p ∈ ps, PatternStep.ok p = true) : ledPatternBody n ps x mem d =
      .done ((d.onImg fun m => { m with patterns := m.patterns.set n ps }).log x 0x0E n
        (patternBytes (nth d.img.patterns n)) (patternBytes ps)) := by
  have hall : ps.all PatternStep.ok = true := List.all_eq_true.2 hok
  rw [ledPatternBody, if_neg (by simp [hne, hall]; omega)]

/-- R364, R365: what `led.set` makes of the general channels. -/
theorem ledSetBody_ofMask {k n p : Nat} {ms : List Nat} (hk : k &&& 0xF00 = k) (hn : n < 16)
    (hms : ∀ q ∈ ms, q < 16 ∨ q = 0xFF) : ledSetBody k n p ms x mem d =
      let t := d.onImg fun m => { m with
        baseTick := d.now
        leds := m.leds.mapIdx fun i c =>
          if i < 8 then c
          else if Nat.testBit k i then { c with ms := 0, pattern := n, chosen := n, phaseMs := p, map := ms }
          else { c with ms := 0 } }
      .done (t.log x 0x0E 0xFFFF d.img.setForm t.img.setForm) := by
  have hmap : ms.any (fun q => 16 ≤ q && q ≠ 0xFF) = false := List.any_eq_false.2 fun q hq => by
    have := hms q hq
    simp only [Bool.and_eq_true, decide_eq_true_eq]
    omega
  rw [ledSetBody, hmap, if_neg (by simp [hk, hn])]

theorem ledLampBody_sound {a : LampArg} (hok : LampArg.ok a = true) (hb : d.imagingBusy = false) :
    ledLampBody a x mem d = .done ({ d with
      img := { d.img with lamp := some a }
      flash := { d.flash with lamp := some a } }.log x 0x0E 0xFFFF (lampStored d.img.lamp) (lampStored (some a))) := by
  rw [ledLampBody, if_neg (by simp [hok]), if_neg (by simp [hb])]
  rfl

section Clear

variable {k : Nat} (hk : k < 4096)
include hk

theorem ledClearBody_none (hf : ∀ c ∈ bitsOf 12 k, (d.led c).fault = false) :
    ledClearBody k x mem d = .done d (u32 0) := by
  have hall : ((bitsOf 12 k).all fun c => ! (d.led c).fault) = true :=
    List.all_eq_true.2 fun c hc => by rw [hf c hc, Bool.not_false]
  rw [ledClearBody, if_neg (Nat.not_le.2 hk), if_pos hall]

/-- R361: each channel of the mask in FAULT awaits its test, one clear at a time. -/
theorem ledClearBody_fault (hf : ∃ c ∈ bitsOf 12 k, (d.led c).fault = true)
    (hj : ∀ j ∈ d.host.jobs, ∀ q, j.kind ≠ .ledClear q) : ledClearBody k x mem d =
      .executing ((bitsOf 12 k).foldl (fun d c => d.onLed c fun y => { y with test := if y.fault then 1 else 0 }) d)
        (.ledClear k) false := by
  obtain ⟨c, hc, hfault⟩ := hf
  have hall : ¬ ((bitsOf 12 k).all fun c => ! (d.led c).fault) = true := fun h => by
    simpa [hfault] using List.all_eq_true.1 h c hc
  have hjob : ¬ (d.hasJob fun q => match q with | .ledClear _ => true | _ => false) = true := fun h => by
    obtain ⟨j, hmem, hkind⟩ := List.any_eq_true.1 h
    dsimp only at hkind
    split at hkind
    · next q hq => exact hj j hmem q hq
    · cases hkind
  rw [ledClearBody, if_neg (Nat.not_le.2 hk), if_neg hall]
  exact if_neg hjob

end Clear

end Bodies

/-- Settles O36: each command that starts has the outcome of its body. -/
theorem imagingCommandsComplete : Obligations.ImagingCommandsComplete := by
  refine ⟨?config, ?status, ?line, ?led, ?pattern, ?set, ?lamp, ?ledStatus, ?clear, ?nothing⟩
  case config => exact fun m c s x hs hok hq hb =>
    exec_imageConfig.trans (runCmd_answered hs (imageConfigBody_sound hok hq hb))
  case status => exact fun m s x hs => exec_imageStatus.trans (runCmd_answered hs rfl)
  case line => exact fun m k a c s x hs hc hk hr hm hl hh =>
    ⟨_, rfl, rfl, rfl, rfl, exec_imageLine.trans (runCmd_running hs (imageLineBody_free hc hk hr hm hl hh))⟩
  case led => exact fun m k r i v s x hs hk hr hr' hi hi' hv hp hb =>
    exec_ledConfig.trans (runCmd_answered hs (ledConfigBody_inRange hk hr hr' hi hi' hv hp hb))
  case pattern => exact fun m n ps s x hs hn hne hlen hok =>
    exec_ledPattern.trans (runCmd_answered hs (ledPatternBody_sound hn hne hlen hok))
  case set => exact fun m k n p ms s x hs hk hn hms =>
    exec_ledSet.trans (runCmd_answered hs (ledSetBody_ofMask hk hn hms))
  case lamp => exact fun m a s x hs hok hb =>
    exec_ledLamp.trans (runCmd_answered hs (ledLampBody_sound hok hb))
  case ledStatus => exact fun m s x hs => exec_ledStatus.trans (runCmd_answered hs rfl)
  case clear => exact fun m k s x hs hk hf hj =>
    exec_ledClear.trans (runCmd_running hs (ledClearBody_fault hk hf hj))
  case nothing => exact fun m k s x hs hk hf =>
    exec_ledClear.trans (runCmd_answered hs (ledClearBody_none hk hf))

end Sys2Proof.Proofs
end

section
/-! PROOFS. What a `mode.set` does while the device sleeps (R307, R407, R518), and with it that O3 does not hold: its shell
begins the entry into Build of a job left standing, asleep or not, and that entry wakes the ports. -/

namespace Sys2Proof.Proofs

open Sys2Proof.Machine Sys2Proof.Safety Sys2Proof.Laws

section Asleep

variable {s : State}

/-- R407: no command starts in a device that does not run. -/
theorem startOf_asleep {c : Instr} (h : s.dev.awake = false) : s.dev.startOf c = none := by
  rw [Dev.startOf]
  split
  · rfl
  · rw [h]
    rfl

/-- A `mode.set` that does not start still begins the entry into Build of a job that waits for it. -/
theorem exec_modeSet_asleep (m t : Nat) (h : s.dev.awake = false) :
    exec (.modeSet m t) s = .next (withDev s s.dev.startBuild) := by
  rw [exec_modeSet, execModeSet, runCmd_idle (startOf_asleep h)]
  rfl

/-- The job that waits begins its entry where none is under way. -/
theorem startBuild_begins {d : Dev} {j : Job} (hj : d.host.jobs.find? (·.kind == .modeSet 5) = some j)
    (he : d.mode.entry = none) (ht : d.mode.transition = false) :
    d.startBuild = d.beginBuild (if j.mbx = 17 then 2 else 1) := by
  simp only [Dev.startBuild, hj, he, ht]
  rfl

theorem idle_of_heldInReset {d : Dev} (h : HeldInReset (withDev s d)) : ∀ p ∈ d.links.ports, p.st = .idle := by
  obtain ⟨-, -, -, -, hidle⟩ := h
  exact hidle

end Asleep

/-- A `mode.set` into Build that has no final outcome. -/
def buildJob : Job where
  mbx := 4
  opcode := 0x0C02
  tag := 0
  flags := 0
  seq := 1
  completionId := 0
  orphaned := false
  kind := .modeSet 5

/-- A device in Ready with that job and no entry under way, as a Hold from Ready leaves it whose cause ends during the entry
(`Dev.toReady` drops the entry and leaves the job), RSTn asserted; one more `mode.set` waits. -/
def resetOverBuildJob : State where
  pending := [.modeSet 4 5]
  dram := State.reset.dram
  dev := ({ Dev.reset with
    mode := { ModeCtl.reset with mode := .ready }
    host := { HostIf.reset with jobs := [buildJob] } }).resetAssert .rstn

theorem heldInReset_resetOverBuildJob : HeldInReset resetOverBuildJob := by
  refine ⟨?_, ?_, ?_, ?_, ?_⟩ <;> decide

/-- With no proof due the entry wakes the ports of the oars at once, and one that is idle trains (R298). -/
theorem beginBuild_trains : ∃ p ∈ (resetOverBuildJob.dev.beginBuild 1).links.ports, p.st ≠ .idle := by
  decide +kernel

/-- Refutes O3: a `mode.set` into Build left standing when RSTn was asserted begins its entry under the reset, and ports that R307
holds idle train. -/
theorem not_stepKeepsMemoryCanonical : ¬ Obligations.StepKeepsMemoryCanonical := by
  rintro ⟨-, hheld⟩
  have hasleep : (resetOverBuildJob.rest []).dev.awake = false := by decide
  have hbegin : (resetOverBuildJob.rest []).dev.startBuild = resetOverBuildJob.dev.beginBuild 1 :=
    startBuild_begins (j := buildJob) rfl rfl rfl
  have hstep : step resetOverBuildJob =
      .next (withDev (resetOverBuildJob.rest []) (resetOverBuildJob.dev.beginBuild 1)) :=
    hbegin ▸ exec_modeSet_asleep 4 5 hasleep
  obtain ⟨p, hp, htrains⟩ := beginBuild_trains
  exact htrains (idle_of_heldInReset (hheld _ _ heldInReset_resetOverBuildJob hstep) p hp)

end Sys2Proof.Proofs
end

section
/-! PROOFS. What the bodies of the `mem` commands come to (R376 to R394), and with it O15. -/

namespace Sys2Proof.Proofs

open Sys2Proof.Machine Sys2Proof.Safety Sys2Proof.Laws

section Posted

variable (d : Dev)

@[simp] theorem onIrq_unfenced (h : HostIf) (pf1 : Bool) (v : Nat) (f : Irq → Irq × Bool) :
    (h.onIrq pf1 v f).unfenced = h.unfenced := by
  simp only [HostIf.onIrq]
  split_ifs <;> rfl

@[simp] theorem raise_unfenced (v : Nat) : (d.raise v).host.unfenced = d.host.unfenced := by
  simp only [Dev.raise, onIrq_unfenced]

@[simp] theorem refreshStarts_unfenced : d.refreshStarts.host.unfenced = d.host.unfenced := rfl

/-- An answer leaves the writes that are posted and not yet in DRAM. -/
@[simp] theorem respond_unfenced (m st de hint c : Nat) (r : List Byte) :
    (d.respond m st de hint c r).host.unfenced = d.host.unfenced := by
  simp only [Dev.respond, refreshStarts_unfenced]
  split
  · exact raise_unfenced ..
  · rfl

end Posted

section Bodies

variable {x : Ctx} {mem : Dram} {d : Dev}

/-- R373, R394: a configuration in range, with no layer queued, and no ring where the order of addresses changes. -/
theorem memConfigBody_inRange {o k sc ce r : Nat} (ho : o ≤ 3) (hk : 6 ≤ k) (hk' : k ≤ 16) (hs : 1 ≤ sc) (hs' : sc ≤ 168)
    (hce : ce = 0 ∨ 10 ≤ ce ∧ ce ≤ 1000000) (hr : 1 ≤ r) (hr' : r ≤ 8) (hq : d.queueEmpty = true)
    (hring : o = d.mc.order ∨ ∀ g ∈ d.recd.rings, g.configured = false) : memConfigBody o k sc ce r x mem d =
      let mc := { d.mc with order := o, k := k, scrubH := sc, ceLimit := ce, migRate := r }
      .ok ({ d with mc := mc }.log x 0x09 0 d.mc.confBytes mc.confBytes) mc.confBytes
        (if o = d.mc.order then [] else [.remap d.mc.order o d.mc.rowBits, .renew (d.mc.hostLimit / 64)]) := by
  have hfree : ¬ (o ≠ d.mc.order ∧ d.recd.rings.any (·.configured) = true) := by
    rintro ⟨hne, hany⟩
    obtain ⟨g, hg, hconf⟩ := List.any_eq_true.1 hany
    exact Bool.false_ne_true ((hring.resolve_left hne g hg).symm.trans hconf)
  rw [memConfigBody, if_neg (by omega), if_neg (by simpa [hq] using hfree)]

theorem memQosBody_inRange {a b c : Nat} (ha : 1 ≤ a) (ha' : a ≤ 15) (hb : 1 ≤ b) (hb' : b ≤ 15) (hc : 1 ≤ c)
    (hc' : c ≤ 15) : memQosBody a b c x mem d =
      .done ({ d with mc := { d.mc with qos := [a, b, c] } }.log x 0x09 1 (d.mc.qos.flatMap u32) ([a, b, c].flatMap u32))
        ([a, b, c].flatMap u32) := by
  refine if_neg ?_
  simp only [List.any_cons, List.any_nil, Bool.or_eq_true, decide_eq_true_eq, Bool.false_eq_true, or_false]
  omega

theorem memErrlogBody_inRange {f n c : Nat} (hc : c ≤ 1) (hn : 1 ≤ n) (hn' : n ≤ 62) : memErrlogBody f n c x mem d =
    .done (if c = 1 then { d with mc := { d.mc with errs := [] } } else d)
      (listOf ErrRec.bytes ((d.mc.errs.drop f).take n)) :=
  if_neg (by omega)

/-- R387: a spare that a migration uses is not unused. -/
theorem mig_none_of_hasSpare {ch : DramChan} (h : ch.hasSpare = true) : ch.mig = none := by
  rw [DramChan.hasSpare, Bool.and_eq_true, Bool.and_eq_true] at h
  obtain ⟨⟨-, hmig⟩, -⟩ := h
  exact Option.isNone_iff_eq_none.1 hmig

/-- R387, R527: the migration of a rank to the spare of its channel, its leave given at once. -/
theorem memMigrateBody_granted {c r : Nat} {t : Dev} (hc : c < 2) (hr : r < (nth d.mc.chans c).roles.length)
    (hs : (nth d.mc.chans c).hasSpare = true) (hg : d.request (.migration c) 4 d.mc.migDraw 0 = (.granted, t)) :
    memMigrateBody c r x mem d =
      let e := t.markMigration c ((nth d.mc.chans c).roles.getD r 0) none true
      .accepted (e.log x 0x09 c d.mc.mapBytes e.mc.mapBytes) 0 (.migrate c) [] := by
  have hrange : ¬ (2 ≤ c ∨ (nth d.mc.chans c).roles.length ≤ r) := by omega
  simp only [memMigrateBody, if_neg hrange, mig_none_of_hasSpare hs, hs, hg, Option.isSome_none, Bool.not_true,
    Bool.false_eq_true, if_false]

/-- R389: a rank that is RETIRED, on a channel with neither a migration nor a test. -/
theorem memUnretireBody_retired {c r : Nat} (hc : c < 2) (hr : r < 3) (hst : nth (nth d.mc.chans c).ranks r = .retired)
    (hq : d.queueEmpty = true) (hm : (nth d.mc.chans c).mig = none) (ht : (nth d.mc.chans c).testing = none) :
    memUnretireBody c r x mem d =
      .accepted (d.onChan c fun ch => { ch with testing := some r }) 0 (.unretire c) [] := by
  have hrange : ¬ (2 ≤ c ∨ 3 ≤ r ∨ (nth (nth d.mc.chans c).ranks r != .retired) = true) := by
    simp only [hst, bne_self_eq_false, Bool.false_eq_true, or_false]
    omega
  have hfree : ¬ ((! d.queueEmpty) = true ∨ (nth d.mc.chans c).mig.isSome = true ∨ (nth d.mc.chans c).testing.isSome = true) := by
    simp [hq, hm, ht]
  rw [memUnretireBody, if_neg hrange, if_neg hfree]

/-- R380, R527: no pause asked for was refused leave. -/
theorem memRetrainBody_leave {k : Nat} (hk : 1 ≤ k) (hk' : k < 16) (hn : (d.askPauses (bitsOf 4 k)).1 = none) :
    memRetrainBody k x mem d =
      let e := (d.askPauses (bitsOf 4 k)).2.2
      .accepted e (if (d.askPauses (bitsOf 4 k)).2.1 then
        ((e.gov.waiting.find? fun l => (bitsOf 4 k).any fun c => isRetraining c l.who).map e.leaveHint).getD 0 else 0)
        (.retrain (17 * k)) [] := by
  have hrange : ¬ (k = 0 ∨ 16 ≤ k) := by omega
  simp only [memRetrainBody, if_neg hrange, hn]

theorem memInjectBody_inRange {a k : Nat} (hk : k = 1 ∨ k = 2) (ha : a + 64 ≤ d.mc.hostLimit) :
    memInjectBody a k x mem d = .ok (d.log x 0x09 2 [] (u64 a ++ u32 k)) [] [.inject (burstOf a) (k = 2)] := by
  have hrange : d.rangeOk a 64 = true := decide_eq_true ha
  refine if_neg ?_
  simp only [hrange, Bool.not_true, Bool.false_eq_true, or_false]
  omega

end Bodies

/-- Settles O15: each command that starts has the outcome of its body. -/
theorem memCommandsComplete : Obligations.MemCommandsComplete := by
  refine ⟨?fence, ?config, ?qos, ?status, ?errlog, ?migrate, ?unretire, ?retrain, ?inject⟩
  case fence => exact fun m s x hs => ⟨_, exec_memFence.trans (runCmd_ok hs rfl), rfl, respond_unfenced ..⟩
  case config => exact fun m o k sc ce r s x hs ho hk hk' hsc hsc' hce hr hr' hq hring =>
    exec_memConfig.trans (runCmd_ok hs (memConfigBody_inRange ho hk hk' hsc hsc' hce hr hr' hq hring))
  case qos => exact fun m a b c s x hs ha ha' hb hb' hc hc' =>
    exec_memQos.trans (runCmd_answered hs (memQosBody_inRange ha ha' hb hb' hc hc'))
  case status => exact fun m s x hs => exec_memStatus.trans (runCmd_answered hs rfl)
  case errlog => exact fun m f n c s x hs hc hn hn' =>
    exec_memErrlog.trans (runCmd_answered hs (memErrlogBody_inRange hc hn hn'))
  case migrate => exact fun m c r s x hs hc hr hspare hg =>
    exec_memMigrate.trans (runCmd_taken hs (memMigrateBody_granted hc hr hspare (Prod.ext hg rfl)))
  case unretire => exact fun m c r s x hs hc hr hst hq hm ht =>
    exec_memUnretire.trans (runCmd_taken hs (memUnretireBody_retired hc hr hst hq hm ht))
  case retrain => exact fun m k s x hs hk hk' hn =>
    exec_memRetrain.trans (runCmd_taken hs (memRetrainBody_leave hk hk' hn))
  case inject => exact fun m a k s x hs hk ha =>
    exec_memInject.trans (runCmd_ok hs (memInjectBody_inRange hk ha))

end Sys2Proof.Proofs
end

section
/-! PROOFS. What the DRAM controller does of its own (R377 to R389): refresh, patrol, pauses, migration, tests; and
with it O16. -/

namespace Sys2Proof.Proofs

open Sys2Proof.Machine Sys2Proof.Safety Sys2Proof.Laws

/-- DRAM contents stay where a device step does nothing to them. -/
theorem onMem_still {c : Instr} {f : Dram → Dev → Dev × List DramOp} {s : State} {d : Dev} (hl : Live c s)
    (h : f s.dram s.dev = (d, [])) : onMem c f s = .next (withDev s d) :=
  onMem_eq hl h

section Paced

variable {d : Dev} {m : Dram}

/-- R378: a refresh that is due is made at the rate of the temperature band. -/
theorem refresh_due (hdue : d.mc.refreshDue ≤ (d.now : Rat)) (hlive : d.blockLive 8 0 = true) :
    d.refresh = { d with mc := { d.mc with
      refresh := refreshRate d.therm.band
      refreshCount := d.mc.refreshCount + 1
      refreshDue := pace d.mc.refreshDue d.now (78 / (5 * refreshRate d.therm.band)) } } :=
  if_neg (by simp [hlive, hdue])

/-- A burst that is neither poisoned nor injected into is read as it is (R376). -/
theorem readBurst_sound {src a : Nat} (hp : burstOf a ∉ m.poison) (hi : ∀ e ∈ m.injected, e.1 ≠ burstOf a) :
    d.readBurst m src a .clean = (d, [], true) := by
  have hnone : m.injected.find? (·.1 = burstOf a) = none :=
    List.find?_eq_none.2 fun e he => by simpa using hi e he
  simp only [Dev.readBurst, hnone, List.contains_iff_mem, if_neg hp, Option.map_none, reduceCtorEq, or_self, if_false]

theorem scrubAt_sound {a : Nat} (hp : burstOf a ∉ m.poison) (hi : ∀ e ∈ m.injected, e.1 ≠ burstOf a) :
    d.scrubAt m a .clean = (d.activate a 64, []) := by
  simp only [Dev.scrubAt, readBurst_sound hp hi, if_true]

/-- R377: the patrol among the working ranks. -/
theorem scrub_working {o : EccOutcome} (h : d.mc.scrubPos < d.mc.workBursts) : d.scrub m o =
    { d with mc := { d.mc with
      scrubPos := if d.mc.scrubPos + 1 < d.mc.allBursts then d.mc.scrubPos + 1 else 0
      scrubDue := pace d.mc.scrubDue d.now
        ((d.mc.scrubH * sT 3600 : Nat) / (max 1 d.mc.allBursts : Nat)) } }.scrubAt m (64 * d.mc.scrubPos) o :=
  if_neg (Nat.not_le.2 h)

theorem scrubEvent_leave {o : EccOutcome} (hdue : d.mc.scrubDue ≤ (d.now : Rat)) (hlive : d.blockLive 8 0 = true)
    (hl : d.holdsLeave isScrub = true) : d.scrubEvent m o = ((d.scrub m o).1.release isScrub, (d.scrub m o).2) := by
  rw [Dev.scrubEvent, if_neg (by simp [hlive, hdue]), if_pos hl]

end Paced

section Pauses

variable {d : Dev} {c : Nat} {ds : List Int} {check : Option Nat}

section Due

variable (hdue : d.pauseDue c = true) (hlive : d.blockLive 8 0 = true)
include hdue hlive

/-- R380: a pause that is due, under leave and outside panic, is taken. -/
theorem pauseEvent_leave (h0 : d.mc.panic0 = false) (h1 : d.mc.panic1 = false)
    (hl : d.holdsLeave (isRetraining c) = true) : d.pauseEvent c ds check = d.checkedPause c ds check := by
  rw [Dev.pauseEvent, if_neg (by simp [hdue, hlive]), if_neg (by simp [h0, h1]), if_pos hl]

/-- R381: in panic it waits. -/
theorem pauseEvent_panic (h : d.mc.panic0 = true ∨ d.mc.panic1 = true) :
    d.pauseEvent c ds check = (d.postpone c, []) := by
  rw [Dev.pauseEvent, if_neg (by simp [hdue, hlive]), if_pos (by simpa using h)]

end Due

/-- R386: the check of a pause meets an uncorrectable error in the subchannel that is trained. -/
theorem checkedPause_meets {a : Nat} (hc : a / 64 % 4 = c) (ha : a < d.mc.capacity) :
    d.checkedPause c ds (some a) = (d.pause c ds).uncorrectable 7 a :=
  if_pos ⟨hc, ha⟩

/-- Free integers drawn one after the other: one for each place, and no part of the device but the draw changes. -/
theorem foldl_drawInt (lo hi : Int) (is : List Nat) (acc : List Int) (d : Dev) :
    ∃ (es : List Int) (e : Dev), es.length = acc.length + is.length ∧ e = { d with free := e.free } ∧
      is.foldl (fun (r : List Int × Dev) _ => (r.1 ++ [(r.2.drawInt lo hi).1], (r.2.drawInt lo hi).2)) (acc, d) = (es, e) := by
  induction is generalizing acc d with
  | nil => exact ⟨acc, d, rfl, rfl, rfl⟩
  | cons i is ih =>
    obtain ⟨es, e, hlen, he, hfold⟩ := ih (acc ++ [(d.drawInt lo hi).1]) (d.drawInt lo hi).2
    refine ⟨es, e, ?_, he, hfold⟩
    rw [hlen, List.length_append, List.length_singleton, List.length_cons]
    omega

/-- R381: a pause postponed for more than 1 s is taken, with free deltas. -/
theorem latePause_overdue {t : Nat} (ht : nth d.mc.dueSince c = some t) (hlate : t + sT 1 < d.now)
    (h0 : d.mc.panic0 = false) : ∃ (e : Dev) (es : List Int), es.length = 40 ∧ e = { d with free := e.free } ∧
      d.latePause c = ({ e with mc := { e.mc with retrainLate := e.mc.retrainLate + 1 } }.errRec 6 7 (2 ^ 64 - 1) 0xFF
        ⟨c, 0, 0, 0, 0⟩).pause c es := by
  obtain ⟨es, e, hlen, he, hfold⟩ := foldl_drawInt (-2 ^ 31) (2 ^ 31 - 1) (List.range ddrLanes) [] d
  refine ⟨e, es, by simpa [ddrLanes] using hlen, he, ?_⟩
  have hruns : ¬ (d.mc.panic0 || decide (d.now ≤ t + sT 1)) = true := by simp [h0, hlate]
  simp only [Dev.latePause, ht, if_neg hruns, hfold]

end Pauses

section Copying

variable {d : Dev} {m : Dram} {c : Nat} {found : List (Nat × EccOutcome)} {g : Migration}

/-- R387: a chunk under leave, at its time, is copied. -/
theorem chunkEvent_leave (hg : (nth d.mc.chans c).mig = some g) (hlive : d.blockLive 8 0 = true)
    (hl : d.holdsLeave (isMigration c) = true) : d.chunkEvent m c found = d.copyChunk m c g found := by
  simp only [Dev.chunkEvent, hg, hlive, hl, Bool.not_true, Bool.false_eq_true, if_false, if_true]

theorem copyChunk_due (hdue : g.due ≤ (d.now : Rat)) : d.copyChunk m c g found =
    let r := (d.openChunk c (g.chunk g.copied) g.rank).copyErrors m c (g.chunk g.copied) g.rank found
    let e := r.1.onChan c fun ch => { ch with mig := ch.mig.map fun x =>
      { x with copied := x.copied + 1, due := pace x.due d.now d.mc.chunkTicks } }
    (if g.copied + 1 < g.total then e else e.migrated c g.rank, r.2) :=
  if_neg (not_lt.2 hdue)

theorem copyErrors_none {chunk rank : Nat} (h : m.injected = []) : d.copyErrors m c chunk rank [] = (d, []) := by
  simp only [Dev.copyErrors, h, List.filter_nil, List.map_nil, List.append_nil, List.foldl_nil]

end Copying

section Tests

variable {d : Dev} {c r : Nat} {pass : Bool}

/-- With no job of a kind, what is done to each job of that kind, its end included, does nothing. -/
theorem endJobs_none {p : JobKind → Bool} {f : Dev → Job → Dev} {st de : Nat} {bs : List Byte}
    (h : ∀ j ∈ d.host.jobs, p j.kind = false) :
    ((d.host.jobs.filter fun j => p j.kind).foldl f d).finishJobs p st de bs = d := by
  have hnone : (d.host.jobs.filter fun j => p j.kind) = [] :=
    List.filter_eq_nil_iff.2 fun j hj => Bool.eq_false_iff.1 (h j hj)
  rw [hnone, List.foldl_nil, Dev.finishJobs, hnone, List.foldl_nil]

/-- The jobs that `Dev.tested` ends: those of a `mem.unretire` on channel c. -/
def awaitsTest (c : Nat) : JobKind → Bool
  | .unretire b => decide (b = c)
  | _ => false

theorem awaitsTest_eq_false {k : JobKind} (h : k ≠ .unretire c) : awaitsTest c k = false := by
  rw [awaitsTest.eq_def]
  split
  · next b => exact decide_eq_false fun hb => h (hb ▸ rfl)
  · rfl

/-- The controller once a test of rank r of channel c has ended (R389): a rank that passed is a SPARE. -/
def afterTest (mc : MemCtl) (c r : Nat) (pass : Bool) : MemCtl :=
  let ended := { mc with chans := upd mc.chans c fun ch => { ch with testing := none } }
  if pass then
    let chans := upd ended.chans c (DramChan.change r .spare id)
    { ended with chans := chans, exhausted := mc.exhausted && chans.any fun ch => ! ch.hasSpare }
  else ended

/-- R389: a test that no command waits for changes the controller alone. -/
theorem tested_unasked (ht : (nth d.mc.chans c).testing = some r) (hj : ∀ j ∈ d.host.jobs, j.kind ≠ .unretire c) :
    d.tested c pass = { d with mc := afterTest d.mc c r pass } := by
  rw [Dev.tested, ht]
  have hnone : ∀ j ∈ d.host.jobs, awaitsTest c j.kind = false := fun j hmem => awaitsTest_eq_false (hj j hmem)
  cases pass
  case false => exact endJobs_none (d := { d with mc := afterTest d.mc c r false }) hnone
  case true => exact endJobs_none (d := { d with mc := afterTest d.mc c r true }) hnone

theorem afterTest_chan {mc : MemCtl} (hc : c < mc.chans.length) :
    (nth (afterTest mc c r pass).chans c).testing = none ∧
      (nth (afterTest mc c r pass).chans c).ranks =
        if pass then (nth mc.chans c).ranks.set r .spare else (nth mc.chans c).ranks := by
  cases pass
  case false => simp [afterTest, nth_upd_same hc]
  case true => simp [afterTest, upd_upd, nth_upd_same hc, DramChan.change]

end Tests

/-- Settles O16: each event of the running device is its device step, where it is due and has leave. -/
theorem memEventsComplete : Obligations.MemEventsComplete := by
  refine ⟨?refresh, fun _ => rfl, ?patrol, ?pause, ?check, ?panic, ?late, ?chunk, fun _ _ _ _ _ => copyErrors_none, ?test⟩
  case refresh => exact fun s hl hdue hlive => exec_dramRefresh.trans (onDev_eq hl (refresh_due hdue hlive))
  case patrol =>
    intro s ha hdue hlive hleave hpos hpoison hinj
    rw [exec_patrolScrubRead, execPatrolScrubRead, onMemAny_awake ha, scrubEvent_leave hdue hlive hleave,
      scrub_working hpos, scrubAt_sound hpoison hinj]
    rfl
  case pause => exact fun c ds s hl hdue hlive h0 h1 hleave =>
    exec_retrainingPause.trans (onMem_still hl (pauseEvent_leave hdue hlive h0 h1 hleave))
  case check => exact fun c ds a s hl hdue hlive h0 h1 hleave hc ha =>
    exec_retrainingPause.trans (onMem_eq hl
      ((pauseEvent_leave hdue hlive h0 h1 hleave).trans (checkedPause_meets hc ha)))
  case panic => exact fun c ds k s hl hdue hlive h =>
    exec_retrainingPause.trans (onMem_still hl (pauseEvent_panic hdue hlive h))
  case late =>
    intro c t s hl ht hlate h0
    obtain ⟨e, es, hlen, he, hpause⟩ := latePause_overdue ht hlate h0
    exact ⟨e, es, hlen, he, exec_retrainLate.trans (onDev_eq hl hpause)⟩
  case chunk => exact fun c f g s hl hg hlive hleave hdue =>
    exec_migrationChunkCopy.trans (onMem_eq hl ((chunkEvent_leave hg hlive hleave).trans (copyChunk_due hdue)))
  case test =>
    intro c p r s hl ht hc hj
    exact ⟨_, exec_unretireTestComplete.trans (onDev_eq hl (tested_unasked ht hj)), rfl, afterTest_chan hc⟩

end Sys2Proof.Proofs
end

section
/-! PROOFS. What a cause raised and an answer written change of the host interface (R407, R408, R413), and with it O55. -/

namespace Sys2Proof.Proofs

open Sys2Proof.Machine Sys2Proof.Safety Sys2Proof.Laws

section Irq

variable {tick v b : Nat} {q : Irq}

/-- A message is a matter of the vector's latest one, of what is held and of what pends. -/
theorem message_fields : ∃ l hs p, (Irq.message tick v q).1 = { q with last := l, held := hs, pba := p } := by
  simp only [Irq.message]
  split
  · exact ⟨_, _, _, rfl⟩
  · split
    · split <;> exact ⟨_, _, _, rfl⟩
    · exact ⟨_, _, _, rfl⟩

@[simp] theorem message_cause : (Irq.message tick v q).1.cause = q.cause := by
  obtain ⟨_, _, _, h⟩ := message_fields (tick := tick) (v := v) (q := q)
  rw [h]

@[simp] theorem message_enable : (Irq.message tick v q).1.enable = q.enable := by
  obtain ⟨_, _, _, h⟩ := message_fields (tick := tick) (v := v) (q := q)
  rw [h]

@[simp] theorem set_cause : (Irq.set tick v q).1.cause = q.cause ||| BitVec.ofNat 64 (2 ^ v) := by
  simp only [Irq.set]
  split
  · exact message_cause
  · rfl

theorem getLsbD_bit (hb : b < 64) : (BitVec.ofNat 64 (2 ^ v)).getLsbD b = decide (v = b) := by
  rw [BitVec.getLsbD_ofNat, Nat.testBit_two_pow, decide_eq_true hb, Bool.true_and]

/-- A cause that is raised stands, and the others as before. -/
theorem set_cause_getLsbD (hb : b < 64) : (Irq.set tick v q).1.cause.getLsbD b = (q.cause.getLsbD b || decide (v = b)) := by
  rw [set_cause, BitVec.getLsbD_or, getLsbD_bit hb]

end Irq

section Host

variable (h : HostIf) (pf1 : Bool) (v : Nat) (f : Irq → Irq × Bool)

/-- An operation on one function's block changes that block and the messages sent. -/
theorem onIrq_eq : h.onIrq pf1 v f = { h with
    irq0 := if pf1 then h.irq0 else (f h.irq0).1
    irq1 := if pf1 then (f h.irq1).1 else h.irq1
    msgs := if (f (if pf1 then h.irq1 else h.irq0)).2 then (pf1, v) :: h.msgs else h.msgs } := by
  cases pf1
  · simp only [HostIf.onIrq, Bool.false_eq_true, if_false]
    split <;> rfl
  · simp only [HostIf.onIrq, if_true]
    split <;> rfl

@[simp] theorem onIrq_mbx : (h.onIrq pf1 v f).mbx = h.mbx := by rw [onIrq_eq]
@[simp] theorem onIrq_jobs : (h.onIrq pf1 v f).jobs = h.jobs := by rw [onIrq_eq]
@[simp] theorem onIrq_dma : (h.onIrq pf1 v f).dma = h.dma := by rw [onIrq_eq]
@[simp] theorem onIrq_hostOut : (h.onIrq pf1 v f).hostOut = h.hostOut := by rw [onIrq_eq]
@[simp] theorem onIrq_bar2Base : (h.onIrq pf1 v f).bar2Base = h.bar2Base := by rw [onIrq_eq]

end Host

section Raise

variable (d : Dev) (v : Nat)

@[simp] theorem raise_jobs : (d.raise v).host.jobs = d.host.jobs := by simp only [Dev.raise, onIrq_jobs]
@[simp] theorem raise_dma : (d.raise v).host.dma = d.host.dma := by simp only [Dev.raise, onIrq_dma]
@[simp] theorem raise_hostOut : (d.raise v).host.hostOut = d.host.hostOut := by simp only [Dev.raise, onIrq_hostOut]
@[simp] theorem raise_bar2Base : (d.raise v).host.bar2Base = d.host.bar2Base := by simp only [Dev.raise, onIrq_bar2Base]

theorem raise_irq0 : (d.raise v).host.irq0 = (Irq.set d.now v d.host.irq0).1 := by simp [Dev.raise, onIrq_eq]
theorem raise_irq1 : (d.raise v).host.irq1 = (Irq.set d.now v d.host.irq1).1 := by simp [Dev.raise, onIrq_eq]

end Raise

section Respond

variable {d : Dev} {m st de hint id : Nat} {r : List Byte}

/-- A class deadline that begins to run changes the start of a queued command. -/
theorem refreshStarts_mbx (k : Nat) : ∃ b : Option Nat, (nth d.refreshStarts.host.mbx k) =
    { nth d.host.mbx k with startTick := b } := by
  simp only [nth, Dev.refreshStarts, List.getD_eq_getElem?_getD, List.getElem?_mapIdx]
  cases d.host.mbx[k]? with
  | none => exact ⟨none, rfl⟩
  | some b =>
    simp only [Option.map_some, Option.getD_some]
    split
    · exact ⟨_, rfl⟩
    · exact ⟨b.startTick, rfl⟩

/-- The response that R408 gives an answer. -/
def answerOf (d : Dev) (m st de hint id : Nat) (r : List Byte) : Response :=
  let b := nth d.host.mbx m
  ⟨st, de, (d.hdr m).opcode, (d.hdr m).tag, hint, id,
    if id ≠ 0 ∨ st = 0 ∨ st = 1 ∨ b.effect then b.logSeq else 0, r.take (if d.boot.compat then 2032 else 2016)⟩

/-- The device with that response in its mailbox, its cause not yet raised. -/
def written (d : Dev) (m st de hint id : Nat) (r : List Byte) : Dev :=
  let run := match (nth d.host.mbx m).startTick with | some t => d.now - t | none => 0
  d.onMbx m fun b => { b with st := .done, resp := some (answerOf d m st de hint id r), longest := max b.longest run }

theorem respond_eq : d.respond m st de hint id r =
    (if m < 16 then (written d m st de hint id r).raise m else written d m st de hint id r).refreshStarts := rfl

/-- An answer ends no other command's wait. -/
@[simp] theorem respond_jobs : (d.respond m st de hint id r).host.jobs = d.host.jobs := by
  rw [respond_eq]
  show (ite _ _ _ : Dev).host.jobs = _
  split
  · exact raise_jobs ..
  · rfl

/-- The mailbox an answer is for is DONE and holds it; the others keep what they hold. -/
theorem respond_mbx (k : Nat) : ∃ b : Option Nat,
    nth (d.respond m st de hint id r).host.mbx k = { nth (written d m st de hint id r).host.mbx k with startTick := b } := by
  rw [respond_eq]
  split
  · simpa only [raise_mbx] using refreshStarts_mbx (d := (written d m st de hint id r).raise m) k
  · exact refreshStarts_mbx k

end Respond

/-- Settles O55: the response is written into its mailbox, its cause is raised in both functions, and starts are refreshed. -/
theorem answerStandsInItsMailbox : Obligations.AnswerStandsInItsMailbox := by
  intro d m st de h i r hm hlen hcompat t
  have hraised : t = ((written d m st de h i r).raise m).refreshStarts := respond_eq.trans (by rw [if_pos hm])
  have hmbx := fun k => respond_mbx (d := d) (m := m) (st := st) (de := de) (hint := h) (id := i) (r := r) k
  obtain ⟨b, hb⟩ := hmbx m
  rw [written, onMbx_host, nth_upd_same hlen] at hb
  refine ⟨hraised ▸ rfl, by rw [hb], ⟨answerOf d m st de h i r, by rw [hb], rfl, rfl, rfl, rfl, rfl, rfl, ?_⟩, fun k hk => ?_,
    ?_, ?_, respond_jobs⟩
  · rw [answerOf, hcompat]
    rfl
  · obtain ⟨b, hb⟩ := hmbx k
    rw [written, onMbx_host, nth_upd_ne hk] at hb
    exact ⟨by rw [hb], by rw [hb]⟩
  · rw [hraised]
    show ((written d m st de h i r).raise m).host.irq0.cause.getLsbD m = true
    rw [raise_irq0, set_cause_getLsbD (by omega), decide_eq_true rfl, Bool.or_true]
  · rw [hraised]
    show ((written d m st de h i r).raise m).host.irq1.cause.getLsbD m = true
    rw [raise_irq1, set_cause_getLsbD (by omega), decide_eq_true rfl, Bool.or_true]

end Sys2Proof.Proofs
end

section
/-! PROOFS. In which shell each row of the opcode table runs, and with it that every row answers (O2) and what a command that
is refused or does not stand in its mailbox leaves (O53). -/

namespace Sys2Proof.Proofs

open Sys2Proof.Machine Sys2Proof.Safety Sys2Proof.Laws

/-- The ways in which a row runs: a command in the shell of the mailboxes, `mode.set` in its own around that one, an event
as a change of the device and of DRAM contents under a condition. -/
inductive Shelled : Instr → Prop where
  | command {c : Instr} {body : Body} (h : ∀ s, exec c s = runCmd c body s) : Shelled c
  | modeSet (mbx target : Nat) : Shelled (.modeSet mbx target)
  | event {c : Instr} {ok : State → Bool} {d : State → Dev} {m : State → Dram} (hc : cmdOf c = none)
      (h : ∀ s, exec c s = .next (if ok s then { s with dram := m s, dev := d s } else s)) : Shelled c

/-- The shell of every row. -/
theorem shelled : ∀ c : Instr, Shelled c
  | .oarEnable .. | .oarDisable .. | .oarStatus .. | .oarMotion .. | .oarLatency .. | .oarPowermap .. | .oarPlacement ..
  | .oarMeasure .. | .oarCamera .. | .oarDark .. | .oarSense .. | .oarLink .. | .oarLinkstat .. | .oarRetrain ..
  | .oarPower .. | .oarEyescan .. | .oarSvc .. | .fieldBed .. | .fieldGrid .. | .fieldPolygon .. | .fieldKeepout ..
  | .fieldStitch .. | .fieldMasks .. | .fieldCommit .. | .fieldDiscard .. | .fieldQuery .. | .fieldEligible ..
  | .layerParams .. | .layerProfiles .. | .layerTargets .. | .layerCommit .. | .layerCancel .. | .layerAbandon ..
  | .layerReload .. | .layerStatus .. | .layerReport .. | .layerLibrary .. | .marshalConfig .. | .marshalThermal ..
  | .marshalThermtable .. | .marshalStatus .. | .marshalStats .. | .marshalInterrupted .. | .marshalWake ..
  | .marshalHeat .. | .loopConfig .. | .loopGains .. | .loopCommit .. | .loopMode .. | .loopSetpoint .. | .loopGear ..
  | .loopIo .. | .loopStatus .. | .loopTrace .. | .loopRestore .. | .slideConfig .. | .slideEncoder .. | .slideMove ..
  | .slideStop .. | .slideHome .. | .slideLimits .. | .slideSetpos .. | .slideRecoat .. | .slideStatus ..
  | .slideClear .. | .imageConfig .. | .imageStatus .. | .imageLine .. | .ledConfig .. | .ledPattern .. | .ledSet ..
  | .ledLamp .. | .ledStatus .. | .ledClear .. | .recRing .. | .recTake .. | .recConsume .. | .recStatus ..
  | .memFence .. | .memConfig .. | .memQos .. | .memStatus .. | .memErrlog .. | .memMigrate ..
  | .memUnretire .. | .memRetrain .. | .memInject .. | .sysIdentify .. | .sysCq .. | .sysCompletions .. | .sysDma ..
  | .sysDmastatus .. | .sysAperture .. | .sysAbort .. | .sysMbxstat .. | .sysService .. | .sysClockplan ..
  | .sysClocksrc .. | .sysClockstat .. | .sysClockraw .. | .sysBlockreset .. | .sysLadder .. | .sysFuse .. | .fwStage ..
  | .fwActivate .. | .fwStatus .. | .fwCommit .. | .modeHold .. | .modeStandby .. | .modeStatus .. | .modeBudget ..
  | .modeLeave .. | .modeThermal .. | .timePort .. | .timeDomain .. | .timeServo .. | .timeGang .. | .timeSet ..
  | .timeSelect .. | .timeStatus .. | .timePeers .. | .safeEnter .. | .safeStop .. | .safeClear .. | .safeRearm ..
  | .safeStage .. | .safeCommit .. | .safeDiscard .. | .safeStatus .. | .safeEvents .. | .safeProof ..
  | .safeHoldpolicy .. | .safeQuery .. | .logRead .. | .logVerify .. | .logSpoilstat .. | .logNote .. | .logDescribe ..
  | .calRun .. | .calStatus .. | .calFactory .. | .healthRecords .. | .healthReport .. | .healthReplan .. =>
    .command fun _ => rfl
  | .recMark _ v => .command (body := fun _ _ d => .done (d.eventNow 0xFF 0x18 (u32 v))) fun _ => rfl
  | .modeSet m t => .modeSet m t
  | .modeReq .. | .hostStop .. | .doorbell .. | .mbxAck .. | .irqTest .. | .irqEnable .. | .registerWrite ..
  | .usbCommand .. | .classDeadlineExpiry .. | .coxTaskWatchdog .. | .irqHoldoffExpiry .. | .pcieLinkChange ..
  | .dmaPoll .. | .lgateTransition .. | .finishBackstop .. | .dotSettleTimeout .. | .jumpPlanning .. | .jumpEnd ..
  | .catchHoldLimit .. | .lenRise .. | .lenSettleExpiry .. | .gridBlendComplete .. | .loopSlotExecute ..
  | .loopSlotOverrun .. | .loopSelfTest .. | .cameraExposureStart .. | .cameraFeaturesReady .. | .cameraFrameDeadline ..
  | .frameStreamRelease .. | .returnFrameMissed .. | .linkLockLoss .. | .relockComplete .. | .relockTimeout ..
  | .trainingPhaseEnd .. | .trainingPhaseTimeout .. | .trainingRetry .. | .lLinkMeasured .. | .forwardedClockLoss ..
  | .sleepAckTimeout .. | .fastExit .. | .eyeProbeComplete .. | .serviceTimeout .. | .limitActive .. | .limitClear ..
  | .homeEdgeQualified .. | .homingQualWinEnd .. | .wireFault .. | .wireFaultClear .. | .indexStuck ..
  | .speedObserver .. | .encoderStill .. | .strobeSenseSample .. | .lampTemperature .. | .retrainLate .. | .ptpSync ..
  | .ptpDelayResp .. | .ptpAnnounce .. | .ptpDelayReq .. | .ptpMasterTx .. | .domainLost .. | .ethPortChange ..
  | .arpRequest .. | .otherFrame .. | .marksReceived .. | .helloReceived .. | .peerLost .. | .lalmLow ..
  | .monitorSample .. | .coxHeartbeat .. | .voteLivenessLoss .. | .proofStart .. | .proofStep .. | .railOutOfWindow ..
  | .pllFailure .. | .pllRestart .. | .pllStandbyReady .. | .referenceQualified .. | .pllLockLoss ..
  | .coxCoreMissing .. | .homingSwitchToggle .. | .encoderGlitch .. | .unretireTestComplete .. | .commandAreaWrite ..
  | .frameTick | .dispatchCycle | .dispatchOverrun | .p5Revocation | .wakeSweep | .thermalSweep | .repairPlaceFreed
  | .fenceRelease | .fenceClose | .recoatStart | .loopMigration | .eyeProbe | .lineStartSend | .strobePulseStart
  | .ledPatternTick | .dramRefresh | .preferredRelockHold | .keepSecondsWrite | .marksSend | .helloSend
  | .discrepancyLatch | .heartbeatLoss | .heartbeatAbsent1s | .umpireTimeResync | .avsStepDownHold | .coreUndervoltage
  | .muxHandshakeBypass | .muxSwitchAbandon | .fusePulseEnd | .logbookFlush | .replanComplete | .coreVoltageRecovered
  | .timeTake .. | .busTimeout .. | .leaveAnswer .. | .strokeSenior .. | .orphanTimeout .. | .voteComparison ..
  | .holdRecovery .. | .temperatureSample .. | .avsStep .. | .referenceLoss .. | .iroTrim .. | .clockGateTimeout ..
  | .calBlockComplete .. | .unsupportedRegisterAccess .. | .spoilRelease ..
  | .bar2Write .. | .bar2Read .. | .recordApertureRead .. | .dmaDescriptorComplete .. | .dmaTimeout ..
  | .drainWaitExpiry .. | .inPosition .. | .controlBlockUpdate .. | .returnFrame .. | .encoderEdge ..
  | .retrainingPause .. | .migrationChunkCopy .. | .railRecovered .. | .blockReleaseTimeout ..
  | .pcieCompletionTimeout .. | .layerChecksComplete | .perstAssert | .leaveGrant | .lineDeadline | .resetRelease
  | .bootStepTimeout | .vddAonLoss | .crystalStop | .functionLevelReset .. | .rt0BlockRead .. | .patrolScrubRead ..
  | .wakeFrame .. | .estopInputChange .. | .intlkInputChange .. | .resetAssert .. | .bootStep .. | .standbyWake ..
  | .vbatChange .. | .blockFault .. =>
    .event rfl fun _ => rfl

/-- A `mode.set` leaves what its mailbox's shell leaves, and begins an entry into Build that waits. -/
theorem exec_modeSet_of_runCmd {m t : Nat} {s r : State}
    (h : runCmd (.modeSet m t) (fun x _ d => modeSetBody t x d) s = .next r) :
    exec (.modeSet m t) s = .next (withDev r r.dev.startBuild) := by
  rw [exec_modeSet, execModeSet, h]
  rfl

/-- Settles O2: every shell answers, with the queue as it was. -/
theorem everyCommandAnswersNext : Obligations.EveryCommandAnswersNext := by
  intro c s
  cases shelled c with
  | command h => exact (h s).symm ▸ runCmd_next
  | modeSet m t =>
    obtain ⟨r, hr, hp⟩ := runCmd_next (c := .modeSet m t) (body := fun x _ d => modeSetBody t x d) (s := s)
    exact ⟨_, exec_modeSet_of_runCmd hr, hp⟩
  | event hc h => exact ⟨_, h s, by split <;> rfl⟩

theorem hasJob_congr {d e : Dev} {p : JobKind → Bool} (h : e.host.jobs = d.host.jobs) : e.hasJob p = d.hasJob p := by
  rw [Dev.hasJob, h, Dev.hasJob]

/-- No entry begins where none waits. -/
theorem startBuild_of_no_job {d : Dev} {p : JobKind → Bool} (h : d.hasJob p = false) (hp : p (.modeSet 5) = true) :
    d.startBuild = d := by
  have hnone : (d.host.jobs.find? fun j => j.kind == .modeSet 5) = none := by
    refine List.find?_eq_none.2 fun j hj hk => List.any_eq_false.1 h j hj ?_
    rw [eq_of_beq hk]
    exact hp
  rw [Dev.startBuild, hnone]

/-- Settles O53: the shell of the mailboxes refuses before the body runs; `mode.set` finds no entry to begin, and no event is a
command. -/
theorem refusedCommandLeavesOnlyItsAnswer : Obligations.RefusedCommandLeavesOnlyItsAnswer := by
  refine ⟨fun c s x st de hjob hs hr => ?refused, fun c s hjob hc hs => ?idle⟩
  case refused =>
    cases shelled c with
    | command h => exact (h s).trans (runCmd_refused hs hr)
    | modeSet m t =>
      have hjobs : (turnedAway s x st de 0).dev.host.jobs = s.dev.host.jobs := by
        rw [turnedAway, faultRec_none (startRefusal_status hr), respond_jobs]
      rw [exec_modeSet_of_runCmd (runCmd_refused hs hr),
        startBuild_of_no_job ((hasJob_congr hjobs).trans (hjob m t rfl)) rfl]
      rfl
    | event hc _ =>
      rw [Dev.startOf, hc] at hs
      cases hs
  case idle =>
    cases shelled c with
    | command h => exact (h s).trans (runCmd_idle hs)
    | modeSet m t =>
      rw [exec_modeSet_of_runCmd (runCmd_idle hs), startBuild_of_no_job (hjob m t rfl) rfl]
      rfl
    | event hn _ =>
      rw [hn] at hc
      cases hc

end Sys2Proof.Proofs
end

section
/-! PROOFS. The examination of a command outside COMPAT (R409): O54. -/

namespace Sys2Proof.Proofs

open Sys2Proof.Machine

section Native

variable {d : Dev} {m : Nat}

/-- Outside COMPAT the opcode of a header is the native one. -/
theorem nativeOp_row (hc : d.boot.compat = false) : (d.nativeOp m).bind opRow = opRow (d.hdr m).opcode := by
  simp only [Dev.nativeOp, hc, Bool.false_and, Bool.false_eq_true, if_false]
  cases hr : opRow (d.hdr m).opcode with
  | none => rfl
  | some r => exact hr

/-- A test that a row of the table may fail, as a proposition. -/
theorem getD_map_iff {r : Option OpRow} {f : OpRow → Bool} : (r.map f).getD false = true ↔ ∃ o, r = some o ∧ f o = true := by
  cases r <;> simp

/-- Steps 1 to 7 for a command of version 2 in a mailbox of the host. -/
theorem examine_native (hm : m < 16) (hc : d.boot.compat = false) : d.examine m =
    let h := d.hdr m
    let r := opRow h.opcode
    if h.magic ≠ 0x4D42 then some (0x22, 0xFF01)
    else if h.version ≠ 2 then some (0x22, 0xFF02)
    else if h.cls ≠ mbxClass m ∨ ∃ o, r = some o ∧ classAccepted m o.cls = false then some (0x21, 0xFF03)
    else if 2016 < h.length ∨ ∃ o, r = some o ∧ o.form.ok (d.payload m) = false then some (0x21, 0xFF04)
    else if h.reserved ≠ 0 ∨ 8 ≤ h.flags ∨ m = 0 ∧ h.flags % 4 ≠ 0 then some (0x21, 0xFF05)
    else match r with
      | none => some (0x20, 0xFF06)
      | some o => if originPermits m d.host.serviceOn o then none else some (0x10, 0xFF07) := by
  simp only [Dev.examine, nativeOp_row hc, hc, hm, Bool.false_and, Bool.false_eq_true, if_false, decide_true, Bool.true_and,
    Bool.or_eq_true, Bool.and_eq_true, decide_eq_true_eq, getD_map_iff, Bool.not_eq_true', or_assoc] <;> rfl

end Native

/-- Settles O54: each step is reached past those before it. -/
theorem examinationOrder : Obligations.ExaminationOrder := by
  intro d m hm hc
  have he := examine_native hm hc
  refine ⟨fun hmagic => he.trans (if_pos hmagic), fun hmagic => ?_⟩
  replace he := he.trans (if_neg (not_not.2 hmagic))
  refine ⟨fun hver => he.trans (if_pos hver), fun hver => ?_⟩
  replace he := he.trans (if_neg (not_not.2 hver))
  refine ⟨fun hcls => he.trans (if_pos hcls), fun hcls hacc => ?_⟩
  replace he := he.trans (if_neg (by simpa [hcls] using hacc))
  refine ⟨fun hlen => he.trans (if_pos hlen), fun hlen hform => ?_⟩
  replace he := he.trans (if_neg (by simpa [hlen] using hform))
  refine ⟨fun hres => he.trans (if_pos hres), fun hres hflags hurgent => ?_⟩
  replace he := he.trans (if_neg (by simpa [hres, hflags] using hurgent))
  refine ⟨fun hnone => ?_, fun o ho => ⟨fun hno => ?_, fun hyes => ?_⟩⟩
  · rw [he, hnone]
  · rw [he, ho]
    exact if_neg (by simp [hno])
  · rw [he, ho]
    exact if_pos hyes

end Sys2Proof.Proofs
end

section
/-! PROOFS. What the bodies of the `sys` commands of the interface come to (R424): O5. -/

namespace Sys2Proof.Proofs

open Sys2Proof.Machine Sys2Proof.Safety Sys2Proof.Laws

section Bodies

variable {x : Ctx} {mem : Dram} {d : Dev}

theorem isPow2_two_pow {lo hi k : Nat} (hlo : lo ≤ k) (hhi : k ≤ hi) : isPow2 lo hi (2 ^ k) = true :=
  List.any_eq_true.2 ⟨k - lo, List.mem_range.2 (by omega), decide_eq_true (by rw [Nat.add_sub_cancel' hlo])⟩

theorem sysCqBody_sound {b n : Nat} (h : n = 0 ∨ b % 4096 = 0 ∧ ∃ k, 6 ≤ k ∧ k ≤ 16 ∧ n = 2 ^ k) :
    sysCqBody b n x mem d =
      .done { d with host := { d.host with cq := if n = 0 then none else some (b, n, d.host.cqSeq) } } := by
  by_cases hn : n = 0
  · simp only [sysCqBody, hn, if_true]
  · obtain ⟨hb, k, hlo, hhi, hk⟩ := h.resolve_left hn
    have hpow : isPow2 6 16 n = true := hk ▸ isPow2_two_pow hlo hhi
    simp only [sysCqBody, hn, hb, hpow, if_false, ne_eq, not_true, Bool.not_true, Bool.false_eq_true, or_self]

theorem sysCompletionsBody_inRange {f n : Nat} (h1 : 1 ≤ n) (hn : n ≤ 15) : sysCompletionsBody f n x mem d =
    .done d (listOf Completion.bytes (d.host.completions.filter fun c => f ≤ c.id ∧ c.id < f + n)) :=
  if_neg (by omega)

section Dma

variable {c b n p : Nat} (hc : c < 8) (hb : b % 4096 = 0) (hn : isPow2 4 16 n = true) (h1 : 1 ≤ p) (hp : p ≤ 1000)

include hc hb hn h1 hp

theorem sysDmaBody_stop : sysDmaBody c b n p 1 x mem d =
    let t := d.onDma c fun q => { q with running := false }
    .done t (u32 (nth t.host.dma c).state) := by
  rw [sysDmaBody, if_neg (by simp only [hn, Bool.not_true, Bool.false_eq_true, false_or]; omega), if_pos rfl]

theorem sysDmaBody_start (hr : (nth d.host.dma c).running = false) (he : (nth d.host.dma c).cur = none) :
    sysDmaBody c b n p 0 x mem d =
      let t := d.onDma c (DmaChan.start b n p)
      .done t (u32 (nth t.host.dma c).state) := by
  rw [sysDmaBody, if_neg (by simp only [hn, Bool.not_true, Bool.false_eq_true, false_or]; omega), if_neg (by decide),
    if_neg (by simp [hr, he])]

end Dma

theorem sysDmastatusBody_ofMask {k : Nat} (hk : k < 256) :
    sysDmastatusBody k x mem d = .done d ((bitsOf 8 k).flatMap fun c => (nth d.host.dma c).report) :=
  if_neg (by omega)

theorem sysApertureBody_sound {b : Nat} (hb : b % d.host.bar2Size = 0) (hl : b < d.mc.hostLimit) :
    sysApertureBody b x mem d = .done { d with host := { d.host with bar2Base := b } } (u64 b) :=
  if_neg (by omega)

/-- R424: a command that has begun nothing ends at once. -/
theorem sysAbortBody_queued {m tag : Nat} (hm : m < 16) (hx : m ≠ x.mbx) (hst : (nth d.host.mbx m).st = .queued)
    (htag : (d.hdr m).tag = tag) (he : (nth d.host.mbx m).effect = false) (hj : ∀ j ∈ d.host.jobs, j.mbx ≠ m) :
    sysAbortBody m tag x mem d = .done (d.respond m 0x31 0 0 0 []) (u32 0x31) := by
  have hnone : (d.host.jobs.find? fun j => j.mbx = m && j.completionId = 0 && ! j.orphaned) = none :=
    List.find?_eq_none.2 fun j h => by simp [hj j h]
  rw [sysAbortBody, if_neg (by omega), if_pos (by simp [hst, htag]), if_neg (by simp [hx, he]), hnone]

/-- R424: the service ends with the exchange idle. -/
theorem endService_idle (hon : d.host.serviceOn = true) (hq : (nth d.host.mbx 16).st ≠ .queued)
    (he : (nth d.host.mbx 16).st ≠ .executing) :
    d.endService = { d with host := { d.host with serviceOn := false } } := by
  rw [Dev.endService, if_neg (by simp [hon]), if_neg (by simp [hq, he])]

end Bodies

/-- Settles O5: each command that starts has the outcome of its body. -/
theorem sysCommandsComplete : Obligations.SysCommandsComplete := by
  refine ⟨⟨?identify, ?cq, ?completions, ?stop, ?start, ?dmastatus, ?aperture, ?report, ?clear, ?serviceOn, ?serviceOff⟩,
    ?abort⟩
  case identify => exact fun m s x hs => exec_sysIdentify.trans (runCmd_answered hs rfl)
  case cq => exact fun m b n s x hs h => exec_sysCq.trans (runCmd_answered hs (sysCqBody_sound h))
  case completions => exact fun m f n s x hs h1 hn =>
    exec_sysCompletions.trans (runCmd_answered hs (sysCompletionsBody_inRange h1 hn))
  case stop => exact fun m c b n p s x hs hc hb hn h1 hp =>
    exec_sysDma.trans (runCmd_answered hs (sysDmaBody_stop hc hb hn h1 hp))
  case start => exact fun m c b n p s x hs hc hb hn h1 hp hr he =>
    exec_sysDma.trans (runCmd_answered hs (sysDmaBody_start hc hb hn h1 hp hr he))
  case dmastatus => exact fun m k s x hs hk =>
    exec_sysDmastatus.trans (runCmd_answered hs (sysDmastatusBody_ofMask hk))
  case aperture => exact fun m b s x hs hb hl =>
    exec_sysAperture.trans (runCmd_answered hs (sysApertureBody_sound hb hl))
  case report => exact fun m s x hs => exec_sysMbxstat.trans (runCmd_answered hs rfl)
  case clear => exact fun m s x hs => exec_sysMbxstat.trans (runCmd_answered hs rfl)
  case serviceOn => exact fun m s x hs => exec_sysService.trans (runCmd_answered hs rfl)
  case serviceOff => exact fun m s x hs hon hq he =>
    exec_sysService.trans (runCmd_answered hs (congrArg (Res.done · (u32 1)) (endService_idle hon hq he)))
  case abort => exact fun m target tag s x hs ht hx hst htag he hj =>
    exec_sysAbort.trans (runCmd_answered hs (sysAbortBody_queued ht hx hst htag he hj))

end Sys2Proof.Proofs
end

section
/-! PROOFS. What the writes to the registers of the host interface come to (R401, R405, R407, R414, R548): O6. -/

namespace Sys2Proof.Proofs

open Sys2Proof.Machine Sys2Proof.Safety Sys2Proof.Laws

section Writes

variable {d : Dev} {n v : Nat}

/-- R405: bit 0 of a write over a live link stops the device. -/
theorem hostStopWrite_linked (hl : d.host.linkUp = true) : d.hostStopWrite false v =
    if v % 2 = 1 then ({ d with host := { d.host with hostStop := true } }).enterSafe 0x04 0xFF else d := by
  by_cases hv : v % 2 = 1
  · rw [Dev.hostStopWrite, if_neg (by simp [hl, hv]), if_pos hv]
  · rw [Dev.hostStopWrite, if_pos (by simp; omega), if_neg hv]

/-- R407, R411: a doorbell over a FREE mailbox whose header carries its tag. -/
theorem ring_free {tag : Nat} (hl : d.host.linkUp = true) (ho : d.hostOpen = true) (hst : (nth d.host.mbx n).st = .free)
    (ht : (d.hdr n).tag = tag) : d.ring n tag = if n = 0 then (d.acceptCmd 0).mirror else d.acceptCmd n := by
  rw [Dev.ring, if_neg (by simp [hl]), if_pos (by simp [ho, hst, ht])]

theorem takeTime_eq (d : Dev) : d.takeTime = { d with time := { d.time with
    snapTaken := true, snapSec := d.time.sec, snapNs := d.nsNow
    snapFrac := natOf ((d.time.ns - d.nsNow) * 256).floor, snapTick := d.time.tick } } := rfl

/-- R407: an aligned write into the command area of a FREE mailbox. -/
theorem areaWrite_free {o : Nat} {ds : List Byte} (hl : d.host.linkUp = true)
    (ha : ds.length = 1 ∨ ds.length = 2 ∧ o % 2 = 0 ∨
      4 ≤ ds.length ∧ ds.length ≤ 128 ∧ ds.length % 4 = 0 ∧ o % 4 = 0)
    (hst : (nth d.host.mbx n).st = .free) :
    d.areaWrite n o ds = d.onMbx n fun b => { b with cmd := memWrite b.cmd o ds } := by
  have haligned : areaAligned o ds.length = true := by simpa [areaAligned, and_assoc, or_assoc] using ha
  rw [Dev.areaWrite, if_neg (by simp [hl]), if_neg (by simp [haligned]), if_pos (by simp [hst])]

/-- R397: an access that the map does not support, to a function that answers. -/
theorem badAccess_heard {pf1 read : Bool} (ha : d.host.answers pf1 = true) : d.badAccess pf1 read =
    if read then { d with host := ({ d.host with badReads := d.host.badReads + 1, bus := ⟨true, false, []⟩ } : HostIf).aerSet pf1 20 }
    else { d with host := { d.host with badWrites := d.host.badWrites + 1 } } :=
  if_neg (by simp [ha])

end Writes

section Offsets

variable {d : Dev} {o v n : Nat} {pf1 : Bool}

/-- R413: PF1 has its IRQ block alone. -/
theorem regWrite_pf1 (ha : d.host.answers true = true) : d.regWrite true o v = d.irqWrite true o v := by
  rw [Dev.regWrite, if_neg (by simp [ha]), if_pos rfl]

/-- R413: the IRQ block stands at 0x4000 of either function. -/
theorem regWrite_irq (ha : d.host.answers pf1 = true) (hlo : 0x4000 ≤ o) (hhi : o < 0x401C) :
    d.regWrite pf1 o v = d.irqWrite pf1 o v := by
  cases pf1
  · rw [Dev.regWrite, if_neg (by simp [ha]), if_neg Bool.false_ne_true]
    repeat rw [if_neg (by omega)]
    rw [if_pos ⟨hlo, hhi⟩]
  · exact regWrite_pf1 ha

theorem irqWrite_below (ho : o < 0x4000) : d.irqWrite pf1 o v = d := by
  rw [Dev.irqWrite]
  repeat rw [if_neg (by omega)]

/-- R401: the doorbells stand at 0x3000, one word each. -/
theorem regWrite_doorbell (hl : d.host.linkUp = true) (hn : n < 16) :
    d.regWrite false (0x3000 + 4 * n) v = d.ring n v := by
  rw [Dev.regWrite, if_neg (by simp [HostIf.answers, hl]), if_neg Bool.false_ne_true, if_neg (by omega), if_neg (by omega),
    if_pos (by omega), Nat.add_sub_cancel_left, Nat.mul_div_cancel_left n (by decide)]

/-- The registers of BAR0 are PF0's. -/
theorem not_deaf (hl : d.host.linkUp = true) : ¬ (! d.host.answers false) = true := by simp [HostIf.answers, hl]

/-- R401: what is read-only, and a gap, take nothing. -/
theorem regWrite_readOnly (hl : d.host.linkUp = true)
    (ho : o ∈ [0x0, 0x4, 0x18, 0x1000, 0x100C, 0x2000, 0x2004, 0x304C, 0x5000, 0x20004, 0x30000, 0x38000]) :
    d.regWrite false o v = d := by
  fin_cases ho <;> exact if_neg (not_deaf hl)

/-- A register write of the running device is the write at its offset. -/
theorem exec_registerWrite_eq {s : State} {e : Dev} (hl : Live (.registerWrite pf1 o v) s) (h : s.dev.regWrite pf1 o v = e) :
    exec (.registerWrite pf1 o v) s = .next (withDev s e) :=
  exec_registerWrite.trans (onDev_eq hl h)

/-- A register write and a row that comes to the same write. -/
theorem exec_registerWrite_row {s : State} {e : Dev} {c : Instr} (hl : Live (.registerWrite pf1 o v) s)
    (h : s.dev.regWrite pf1 o v = e) (hc : exec c s = .next (withDev s e)) :
    exec (.registerWrite pf1 o v) s = exec c s :=
  (exec_registerWrite_eq hl h).trans hc.symm

/-- The value of a register write fits its field. -/
theorem wfU32_of_registerWrite (h : Instr.wf (.registerWrite pf1 o v) = true) : wfU32 [v] = true :=
  (Bool.and_eq_true_iff.1 h).2

end Offsets

/-- Settles O6: each write is brought to its row, or to what stands at its offset. -/
theorem registerWritesComplete : Obligations.RegisterWritesComplete := by
  refine ⟨⟨?hostStop, ?doorbell, ?ack, ?timeTake, ?spoilRelease, ?area, ?badRead, ?badWrite⟩, fun v s => ⟨?causeLo, ?causeHi,
    ?holdoff, ?mbxErr, ?logSelect, ?spoilSelect, ?rowModeReq, ?rowHostStop, ?rowDoorbell, ?rowAck, ?rowEnable, ?rowTest,
    ?rowTimeTake, ?rowSpoilRelease, ?readOnly, ?pf1⟩⟩
  case hostStop => exact fun v s hl hup => exec_hostStop.trans (onDev_eq hl (hostStopWrite_linked hup))
  case doorbell => exact fun n tag s hl hup ho hst ht => exec_doorbell.trans (onDev_eq hl (ring_free hup ho hst ht))
  case ack => exact fun k s hl hup => exec_mbxAck.trans (onDev_eq hl (if_pos hup))
  case timeTake => exact fun v s ha hup hv =>
    exec_timeTake.trans ((onDevAny_awake ha).trans (by rw [if_pos ⟨hup, hv⟩, takeTime_eq]))
  case spoilRelease => exact fun v s ha hup =>
    exec_spoilRelease.trans ((onDevAny_awake ha).trans (by rw [if_pos hup, Dev.spoilReleaseTo]))
  case area => exact fun n o ds s hl hup halign hst =>
    exec_commandAreaWrite.trans (onDev_eq hl (areaWrite_free hup halign hst))
  case badRead => exact fun p s ha hup =>
    exec_unsupportedRegisterAccess.trans ((onDevAny_awake ha).trans (by rw [badAccess_heard hup]; rfl))
  case badWrite => exact fun p s ha hup =>
    exec_unsupportedRegisterAccess.trans ((onDevAny_awake ha).trans (by rw [badAccess_heard hup]; rfl))
  case causeLo => exact fun pf1 hl ha => exec_registerWrite_eq hl (regWrite_irq ha (by decide) (by decide))
  case causeHi => exact fun pf1 hl ha => exec_registerWrite_eq hl (regWrite_irq ha (by decide) (by decide))
  case holdoff => exact fun pf1 hl ha => exec_registerWrite_eq hl (regWrite_irq ha (by decide) (by decide))
  case mbxErr => exact fun hl hup => exec_registerWrite_eq hl (if_neg (not_deaf hup))
  case logSelect => exact fun hl hup => exec_registerWrite_eq hl (if_neg (not_deaf hup))
  case spoilSelect => exact fun hl hup => exec_registerWrite_eq hl (if_neg (not_deaf hup))
  case rowModeReq =>
    exact fun hl hup => exec_registerWrite_row hl (if_neg (not_deaf hup))
      (exec_modeReq.trans (onDev_live ⟨wfU32_of_registerWrite hl.1, hl.2⟩))
  case rowHostStop =>
    exact fun hl hup => exec_registerWrite_row hl (if_neg (not_deaf hup))
      (exec_hostStop.trans (onDev_live ⟨wfU32_of_registerWrite hl.1, hl.2⟩))
  case rowDoorbell =>
    exact fun n hn hl hup => exec_registerWrite_row hl (regWrite_doorbell hup hn)
      (exec_doorbell.trans
        (onDev_live ⟨Bool.and_eq_true_iff.2 ⟨decide_eq_true hn, wfU32_of_registerWrite hl.1⟩, hl.2⟩))
  case rowAck =>
    exact fun hl hup => exec_registerWrite_row hl (if_neg (not_deaf hup))
      (exec_mbxAck.trans (onDev_eq ⟨wfU32_of_registerWrite hl.1, hl.2⟩ (if_pos hup)))
  case rowEnable =>
    exact fun pf1 hl ha => exec_registerWrite_row hl (regWrite_irq ha (by decide) (by decide))
      (exec_irqEnable.trans (onDev_eq ⟨wfU32_of_registerWrite hl.1, hl.2⟩ (if_pos ha)))
  case rowTest =>
    exact fun pf1 hl ha => exec_registerWrite_row hl (regWrite_irq ha (by decide) (by decide))
      (exec_irqTest.trans (onDev_eq ⟨wfU32_of_registerWrite hl.1, hl.2⟩ (if_pos ha)))
  case rowTimeTake =>
    exact fun hl hup => exec_registerWrite_row hl (if_neg (not_deaf hup))
      (exec_timeTake.trans ((onDevAny_awake hl.2).trans (by simp only [hup, true_and]; rfl)))
  case rowSpoilRelease =>
    exact fun hl hup => exec_registerWrite_row hl (if_neg (not_deaf hup))
      (exec_spoilRelease.trans ((onDevAny_awake hl.2).trans (by rw [if_pos hup]; rfl)))
  case readOnly => exact fun o ho hl hup => exec_registerWrite_eq hl (regWrite_readOnly hup ho)
  case pf1 => exact fun o ho hl hup => exec_registerWrite_eq hl ((regWrite_pf1 hup).trans (irqWrite_below ho))

end Sys2Proof.Proofs
end

section
/-! PROOFS. What writes to IRQ_TEST and IRQ_ENABLE do bit by bit, and the message held for IRQ.HOLDOFF (R15, R396, R413): O7. -/

namespace Sys2Proof.Proofs

open Sys2Proof.Machine Sys2Proof.Safety Sys2Proof.Laws

/-- The IRQ block of a function. -/
def irqOf (h : HostIf) (pf1 : Bool) : Irq := if pf1 then h.irq1 else h.irq0

section Fold

/-- Steps that change the host interface alone, one after the other. -/
theorem foldl_host {α : Type} (g : Nat → α → HostIf → HostIf) (l : List α) (d : Dev) :
    l.foldl (fun d a => { d with host := g d.now a d.host }) d = { d with host := l.foldl (fun h a => g d.now a h) d.host } := by
  induction l generalizing d with
  | nil => rfl
  | cons a l ih => exact ih _

/-- Operations on one function's block: the block has them all, the other block and the mailboxes are as they were. -/
theorem foldl_onIrq {α : Type} (pf1 : Bool) (v : α → Nat) (f : α → Irq → Irq × Bool) (l : List α) (h : HostIf) :
    let t := l.foldl (fun h a => h.onIrq pf1 (v a) (f a)) h
    irqOf t pf1 = l.foldl (fun q a => (f a q).1) (irqOf h pf1) ∧ irqOf t (! pf1) = irqOf h (! pf1) ∧ t.mbx = h.mbx := by
  induction l generalizing h with
  | nil => exact ⟨rfl, rfl, rfl⟩
  | cons a l ih =>
    obtain ⟨hown, hother, hmbx⟩ := ih (h.onIrq pf1 (v a) (f a))
    refine ⟨hown.trans ?_, hother.trans ?_, hmbx.trans (onIrq_mbx ..)⟩
    · rw [List.foldl_cons, onIrq_eq]
      cases pf1 <;> rfl
    · rw [onIrq_eq]
      cases pf1 <;> rfl

end Fold

section Bits

variable {tick b : Nat}

/-- Causes raised one after the other stand beside those that stood before. -/
theorem foldl_set_cause (v : Nat → Nat) (l : List Nat) (q : Irq) (hb : b < 64) :
    (l.foldl (fun q i => (Irq.set tick (v i) q).1) q).cause.getLsbD b = (q.cause.getLsbD b || decide (∃ i ∈ l, v i = b)) := by
  induction l generalizing q with
  | nil => simp
  | cons i l ih => rw [List.foldl_cons, ih, set_cause_getLsbD hb, Bool.or_assoc]; simp

@[simp] theorem enableBit_cause {v : Nat} {en : Bool} {q : Irq} : (Irq.enableBit tick v en q).1.cause = q.cause := by
  simp only [Irq.enableBit]
  split
  · exact message_cause
  · rfl

/-- One enable bit takes the value written, the others stay. -/
theorem enableBit_enable {v : Nat} {en : Bool} {q : Irq} (hb : b < 64) :
    (Irq.enableBit tick v en q).1.enable.getLsbD b = if v = b then en else q.enable.getLsbD b := by
  have henable : (Irq.enableBit tick v en q).1.enable =
      if en then q.enable ||| BitVec.ofNat 64 (2 ^ v) else q.enable &&& ~~~ BitVec.ofNat 64 (2 ^ v) := by
    simp only [Irq.enableBit]
    split
    · exact message_enable
    · rfl
  rw [henable]
  cases en
  · rw [if_neg Bool.false_ne_true, BitVec.getLsbD_and, BitVec.getLsbD_not, getLsbD_bit hb]
    by_cases hv : v = b <;> simp [hv, hb]
  · rw [if_pos rfl, BitVec.getLsbD_or, getLsbD_bit hb]
    by_cases hv : v = b <;> simp [hv]

/-- Enable bits written one after the other, each to the bit that its place has in the value. -/
theorem foldl_enableBit (v : Nat → Nat) (w : Nat → Bool) (l : List Nat) (q : Irq) (hb : b < 64)
    (hv : ∀ i j, v i = v j → i = j) :
    (l.foldl (fun q i => (Irq.enableBit tick (v i) (w i) q).1) q).cause = q.cause ∧
    (∀ i ∈ l, v i = b → (l.foldl (fun q i => (Irq.enableBit tick (v i) (w i) q).1) q).enable.getLsbD b = w i) ∧
    ((∀ i ∈ l, v i ≠ b) →
      (l.foldl (fun q i => (Irq.enableBit tick (v i) (w i) q).1) q).enable.getLsbD b = q.enable.getLsbD b) := by
  induction l using List.reverseRecOn with
  | nil => simp
  | append_singleton l j ih =>
    obtain ⟨hcause, hin, hout⟩ := ih
    simp only [List.foldl_append, List.foldl_cons, List.foldl_nil, enableBit_cause, enableBit_enable hb]
    refine ⟨hcause, fun i hi hib => ?_, fun hno => ?_⟩
    · by_cases hj : v j = b
      · rw [if_pos hj, hv i j (hib.trans hj.symm)]
      · rw [if_neg hj]
        rcases List.mem_append.1 hi with hi | hi
        · exact hin i hi hib
        · rw [List.mem_singleton.1 hi] at hib
          exact absurd hib hj
    · rw [if_neg (hno j (by simp))]
      exact hout fun i hi => hno i (List.mem_append_left _ hi)

end Bits

section Registers

variable {d : Dev} {pf1 hi : Bool} {value b : Nat}

/-- The vector of a bit of one half. -/
def vecOf (hi : Bool) (i : Nat) : Nat := if hi then i + 32 else i

theorem vecOf_inj {i j : Nat} (h : vecOf hi i = vecOf hi j) : i = j := by
  cases hi <;> simpa [vecOf] using h

theorem irqTestWrite_eq (d : Dev) (pf1 hi : Bool) (value : Nat) : d.irqTestWrite pf1 hi value = { d with
    host := (bitsOf (irqBits hi) value).foldl (fun h i => h.onIrq pf1 (vecOf hi i) (Irq.set d.now (vecOf hi i))) d.host } :=
  foldl_host (fun t i h => h.onIrq pf1 (vecOf hi i) (Irq.set t (vecOf hi i))) _ d

theorem irqEnableWrite_eq (d : Dev) (pf1 hi : Bool) (value : Nat) : d.irqEnableWrite pf1 hi value = { d with
    host := (List.range (irqBits hi)).foldl
      (fun h i => h.onIrq pf1 (vecOf hi i) (Irq.enableBit d.now (vecOf hi i) (value.testBit i))) d.host } :=
  foldl_host (fun t i h => h.onIrq pf1 (vecOf hi i) (Irq.enableBit t (vecOf hi i) (value.testBit i))) _ d

/-- R15, R413: the bits of one half that name a cause; 44 to 63 are reserved. -/
theorem vecOf_iff {p : Nat → Prop} : (∃ i, (i < irqBits hi ∧ p i) ∧ vecOf hi i = b) ↔
    if hi then (32 ≤ b ∧ b < 44) ∧ p (b - 32) else b < 32 ∧ p b := by
  cases hi
  · exact ⟨fun ⟨i, h, e⟩ => e ▸ h, fun h => ⟨b, h, rfl⟩⟩
  · constructor
    · rintro ⟨i, ⟨hlt, hp⟩, rfl⟩
      exact ⟨⟨Nat.le_add_left .., Nat.add_lt_add_right hlt 32⟩, by rwa [vecOf, if_pos rfl, Nat.add_sub_cancel]⟩
    · rintro ⟨⟨hlo, hhi⟩, hp⟩
      exact ⟨b - 32, ⟨show b - 32 < 12 by omega, hp⟩, show b - 32 + 32 = b by omega⟩

theorem tested_eq : decide (∃ i ∈ bitsOf (irqBits hi) value, vecOf hi i = b) =
    (if hi then 32 ≤ b && b < 44 && value.testBit (b - 32) else b < 32 && value.testBit b) := by
  rw [Bool.eq_iff_iff, decide_eq_true_eq]
  simp only [mem_bitsOf, vecOf_iff (p := fun i => value.testBit i = true)]
  cases hi <;> simp

/-- R15, R413: an enable bit of the half takes the bit written. -/
theorem foldl_enableBit_half {tick : Nat} {q : Irq} (hb : b < 64) :
    ((List.range (irqBits hi)).foldl (fun q i => (Irq.enableBit tick (vecOf hi i) (value.testBit i) q).1) q).enable.getLsbD b =
      if (if hi then 32 ≤ b ∧ b < 44 else b < 32) then value.testBit (if hi then b - 32 else b) else q.enable.getLsbD b := by
  obtain ⟨-, hin, hout⟩ := foldl_enableBit (tick := tick) (vecOf hi) value.testBit (List.range (irqBits hi)) q hb
    fun i j => vecOf_inj
  have hhalf := vecOf_iff (hi := hi) (b := b) (p := fun _ => True)
  simp only [and_true] at hhalf
  by_cases h : if hi then 32 ≤ b ∧ b < 44 else b < 32
  · obtain ⟨i, hi', hib⟩ := hhalf.2 h
    rw [if_pos h, hin i (List.mem_range.2 hi') hib, ← hib]
    cases hi <;> simp [vecOf]
  · rw [if_neg h]
    exact hout fun i hi' hib => h (hhalf.1 ⟨i, List.mem_range.1 hi', hib⟩)

end Registers

section Outcome

variable {h : HostIf} {v : Nat} {f : Irq → Irq × Bool} {q : Irq}

theorem onIrq_pf0_sent (hf : f h.irq0 = (q, true)) :
    h.onIrq false v f = { h with irq0 := q, msgs := (false, v) :: h.msgs } := by
  simp [onIrq_eq, hf]

theorem onIrq_pf1_sent (hf : f h.irq1 = (q, true)) :
    h.onIrq true v f = { h with irq1 := q, msgs := (true, v) :: h.msgs } := by
  simp [onIrq_eq, hf]

theorem onIrq_pf0_quiet (hf : f h.irq0 = (q, false)) : h.onIrq false v f = { h with irq0 := q } := by
  simp [onIrq_eq, hf]

/-- An operation that does nothing to the block and sends nothing changes nothing. -/
theorem onIrq_idle {pf1 : Bool} (hf : f (irqOf h pf1) = (irqOf h pf1, false)) : h.onIrq pf1 v f = h := by
  cases pf1
  · exact onIrq_pf0_quiet hf
  · rw [onIrq_eq]
    simp only [if_true, show f h.irq1 = (h.irq1, false) from hf, Bool.false_eq_true, if_false]

end Outcome

section Release

variable {tick v : Nat} {q : Irq} {l : Nat × Nat}

/-- R413: a held message whose hold-off has passed goes out. -/
theorem release_due (hv : v ∈ q.held) (hm : q.masked v = false) (hl : q.last.find? (fun p => p.1 = v) = some l)
    (hd : l.2 + usT q.holdoff ≤ tick) : Irq.release tick v q =
      ({ q with held := q.held.filter (· ≠ v), last := (v, tick) :: q.last.filter (fun p => p.1 ≠ v) }, true) := by
  simp [Irq.release, hl, hd, hv, hm]

/-- R396: where its vector is masked the message pends. -/
theorem release_masked (hv : v ∈ q.held) (hm : q.masked v = true) (hl : q.last.find? (fun p => p.1 = v) = some l)
    (hd : l.2 + usT q.holdoff ≤ tick) : Irq.release tick v q =
      ({ q with held := q.held.filter (· ≠ v), pba := q.pba ||| BitVec.ofNat 64 (2 ^ v) }, false) := by
  simp [Irq.release, hl, hd, hv, hm]

theorem release_early (hl : q.last.find? (fun p => p.1 = v) = some l) (hd : tick < l.2 + usT q.holdoff) :
    Irq.release tick v q = (q, false) := by
  simp [Irq.release, hl, Nat.not_le.2 hd]

end Release

/-- Settles O7: the halves are written bit by bit, and the held message is released or not by its hold-off. -/
theorem interruptRegisters : Obligations.InterruptRegisters := by
  refine ⟨fun pf1 hi v s hl ha => ?test, fun pf1 hi v s hl ha => ?enable, fun v l s hl hv hm hlast hd => ?due0,
    fun v l s hl hv hm hlast hd => ?due1, fun v l s hl hv hm hlast hd => ?masked, fun p v l s hl hlast hd => ?early⟩
  case test =>
    obtain ⟨hown, hother, hmbx⟩ := foldl_onIrq pf1 (vecOf hi) (fun i => Irq.set s.dev.now (vecOf hi i))
      (bitsOf (irqBits hi) v) s.dev.host
    refine ⟨_, exec_irqTest.trans (onDev_eq hl ((if_pos ha).trans (irqTestWrite_eq ..))), ?_, hmbx, fun b hb => ?_⟩
    · cases pf1 <;> exact hother
    · refine (congrArg (·.cause.getLsbD b) hown).trans ((foldl_set_cause _ _ _ hb).trans ?_)
      rw [tested_eq]
      rfl
  case enable =>
    obtain ⟨hown, hother, hmbx⟩ := foldl_onIrq pf1 (vecOf hi) (fun i => Irq.enableBit s.dev.now (vecOf hi i) (v.testBit i))
      (List.range (irqBits hi)) s.dev.host
    refine ⟨_, exec_irqEnable.trans (onDev_eq hl ((if_pos ha).trans (irqEnableWrite_eq ..))), ?_, hmbx, ?_, fun b hb => ?_⟩
    · cases pf1 <;> exact hother
    · exact (congrArg Irq.cause hown).trans
        (foldl_enableBit (b := 0) (vecOf hi) v.testBit _ _ (by decide) fun i j => vecOf_inj).1
    · exact (congrArg (·.enable.getLsbD b) hown).trans (foldl_enableBit_half hb)
  case due0 => exact exec_irqHoldoffExpiry.trans (onDev_eq hl (by rw [onIrq_pf0_sent (release_due hv hm hlast hd)]))
  case due1 => exact exec_irqHoldoffExpiry.trans (onDev_eq hl (by rw [onIrq_pf1_sent (release_due hv hm hlast hd)]))
  case masked =>
    exact exec_irqHoldoffExpiry.trans (onDev_eq hl (by rw [onIrq_pf0_quiet (release_masked hv hm hlast hd)]))
  case early => exact exec_irqHoldoffExpiry.trans (onDev_eq hl (by rw [onIrq_idle (release_early hlast hd)]))

end Sys2Proof.Proofs
end

section
/-! PROOFS. The DMA channels (R379, R422, R425): polls, descriptors, drains and time-outs: O10. -/

namespace Sys2Proof.Proofs

open Sys2Proof.Machine Sys2Proof.Safety Sys2Proof.Laws

section Finish

variable {d : Dev} {c st n : Nat} {e : DmaDesc}

/-- The channel behind a descriptor that has completed (R425). -/
def advanced (now st n : Nat) (q : DmaChan) : DmaChan :=
  let wrap : Bool := decide (q.entries ≤ q.index + 1)
  { q with
    cur := none, index := if wrap then 0 else q.index + 1, phase := q.phase != wrap, pollTick := now,
    done := q.done + 1, bytes := q.bytes + n,
    errs := if st = 0 then q.errs else upd q.errs (dmaErr st) (· + 1) }

/-- What a cause raised leaves, the interrupts of a completion leave. -/
theorem raised_keeps {α : Type} {f : Dev → α} (hf : ∀ d v, f (d.raise v) = f d) (p q : Prop) [Decidable p] [Decidable q]
    (v w : Nat) : f (if q then (if p then d.raise v else d).raise w else if p then d.raise v else d) = f d := by
  split <;> split <;> simp only [hf]

theorem dmaFinish_dma (he : (nth d.host.dma c).cur = some e) :
    (d.dmaFinish c st n).host.dma = upd d.host.dma c (advanced d.now st n) := by
  simp only [Dev.dmaFinish, he]
  exact (raised_keeps (f := fun d => d.host.dma) raise_dma (e.irq = true) (st ≠ 0) (24 + c) 32).trans (upd_congr rfl)

/-- Byte 0 of the entry is written last, with DONE (R425). -/
theorem dmaFinish_hostOut (he : (nth d.host.dma c).cur = some e) : (d.dmaFinish c st n).host.hostOut.head? =
    some ((nth d.host.dma c).base + 64 * (nth d.host.dma c).index, false, u8 (boolN (nth d.host.dma c).phase + 2)) := by
  simp only [Dev.dmaFinish, he]
  exact congrArg List.head? (raised_keeps (f := (·.host.hostOut)) raise_hostOut ..)

end Finish

section Channel

variable {d : Dev} {m : Dram} {c : Nat} {e : DmaDesc} {bs : List Byte}

/-- A channel that may read its next entry. -/
structure Polls (d : Dev) (c : Nat) : Prop where
  running : (nth d.host.dma c).running = true
  idle : (nth d.host.dma c).cur = none
  linked : d.host.linkUp = true
  live : d.blockLive 5 c = true
  due : (nth d.host.dma c).pollTick ≤ d.now

theorem dmaRead_polls (h : Polls d c) : d.dmaRead c bs =
    if ((bs.headD 0).getLsbD 0) != (nth d.host.dma c).phase then
      d.onDma c fun q => { q with pollTick := d.now + usT q.pollUs }
    else
      let e := dmaParse bs d.host.cfg.relaxed d.now
      let d1 := d.onDma c fun q => { q with cur := some e }
      if d.dmaOk e then d1 else d1.dmaFinish c 0x21 0 := by
  obtain ⟨hr, hi, hl, hlive, hdue⟩ := h
  rw [Dev.dmaRead, if_neg (by simp [hr, hi, hl, hlive]; omega)]

theorem dmaRead_waits (h : Polls d c) (hp : (bs.headD 0).getLsbD 0 ≠ (nth d.host.dma c).phase) :
    d.dmaRead c bs = d.onDma c fun q => { q with pollTick := d.now + usT q.pollUs } := by
  rw [dmaRead_polls h, if_pos (bne_iff_ne.2 hp)]

theorem dmaRead_takes (h : Polls d c) (hp : (bs.headD 0).getLsbD 0 = (nth d.host.dma c).phase) : d.dmaRead c bs =
    let e := dmaParse bs d.host.cfg.relaxed d.now
    let d1 := d.onDma c fun q => { q with cur := some e }
    if d1.dmaOk e then d1 else d1.dmaFinish c 0x21 0 := by
  rw [dmaRead_polls h, if_neg (by rw [hp]; simp)]
  rfl

theorem dmaData_in {o : EccOutcome} (hl : d.host.linkUp = true) (he : (nth d.host.dma c).cur = some e) (h1 : e.op = 1)
    (hb : bs.length = e.length) :
    d.dmaData m c bs o = ((d.activate e.devAddr e.length).dmaFinish c 0 e.length, [.write e.devAddr bs]) := by
  simp only [Dev.dmaData, he, hl, h1, hb, Bool.not_true, Bool.false_eq_true, if_false, if_true]

theorem soundBytes_unmarked {addr len : Nat} (h : m.marked addr len = []) :
    d.soundBytes m addr len .clean = (d.activate addr len, [], len) := by
  simp [Dev.soundBytes, readRange_sound h, h]

theorem dmaData_out (hl : d.host.linkUp = true) (he : (nth d.host.dma c).cur = some e) (h2 : e.op = 2)
    (hm : m.marked e.devAddr e.length = []) : d.dmaData m c bs .clean =
      let t := d.activate e.devAddr e.length
      ({ t with host := t.host.toHostAs e.relaxed e.hostAddr (memBytes m.mem e.devAddr e.length) }.dmaFinish c 0 e.length, []) := by
  simp [Dev.dmaData, he, hl, h2, soundBytes_unmarked hm]

theorem dmaLate_due (he : (nth d.host.dma c).cur = some e) (h : e.startTick + msT 100 ≤ d.now) :
    d.dmaLate m c = d.dmaCut m c 0x30 := by
  simp only [Dev.dmaLate, he, h, if_true]

theorem noCompletion_due (he : (nth d.host.dma c).cur = some e) (h1 : e.op = 1)
    (h : e.startTick + usT d.host.cfg.completionUs ≤ d.now) :
    d.noCompletion m c = { d with host := d.host.aerSet false 14 }.dmaCut m c 0x40 := by
  simp only [Dev.noCompletion, he, h1, h, and_self, if_true]

theorem drainExpiry_due (he : (nth d.host.dma c).cur = some e) (h3 : e.op = 3) (hl : d.host.linkUp = true)
    (h : e.startTick + usT e.waitUs ≤ d.now) : d.drainExpiry m c =
      d.drain m c e (if d.drainWaits c e then 0 else wholeRecords e.length (nth d.recd.rings e.ring).lens) 0 .clean := by
  simp only [Dev.drainExpiry, he, h3, hl, h, and_self, if_true]

end Channel

/-- Settles O10: each event of a channel runs its step, and a completion moves the ring on. -/
theorem dmaComplete : Obligations.DmaComplete := by
  refine ⟨⟨?waits, ?takes, ?dataIn, ?dataOut, ?timeout, ?noCompletion, ?drain⟩, fun d c st n e he hc => ?finish⟩
  case waits => exact fun c bs s hl hr hi hup hlive hdue hp =>
    exec_dmaPoll.trans (onDev_eq hl (dmaRead_waits ⟨hr, hi, hup, hlive, hdue⟩ hp))
  case takes => exact fun c bs s hl hr hi hup hlive hdue hp =>
    exec_dmaPoll.trans (onDev_eq hl (dmaRead_takes ⟨hr, hi, hup, hlive, hdue⟩ hp))
  case dataIn => exact fun c bs ecc e s hl hup he h1 hb =>
    exec_dmaDescriptorComplete.trans (onMem_eq hl (dmaData_in hup he h1 hb))
  case dataOut => exact fun c bs e s hl hup he h2 hm =>
    exec_dmaDescriptorComplete.trans (onMem_still hl (dmaData_out hup he h2 hm))
  case timeout => exact fun c e s hl he h => exec_dmaTimeout.trans (onMem_eq hl (dmaLate_due he h))
  case noCompletion => exact fun c e s hl he h1 h =>
    exec_pcieCompletionTimeout.trans (onMem_eq hl (noCompletion_due he h1 h))
  case drain => exact fun c e s hl he h3 hup h =>
    exec_drainWaitExpiry.trans (onMem_eq hl (drainExpiry_due he h3 hup h))
  case finish =>
    refine ⟨advanced d.now st n (nth d.host.dma c), ?_, rfl, ?_, rfl, rfl, rfl, fun k _ hk => ?_, dmaFinish_hostOut he⟩
    · rw [dmaFinish_dma he, nth_upd_same hc]
    · simp only [advanced, decide_eq_true_eq]
    · rw [dmaFinish_dma he, nth_upd_ne hk]

end Sys2Proof.Proofs
end

section
/-! PROOFS. Deadlines and the watchdog, resets of the interface, the link and what the platform sets (R395 to R400, R410, R422,
R423): O9. -/

namespace Sys2Proof.Proofs

open Sys2Proof.Machine Sys2Proof.Safety Sys2Proof.Laws

section Deadline

variable {d : Dev} {n t : Nat}

@[simp] theorem testEnd_host (d : Dev) (k : Nat) (ok : Bool) : (d.testEnd k ok).host = d.host := by
  simp only [Dev.testEnd]
  split <;> rfl

/-- What a command has begun and gives up is not of the host interface. -/
@[simp] theorem undo_host (d : Dev) (k : JobKind) : (d.undo k).host = d.host := by
  cases k with
  | measure mask =>
    exact foldl_leaves (f := fun (d : Dev) k => (d.testEnd k false).onEng k fun e => { e with test := none }) (p := Dev.host)
      (fun d k => testEnd_host d k false) _ _
  | dark mask =>
    exact foldl_leaves (f := fun (d : Dev) k => d.onMelt k fun m => { m with dark := none }) (p := Dev.host) (fun _ _ => rfl) _ _
  | _ => rfl

theorem foldl_undo_host (l : List JobKind) (d : Dev) : (l.foldl Dev.undo d).host = d.host :=
  foldl_leaves (p := Dev.host) undo_host l d

/-- R410: hardware answers TIMEOUT for a command that has no effect yet. -/
theorem timeoutResp_before (h : (nth d.host.mbx n).st = .executing → (nth d.host.mbx n).effect = false) : d.timeoutResp n =
    (d.onMbx n fun b => { b with timeouts := b.timeouts + 1 }).respond n 0x30 0xFF0A 0 0 [] := by
  rw [Dev.timeoutResp]
  exact congrArg (fun e : Dev => (e.onMbx n fun b => { b with timeouts := b.timeouts + 1 }).respond n 0x30 0xFF0A 0 0 [])
    (if_neg (by simpa using h))

/-- R410: past its effect point a command files a spoil record. -/
theorem timeoutResp_past (hx : (nth d.host.mbx n).st = .executing) (he : (nth d.host.mbx n).effect = true) : d.timeoutResp n =
    ((d.spoil 0x01 (if n < 16 then n else 0xFF) 0x002 true (nth d.host.mbx n).logSeq).onMbx n fun b =>
      { b with timeouts := b.timeouts + 1 }).respond n 0x30 0xFF0A 0 0 [] := by
  rw [Dev.timeoutResp]
  exact congrArg (fun e : Dev => (e.onMbx n fun b => { b with timeouts := b.timeouts + 1 }).respond n 0x30 0xFF0A 0 0 [])
    (if_pos (by simp [hx, he]))

section Late

variable (hs : (nth d.host.mbx n).startTick = some t) (ht : t + d.deadlineOf n ≤ d.now)

include hs ht

theorem mbxLate_of_start : d.mbxLate n = true := by simp [Dev.mbxLate, hs, ht]

theorem deadline_before
    (h : (nth d.host.mbx n).st = .queued ∨ (nth d.host.mbx n).st = .executing ∧ (nth d.host.mbx n).effect = false) :
    d.deadline n =
      let e := (d.running n).foldl Dev.undo d
      ({ e with host := { e.host with
        jobs := d.host.jobs.filter fun j => ! (j.mbx = n && j.completionId = 0) } }.onMbx n fun b =>
          { b with timeouts := b.timeouts + 1 }).respond n 0x30 0xFF0A 0 0 [] := by
  have hbusy : ((nth d.host.mbx n).st == .queued || (nth d.host.mbx n).st == .executing) = true := by
    rcases h with h | ⟨h, -⟩ <;> simp [h]
  have hbefore : ((nth d.host.mbx n).st == .executing && (nth d.host.mbx n).effect) = false := by
    rcases h with h | ⟨-, h⟩ <;> simp [h]
  simp only [Dev.deadline, mbxLate_of_start hs ht, hbusy, hbefore, Bool.not_true, Bool.or_self, Bool.false_eq_true, if_false]
  refine timeoutResp_before fun hx => ?_
  simp only [foldl_undo_host] at hx ⊢
  simpa [hx] using hbefore

theorem deadline_past (hx : (nth d.host.mbx n).st = .executing) (he : (nth d.host.mbx n).effect = true) : d.deadline n =
    (({ d with host := { d.host with jobs := d.host.jobs.map (Job.orphan (· = n)) } }.spoil 0x01
      (if n < 16 then n else 0xFF) 0x002 true (nth d.host.mbx n).logSeq).onMbx n fun b =>
        { b with timeouts := b.timeouts + 1 }).respond n 0x30 0xFF0A 0 0 [] := by
  have hbusy : ((nth d.host.mbx n).st == .queued || (nth d.host.mbx n).st == .executing) = true := by simp [hx]
  have hpast : ((nth d.host.mbx n).st == .executing && (nth d.host.mbx n).effect) = true := by simp [hx, he]
  simp only [Dev.deadline, mbxLate_of_start hs ht, hbusy, hpast, Bool.not_true, Bool.or_self, Bool.false_eq_true, if_false,
    if_true]
  exact timeoutResp_past hx he

end Late

/-- R423: a task that runs no command before its effect point has nothing to begin again. -/
theorem taskRestart_idle {c k : Nat} (h : (nth d.host.mbx k).effect = true ∨ d.running k = []) :
    d.taskRestart c k = d.spoil 0x01 c 0x001 false k := by
  have hnone : (if (nth d.host.mbx k).effect then [] else d.running k) = [] := by
    rcases h with h | h
    · rw [if_pos h]
    · rw [h, ite_self]
  rw [Dev.taskRestart, hnone]
  rfl

/-- R423: a command before its effect point is run again from its beginning. -/
theorem taskRestart_one {c k : Nat} {j : JobKind} (he : (nth d.host.mbx k).effect = false) (hr : d.running k = [j]) :
    d.taskRestart c k = (d.rerun j).spoil 0x01 c 0x001 false k := by
  rw [Dev.taskRestart, he, hr]
  rfl

end Deadline

section Reset

variable {d : Dev} {m : Dram}

/-- What holds of an entry and of every changed one holds after the change of a place. -/
theorem nth_upd_of {α : Type} [Inhabited α] {l : List α} {i j : Nat} {f : α → α} {p : α → Prop} (h : p (nth l j))
    (hf : ∀ a, p (f a)) : p (nth (upd l i f) j) := by
  by_cases hj : j = i
  · subst hj
    by_cases hl : j < l.length
    · rw [nth_upd_same hl]
      exact hf _
    · rwa [upd, List.modify_eq_self (Nat.le_of_not_lt hl)]
  · rwa [nth_upd_ne hj]

theorem dmaCut_idle {c st : Nat} (h : (nth d.host.dma c).cur = none) : d.dmaCut m c st = (d, []) := by
  rw [Dev.dmaCut, h]

/-- R399: with no descriptor to cut, a stop of every channel changes the channels alone. -/
theorem dmaStopAll_idle (h : ∀ c < 8, (nth d.host.dma c).cur = none) :
    ∃ q, d.dmaStopAll m = ({ d with host := { d.host with dma := q } }, []) := by
  have hfold : ∀ (l : List Nat) (q : List DmaChan), (∀ c ∈ l, (nth q c).cur = none) → ∃ q',
      l.foldl (fun (r : Dev × List DramOp) ch =>
        let x := r.1.dmaCut (applyOps m r.2) ch 0x31
        (x.1.onDma ch fun _ => DmaChan.reset, r.2 ++ x.2)) ({ d with host := { d.host with dma := q } }, []) =
      ({ d with host := { d.host with dma := q' } }, []) := by
    intro l
    induction l with
    | nil => exact fun q _ => ⟨q, rfl⟩
    | cons c l ih =>
      intro q hq
      obtain ⟨q', hq'⟩ := ih (upd q c fun _ => DmaChan.reset) fun k hk =>
        nth_upd_of (p := fun a : DmaChan => a.cur = none) (hq k (List.mem_cons_of_mem _ hk)) fun _ => rfl
      refine ⟨q', Eq.trans ?_ hq'⟩
      rw [List.foldl_cons]
      simp only [dmaCut_idle (d := { d with host := { d.host with dma := q } }) (hq c List.mem_cons_self), List.append_nil]
      rfl
  exact hfold (List.range 8) d.host.dma fun c hc => h c (List.mem_range.1 hc)

theorem resetInterface_irq0 : (d.resetInterface m).1.host.irq0 = Irq.reset := rfl

theorem resetInterface_cq : (d.resetInterface m).1.host.cq = none := rfl

/-- R399: the mailboxes of the host are FREE. -/
theorem resetInterface_free {n : Nat} (hn : n < 16) : (nth (d.resetInterface m).1.host.mbx n).st = .free := by
  obtain ⟨b, hb⟩ := refreshStarts_mbx (d := { (d.dmaStopAll m).1 with host := { (d.dmaStopAll m).1.host with
    mbx := (d.dmaStopAll m).1.host.mbx.mapIdx fun (i : Nat) (b : Mailbox) => if i < 16 then b.freed else b
    jobs := (d.dmaStopAll m).1.host.jobs.map (Job.orphan (· < 16))
    irq0 := Irq.reset
    cq := none } }) n
  rw [Dev.resetInterface]
  rw [hb]
  simp only [nth, List.getD_eq_getElem?_getD, List.getElem?_mapIdx, hn, if_true]
  cases (d.dmaStopAll m).1.host.mbx[n]? <;> rfl

/-- R399: with no descriptor to cut, a reset of the interface changes the interface alone. -/
theorem resetInterface_idle (h : ∀ c < 8, (nth d.host.dma c).cur = none) :
    d.resetInterface m = ({ d with host := (d.resetInterface m).1.host }, []) := by
  obtain ⟨q, hq⟩ := dmaStopAll_idle (m := m) h
  simp only [Dev.resetInterface, hq]
  rfl

end Reset

section Link

variable {d : Dev}

/-- R400: a link of other lanes or another rate has changed. -/
theorem sameLink_changed {l r : Nat} (h : ¬ (l = d.host.lanes ∧ r = d.host.rate)) : d.sameLink l r = false := by
  simp only [Dev.sameLink, Bool.and_eq_false_iff, decide_eq_false_iff_not]
  tauto

theorem sameLink_same (h : d.host.linkUp = true ∨ d.host.cfg.d3hot = true) :
    d.sameLink d.host.lanes d.host.rate = true := by
  rcases h with h | h <;> simp [Dev.sameLink, h]

/-- R400: what a link tells of that has trained, is lost or is degraded. -/
theorem linkChange_eq {l r : Nat} : d.linkChange l r =
    let t := { d with
      host := { d.host with
        linkUp := l ≠ 0 && ! d.host.cfg.d3hot, link1Up := l ≠ 0 && ! d.host.cfg1.d3hot, lanes := l, rate := r }
      pins := { d.pins with perst := d.pins.perst && l = 0, pewake := d.pins.pewake && l = 0 } }.raise 42
    if l = 0 ∨ l < 8 ∨ r < 32 then t.spoil 0x08 0xFF 0x001 false (l + 256 * r) else t := by
  have hdegraded : (l < 8 || r < 32) = true ↔ l = 0 ∨ l < 8 ∨ r < 32 := by
    simp only [Bool.or_eq_true, decide_eq_true_eq]
    omega
  simp only [Dev.linkChange, hdegraded]

/-- R395: what the platform sets of one function, on a link that is up. -/
theorem pciSetup_config {c : PciConfig} (hup : d.host.lanes ≠ 0) : d.pciSetup (some c) [] =
    if c.pf1 then { d with host := { d.host with
      cfg1 := c, link1Up := ! c.d3hot, aer1 := d.host.aer1 - (d.host.aer1 &&& c.aerClear) } }
    else { d with host := { d.host with
      cfg := c, linkUp := ! c.d3hot, aer0 := d.host.aer0 - (d.host.aer0 &&& c.aerClear) } } := by
  simp only [Dev.pciSetup, List.foldl_nil, hup, ne_eq, not_false_eq_true, decide_true, Bool.true_and]

/-- R396: an entry of the MSI-X table that stays masked. -/
theorem pciSetup_masked {v a w : Nat} : d.pciSetup none [⟨false, v, a, w, true⟩] =
    { d with host := { d.host with irq0 := { d.host.irq0 with table := d.host.irq0.table.set v (a, w, true) } } } := by
  simp only [Dev.pciSetup, List.foldl_cons, List.foldl_nil]
  rw [onIrq_pf0_quiet]
  rfl

end Link

section Perst

variable {d : Dev} {m : Dram}

/-- R399: both functions go down and PF1's IRQ block is reset, beside what `r` leaves. -/
def unplugged (r : Dev × List DramOp) : Dev × List DramOp :=
  ({ r.1 with host := { r.1.host with irq1 := Irq.reset, linkUp := false, link1Up := false } }, r.2)

/-- R399: PERST# of a running device resets the interface too. -/
theorem perst_awake (ha : d.awake = true) : d.perst m =
    unplugged ({ d with pins := { d.pins with perst := true } }.resetInterface m) := by
  simp only [Dev.perst, ha, if_true, unplugged]

theorem unplugged_down (r : Dev × List DramOp) : (unplugged r).1.host.linkUp = false ∧
    (unplugged r).1.host.link1Up = false ∧ (unplugged r).1.host.irq1 = Irq.reset := ⟨rfl, rfl, rfl⟩

theorem unplugged_keeps (r : Dev × List DramOp) : (unplugged r).1.host.irq0 = r.1.host.irq0 ∧
    (unplugged r).1.host.mbx = r.1.host.mbx := ⟨rfl, rfl⟩

theorem perst_down (ha : d.awake = true) : (d.perst m).1.host.linkUp = false ∧ (d.perst m).1.host.link1Up = false ∧
    (d.perst m).1.host.irq1 = Irq.reset := by
  rw [perst_awake ha]
  exact unplugged_down _

theorem perst_irq0 (ha : d.awake = true) : (d.perst m).1.host.irq0 = Irq.reset := by
  rw [perst_awake ha, (unplugged_keeps _).1]
  exact resetInterface_irq0

theorem perst_free {n : Nat} (ha : d.awake = true) (hn : n < 16) : (nth (d.perst m).1.host.mbx n).st = .free := by
  rw [perst_awake ha, (unplugged_keeps _).2]
  exact resetInterface_free hn

theorem exec_perstAssert_eq {s : State} : exec .perstAssert s = .next (withMem s (s.dev.perst s.dram)) :=
  exec_perstAssert.trans (onAon_wf rfl)

/-- With no descriptor to cut, PERST# changes the interface and its pin alone. -/
theorem perst_idle {s : State} (ha : s.dev.awake = true) (h : ∀ c < 8, (nth s.dev.host.dma c).cur = none) :
    withMem s (s.dev.perst s.dram) =
      withDev s { s.dev with host := (s.dev.perst s.dram).1.host, pins := { s.dev.pins with perst := true } } := by
  rw [perst_awake ha, resetInterface_idle (d := { s.dev with pins := { s.dev.pins with perst := true } }) h]
  rfl

end Perst

/-- Settles O9: each event is its device step, taken apart by the state of the mailbox, the channels or the link. -/
theorem hostEventsComplete : Obligations.HostEventsComplete := by
  refine ⟨?before, ?past, ?idleTask, ?dark, ?measure, ?flr1, ?flr0, ?perst, ?link, ?config, ?msix, ?busTimeout⟩
  case before => exact fun n s t hl hs ht h => exec_classDeadlineExpiry.trans (onDev_eq hl (deadline_before hs ht h))
  case past => exact fun n s t hl hs ht hx he => exec_classDeadlineExpiry.trans (onDev_eq hl (deadline_past hs ht hx he))
  case idleTask => exact fun c k s hl h => exec_coxTaskWatchdog.trans (onDev_eq hl (taskRestart_idle h))
  case dark => exact fun c k mask s hl he hr => exec_coxTaskWatchdog.trans (onDev_eq hl (taskRestart_one he hr))
  case measure => exact fun c k mask s hl he hr => exec_coxTaskWatchdog.trans (onDev_eq hl (taskRestart_one he hr))
  case flr1 =>
    intro s ha hup
    refine exec_functionLevelReset.trans ((onMemAny_awake ha).trans ?_)
    rw [Dev.flr, if_neg (by simp [HostIf.answers, hup]), if_pos rfl]
    rfl
  case flr0 =>
    intro s ha hup
    have hflr : s.dev.flr s.dram false = s.dev.resetInterface s.dram := by
      rw [Dev.flr, if_neg (not_deaf hup), if_neg Bool.false_ne_true]
    refine ⟨_, exec_functionLevelReset.trans (onMemAny_awake ha), ?_⟩
    rw [hflr]
    refine ⟨resetInterface_irq0, resetInterface_cq, fun n hn => resetInterface_free hn, fun hcur => ?_⟩
    rw [resetInterface_idle hcur]
    rfl
  case perst =>
    intro s ha
    obtain ⟨hlink, hlink1, hirq1⟩ := perst_down (m := s.dram) ha
    exact ⟨_, exec_perstAssert_eq, hlink, hlink1, perst_irq0 ha, hirq1, fun n hn => perst_free ha hn, perst_idle ha⟩
  case link => exact fun l r s hl hch => exec_pcieLinkChange.trans (onDev_eq hl (by
    rw [sameLink_changed hch, if_neg Bool.false_ne_true]
    exact linkChange_eq))
  case config => exact fun c s hl hup h => exec_pcieLinkChange.trans (onDev_eq hl (by
    rw [sameLink_same h, if_pos rfl, pciSetup_config hup]))
  case msix => exact fun v a w s hl hup => exec_pcieLinkChange.trans (onDev_eq hl (by
    rw [sameLink_same (.inl hup), if_pos rfl, pciSetup_masked]))
  case busTimeout => exact fun k s ha => exec_busTimeout.trans (onDevAny_awake ha)

end Sys2Proof.Proofs
end

section
/-! PROOFS. Where the host sees DRAM: the base of BAR2, the writes posted there and the capacity are left as they are by a read of a
burst, whatever its ECC outcome sets off (R376, R386 to R391). -/

namespace Sys2Proof.Proofs

open Sys2Proof.Machine Sys2Proof.Safety Sys2Proof.Laws

/-- The host interface and the memory controller of both are the same. -/
abbrev Apart (t d : Dev) : Prop := t.host = d.host ∧ t.mc = d.mc

/-- What the host sees DRAM through: the base of BAR2 and the writes posted there. -/
def window (h : HostIf) : Nat × List (Nat × List Byte) := (h.bar2Base, h.unfenced)

/-- What the capacity comes from: the chips that the channels have and the ranks that play their roles. -/
def population (l : List DramChan) : List (List Rank × List Nat) := l.map fun c => (c.chips, c.roles)

/-- The host sees DRAM through both in the same place. -/
abbrev SameView (t d : Dev) : Prop := window t.host = window d.host ∧ population t.mc.chans = population d.mc.chans

theorem foldl_apart {α : Type} {f : Dev → α → Dev} (h : ∀ d a, Apart (f d a) d) (l : List α) (d : Dev) :
    Apart (l.foldl f d) d :=
  ⟨foldl_leaves (p := Dev.host) (fun d a => (h d a).1) l d, foldl_leaves (p := Dev.mc) (fun d a => (h d a).2) l d⟩

theorem foldl_sameView {α : Type} {f : Dev → α → Dev} (h : ∀ d a, SameView (f d a) d) (l : List α) (d : Dev) :
    SameView (l.foldl f d) d :=
  ⟨foldl_leaves (p := fun d => window d.host) (fun d a => (h d a).1) l d,
    foldl_leaves (p := fun d => population d.mc.chans) (fun d a => (h d a).2) l d⟩

theorem SameView.trans {a b c : Dev} (h : SameView a b) (h' : SameView b c) : SameView a c := ⟨h.1.trans h'.1, h.2.trans h'.2⟩

section Untouched

variable (d : Dev)

/-! ### What leaves the host interface and the memory controller as they are -/

@[simp] theorem release_apart (p : Requester → Bool) : Apart (d.release p) d := ⟨rfl, rfl⟩

@[simp] theorem request_apart (w : Requester) (p c : Nat) (q : Rat) : Apart (d.request w p c q).2 d := by
  simp only [Dev.request]
  split
  · split <;> exact ⟨rfl, rfl⟩
  · exact ⟨rfl, rfl⟩

@[simp] theorem safetyLeave_apart : Apart d.safetyLeave d := by simp [Apart, Dev.safetyLeave]

@[simp] theorem stat_apart (k : Nat) (f : OarStat → OarStat) : Apart (d.stat k f) d := ⟨rfl, rfl⟩

@[simp] theorem releaseStroke_apart (k q : Nat) : Apart (d.releaseStroke k q) d := ⟨rfl, rfl⟩

@[simp] theorem setOutcome_apart (q o k : Nat) : Apart (d.setOutcome q o k) d := ⟨rfl, rfl⟩

@[simp] theorem settleStroke_apart (s : Stroke) : Apart (d.settleStroke s) d := by
  simp only [Dev.settleStroke]
  split
  · exact ⟨rfl, rfl⟩
  · split <;> exact ⟨rfl, rfl⟩

@[simp] theorem notExposed_apart (s : Stroke) : Apart (d.notExposed s) d := by
  simp only [Dev.notExposed]
  split <;> simp [Apart, Dev.layerStat]

@[simp] theorem returnStroke_apart (k : Nat) (bind : Bool) (b : BufStroke) : Apart (d.returnStroke k bind b) d := by
  simp only [Dev.returnStroke]
  split <;> simp [Apart]

@[simp] theorem withdrawPending_apart (k : Nat) : Apart (d.withdrawPending k) d := by
  have hfold := foldl_apart (f := fun d (p : PendingItem) => (d.releaseStroke k p.item.stroke.seq).onMar (·.putBack p.item))
    (fun _ _ => ⟨rfl, rfl⟩)
  simp [Apart, Dev.withdrawPending, hfold]

@[simp] theorem withdraw_apart (k : Nat) (bind : Bool) : Apart (d.withdraw k bind) d := by
  have hreturn := foldl_apart fun d b => returnStroke_apart d k bind b
  have hnot := foldl_apart (f := fun d (i : PoolItem) => d.notExposed i.stroke) fun d i => notExposed_apart d i.stroke
  simp only [Dev.withdraw]
  split <;> simp [Apart, hreturn, hnot]

@[simp] theorem markWake_apart (k : Nat) (x y : Int) (ps : Rat) : Apart (d.markWake k x y ps) d := by
  simp only [Dev.markWake]
  split <;> exact ⟨rfl, rfl⟩

@[simp] theorem deposit_apart (a b x y : Int) (e : Rat) : Apart (d.deposit a b x y e) d := by
  simp only [Dev.deposit]
  split
  · exact ⟨rfl, rfl⟩
  · refine foldl_apart (fun d c => ?_) _ _
    exact ⟨rfl, rfl⟩

@[simp] theorem depositStep_apart (k : Nat) (s : Stroke) (f : Rat) : Apart (d.depositStep k s f) d := by
  simp only [Dev.depositStep]
  split <;> simp [Apart]

@[simp] theorem intRecord_apart (k c o : Nat) (s : Stroke) (f ps : Rat) : Apart (d.intRecord k c o s f ps) d := ⟨rfl, rfl⟩

@[simp] theorem addRepair_apart (i : PoolItem) : Apart (d.addRepair i) d := ⟨rfl, rfl⟩

@[simp] theorem interruptStroke_apart (k c : Nat) (b : BufStroke) (f ps : Rat) : Apart (d.interruptStroke k c b f ps) d := by
  simp only [Dev.interruptStroke]
  split_ifs <;> simp [Apart]

@[simp] theorem drive_apart (n : Nat) : Apart (d.drive n) d := by
  simp only [Dev.drive]
  split
  · split_ifs <;> exact ⟨rfl, rfl⟩
  · exact ⟨rfl, rfl⟩

@[simp] theorem meltOff_apart (k : Nat) : Apart (d.meltOff k) d := ⟨rfl, rfl⟩

@[simp] theorem loopsSafe_apart : Apart d.loopsSafe d := by
  refine foldl_apart (fun d n => ?_) _ _
  dsimp only
  split <;> simp [Apart]

@[simp] theorem commandHeads_apart : Apart d.commandHeads d := by
  have hleave := foldl_apart (f := fun d (_ : Nat) => d.safetyLeave) fun d _ => safetyLeave_apart d
  simp [Apart, Dev.commandHeads, hleave]

@[simp] theorem imageHalt_apart : Apart d.imageHalt d := ⟨rfl, rfl⟩

@[simp] theorem keepFault_apart (f : KeepRec → KeepRec) : Apart (d.keepFault f) d := ⟨rfl, rfl⟩

@[simp] theorem testEnd_mc (k : Nat) (ok : Bool) : (d.testEnd k ok).mc = d.mc := by
  simp only [Dev.testEnd]
  split <;> rfl

@[simp] theorem undo_mc (k : JobKind) : (d.undo k).mc = d.mc := by
  cases k with
  | measure mask =>
    exact foldl_leaves (f := fun (d : Dev) k => (d.testEnd k false).onEng k fun e => { e with test := none }) (p := Dev.mc)
      (fun d k => testEnd_mc d k false) _ _
  | dark mask =>
    exact foldl_leaves (f := fun (d : Dev) k => d.onMelt k fun m => { m with dark := none }) (p := Dev.mc) (fun _ _ => rfl) _ _
  | _ => rfl

@[simp] theorem dropRec_apart (c : RecClass) (k n : Nat) : Apart (d.dropRec c k n) d := ⟨rfl, rfl⟩

@[simp] theorem tagContour_apart (c : RecClass) (k : Nat) (bs : List Byte) : Apart (d.tagContour c k bs) d := by
  simp only [Dev.tagContour]
  split <;> exact ⟨rfl, rfl⟩

end Untouched

section Answers

variable (d : Dev)

/-! ### Causes, records and answers -/

@[simp] theorem window_mbx (h : HostIf) (l : List Mailbox) : window { h with mbx := l } = window h := rfl

@[simp] theorem window_jobs (h : HostIf) (l : List Job) : window { h with jobs := l } = window h := rfl

@[simp] theorem window_completions (h : HostIf) (l : List Completion) (n : Nat) :
    window { h with completions := l, cqSeq := n } = window h := rfl

@[simp] theorem raise_window (v : Nat) : window (d.raise v).host = window d.host := by simp [window]

@[simp] theorem logDevice_window (o fl ob ix : Nat) (p q : List Byte) :
    window (d.logDevice o fl ob ix p q).host = window d.host := raise_window _ 37

@[simp] theorem spoil_window (so i c : Nat) (n : Bool) (v : Nat) : window (d.spoil so i c n v).host = window d.host := by
  simp only [Dev.spoil]
  split
  · rfl
  · split
    · rfl
    · exact raise_window _ 36

@[simp] theorem healthRec_window (k se su i : Nat) (v l t p : Int) :
    window (d.healthRec k se su i v l t p).host = window d.host := raise_window _ 38

@[simp] theorem event_window (k c o : Nat) (v l : Int) (x : Nat) : window (d.event k c o v l x).host = window d.host :=
  spoil_window _ _ _ _ _ _

@[simp] theorem refreshStarts_window : window d.refreshStarts.host = window d.host := rfl

@[simp] theorem respond_window (m st de h c : Nat) (r : List Byte) : window (d.respond m st de h c r).host = window d.host := by
  simp only [Dev.respond, refreshStarts_window]
  split
  · exact raise_window _ m
  · rfl

@[simp] theorem faultRec_window (m st : Nat) : window (d.faultRec m st).host = window d.host := by
  simp only [Dev.faultRec]
  split <;> simp

@[simp] theorem timeoutResp_window (m : Nat) : window (d.timeoutResp m).host = window d.host := by
  simp only [Dev.timeoutResp, respond_window, window_mbx]
  split <;> simp

@[simp] theorem postCq_window (h : HostIf) (c : Completion) : window (h.postCq c) = window h := by
  simp only [HostIf.postCq]
  split <;> rfl

@[simp] theorem complete_window (j : Job) (st de : Nat) (r : List Byte) :
    window (d.complete j st de r).host = window d.host := by
  simp only [Dev.complete]
  split <;> simp

@[simp] theorem modeReqDone_window (st de : Nat) : window (d.modeReqDone st de).host = window d.host := raise_window _ 35

@[simp] theorem finish_window (j : Job) (st de : Nat) (r : List Byte) : window (d.finish j st de r).host = window d.host := by
  simp only [Dev.finish, refreshStarts_window]
  split_ifs <;> simp

@[simp] theorem finish_sameView (j : Job) (st de : Nat) (r : List Byte) : SameView (d.finish j st de r) d := by simp [SameView]

@[simp] theorem finishJobs_sameView (p : JobKind → Bool) (st de : Nat) (r : List Byte) :
    SameView (d.finishJobs p st de r) d :=
  foldl_sameView (fun d j => finish_sameView d j st de r) _ _

@[simp] theorem abortModeJobs_sameView : SameView d.abortModeJobs d := finishJobs_sameView ..

@[simp] theorem dropProofs_sameView : SameView d.dropProofs d := finishJobs_sameView ..

@[simp] theorem showMode_sameView (t : Dev) : SameView (d.showMode t) d := by
  simp only [Dev.showMode]
  split <;> simp [SameView]

end Answers

section Records

variable (d : Dev)

/-! ### The recorder -/

@[simp] theorem panicCheck_host : d.panicCheck.host = d.host := by
  simp only [Dev.panicCheck]
  split_ifs <;> rfl

@[simp] theorem panicCheck_chans : d.panicCheck.mc.chans = d.mc.chans := by
  simp only [Dev.panicCheck]
  split_ifs <;> rfl

@[simp] theorem stage_sameView (c : RecClass) (bs : List Byte) : SameView (d.stage c bs) d := by
  simp only [Dev.stage]
  split <;> simp [SameView]

@[simp] theorem emitDrops_sameView : SameView d.emitDrops d := by
  refine foldl_sameView (fun d a => ?_) _ _
  dsimp only
  split <;> simp [SameView]

@[simp] theorem intake_sameView (c : RecClass) (k : Nat) (bs : List Byte) : SameView (d.intake c k bs) d := by
  have hdrops : SameView (if c = .event then d.emitDrops else d) d := by
    split
    · exact emitDrops_sameView d
    · exact ⟨rfl, rfl⟩
  simp only [Dev.intake]
  split
  · exact ⟨rfl, rfl⟩
  · split <;> simp [SameView, hdrops]

@[simp] theorem eventRec_sameView (k q n : Nat) (bs : List Byte) (t : Nat × Nat) : SameView (d.eventRec k q n bs t) d := by
  simp only [Dev.eventRec]
  split
  · exact ⟨rfl, rfl⟩
  · exact intake_sameView ..

@[simp] theorem forcedLow_sameView (k : Nat) (s : Stroke) (slot : Nat) : SameView (d.forcedLow k s slot) d := by
  simp only [Dev.forcedLow, Dev.edgeRec]
  split
  · exact ⟨rfl, rfl⟩
  · exact intake_sameView ..

end Records

section Strokes

variable (d : Dev)

/-! ### Strokes and cut paths -/

@[simp] theorem crossCell_sameView (k : Nat) (s : Stroke) (t ps : Rat) : SameView (d.crossCell k s t ps) d := by
  simp only [Dev.crossCell, Dev.breachCheck]
  split
  · split_ifs <;> simp [SameView]
  · split_ifs <;> simp [SameView]

@[simp] theorem cellsTo_sameView (k : Nat) (s : Stroke) (f ps : Rat) : SameView (d.cellsTo k s f ps) d := by
  simp only [Dev.cellsTo]
  split
  · exact ⟨rfl, rfl⟩
  · exact foldl_sameView (fun d t => crossCell_sameView ..) _ _

@[simp] theorem interrupt_sameView (k c : Nat) : SameView (d.interrupt k c) d := by
  simp only [Dev.interrupt]
  split
  · simp [SameView, Dev.draw]
  · exact ⟨rfl, rfl⟩

@[simp] theorem cutStroke_sameView (k c : Nat) : SameView (d.cutStroke k c) d := by simp [SameView, Dev.cutStroke]

@[simp] theorem openCut_sameView (k c : Nat) : SameView (d.openCut k c) d := by
  simp only [Dev.openCut]
  split <;> simp [SameView]

@[simp] theorem openAll_sameView (c : Nat) : SameView (d.openAll c) d :=
  foldl_sameView (fun d k => openCut_sameView d k c) _ _

end Strokes

section Axes

variable (d : Dev)

/-! ### Axes -/

@[simp] theorem axisDone_sameView (a st : Nat) : SameView (d.axisDone a st) d :=
  foldl_sameView (fun _ _ => finish_sameView ..) _ _

@[simp] theorem axisRest_sameView (a : Nat) : SameView (d.axisRest a) d := by
  simp only [Dev.axisRest]
  split <;> split <;> simp [SameView]

@[simp] theorem axisStop_sameView (a st : Nat) : SameView (d.axisStop a st) d := by
  have hleave : Apart (if (d.axis a).busy && (d.axis a).st != .stopping then d.safetyLeave else d) d := by
    split <;> simp [Apart]
  rw [Dev.axisStop]
  dsimp only
  generalize (if (d.axis a).busy && (d.axis a).st != .stopping then d.safetyLeave else d) = e at hleave ⊢
  have hpending : Apart (if (d.axis a).st == .pending then e.release (isMove a) else e) d := by
    split <;> simp [Apart, hleave]
  generalize (if (d.axis a).st == .pending then e.release (isMove a) else e) = t at hpending ⊢
  split
  case h_1 | h_2 | h_3 | h_4 => split <;> simp [SameView, hpending]
  case h_5 | h_6 => simp [SameView, hpending]

@[simp] theorem stopAllAxes_sameView (p : Nat → Bool) : SameView (d.stopAllAxes p) d := by
  refine foldl_sameView (fun d a => ?_) _ _
  split <;> simp [SameView]

@[simp] theorem recoatSuspend_sameView : SameView d.recoatSuspend d := by simp [SameView, Dev.recoatSuspend]

end Axes

section Modes

variable (d : Dev)

/-! ### Modes -/

@[simp] theorem endService_sameView : SameView d.endService d := by
  simp only [Dev.endService]
  split_ifs
  · exact ⟨rfl, rfl⟩
  · split <;> simp [SameView] <;> rfl
  · exact ⟨rfl, rfl⟩

@[simp] theorem setMode_sameView (m : Mode) (n : Nat) : SameView (d.setMode m n) d := by
  simp only [Dev.setMode]
  split_ifs <;> simp [SameView]

@[simp] theorem enterSafe_sameView (c k : Nat) : SameView (d.enterSafe c k) d := by
  have hwithdraw := foldl_apart (f := fun d k => d.withdraw k true) fun d k => withdraw_apart d k true
  simp only [Dev.enterSafe]
  split <;> simp [SameView, hwithdraw]

@[simp] theorem intlkWatch_sameView : SameView d.intlkWatch d := by
  simp only [Dev.intlkWatch]
  split <;> simp [SameView]

@[simp] theorem enterHold_sameView (c : HoldCause) (u : Bool) (x : Option Nat) (n : Nat) : SameView (d.enterHold c u x n) d := by
  have hwithdraw := foldl_apart (f := fun d k => d.withdraw k true) fun d k => withdraw_apart d k true
  have hcut := foldl_sameView (f := fun d k => d.cutStroke k 2) fun d k => cutStroke_sameView d k 2
  cases x with
  | some k =>
    simp only [Dev.enterHold]
    split_ifs <;> simp [SameView, hwithdraw]
  | none =>
    simp only [Dev.enterHold]
    split_ifs <;> simp [SameView, hwithdraw, hcut]

end Modes

section Memory

variable (d : Dev)

/-! ### ECC errors and what they set off -/

@[simp] theorem population_upd (l : List DramChan) (c : Nat) (f : DramChan → DramChan)
    (hf : ∀ h, (f h).chips = h.chips ∧ (f h).roles = h.roles) : population (upd l c f) = population l := by
  refine List.ext_getElem (by simp [population, upd]) fun i _ _ => ?_
  simp only [population, upd, List.getElem_map, List.getElem_modify]
  split <;> simp [hf]

@[simp] theorem change_chips (r : Nat) (st : RankState) (g : List Nat → List Nat) (h : DramChan) :
    (DramChan.change r st g h).chips = h.chips := rfl

@[simp] theorem change_roles (r : Nat) (st : RankState) (g : List Nat → List Nat) (h : DramChan) :
    (DramChan.change r st g h).roles = g h.roles := rfl

@[simp] theorem errRec_sameView (k so a y : Nat) (l : Loc) : SameView (d.errRec k so a y l) d := by
  simp only [Dev.errRec]
  split <;> simp [SameView]

@[simp] theorem askLeave_sameView (w : Requester) (p c : Nat) : SameView (d.askLeave w p c).2 d := by
  simp only [Dev.askLeave]
  split
  · split <;> simp [SameView]
  · simp [SameView]

@[simp] theorem markMigration_sameView (c r : Nat) (x : Option Nat) (g : Bool) : SameView (d.markMigration c r x g) d := by
  simp [SameView, Dev.markMigration]

@[simp] theorem startMigration_sameView (c r : Nat) (x : Option Nat) : SameView (d.startMigration c r x) d := by
  simp [SameView, Dev.startMigration]

@[simp] theorem spareRetired_sameView (c r : Nat) : SameView (d.spareRetired c r) d := by
  simp [SameView, Dev.spareRetired, Dev.changeMap, Dev.retireDone]

@[simp] theorem rankTrigger_sameView (c r : Nat) (u : Bool) (x : Option Nat) : SameView (d.rankTrigger c r u x) d := by
  simp only [Dev.rankTrigger]
  split_ifs <;> simp [SameView]

@[simp] theorem corrected_sameView (so a y : Nat) : SameView (d.corrected so a y) d := by
  simp only [Dev.corrected, Dev.rankCorrected]
  split <;> simp [SameView]

@[simp] theorem ringDamage_sameView (a : Nat) : SameView (d.ringDamage a) d := by
  simp only [Dev.ringDamage]
  split
  · exact ⟨rfl, rfl⟩
  · exact eventRec_sameView ..

@[simp] theorem uncorrectable_sameView (so a : Nat) : SameView (d.uncorrectable so a).1 d := by
  simp [SameView, Dev.uncorrectable]

theorem readBurst_sameView (m : Dram) (so a : Nat) (o : EccOutcome) : SameView (d.readBurst m so a o).1 d := by
  simp only [Dev.readBurst]
  split_ifs
  · simp [SameView]
  · simp [SameView]
  · simp [SameView]
  · split <;> simp [SameView]

end Memory

end Sys2Proof.Proofs
end

section
/-! PROOFS. The apertures (R402, R403) and the USB exchange (R421): O8. -/

namespace Sys2Proof.Proofs

open Sys2Proof.Machine Sys2Proof.Safety Sys2Proof.Laws

section Bytes

variable {c : Cells} {a : Nat} {bs : List Byte}

theorem memGet_memWrite_outside (h : Memory.wf c) {x : Nat} (hx : x < a ∨ a + bs.length ≤ x) :
    memGet (memWrite c a bs) x = memGet c x := by
  induction bs generalizing c a with
  | nil => rfl
  | cons b bs ih =>
    rw [List.length_cons] at hx
    rw [memWrite, ih (memSet_wf a b h) (by omega), memGet_memSet a b x h, if_neg (by omega)]

theorem memBytes_succ (n : Nat) : memBytes c a (n + 1) = memGet c a :: memBytes c (a + 1) n := by
  simp [memBytes, List.range_succ_eq_map, Function.comp_def, Nat.add_assoc, Nat.add_comm 1]

theorem memBytes_memWrite (h : Memory.wf c) : memBytes (memWrite c a bs) a bs.length = bs := by
  induction bs generalizing c a with
  | nil => rfl
  | cons b bs ih =>
    have hfirst : memGet (memWrite c a (b :: bs)) a = b := by
      rw [memWrite, memGet_memWrite_outside (memSet_wf a b h) (by omega), memGet_memSet a b a h, if_pos rfl]
    rw [List.length_cons, memBytes_succ, hfirst, memWrite, ih (memSet_wf a b h)]

theorem memBytes_congr {c' : Cells} {n : Nat} (h : ∀ x, a ≤ x → x < a + n → memGet c x = memGet c' x) :
    memBytes c a n = memBytes c' a n :=
  List.map_congr_left fun i hi => h _ (by omega) (by have := List.mem_range.1 hi; omega)

theorem memBytes_of_overlap_free {w : List Byte} {b n : Nat} (h : Memory.wf c) (ho : overlap a n b w.length = false) :
    memBytes (memWrite c b w) a n = memBytes c a n := by
  simp only [overlap, Bool.and_eq_false_iff, decide_eq_false_iff_not] at ho
  exact memBytes_congr fun x hl hr => memGet_memWrite_outside h (by omega)

end Bytes

section Posted

variable {d t : Dev} {m : Dram} {a n : Nat} {bs : List Byte}

theorem capacity_of_population {m m' : MemCtl} (h : population m.chans = population m'.chans) : m.capacity = m'.capacity := by
  have hroles (l : List DramChan) : (l.headD default).roles = ((population l).headD default).2 := by
    cases l with
    | nil => rfl
    | cons c l => rfl
  have hchips (l : List DramChan) : l.flatMap (·.chips) = (population l).flatMap (·.1) := by
    rw [population, List.flatMap_map]
  have hdevice : m.device = m'.device := by rw [MemCtl.device, MemCtl.device, hchips, hchips, h]
  rw [MemCtl.capacity, MemCtl.capacity, MemCtl.rankSpan, MemCtl.rankSpan, MemCtl.rowBits, MemCtl.rowBits, hroles, hroles, h,
    hdevice]

theorem SameView.hostLimit (h : SameView t d) : t.mc.hostLimit = d.mc.hostLimit := by
  exact congrArg (fun n => n - 2 ^ 30) (capacity_of_population h.2)

theorem SameView.bar2Base (h : SameView t d) : t.host.bar2Base = d.host.bar2Base := (Prod.mk.inj h.1).1

theorem SameView.unfenced (h : SameView t d) : t.host.unfenced = d.host.unfenced := (Prod.mk.inj h.1).2

/-- Below HOST_LIMIT the host sees the bytes that stand there (R402). -/
theorem hostView_below (h : a + n ≤ d.mc.hostLimit) : d.hostView m a n = memBytes (d.posted m).mem a n :=
  List.map_congr_left fun i hi => if_pos (by have := List.mem_range.1 hi; omega)

theorem posted_wf (h : Memory.wf m.mem) : Memory.wf (d.posted m).mem :=
  List.foldlRecOn (motive := fun m : Dram => Memory.wf m.mem) _ _ h fun _ hw _ _ => apply_wf _ _ hw

/-- A posted write is what the host reads back. -/
theorem posted_append (h : t.host.unfenced = d.host.unfenced ++ [(a, bs)]) :
    (t.posted m).mem = memWrite (d.posted m).mem a bs := by
  rw [Dev.posted, h, List.foldl_append]
  rfl

/-- Writes posted elsewhere leave the bytes of a range. -/
theorem memBytes_posted (hw : Memory.wf m.mem) (ho : (d.host.unfenced.any fun u => overlap a n u.1 u.2.length) = false) :
    memBytes (d.posted m).mem a n = memBytes m.mem a n := by
  rw [Dev.posted]
  generalize d.host.unfenced = l at ho
  induction l generalizing m with
  | nil => rfl
  | cons u l ih =>
    obtain ⟨hu, hl⟩ := Bool.or_eq_false_iff.1 (List.any_cons ▸ ho)
    rw [List.foldl_cons, ih (apply_wf _ _ hw) hl]
    exact memBytes_of_overlap_free hw hu

end Posted

section Landing

variable (d : Dev) (m : Dram) (src a : Nat) (bs : List Byte) (o : EccOutcome)

theorem activate_sameView (n : Nat) : SameView (d.activate a n) d :=
  foldl_sameView (f := Dev.openRow) (fun _ _ => ⟨rfl, rfl⟩) _ _

theorem partialPoison_sameView (n : Nat) : SameView (d.partialPoison m src a n) d :=
  foldl_sameView (fun _ _ => errRec_sameView ..) _ _

/-- R376, R379: where the host sees DRAM stays as it is while a write reaches it. -/
theorem landWrite_sameView : SameView (d.landWrite m src a bs o).1 d := by
  rw [Dev.landWrite]
  dsimp only
  split
  · exact activate_sameView ..
  · refine (partialPoison_sameView ..).trans ?_
    split
    · exact activate_sameView ..
    · exact (readBurst_sameView ..).trans (activate_sameView ..)

/-- A write that reaches DRAM is the last of what is done there. -/
theorem landWrite_ops : ∃ ops, (d.landWrite m src a bs o).2 = ops ++ [.write a bs] := by
  rw [Dev.landWrite]
  dsimp only
  split
  · exact ⟨[], rfl⟩
  · exact ⟨_, rfl⟩

end Landing

section Write

variable {d : Dev} {m : Dram} {o : Nat} {ds : List Byte} {e : EccOutcome}

/-- What a write leaves the host to read back: the base of BAR2 as it was, and the bytes written. -/
def ReadsBack (d : Dev) (o : Nat) (ds : List Byte) (t : Dev) (m : Dram) : Prop :=
  t.host.bar2Base = d.host.bar2Base ∧ t.hostView m (d.host.bar2Base + o) ds.length = ds

theorem readsBack_queued {t : Dev} (hm : Memory.wf m.mem) (hlimit : d.host.bar2Base + o + ds.length ≤ d.mc.hostLimit)
    (hmc : t.mc = d.mc) (hbase : t.host.bar2Base = d.host.bar2Base)
    (hun : t.host.unfenced = d.host.unfenced ++ [(d.host.bar2Base + o, ds)]) : ReadsBack d o ds t m := by
  refine ⟨hbase, (hostView_below (hmc ▸ hlimit)).trans ?_⟩
  rw [posted_append hun]
  exact memBytes_memWrite (posted_wf hm)

theorem readsBack_landed (hm : Memory.wf m.mem) (hlimit : d.host.bar2Base + o + ds.length ≤ d.mc.hostLimit)
    (ho : (d.host.unfenced.any fun u => overlap (d.host.bar2Base + o) ds.length u.1 u.2.length) = false) :
    ReadsBack d o ds (d.landWrite m 3 (d.host.bar2Base + o) ds e).1
      (applyOps m (d.landWrite m 3 (d.host.bar2Base + o) ds e).2) := by
  have hview := landWrite_sameView d m 3 (d.host.bar2Base + o) ds e
  obtain ⟨ops, hops⟩ := landWrite_ops d m 3 (d.host.bar2Base + o) ds e
  refine ⟨hview.bar2Base, (hostView_below (hlimit.trans_eq hview.hostLimit.symm)).trans ?_⟩
  rw [memBytes_posted (applyOps_wf _ _ hm) (hview.unfenced ▸ ho), hops, applyOps, List.foldl_append]
  exact memBytes_memWrite (applyOps_wf m ops hm)

/-- R402: what the host writes below HOST_LIMIT it reads back there. -/
theorem postWrite_readsBack (hm : Memory.wf m.mem) (hlink : d.host.linkUp = true) (hopen : d.hostOpen = true)
    (hsize : o + ds.length ≤ d.host.bar2Size) (hlimit : d.host.bar2Base + o + ds.length ≤ d.mc.hostLimit) :
    ReadsBack d o ds (d.postWrite m o ds e).1 (applyOps m (d.postWrite m o ds e).2) := by
  have htaken : ds.take (d.mc.hostLimit - (d.host.bar2Base + o)) = ds := List.take_of_length_le (by omega)
  rw [Dev.postWrite, if_neg (by simp [hlink, hopen, hsize])]
  simp only [htaken]
  split
  next hnone =>
    rw [List.isEmpty_iff.1 hnone]
    exact ⟨rfl, rfl⟩
  next =>
    split
    · exact readsBack_queued hm hlimit rfl rfl rfl
    next hnow =>
      simp only [Bool.or_eq_true, not_or, Bool.not_eq_true] at hnow
      exact readsBack_landed (d := d.flip.2) hm hlimit hnow.2

end Write

section Read

variable {d : Dev} {m : Dram} {o n : Nat} {pf1 : Bool}

/-- R402: a read of sound DRAM below HOST_LIMIT opens its rows and returns what the host sees there. -/
theorem apertureRead_sound (hlink : d.host.answers pf1 = true) (hopen : d.hostOpen = true) (hn : 1 ≤ n)
    (hsize : o + n ≤ d.host.bar2Size) (hlimit : d.host.bar2Base + o + n ≤ d.mc.hostLimit)
    (hm : (d.posted m).marked (d.host.bar2Base + o) n = []) :
    d.apertureRead m pf1 o n .clean = ({ d.activate (d.host.bar2Base + o) n with host := { d.host with
      bus := ⟨false, false, d.hostView m (d.host.bar2Base + o) n⟩ } }, []) := by
  have hwhole : min n (d.mc.hostLimit - (d.host.bar2Base + o)) = n := by omega
  rw [Dev.apertureRead]
  dsimp only
  rw [if_neg (by simp [hlink, hopen, hsize]), hwhole, if_neg (by omega : ¬ n = 0), ite_self, readRange_sound hm]
  simp only [if_true, activate_host]

theorem nth_mapIdx_hostView {a i : Nat} {f : Nat → Byte → Byte} (h : i < n) :
    nth ((d.hostView m a n).mapIdx f) i = f i (nth (d.hostView m a n) i) := by
  have hlength : i < (d.hostView m a n).length := by simpa [Dev.hostView] using h
  simp [nth, List.getD_eq_getElem?_getD, hlength]

/-- R403: PF1 may read a byte. -/
def Readable (d : Dev) (x : Nat) : Prop := ∃ r ∈ d.recordRegions, r.1 ≤ x ∧ x < r.1 + r.2

theorem readable_iff {x : Nat} : (d.recordRegions.any fun r => r.1 ≤ x && x < r.1 + r.2) = true ↔ Readable d x := by
  simp [Readable, List.any_eq_true]

/-- R403: outside the regions PF1 reads zero, and is denied. -/
theorem recordRead_outside (hn : 1 ≤ n) (h : ∀ i < n, ¬ Readable d (d.host.bar2Base + o + i)) :
    d.recordRead m o n = ({ d with host := { d.host with
      denials := d.host.denials + 1, bus := ⟨false, false, List.replicate n 0⟩ } }, []) := by
  rw [Dev.recordRead]
  dsimp only
  rw [if_neg, if_neg]
  · intro hany
    obtain ⟨i, hi, hin⟩ := List.any_eq_true.1 hany
    exact h i (List.mem_range.1 hi) (readable_iff.1 hin)
  · exact fun hall => h 0 hn (readable_iff.1 (List.all_eq_true.1 hall 0 (List.mem_range.2 hn)))

/-- R403: inside them a read is that of BAR2. -/
theorem recordRead_inside (h : ∀ i < n, Readable d (d.host.bar2Base + o + i)) :
    d.recordRead m o n = d.apertureRead m true o n .clean := by
  rw [Dev.recordRead]
  dsimp only
  exact if_pos (List.all_eq_true.2 fun i hi => readable_iff.2 (h i (List.mem_range.1 hi)))

/-- R403: a read that lies in part outside them is denied once, and zero there. -/
theorem recordRead_partly {i j : Nat} (hi : i < n) (hj : j < n) (hin : Readable d (d.host.bar2Base + o + i))
    (hout : ¬ Readable d (d.host.bar2Base + o + j)) :
    d.recordRead m o n =
      let x := d.apertureRead m true o n .clean
      let bs := x.1.host.bus.data.mapIdx fun i b =>
        if d.recordRegions.any fun r => r.1 ≤ d.host.bar2Base + o + i && d.host.bar2Base + o + i < r.1 + r.2 then b else 0
      ({ x.1 with host := { x.1.host with denials := x.1.host.denials + 1, bus := { x.1.host.bus with data := bs } } }, x.2) := by
  rw [Dev.recordRead]
  dsimp only
  rw [if_neg, if_pos]
  · exact List.any_eq_true.2 ⟨i, List.mem_range.2 hi, readable_iff.2 hin⟩
  · exact fun hall => hout (readable_iff.1 (List.all_eq_true.1 hall j (List.mem_range.2 hj)))

end Read

/-- Settles O8: a read is one of sound rows; a write is the last posted at its place or the last that reaches DRAM, and nothing that a
part-written burst sets off moves the place where the host sees it. -/
theorem aperturesComplete : Obligations.AperturesComplete := by
  unfold Obligations.AperturesComplete
  refine ⟨⟨?bar2Read, ?denied, ?inside, ?partly, ?usb⟩, ?bar2Write⟩
  case bar2Read =>
    exact fun o n s hl hlink hopen hn hsize hlimit hm =>
      exec_bar2Read.trans (onMem_still hl (apertureRead_sound hlink hopen hn hsize hlimit hm))
  case denied =>
    intro o n s hl hlink hn hout
    refine exec_recordApertureRead.trans (onMem_still hl ((if_pos hlink).trans (recordRead_outside hn ?_)))
    simpa only [Readable, not_exists, not_and] using hout
  case inside =>
    exact fun o n s hl hlink hopen hn hsize hlimit hm hin => exec_recordApertureRead.trans (onMem_still hl
      ((if_pos hlink).trans ((recordRead_inside hin).trans (apertureRead_sound hlink hopen hn hsize hlimit hm))))
  case partly =>
    intro o n i j s hl hlink hopen hi hj hsize hlimit hm hin hout
    have hread := apertureRead_sound (pf1 := true) hlink hopen (by omega) hsize hlimit hm
    have hdenied : ¬ Readable s.dev (s.dev.host.bar2Base + o + j) := by simpa only [Readable, not_exists, not_and] using hout
    refine ⟨_, exec_recordApertureRead.trans
      (onMem_eq hl ((if_pos hlink).trans (recordRead_partly hi hj hin hdenied))), ?_, ?_, ?_⟩
    · simp only [withMem, hread]
    · simp only [withMem, hread]
      exact (nth_mapIdx_hostView hi).trans (if_pos (readable_iff.2 hin))
    · simp only [withMem, hread]
      exact (nth_mapIdx_hostView hj).trans (if_neg fun h => hdenied (readable_iff.1 h))
  case usb =>
    exact fun ds s hl hcap hopen hst => exec_usbCommand.trans (onDev_eq hl (if_pos (by
      rcases hst with h | h <;> simp [hcap, hopen, h])))
  case bar2Write =>
    intro o ds e s hl hm hlink hopen hsize hlimit
    obtain ⟨hbase, hview⟩ := postWrite_readsBack (e := e) hm hlink hopen hsize hlimit
    exact ⟨_, exec_bar2Write.trans (onMem_live hl), hbase, hview⟩
end Sys2Proof.Proofs
end
section
/-! PROOFS. What the bodies of the `time` commands come to (R428, R432, R434 to R441, R450): O19. -/

namespace Sys2Proof.Proofs

open Sys2Proof.Machine Sys2Proof.Safety Sys2Proof.Laws

section Bodies

variable {x : Ctx} {mem : Dram} {d : Dev}

theorem inRange_of_le {lo hi n : Nat} (h : lo ≤ n) (h' : n ≤ hi) : inRange lo hi n = true := by
  simp [inRange, h, h']

/-- R428: a sound setting is the port's, and its form is logged. -/
theorem timePortBody_sound {a : TimePortArg} (ha : TimePortArg.ok a = true) : timePortBody a x mem d =
    let t := d.onEth a.port fun e =>
      { e with mac := a.mac, vlan := a.vlan, ipv4 := a.ipv4, txCorr := a.txCorr, rxCorr := a.rxCorr }
    .done (t.log x 0x08 a.port ((nth d.time.eth a.port).bytes a.port) ((nth t.time.eth a.port).bytes a.port))
      ((nth t.time.eth a.port).bytes a.port) :=
  if_neg (by simp [ha])

theorem timeDomainBody_sound {a : TimeDomainArg} (ha : TimeDomainArg.ok a = true) : timeDomainBody a x mem d =
    .done ((d.setDomain a).log x 0x08 (0x10 + a.domain) (TimeDomainArg.bytes (d.dom a.domain).cfg)
      (TimeDomainArg.bytes a)) (TimeDomainArg.bytes a) :=
  if_neg (by simp [ha])

theorem timeServoBody_inRange {b st l w n : Nat} (hb : 10 ≤ b) (hb' : b ≤ 10000) (hs : 1000 ≤ st)
    (hs' : st ≤ 1000000000) (hl : 10 ≤ l) (hl' : l ≤ 100000) (hw : 1 ≤ w) (hw' : w ≤ 500) (hn : 1 ≤ n) (hn' : n ≤ 100) :
    timeServoBody b st l w n x mem d =
      let t := { d.time with servoBw := b, stepNs := st, lockNs := l, slewPpm := w, blendS := n }
      .done ({ d with time := t }.log x 0x08 0x20 d.time.servoBytes t.servoBytes) t.servoBytes := by
  rw [timeServoBody, if_neg (by simp [inRange_of_le, *])]
  rfl

/-- R443: a gang set with no layer queued or released; what was known of devices that are no longer others is forgotten. -/
theorem timeGangBody_idle {n k p r w : Nat} (hn : 1 ≤ n) (hn' : n ≤ 4) (hk : k < n) (hp : p ≤ 2) (hr : r ≤ 1)
    (hw : 100 ≤ w) (hw' : w ≤ 100000) (hc : d.boot.compat = false) (hq : d.queueEmpty = true) :
    timeGangBody n k p r w x mem d =
      let t := { d.time with
        gangSize := n, deviceNo := k, gangPorts := p, recoveredRef := decide (r = 1), skewMax := w
        peers := d.time.peers.mapIdx fun i q => if i < n && i ≠ k then q else Peer.reset }
      .done ({ d with time := t }.log x 0x08 0x21 d.time.gangBytes t.gangBytes) t.gangBytes := by
  rw [timeGangBody, if_neg (by simp [inRange_of_le, *]), if_neg (by simp [hq])]
  rfl

section Set

variable {sec ns : Nat} (hns : ns < 1000000000) (hg : d.time.gangSize ≤ 2) (hs : ∀ k < 2, d.time.canSteer k = false)
include hns hg hs

/-- R450: with a gang of at most two and no domain that can steer, `time.set` is taken. -/
theorem timeSetBody_free : timeSetBody sec ns x mem d =
    .done (d.setTime x ((sec : Rat) * 1000000000 + ns - d.time.ns64)) (u64 sec ++ u32 ns) := by
  have hany : (List.range 2).any d.time.canSteer = false :=
    List.any_eq_false.2 fun k hk => by simp [hs k (List.mem_range.1 hk)]
  rw [timeSetBody, if_neg hns.not_ge, if_neg (by simp [hany, Time.stepsAllowed, hg])]

/-- R439: with no layer released device time takes the value at once. -/
theorem timeSetBody_now (hr : d.layers.released = none) : timeSetBody sec ns x mem d = .done
    (let t := d.stepTime ((sec : Rat) * 1000000000 + ns - d.time.ns64)
     t.logAs x 5 0 0x08 0 (sha256 d.time.bytes) (sha256 t.time.bytes)) (u64 sec ++ u32 ns) := by
  rw [timeSetBody_free hns hg hs, Dev.setTime, if_neg (by simp [hr])]

/-- R440: with a layer released the step waits. -/
theorem timeSetBody_deferred {l : LayerRec} (hr : d.layers.released = some l) : timeSetBody sec ns x mem d = .done
    { d with time := { d.time with
      deferredStep := some (roundRat (((sec : Rat) * 1000000000 + ns - d.time.ns64) * 256)) } } (u64 sec ++ u32 ns) := by
  have hrel : d.layers.released.isSome = true := by rw [hr]; rfl
  rw [timeSetBody_free hns hg hs, Dev.setTime, if_pos hrel, Dev.stepOrDefer, if_pos hrel]
  rfl

end Set

theorem timeSelectBody_inRange {k : Nat} (hk : k ≤ 2) : timeSelectBody k x mem d =
    let t := ({ d with time := { d.time with select := k } }).chooseSteer
    .done (t.log x 0x08 0x23 (u32 d.time.select) (u32 k)) (u32 t.time.steerCode) :=
  if_neg hk.not_gt

theorem timeStatusBody_inRange {c : Nat} (hc : c ≤ 1) : timeStatusBody c x mem d = .done
    (if c = 1 then { d with time := { d.time with eth := d.time.eth.map EthPort.cleared } } else d) d.time.report :=
  if_neg hc.not_gt

theorem timePeersBody_inRange {c : Nat} (hc : c ≤ 1) : timePeersBody c x mem d = .done
    (if c = 1 then { d with time := { d.time with
      peers := d.time.peers.map fun p => { p with applied := 0, discarded := 0, dropped := 0 } } } else d) d.peerReport :=
  if_neg hc.not_gt

end Bodies

/-- Settles O19: each command that starts has the outcome of its body. -/
theorem timeCommandsComplete : Obligations.TimeCommandsComplete := by
  refine ⟨?port, ?domain, ?servo, ?gang, ?set, ?deferred, ?select, ?status, ?peers⟩
  case port => exact fun m a s x hs ha => exec_timePort.trans (runCmd_answered hs (timePortBody_sound ha))
  case domain => exact fun m a s x hs ha => exec_timeDomain.trans (runCmd_answered hs (timeDomainBody_sound ha))
  case servo => exact fun m b st l w n s x hs hb hb' hst hst' hl hl' hw hw' hn hn' =>
    exec_timeServo.trans (runCmd_answered hs (timeServoBody_inRange hb hb' hst hst' hl hl' hw hw' hn hn'))
  case gang => exact fun m n k p r w s x hs hn hn' hk hp hr hw hw' hc hq =>
    exec_timeGang.trans (runCmd_answered hs (timeGangBody_idle hn hn' hk hp hr hw hw' hc hq))
  case set => exact fun m sec ns s x hs hns hg hst hr =>
    exec_timeSet.trans (runCmd_answered hs (timeSetBody_now hns hg hst hr))
  case deferred => exact fun m sec ns l s x hs hns hg hst hr =>
    exec_timeSet.trans (runCmd_answered hs (timeSetBody_deferred hns hg hst hr))
  case select => exact fun m k s x hs hk => exec_timeSelect.trans (runCmd_answered hs (timeSelectBody_inRange hk))
  case status => exact fun m c s x hs hc => exec_timeStatus.trans (runCmd_answered hs (timeStatusBody_inRange hc))
  case peers => exact fun m c s x hs hc => exec_timePeers.trans (runCmd_answered hs (timePeersBody_inRange hc))

end Sys2Proof.Proofs
end
section
/-! PROOFS. The choice of the steering domain and the advance of device time (R27, R28, R430, R441): O21. -/

namespace Sys2Proof.Proofs

open Sys2Proof.Machine Sys2Proof.Safety Sys2Proof.Laws

section Steering

variable (d : Dev)

/-- R441: the choice changes the steering domain and its blend, and raises TIME. -/
theorem chooseSteer_time : ∃ b n, d.chooseSteer.time = { d.time with steer := d.time.chosen, blend := b, blendNs := n } := by
  rw [Dev.chooseSteer]
  split
  next h => exact ⟨d.time.blend, d.time.blendNs, by rw [h]⟩
  next => exact ⟨_, _, rfl⟩

theorem chooseSteer_mode : d.chooseSteer.mode = d.mode := by
  rw [Dev.chooseSteer]
  split <;> rfl

variable (t : Time)

/-- R441: a domain that is selected steers exactly when it can. -/
theorem chosen_selected (h : t.select < 2) : t.chosen = some t.select ↔ t.canSteer t.select = true := by
  rw [Time.chosen, if_pos h]
  simp

theorem canSteer_of_held {k : Nat} (h : t.steer.filter t.canSteer = some k) : t.canSteer k = true :=
  (Option.filter_eq_some_iff.1 h).2

theorem canSteer_of_held_or_first {k : Nat}
    (h : (t.steer.filter t.canSteer).or ((List.range 2).find? t.canSteer) = some k) : t.canSteer k = true := by
  rcases Option.or_eq_some_iff.1 h with hheld | ⟨-, hfirst⟩
  · exact canSteer_of_held t hheld
  · exact List.find?_some hfirst

/-- R441: only a locked SLAVE is ever chosen. -/
theorem canSteer_of_chosen {k : Nat} (h : t.chosen = some k) : t.canSteer k = true := by
  rw [Time.chosen] at h
  split at h
  case isTrue =>
    split at h
    next hcan => exact Option.some.inj h ▸ hcan
    next => cases h
  case isFalse =>
    dsimp only at h
    split at h
    next p _ =>
      split at h
      next hp => exact Option.some.inj h ▸ (Bool.and_eq_true_iff.1 hp).1
      next => exact canSteer_of_held_or_first t h
    next => exact canSteer_of_held_or_first t h

end Steering

section Advance

/-- Device time holds every instant of its range exactly. -/
theorem ns64_setNs (t : Time) {q : Rat} (h0 : 0 ≤ q) (hq : q < 2 ^ 64 * 1000000000) : (t.setNs q).ns64 = q := by
  have hfloor : 0 ≤ (q / 1000000000).floor := Rat.le_floor_iff.2 (by positivity)
  have hnat : ((natOf (q / 1000000000).floor : Nat) : Rat) = ((q / 1000000000).floor : Int) := by
    rw [natOf, ← Int.cast_natCast, Int.toNat_of_nonneg hfloor]
  have hle : ((natOf (q / 1000000000).floor : Nat) : Rat) ≤ q / 1000000000 := natOf_floor_le (by positivity)
  have hlt : natOf (q / 1000000000).floor < 2 ^ 64 := by
    have h64 : ((natOf (q / 1000000000).floor : Nat) : Rat) < 2 ^ 64 := hle.trans_lt (by rw [div_lt_iff₀ (by norm_num)]; exact hq)
    exact_mod_cast h64
  have hrest : 0 ≤ q - (natOf (q / 1000000000).floor : Nat) * 1000000000 := by
    rw [le_div_iff₀ (by norm_num)] at hle
    exact sub_nonneg.2 hle
  rw [Time.ns64, Time.setNs, Nat.mod_eq_of_lt hlt, max_eq_right hrest]
  exact add_sub_cancel ..

/-- R488: 200 cycles of the exposure clock at the nominal rate. -/
theorem tickNs_nominal {t : Time} (h : t.rate = 0) : t.tickNs 200 = 250 := by
  rw [Time.tickNs, h]
  norm_num

/-- R27: a frame tick of the running device. -/
theorem exec_frameTick_live {s : State} (hl : Live .frameTick s) :
    exec .frameTick s = .next (withDev s s.dev.frameTick) := by
  rw [exec_frameTick, execFrameTick, gateDev, if_pos rfl, if_pos hl.2, withDev]

end Advance

/-- Settles O21: the choice is `Time.chosen`, read off its two branches; an instant is the sum of its seconds and its rest. -/
theorem timeGoesOnAndSteers : Obligations.TimeGoesOnAndSteers := by
  refine ⟨fun d => ?_, fun s hl => exec_frameTick_live hl, fun t n =>
    ⟨rfl, fun h0 h64 => ns64_setNs t h0 h64, rfl, rfl, rfl, tickNs_nominal⟩⟩
  obtain ⟨b, n, htime⟩ := chooseSteer_time d
  rw [htime]
  exact ⟨rfl, rfl, rfl, rfl, chooseSteer_mode d, chosen_selected d.time, fun k => canSteer_of_chosen d.time⟩

end Sys2Proof.Proofs
end

section
/-! PROOFS. The block's step, and the device right after a Full reset (R454, R493, R495, R500): O1, O4. -/

namespace Sys2Proof.Proofs

open Sys2Proof.Machine Sys2Proof.Safety Sys2Proof.Laws

/-- Settles O1: the step is a match on the queue. -/
theorem stepTakesTheFront : Obligations.StepTakesTheFront :=
  ⟨fun c rest s h => by simp only [step, h, State.rest], fun s h => by rw [step, h]⟩

theorem reset_engines : ∀ e ∈ State.reset.dev.eng, e.exposing = false ∧ e.len = false ∧ e.lgate = false :=
  fun _ he => (List.eq_of_mem_replicate (n := 32) (a := Engine.reset) he) ▸ ⟨rfl, rfl, rfl⟩

theorem reset_mailboxes : ∀ b ∈ State.reset.dev.host.mbx, b.st = .free :=
  fun _ hb => (List.eq_of_mem_replicate (n := 17) (a := Mailbox.reset) hb) ▸ rfl

/-- Settles O4: the fields of `Dev.reset` are read off, bank by bank. -/
theorem resetState : Obligations.ResetState :=
  ⟨⟨wf_nil, rfl, rfl⟩, rfl, rfl, rfl, rfl, rfl, rfl, rfl, rfl, rfl, reset_engines, rfl, reset_mailboxes, rfl⟩

end Sys2Proof.Proofs
end
section
/-! PROOFS. The bytes of a gang frame (R428, R444), the best of the masters heard (R433), and what the sends of a gang change
(R445). -/

namespace Sys2Proof.Proofs

open Sys2Proof.Machine

section Wire

@[simp] theorem length_le (k n : Nat) : (le k n).length = k := by
  induction k generalizing n with
  | zero => rfl
  | succ k ih => rw [le, List.length_cons, ih]

/-- R11: a field of k bytes reads back as the number modulo 256^k. -/
theorem unle_le (k n : Nat) : unle (le k n) = n % 256 ^ k := by
  induction k generalizing n with
  | zero => rw [pow_zero, Nat.mod_one]; rfl
  | succ k ih =>
    rw [le, unle, ih, BitVec.toNat_ofNat, pow_succ' 256]
    exact Nat.mod_mul.symm

@[simp] theorem length_wire (n v : Nat) : (wire n v).length = n := by
  rw [wire, List.length_reverse, length_le]

theorem unle_reverse_wire (n v : Nat) : unle (wire n v).reverse = v % 256 ^ n := by
  rw [wire, List.reverse_reverse, unle_le]

variable {a b r : List Byte}

/-- R428: a frame without a tag, by its addresses of 6 bytes and its type. -/
theorem ethParts_untagged (ha : a.length = 6) (hb : b.length = 6) {t : Nat} (ht : t < 65536) (h : t ≠ 0x8100) :
    ethParts (a ++ b ++ wire 2 t ++ r) = (unle a.reverse, t, r) := by
  simp [ethParts, List.drop_append, List.drop_eq_nil_of_le, ha, hb, unle_reverse_wire, Nat.mod_eq_of_lt ht, h]

/-- R428: a frame with one 802.1Q tag. -/
theorem ethParts_tagged (ha : a.length = 6) (hb : b.length = 6) {v t : Nat} (ht : t < 65536) :
    ethParts (a ++ b ++ (wire 2 0x8100 ++ wire 2 v) ++ wire 2 t ++ r) = (unle a.reverse, t, r) := by
  simp [ethParts, List.drop_append, List.drop_eq_nil_of_le, ha, hb, unle_reverse_wire, Nat.mod_eq_of_lt ht]

/-- R444: what a gang frame carries, with its port's tag or without one. -/
theorem gangPayload_gangHead (e : EthPort) (bs : List Byte) : gangPayload (e.gangHead ++ bs) = some bs := by
  have hparts : ethParts (e.gangHead ++ bs) = (gangDest, gangType, bs) := by
    have hdest : unle (wire 6 gangDest).reverse = gangDest := unle_reverse_wire ..
    rw [EthPort.gangHead]
    cases e.vlan with
    | none =>
      rw [List.append_nil, ethParts_untagged (length_wire ..) (length_wire ..) (by decide) (by decide), hdest]
    | some v => rw [ethParts_tagged (length_wire ..) (length_wire ..) (by decide), hdest]
  rw [gangPayload, hparts]
  exact if_pos ⟨rfl, rfl⟩

end Wire

section Masters

theorem lexLe_refl (as : List Nat) : lexLe as as = true := by
  induction as with
  | nil => rfl
  | cons a as ih => simp [lexLe, ih]

theorem lexLe_total (as bs : List Nat) : lexLe as bs = true ∨ lexLe bs as = true := by
  induction as generalizing bs with
  | nil => exact .inl rfl
  | cons a as ih =>
    cases bs with
    | nil => exact .inl rfl
    | cons b bs =>
      rcases Nat.lt_trichotomy a b with h | rfl | h
      · exact .inl (by simp [lexLe, h])
      · simpa [lexLe] using ih bs
      · exact .inr (by simp [lexLe, h])

/-- The order of R433 is transitive on lists of one length. -/
theorem lexLe_trans {as bs cs : List Nat} (hab : as.length = bs.length) (hbc : bs.length = cs.length)
    (h : lexLe as bs = true) (h' : lexLe bs cs = true) : lexLe as cs = true := by
  induction as generalizing bs cs with
  | nil => rfl
  | cons a as ih =>
    obtain ⟨b, bs, rfl⟩ := List.exists_cons_of_length_eq_add_one hab.symm
    obtain ⟨c, cs, rfl⟩ := List.exists_cons_of_length_eq_add_one hbc.symm
    simp only [List.length_cons, Nat.add_right_cancel_iff] at hab hbc
    simp only [lexLe, Bool.or_eq_true, Bool.and_eq_true, decide_eq_true_eq] at h h' ⊢
    rcases h with h | ⟨rfl, h⟩
    · exact .inl (h'.elim h.trans fun e => e.1 ▸ h)
    · exact h'.imp_right fun e => ⟨e.1, ih hab hbc h e.2⟩

theorem rankLe_trans {a b c : AnnounceMsg} (h : lexLe (AnnounceMsg.rank a) (AnnounceMsg.rank b) = true)
    (h' : lexLe (AnnounceMsg.rank b) (AnnounceMsg.rank c) = true) :
    lexLe (AnnounceMsg.rank a) (AnnounceMsg.rank c) = true :=
  lexLe_trans (bs := AnnounceMsg.rank b) rfl rfl h h'

/-- The better of a master and the best one so far. -/
def better (b : Option (AnnounceMsg × Nat)) (a : AnnounceMsg × Nat) : Option (AnnounceMsg × Nat) :=
  match b with
  | some x => if lexLe (AnnounceMsg.rank x.1) (AnnounceMsg.rank a.1) then b else some a
  | none => some a

/-- The masters whose latest Announce stands within the announce receipt timeout (R434). -/
def heardMasters (now : Nat) (c : Domain) : List (AnnounceMsg × Nat) :=
  c.masters.filter fun a => now < a.2 + 3 * c.announceTicks

theorem bestMaster_gm (now : Nat) (c : Domain) :
    (c.bestMaster now).gm = ((heardMasters now c).foldl better none).map (·.1) := rfl

theorem mem_heardMasters {now : Nat} {c : Domain} {a : AnnounceMsg × Nat} :
    a ∈ heardMasters now c ↔ a ∈ c.masters ∧ now < a.2 + 3 * c.announceTicks := by
  rw [heardMasters, List.mem_filter, decide_eq_true_eq]

/-- R433: of the masters of a list the one kept stands before every other. -/
theorem foldl_better (l : List (AnnounceMsg × Nat)) (x : AnnounceMsg × Nat) :
    ∃ g, l.foldl better (some x) = some g ∧ g ∈ x :: l ∧
      ∀ a ∈ x :: l, lexLe (AnnounceMsg.rank g.1) (AnnounceMsg.rank a.1) = true := by
  induction l generalizing x with
  | nil => exact ⟨x, rfl, List.mem_singleton_self x, fun a ha => List.mem_singleton.1 ha ▸ lexLe_refl _⟩
  | cons y l ih =>
    by_cases h : lexLe (AnnounceMsg.rank x.1) (AnnounceMsg.rank y.1) = true
    · obtain ⟨g, hg, hmem, hle⟩ := ih x
      refine ⟨g, ?_, ?_, ?_⟩
      · rw [List.foldl_cons, better, if_pos h, hg]
      · exact List.mem_cons.2 ((List.mem_cons.1 hmem).imp_right (List.mem_cons_of_mem y))
      · intro a ha
        rcases List.mem_cons.1 ha with rfl | ha
        · exact hle _ List.mem_cons_self
        rcases List.mem_cons.1 ha with rfl | ha
        · exact rankLe_trans (hle x List.mem_cons_self) h
        · exact hle a (List.mem_cons_of_mem x ha)
    · have hyx := (lexLe_total _ _).resolve_left h
      obtain ⟨g, hg, hmem, hle⟩ := ih y
      refine ⟨g, ?_, List.mem_cons_of_mem x hmem, ?_⟩
      · rw [List.foldl_cons, better, if_neg h, hg]
      · intro a ha
        rcases List.mem_cons.1 ha with rfl | ha
        · exact rankLe_trans (hle y List.mem_cons_self) hyx
        · exact hle a ha

theorem bestMaster_some {now : Nat} {c : Domain} {g : AnnounceMsg} (h : (c.bestMaster now).gm = some g) :
    ∃ t, (g, t) ∈ c.masters ∧ now < t + 3 * c.announceTicks ∧
      ∀ a ∈ c.masters, now < a.2 + 3 * c.announceTicks → lexLe (AnnounceMsg.rank g) (AnnounceMsg.rank a.1) = true := by
  have hiff := @mem_heardMasters now c
  rw [bestMaster_gm] at h
  cases hl : heardMasters now c with
  | nil => rw [hl] at h; cases h
  | cons x l =>
    rw [hl] at h hiff
    obtain ⟨p, hp, hmem, hle⟩ := foldl_better l x
    rw [List.foldl_cons, better, hp] at h
    obtain rfl : p.1 = g := Option.some.inj h
    exact ⟨p.2, (hiff.1 hmem).1, (hiff.1 hmem).2, fun a ha hn => hle a (hiff.2 ⟨ha, hn⟩)⟩

theorem bestMaster_none {now : Nat} {c : Domain} (h : (c.bestMaster now).gm = none) :
    ∀ a ∈ c.masters, a.2 + 3 * c.announceTicks ≤ now := by
  rw [bestMaster_gm] at h
  cases hl : heardMasters now c with
  | nil => exact fun a ha => not_lt.1 fun hn => List.not_mem_nil (hl ▸ mem_heardMasters.2 ⟨ha, hn⟩)
  | cons x l =>
    obtain ⟨p, hp, -⟩ := foldl_better l x
    rw [hl, List.foldl_cons, better, hp] at h
    cases h

end Masters

section Gang

variable {d t : Dev}

/-- A device in which frames have left and n gang frames more have been numbered; nothing else differs. -/
def Sent (n : Nat) (d t : Dev) : Prop :=
  ∃ o g, t = { d with time := { d.time with out := o, gseq := g } } ∧ g % 2 ^ 32 = (d.time.gseq + n) % 2 ^ 32

theorem Sent.refl : Sent 0 d d := ⟨d.time.out, d.time.gseq, rfl, rfl⟩

theorem Sent.sendFrame {n : Nat} (h : Sent n d t) (p : Nat) (bs : List Byte) : Sent n d (t.sendFrame p bs) := by
  obtain ⟨o, g, rfl, hg⟩ := h
  rw [Dev.sendFrame]
  split
  · exact ⟨(p, bs) :: o, g, rfl, hg⟩
  · exact ⟨o, g, rfl, hg⟩

theorem Sent.foldl_sendFrame {n : Nat} (f : Nat → List Byte) (ps : List Nat) (h : Sent n d t) :
    Sent n d (ps.foldl (fun e p => e.sendFrame p (f p)) t) := by
  induction ps generalizing t with
  | nil => exact h
  | cons p ps ih => exact ih (h.sendFrame p (f p))

theorem Sent.sendGang {n : Nat} (h : Sent n d t) (k c : Nat) (body : Nat → List Byte) :
    Sent (n + 1) d (t.sendGang k c body) := by
  obtain ⟨o, g, ht, hg⟩ := h.foldl_sendFrame (fun p => (nth t.time.eth p).gangHead ++ t.gangHeader k c ++ body p) t.time.gangPortList
  refine ⟨o, (g + 1) % 2 ^ 32, ?_, by omega⟩
  rw [Dev.sendGang, ht]
  rfl

/-- R445: one gang frame for each of the items. -/
theorem Sent.foldl_sendGang {n : Nat} {α : Type} (k : Nat) (c : α → Nat) (body : α → Nat → List Byte) (is : List α)
    (h : Sent n d t) : Sent (n + is.length) d (is.foldl (fun e i => e.sendGang k (c i) (body i)) t) := by
  induction is generalizing n t with
  | nil => exact h
  | cons i is ih => exact Nat.succ_add_eq_add_succ n is.length ▸ ih (h.sendGang k (c i) (body i))

end Gang

end Sys2Proof.Proofs
end

section
/-! PROOFS. What PTP messages, gang frames and other traffic of an Ethernet port do (R428, R431, R433 to R448): O20. -/

namespace Sys2Proof.Proofs

open Sys2Proof.Machine Sys2Proof.Safety Sys2Proof.Laws

section Ptp

variable {d : Dev} {k : Nat}

section Sync

variable {y : SyncMsg} (hslave : (d.dom k).slave = true) (hup : (nth d.time.eth (d.dom k).cfg.port).up = true)
include hslave hup

theorem ptpSync_oneStep (hk : y.kind = .oneStep) (hf : (d.dom k).follows y = true) : d.ptpSync k y =
    (let e := nth d.time.eth (d.dom k).cfg.port
     (((d.countRx (d.dom k).cfg.port 0).onDom k fun c =>
        { c with t1 := y.t1, t2 := stampOf y.t2 e.rxCorr, t3 := stampOf y.t3 e.txCorr, await := false, asked := true }).sendDelayReq
          k).newOffset k (stampOf y.t2 e.rxCorr - y.t1 - (d.dom k).mpd)) := by
  simp only [Dev.ptpSync, hslave, hup, hf, hk, Bool.not_true, Bool.false_eq_true, if_false]

theorem ptpSync_twoStep (hk : y.kind = .twoStep) (hf : (d.dom k).follows y = true) : d.ptpSync k y =
    (let e := nth d.time.eth (d.dom k).cfg.port
     ((d.countRx (d.dom k).cfg.port 0).onDom k fun c =>
        { c with t2 := stampOf y.t2 e.rxCorr, t3 := stampOf y.t3 e.txCorr, await := true, asked := false }).sendDelayReq k) := by
  simp only [Dev.ptpSync, hslave, hup, hf, hk, Bool.not_true, Bool.false_eq_true, if_false]

theorem ptpSync_followUp (hk : y.kind = .followUp) (hf : (d.dom k).follows y = true) (ha : (d.dom k).await = true) :
    d.ptpSync k y = ((d.countRx (d.dom k).cfg.port 0).onDom k fun c =>
      { c with t1 := y.t1, await := false, asked := true }).newOffset k ((d.dom k).t2 - y.t1 - (d.dom k).mpd) := by
  simp only [Dev.ptpSync, hslave, hup, hf, hk, ha, Bool.not_true, Bool.false_eq_true, if_false]

/-- R433: a Sync of another master is counted alone. -/
theorem ptpSync_other (hf : (d.dom k).follows y = false) : d.ptpSync k y = d.countRx (d.dom k).cfg.port 0 := by
  simp only [Dev.ptpSync, hslave, hup, hf, Bool.not_true, Bool.not_false, Bool.false_eq_true, if_false, if_true]

end Sync

theorem onDom_congr {f g : Domain → Domain} (h : f (d.dom k) = g (d.dom k)) : d.onDom k f = d.onDom k g :=
  congrArg (fun l => d.onTime fun t => { t with doms := l }) (upd_congr h)

theorem dom_sendFrame (p : Nat) (bs : List Byte) : (d.sendFrame p bs).dom k = d.dom k := by
  rw [Dev.sendFrame]
  split <;> rfl

section Port

variable (hup : d.portUp (d.dom k).cfg.port = true)
include hup

theorem ptpDelayResp_asked {t4 : Int} (hslave : (d.dom k).slave = true) (ha : (d.dom k).asked = true) :
    d.ptpDelayResp k t4 = (d.countRx (d.dom k).cfg.port 0).onDom k (Domain.delay t4) := by
  rw [Dev.ptpDelayResp, if_neg (by simp [hup]), if_neg (by simp [hslave, ha])]

theorem ptpAnnounce_slave {y : AnnounceMsg} (hslave : (d.dom k).slave = true) : d.ptpAnnounce k y =
    (d.countRx (d.dom k).cfg.port 0).onDom k fun c =>
      { c with masters := (y, d.now) :: c.masters.filter fun a => a.1.source ≠ y.source }.bestMaster d.now := by
  rw [Dev.ptpAnnounce, if_neg (by simp [hup]), if_neg (by simp [hslave])]

variable (hmaster : (d.dom k).slave = false)
include hmaster

theorem ptpDelayReq_master {r : Nat} {t : Int} : d.ptpDelayReq k r t =
    (d.countRx (d.dom k).cfg.port 0).sendFrame (d.dom k).cfg.port (ptpBytes 9 (d.dom k).cfg.number
      (u64 r ++ stampBytes (stampOf t (nth d.time.eth (d.dom k).cfg.port).rxCorr))) := by
  rw [Dev.ptpDelayReq, if_neg (by simp [hup]), if_neg (by simp [hmaster])]

theorem ptpMasterTx_announce (hdue : d.turnOf (d.dom k).announceTicks ≠ (d.dom k).announceTurn) :
    d.ptpMasterTx k true = (d.sendFrame (d.dom k).cfg.port
      (ptpBytes 0xB (d.dom k).cfg.number (u32 128 ++ u32 248 ++ u32 128))).onDom k fun c =>
        { c with announceTurn := d.turnOf (d.dom k).announceTicks } := by
  rw [Dev.ptpMasterTx, if_neg (by simp [hmaster, hup]), if_pos rfl, if_neg hdue]
  exact onDom_congr (by rw [dom_sendFrame])

theorem ptpMasterTx_oneStep (hdue : d.turnOf (d.dom k).syncTicks ≠ (d.dom k).syncTurn)
    (h1 : (d.dom k).cfg.oneStep = 1) : d.ptpMasterTx k false = (d.sendFrame (d.dom k).cfg.port
      (ptpBytes 0 (d.dom k).cfg.number
        (stampBytes (d.stampNow (nth d.time.eth (d.dom k).cfg.port).txCorr)))).onDom k fun c =>
          { c with syncTurn := d.turnOf (d.dom k).syncTicks } := by
  rw [Dev.ptpMasterTx, if_neg (by simp [hmaster, hup]), if_neg Bool.false_ne_true, if_neg hdue]
  simp only [h1, if_true]
  exact onDom_congr (by rw [dom_sendFrame])

end Port

end Ptp

section Traffic

variable {d : Dev} {p : Nat}

theorem arpRequest_own {i : Nat} (hup : (nth d.time.eth p).up = true) (hi : (nth d.time.eth p).ipv4 = some i) :
    d.arpRequest p i = ((d.countRx p 1).onEth p fun e => { e with arp := e.arp + 1 }).sendFrame p
      (u64 (nth d.time.eth p).mac ++ u32 i) := by
  rw [Dev.arpRequest, if_neg (by simp [hup]), if_pos hi]

/-- R445: when an interval of 20 µs is over its newest marks leave, 91 to a frame. -/
theorem marksSend_due (hturn : d.turnOf (usT 20) ≠ d.mar.marksTurn) (hg : 2 ≤ d.time.gangSize) :
    Sent (((newestMarks d.mar.gangMarks).length + 90) / 91)
      { d with mar := { d.mar with gangMarks := [], marksTurn := d.turnOf (usT 20) } } d.marksSend := by
  rw [Dev.marksSend, if_neg hturn, if_neg hg.not_gt]
  have hsent := Sent.refl.foldl_sendGang (d := d.onMar fun m => { m with gangMarks := [], marksTurn := d.turnOf (usT 20) })
    2 (fun i => (((newestMarks d.mar.gangMarks).drop (91 * i)).take 91).length)
    (fun i _ => (((newestMarks d.mar.gangMarks).drop (91 * i)).take 91).flatMap markEntry)
    (List.range (((newestMarks d.mar.gangMarks).length + 90) / 91))
  rwa [List.length_range, Nat.zero_add] at hsent

theorem helloSend_due (hg : 2 ≤ d.time.gangSize) (hturn : d.turnOf (msT 1) ≠ d.time.helloTurn) : d.helloSend =
    (d.sendGang 1 0 fun p => stampBytes (d.stampNow (nth d.time.eth p).txCorr) ++ u8 d.timeStatus ++
      List.replicate 3 0 ++ d.time.peers.flatMap Peer.apparentField).onTime fun t =>
        { t with helloTurn := d.turnOf (msT 1) } := by
  rw [Dev.helloSend, if_neg (by simp [hturn, hg.not_gt])]

theorem gangFrame_payload {fr bs : List Byte} {f : Dev → List Byte → Dev} (h : gangPayload fr = some bs) :
    d.gangFrame p fr f = f d bs := by
  simp only [Dev.gangFrame, h]

theorem gangFrame_other {fr : List Byte} {f : Dev → List Byte → Dev} (h : gangPayload fr = none)
    (hup : d.portUp p = true) : d.gangFrame p fr f = d.countDrop p 4 := by
  simp only [Dev.gangFrame, h, hup, if_true]

section Marks

variable {bs : List Byte} (hup : d.portUp p = true) (hok : d.gangFrameOk p bs 2 = true)
  (hk : fieldAt bs 4 1 < d.time.gangSize)
include hup hok hk

/-- R446: what is looked at of a MARKS frame of the gang: whether it was heard before, and whether it may be applied. -/
theorem marksReceived_ofGang : d.marksReceived p bs =
    if (nth d.time.peers (fieldAt bs 4 1)).gseq.contains (fieldAt bs 8 4) then
      (d.countRx p 2).onPeer (fieldAt bs 4 1) fun q => { q with discarded := q.discarded + 1 }
    else if ! d.marksOk bs then
      (d.countDrop p 2).onPeer (fieldAt bs 4 1) fun q => { q.heard (fieldAt bs 8 4) with dropped := q.dropped + 1 }
    else ((d.countRx p 2).onPeer (fieldAt bs 4 1) fun q => { q.heard (fieldAt bs 8 4) with applied := q.applied + 1 }).onMar
      fun m => { m with openMarks := m.openMarks ++ (List.range (fieldAt bs 6 2)).flatMap (d.peerMarks bs) } := by
  rw [Dev.marksReceived, if_neg (by simp [hup]), if_neg (by simp [hok, hk])]

theorem marksReceived_repeated (h : fieldAt bs 8 4 ∈ (nth d.time.peers (fieldAt bs 4 1)).gseq) : d.marksReceived p bs =
    (d.countRx p 2).onPeer (fieldAt bs 4 1) fun q => { q with discarded := q.discarded + 1 } := by
  rw [marksReceived_ofGang hup hok hk, if_pos (List.contains_iff_mem.2 h)]

variable (h : fieldAt bs 8 4 ∉ (nth d.time.peers (fieldAt bs 4 1)).gseq)
include h

theorem marksReceived_applied (hm : d.marksOk bs = true) : d.marksReceived p bs =
    ((d.countRx p 2).onPeer (fieldAt bs 4 1) fun q => { q.heard (fieldAt bs 8 4) with applied := q.applied + 1 }).onMar
      fun m => { m with openMarks := m.openMarks ++ (List.range (fieldAt bs 6 2)).flatMap (d.peerMarks bs) } := by
  rw [marksReceived_ofGang hup hok hk, if_neg (mt List.contains_iff_mem.1 h), if_neg (by simp [hm])]

theorem marksReceived_dropped (hm : d.marksOk bs = false) : d.marksReceived p bs =
    (d.countDrop p 2).onPeer (fieldAt bs 4 1) fun q => { q.heard (fieldAt bs 8 4) with dropped := q.dropped + 1 } := by
  rw [marksReceived_ofGang hup hok hk, if_neg (mt List.contains_iff_mem.1 h), if_pos (by simp [hm])]

end Marks

section Hello

variable {bs : List Byte} {r : Int} (hup : d.portUp p = true) (hok : d.gangFrameOk p bs 1 = true) (hlen : bs.length = 64)
include hup hok hlen

/-- R448: a HELLO of another gang size. -/
theorem helloReceived_mismatch (hs : fieldAt bs 5 1 ≠ d.time.gangSize)
    (hm : (nth d.time.peers (fieldAt bs 4 1)).mismatch = false) : d.helloReceived p bs r =
    ((d.countDrop p 2).onPeer (fieldAt bs 4 1) fun q => { q with present := false, mismatch := true }).healthRec 0xB 1 0x09
      (fieldAt bs 4 1) (fieldAt bs 4 1) 0 0 0 := by
  rw [Dev.helloReceived, if_neg (by simp [hup]), if_neg (by simp [hok, hlen]), if_pos hs, if_neg (by simp [hm])]

/-- R447: the first HELLO of a peer that has not heard this device. -/
theorem helloReceived_present (hk : fieldAt bs 4 1 < d.time.gangSize) (hs : fieldAt bs 5 1 = d.time.gangSize)
    (hn : fieldAt bs 8 4 ∉ (nth d.time.peers (fieldAt bs 4 1)).gseq)
    (hback : signed 32 (fieldAt bs (48 + 4 * d.time.deviceNo) 4) = -2 ^ 31) : d.helloReceived p bs r =
    (d.countRx p 2).onPeer (fieldAt bs 4 1) fun q =>
      { q.heard (fieldAt bs 8 4) with
        present := true, known := true, mismatch := false, helloTick := d.now
        apparent := some (clampI (-2 ^ 31 + 1) (2 ^ 31 - 1) (stampOf r (nth d.time.eth p).rxCorr / 256 -
          ((fieldAt bs 32 8 : Int) * 1000000000 + fieldAt bs 40 4))) } := by
  rw [Dev.helloReceived, if_neg (by simp [hup]), if_neg (by simp [hok, hlen]), if_neg (not_not.2 hs), if_neg hk.not_ge,
    if_neg (mt List.contains_iff_mem.1 hn)]
  exact if_pos hback

end Hello

theorem peerLost_silent {k : Nat} (hp : (nth d.time.peers k).present = true)
    (ht : (nth d.time.peers k).helloTick + msT 10 ≤ d.now) :
    d.peerLost k = (d.onPeer k fun q => { q with present := false }).spoil 0x09 k 0x004 false 0 := by
  rw [Dev.peerLost, if_neg (by simp [hp, ht])]

end Traffic

/-- Settles O20: each event is its device step; the best master is the least of a fold, a gang frame read back field by field. -/
theorem ethernetEventsComplete : Obligations.EthernetEventsComplete := by
  refine ⟨⟨?oneStep, ?twoStep, ?other, ?followUp, ?delayResp, ?announce, fun now c g => bestMaster_some,
      fun now c => bestMaster_none, ?delayReq, ?sendAnnounce, ?sendSync, ?lost, ?relock, ?keep⟩,
    ?arp, ?otherFrame, ?marksSend, ?helloSend, fun e bs _ _ => gangPayload_gangHead e bs, ?applied, ?repeated, ?dropped,
    ?foreign, ?mismatch, ?present, ?peerLost⟩
  case oneStep => exact fun k y s hl hk hs hf hup => exec_ptpSync.trans (onDev_eq hl (ptpSync_oneStep hs hup hk hf))
  case twoStep => exact fun k y s hl hk hs hf hup => exec_ptpSync.trans (onDev_eq hl (ptpSync_twoStep hs hup hk hf))
  case other => exact fun k y s hl hs hf hup => exec_ptpSync.trans (onDev_eq hl (ptpSync_other hs hup hf))
  case followUp => exact fun k y s hl hk hs hf hup ha =>
    exec_ptpSync.trans (onDev_eq hl (ptpSync_followUp hs hup hk hf ha))
  case delayResp => exact fun k t4 s hl hs ha hup =>
    exec_ptpDelayResp.trans (onDev_eq hl (ptpDelayResp_asked hup hs ha))
  case announce => exact fun k y s hl hs hup => exec_ptpAnnounce.trans (onDev_eq hl (ptpAnnounce_slave hup hs))
  case delayReq => exact fun k r t s hl hs hup => exec_ptpDelayReq.trans (onDev_eq hl (ptpDelayReq_master hup hs))
  case sendAnnounce => exact fun k s hl hs hup hdue =>
    exec_ptpMasterTx.trans (onDev_eq hl (ptpMasterTx_announce hup hs hdue))
  case sendSync => exact fun k s hl hs hup hdue h1 =>
    exec_ptpMasterTx.trans (onDev_eq hl (ptpMasterTx_oneStep hup hs hdue h1))
  case lost => exact fun k s hl h => exec_domainLost.trans (onDev_eq hl (if_pos h))
  case relock => exact fun s hl => exec_preferredRelockHold.trans (onDev_live hl)
  case keep => exact fun s hl hlock hcox => exec_keepSecondsWrite.trans (onDev_eq hl (if_pos (by simp [hlock, hcox])))
  case arp => exact fun p i s hl hup hi => exec_arpRequest.trans (onDev_eq hl (arpRequest_own hup hi))
  case otherFrame => exact fun p k s hl hup => exec_otherFrame.trans (onDev_eq hl (if_pos hup))
  case marksSend =>
    intro s hl hturn hg
    obtain ⟨o, g, ht, hgseq⟩ := marksSend_due hturn hg
    exact ⟨_, exec_marksSend.trans (onDev_eq hl ht), rfl, rfl, hgseq⟩
  case helloSend => exact fun s hl hg hturn => exec_helloSend.trans (onDev_eq hl (helloSend_due hg hturn))
  case applied => exact fun p f bs s hl hf hup hok hk hn hm =>
    exec_marksReceived.trans (onDev_eq hl ((gangFrame_payload hf).trans (marksReceived_applied hup hok hk hn hm)))
  case repeated => exact fun p f bs s hl hf hup hok hk hn =>
    exec_marksReceived.trans (onDev_eq hl ((gangFrame_payload hf).trans (marksReceived_repeated hup hok hk hn)))
  case dropped => exact fun p f bs s hl hf hup hok hk hn hm =>
    exec_marksReceived.trans (onDev_eq hl ((gangFrame_payload hf).trans (marksReceived_dropped hup hok hk hn hm)))
  case foreign => exact fun p f s hl hf hup => exec_marksReceived.trans (onDev_eq hl (gangFrame_other hf hup))
  case mismatch => exact fun p f bs r s hl hf hup hok hlen hs hm =>
    exec_helloReceived.trans (onDev_eq hl ((gangFrame_payload hf).trans (helloReceived_mismatch hup hok hlen hs hm)))
  case present => exact fun p f bs r s hl hf hup hok hlen hk hs hn hback =>
    exec_helloReceived.trans (onDev_eq hl ((gangFrame_payload hf).trans (helloReceived_present hup hok hlen hk hs hn hback)))
  case peerLost => exact fun k s hl hp ht => exec_peerLost.trans (onDev_eq hl (peerLost_silent hp ht))

end Sys2Proof.Proofs
end
section
/-! PROOFS. Where the statements about resets, the ladder's steps and Ethernet ports differ from the model: O48, O49 and O50. -/

namespace Sys2Proof.Proofs

open Sys2Proof.Machine Sys2Proof.Safety Sys2Proof.Laws

/-- A device whose Keep record says that S0 passed at the last start. -/
def s0Passed : Dev :=
  { Dev.reset with boot := { Dev.reset.boot with keep := { KeepRec.reset with steps := List.replicate 15 (stepEntry 0 1 false 0) } } }

/-- Refutes O49: the ladder that a reset starts stands at S0, whose entry in the Keep record has no outcome yet (R504); the
statement keeps that record as it was. -/
theorem not_resetEventsComplete : ¬ Obligations.ResetEventsComplete := by
  rintro ⟨-, hreset⟩
  obtain ⟨-, -, -, -, -, -, -, -, -, -, -, -, -, hkeep, -⟩ := hreset s0Passed .soft false rfl
  have hbegun : (s0Passed.afterReset .soft false).boot.keep = s0Passed.boot.keep.begin 0 := rfl
  exact absurd (hbegun.symm.trans hkeep) (by decide)

/-- A device at S7 for more than 10 s, whose DRAM PLL is locked. -/
def firstBinLate : State :=
  { State.reset with
    dev := { Dev.reset with
      boot := { Dev.reset.boot with next := 7 }
      clk := { Dev.reset.clk with locks := Dev.reset.clk.locks.set 4 true }
      time := { Dev.reset.time with tick := sT 10 + 1 } } }

/-- A report of S7 in which no rank answers and bin 0 has trained. -/
def noRankReport : StepReport := ⟨true, 0, 0⟩

/-- Refutes O50: a full training that is reported after the 10 s of its bin has failed, and the ladder stays at S7 while the next
bin trains (R500, R501); the statement ends the step. -/
theorem not_bootEventsComplete : ¬ Obligations.BootEventsComplete := by
  rintro ⟨hstep, -⟩
  have hlate : firstBinLate.dev.bootStep noRankReport = (firstBinLate.dev, []) := by
    rw [Dev.bootStep, if_neg (by decide), if_neg (by decide), if_pos (by decide)]
  have hstated := hstep noRankReport firstBinLate (by decide) (by decide) (by decide) (by decide) (by decide)
  rw [exec_bootStep, execBootStep, onMemAny_awake (by decide), hlate] at hstated
  have hhalted := congrArg (fun s => s.dev.boot.halted) (Host.Outcome.next.inj hstated)
  exact absurd hhalted (by decide)

/-- A device in Ready whose Ethernet port 1 is held in reset (R499). -/
def portHeldInReset : State :=
  { State.reset with
    dev := { Dev.reset with
      mode := { ModeCtl.reset with mode := .ready }
      boot := { Dev.reset.boot with next := 15, inReset := [(6, 1)] } } }

/-- Refutes O48: a port whose block is held in reset does not come up (R499); the statement lets it. -/
theorem not_supplyAndThermalEventsComplete : ¬ Obligations.SupplyAndThermalEventsComplete := by
  intro h
  obtain ⟨-, -, -, -, -, -, -, -, -, -, -, hup, -⟩ := h
  have hlive : Live (.ethPortChange 1 true) portHeldInReset := by decide
  have hstated := hup 1 portHeldInReset hlive (by decide)
  have hheld : portHeldInReset.dev.ethChange 1 true = portHeldInReset.dev := if_pos (by decide)
  rw [exec_ethPortChange, execEthPortChange, onDev_eq hlive hheld] at hstated
  have hports := congrArg (fun s => (nth s.dev.time.eth 1).up) (Host.Outcome.next.inj hstated)
  exact absurd hports (by decide)

end Sys2Proof.Proofs
end
section
/-! PROOFS. What the stops leave alone: the mode, the cut paths, SAFE_A and SAFE_B, the layers queued; with it the entry into
Safe (R465, R466): O56. -/

namespace Sys2Proof.Proofs

open Sys2Proof.Machine Sys2Proof.Safety Sys2Proof.Laws

/-- Mode, cut paths, cause of Safe, pins, layers queued and fuses of both are the same. -/
abbrev SameCharge (t d : Dev) : Prop :=
  t.mode = d.mode ∧ t.ump.closed = d.ump.closed ∧ t.ump.safeCause = d.ump.safeCause ∧ t.pins = d.pins ∧
    t.layers.queue = d.layers.queue ∧ t.fuses = d.fuses

theorem SameCharge.refl (d : Dev) : SameCharge d d := ⟨rfl, rfl, rfl, rfl, rfl, rfl⟩

theorem foldl_sameCharge {α : Type} {f : Dev → α → Dev} (h : ∀ d a, SameCharge (f d a) d) (l : List α) (d : Dev) :
    SameCharge (l.foldl f d) d := by
  induction l generalizing d with
  | nil => exact SameCharge.refl d
  | cons a l ih =>
    rw [List.foldl_cons]
    simpa [SameCharge, h] using ih (f d a)

section Answers

variable (d : Dev)

/-! ### Events, leave and answers -/

@[simp] theorem event_sameCharge (k c o : Nat) (v l : Int) (x : Nat) : SameCharge (d.event k c o v l x) d := by
  simp [SameCharge, Dev.event]

@[simp] theorem release_sameCharge (p : Requester → Bool) : SameCharge (d.release p) d := SameCharge.refl d

@[simp] theorem request_sameCharge (w : Requester) (p c : Nat) (q : Rat) : SameCharge (d.request w p c q).2 d := by
  simp only [Dev.request]
  split
  · split <;> exact SameCharge.refl d
  · exact SameCharge.refl d

@[simp] theorem safetyLeave_sameCharge : SameCharge d.safetyLeave d := by simp [SameCharge, Dev.safetyLeave]

@[simp] theorem finish_sameCharge (j : Job) (st de : Nat) (r : List Byte) : SameCharge (d.finish j st de r) d := by
  simp [SameCharge]

@[simp] theorem finishJobs_sameCharge (p : JobKind → Bool) (st de : Nat) (r : List Byte) :
    SameCharge (d.finishJobs p st de r) d :=
  foldl_sameCharge (fun d j => finish_sameCharge d j st de r) _ _

@[simp] theorem abortModeJobs_sameCharge : SameCharge d.abortModeJobs d := finishJobs_sameCharge ..

@[simp] theorem dropProofs_sameCharge : SameCharge d.dropProofs d := by simp [SameCharge, Dev.dropProofs]

@[simp] theorem keepFault_sameCharge (f : KeepRec → KeepRec) : SameCharge (d.keepFault f) d := SameCharge.refl d

end Answers

section Strokes

variable (d : Dev)

/-! ### Strokes -/

@[simp] theorem stat_sameCharge (k : Nat) (f : OarStat → OarStat) : SameCharge (d.stat k f) d := SameCharge.refl d

@[simp] theorem releaseStroke_sameCharge (k q : Nat) : SameCharge (d.releaseStroke k q) d := SameCharge.refl d

@[simp] theorem addRepair_sameCharge (i : PoolItem) : SameCharge (d.addRepair i) d := SameCharge.refl d

@[simp] theorem setOutcome_sameCharge (q o k : Nat) : SameCharge (d.setOutcome q o k) d := SameCharge.refl d

@[simp] theorem settleStroke_sameCharge (s : Stroke) : SameCharge (d.settleStroke s) d := by
  simp only [Dev.settleStroke]
  split
  · exact SameCharge.refl d
  · split <;> exact SameCharge.refl d

@[simp] theorem notExposed_sameCharge (s : Stroke) : SameCharge (d.notExposed s) d := by
  simp only [Dev.notExposed]
  split <;> simp [SameCharge, Dev.layerStat]

@[simp] theorem returnStroke_sameCharge (k : Nat) (bind : Bool) (b : BufStroke) : SameCharge (d.returnStroke k bind b) d := by
  simp only [Dev.returnStroke]
  split
  · simp [SameCharge]
  · exact SameCharge.refl d

@[simp] theorem withdrawPending_sameCharge (k : Nat) : SameCharge (d.withdrawPending k) d := by
  have hfold := foldl_sameCharge (f := fun d (p : PendingItem) => (d.releaseStroke k p.item.stroke.seq).onMar (·.putBack p.item))
    fun d _ => SameCharge.refl d
  simp [SameCharge, Dev.withdrawPending, hfold]

@[simp] theorem withdraw_sameCharge (k : Nat) (bind : Bool) : SameCharge (d.withdraw k bind) d := by
  have hreturn := foldl_sameCharge fun d b => returnStroke_sameCharge d k bind b
  have hnot := foldl_sameCharge (f := fun d (i : PoolItem) => d.notExposed i.stroke) fun d i => notExposed_sameCharge d i.stroke
  simp only [Dev.withdraw]
  split <;> simp [SameCharge, hreturn, hnot]

@[simp] theorem markWake_sameCharge (k : Nat) (x y : Int) (ps : Rat) : SameCharge (d.markWake k x y ps) d := by
  simp only [Dev.markWake]
  split <;> exact SameCharge.refl d

@[simp] theorem deposit_sameCharge (a b x y : Int) (e : Rat) : SameCharge (d.deposit a b x y e) d := by
  simp only [Dev.deposit]
  split
  · exact SameCharge.refl d
  · refine foldl_sameCharge (fun d c => ?_) _ _
    exact SameCharge.refl d

@[simp] theorem depositStep_sameCharge (k : Nat) (s : Stroke) (f : Rat) : SameCharge (d.depositStep k s f) d := by
  simp only [Dev.depositStep]
  split <;> simp [SameCharge]

@[simp] theorem stage_sameCharge (c : RecClass) (bs : List Byte) : SameCharge (d.stage c bs) d := by
  simp only [Dev.stage, Dev.panicCheck]
  split_ifs <;> simp [SameCharge]

@[simp] theorem emitDrops_sameCharge : SameCharge d.emitDrops d := by
  refine foldl_sameCharge (fun d a => ?_) _ _
  dsimp only
  split <;> simp [SameCharge]

@[simp] theorem tagContour_sameCharge (c : RecClass) (k : Nat) (bs : List Byte) : SameCharge (d.tagContour c k bs) d := by
  simp only [Dev.tagContour]
  split <;> exact SameCharge.refl d

@[simp] theorem dropRec_sameCharge (c : RecClass) (k n : Nat) : SameCharge (d.dropRec c k n) d := SameCharge.refl d

@[simp] theorem intake_sameCharge (c : RecClass) (k : Nat) (bs : List Byte) : SameCharge (d.intake c k bs) d := by
  have hdrops : SameCharge (if c = .event then d.emitDrops else d) d := by
    split <;> simp [SameCharge]
  simp only [Dev.intake]
  split
  · exact SameCharge.refl d
  · split <;> simp [SameCharge, hdrops]

@[simp] theorem eventRec_sameCharge (k q n : Nat) (bs : List Byte) (t : Nat × Nat) : SameCharge (d.eventRec k q n bs t) d := by
  simp only [Dev.eventRec]
  split <;> simp [SameCharge]

@[simp] theorem intRecord_sameCharge (k c o : Nat) (s : Stroke) (f ps : Rat) : SameCharge (d.intRecord k c o s f ps) d :=
  SameCharge.refl d

@[simp] theorem layerStat_sameCharge (f : LayerStat → LayerStat) : SameCharge (d.layerStat f) d := SameCharge.refl d

@[simp] theorem onLayer_queue (f : LayerRec → LayerRec) : (d.onLayer f).layers.queue = d.layers.queue := rfl

@[simp] theorem interruptStroke_sameCharge (k c : Nat) (b : BufStroke) (f ps : Rat) :
    SameCharge (d.interruptStroke k c b f ps) d := by
  simp only [Dev.interruptStroke]
  split_ifs <;> simp [SameCharge]

@[simp] theorem forcedLow_sameCharge (k : Nat) (s : Stroke) (slot : Nat) : SameCharge (d.forcedLow k s slot) d := by
  simp only [Dev.forcedLow, Dev.edgeRec]
  split <;> simp [SameCharge]

@[simp] theorem crossCell_sameCharge (k : Nat) (s : Stroke) (t ps : Rat) : SameCharge (d.crossCell k s t ps) d := by
  simp only [Dev.crossCell, Dev.breachCheck]
  split <;> split_ifs <;> simp [SameCharge]

@[simp] theorem cellsTo_sameCharge (k : Nat) (s : Stroke) (f ps : Rat) : SameCharge (d.cellsTo k s f ps) d := by
  simp only [Dev.cellsTo]
  split
  · exact SameCharge.refl d
  · exact foldl_sameCharge (fun d t => crossCell_sameCharge ..) _ _

@[simp] theorem interrupt_sameCharge (k c : Nat) : SameCharge (d.interrupt k c) d := by
  simp only [Dev.interrupt]
  split
  · simp [SameCharge, Dev.draw]
  · exact SameCharge.refl d

@[simp] theorem cutStroke_sameCharge (k c : Nat) : SameCharge (d.cutStroke k c) d := by
  simp [SameCharge, Dev.cutStroke, Dev.meltOff]

end Strokes

section Axes

variable (d : Dev)

/-! ### Loops, axes and heads -/

@[simp] theorem drive_sameCharge (n : Nat) : SameCharge (d.drive n) d := by
  simp only [Dev.drive]
  split
  · split_ifs <;> exact SameCharge.refl d
  · exact SameCharge.refl d

@[simp] theorem loopsSafe_sameCharge : SameCharge d.loopsSafe d := by
  unfold Dev.loopsSafe
  refine foldl_sameCharge (fun d n => ?_) _ _
  dsimp only
  split <;> simp [SameCharge]

@[simp] theorem commandHeads_sameCharge : SameCharge d.commandHeads d := by
  have hleave := foldl_sameCharge (f := fun d (_ : Nat) => d.safetyLeave) fun d _ => safetyLeave_sameCharge d
  simp [SameCharge, Dev.commandHeads, hleave]

@[simp] theorem imageHalt_sameCharge : SameCharge d.imageHalt d := SameCharge.refl d

@[simp] theorem axisDone_sameCharge (a st : Nat) : SameCharge (d.axisDone a st) d :=
  foldl_sameCharge (fun _ _ => finish_sameCharge ..) _ _

@[simp] theorem axisRest_sameCharge (a : Nat) : SameCharge (d.axisRest a) d := by
  simp only [Dev.axisRest]
  split <;> split <;> simp [SameCharge]

@[simp] theorem axisStop_sameCharge (a st : Nat) : SameCharge (d.axisStop a st) d := by
  have hleave : SameCharge (if (d.axis a).busy && (d.axis a).st != .stopping then d.safetyLeave else d) d := by
    split <;> simp [SameCharge]
  rw [Dev.axisStop]
  dsimp only
  generalize (if (d.axis a).busy && (d.axis a).st != .stopping then d.safetyLeave else d) = e at hleave ⊢
  have hpending : SameCharge (if (d.axis a).st == .pending then e.release (isMove a) else e) d := by
    split <;> simp [SameCharge, hleave]
  generalize (if (d.axis a).st == .pending then e.release (isMove a) else e) = t at hpending ⊢
  split
  case h_1 | h_2 | h_3 | h_4 => split <;> simp [SameCharge, hpending]
  case h_5 | h_6 => simp [SameCharge, hpending]

@[simp] theorem stopAllAxes_sameCharge (p : Nat → Bool) : SameCharge (d.stopAllAxes p) d := by
  refine foldl_sameCharge (fun d a => ?_) _ _
  split <;> simp [SameCharge]

@[simp] theorem recoatSuspend_sameCharge : SameCharge d.recoatSuspend d := by simp [SameCharge, Dev.recoatSuspend]

end Axes

section Modes

variable {d : Dev}

/-! ### Modes and cut paths -/

@[simp] theorem testEnd_sameCharge (k : Nat) (ok : Bool) : SameCharge (d.testEnd k ok) d := by
  simp only [Dev.testEnd]
  split
  · exact SameCharge.refl d
  next t _ =>
    have hslots := foldl_sameCharge (f := fun (d : Dev) f => d.onSlot (3 * k + f) (LoopSlot.backTo (nth t.slots f)))
      fun d _ => SameCharge.refl d
    simp [SameCharge, hslots]

@[simp] theorem undo_sameCharge (k : JobKind) : SameCharge (d.undo k) d := by
  have htests := foldl_sameCharge (f := fun (d : Dev) k => (d.testEnd k false).onEng k fun e => { e with test := none })
    fun d k => by simp [SameCharge]
  have hdark := foldl_sameCharge (f := fun (d : Dev) k => d.onMelt k fun m => { m with dark := none }) fun d _ => SameCharge.refl d
  simp only [Dev.undo]
  split <;> simp [SameCharge, htests, hdark]

@[simp] theorem endService_sameCharge : SameCharge d.endService d := by
  simp only [Dev.endService]
  split_ifs
  · exact SameCharge.refl d
  · split <;> simp [SameCharge]
  · exact SameCharge.refl d

/-- R517: a change of mode leaves the causes of Hold, the cut paths, the pins and the layers as they are. -/
@[simp] theorem setMode_charge (m : Mode) (n : Nat) :
    (d.setMode m n).mode.mode = m ∧ (d.setMode m n).mode.holdCauses = d.mode.holdCauses ∧
      (d.setMode m n).ump.closed = d.ump.closed ∧ (d.setMode m n).ump.safeCause = d.ump.safeCause ∧
      (d.setMode m n).pins = d.pins ∧ (d.setMode m n).layers.queue = d.layers.queue ∧ (d.setMode m n).fuses = d.fuses := by
  simp only [Dev.setMode]
  split_ifs <;> simp

/-- R465: a cut path opens, and with it no other. -/
theorem openCut_charge (k c : Nat) :
    SameCharge (d.openCut k c) { d with ump := { d.ump with closed := d.ump.closed &&& ~~~ (BitVec.ofNat 32 (2 ^ k)) } } := by
  simp only [Dev.openCut, Umpire.abandon]
  split <;> simp [SameCharge]

theorem openCuts_charge (l : List Nat) (c : Nat) (d : Dev) :
    SameCharge (l.foldl (fun d k => d.openCut k c) d) { d with ump := { d.ump with
      closed := l.foldl (fun m k => m &&& ~~~ (BitVec.ofNat 32 (2 ^ k))) d.ump.closed } } := by
  induction l generalizing d with
  | nil => exact SameCharge.refl d
  | cons k l ih =>
    obtain ⟨hmode, hclosed, hcause, hpins, hqueue, hfuses⟩ := openCut_charge (d := d) k c
    simpa [SameCharge, hmode, hclosed, hcause, hpins, hqueue, hfuses] using ih (d.openCut k c)

theorem getLsbD_clearAll (l : List Nat) (m : BitVec 32) {i : Nat} (hi : i < 32) :
    (l.foldl (fun m k => m &&& ~~~ (BitVec.ofNat 32 (2 ^ k))) m).getLsbD i = (m.getLsbD i && decide (i ∉ l)) := by
  induction l generalizing m with
  | nil => simp
  | cons k l ih =>
    rw [List.foldl_cons, ih, getLsbD_and_not_ofNat hi, Nat.testBit_two_pow, Bool.and_assoc]
    by_cases hik : i = k
    · simp [hik]
    · simp [hik, Ne.symm hik]

theorem openAll_charge (c : Nat) : SameCharge (d.openAll c) { d with ump := { d.ump with closed := 0 } } := by
  have hall : oars32.foldl (fun (m : BitVec 32) k => m &&& ~~~ (BitVec.ofNat 32 (2 ^ k))) d.ump.closed = 0 :=
    BitVec.eq_of_getLsbD_eq fun i hi => by
      rw [getLsbD_clearAll _ _ hi]
      simp [oars32, hi]
  have hopen := openCuts_charge oars32 c d
  rwa [hall] at hopen

/-- R465: entry into Safe from a mode in which the device runs. -/
theorem enterSafe_charge (h : d.mode.mode = .start ∨ d.mode.mode = .ready ∨ d.mode.mode = .build ∨ d.mode.mode = .hold) (c k : Nat) :
    (d.enterSafe c k).mode.mode = .safe ∧ (d.enterSafe c k).ump.closed = 0 ∧ (d.enterSafe c k).ump.safeCause = c ∧
      (d.enterSafe c k).pins = d.pins.safeStop ∧ (d.enterSafe c k).layers.queue = d.layers.queue ∧
      (d.enterSafe c k).mode.holdCauses = [] ∧ (d.enterSafe c k).fuses = d.fuses := by
  have hwithdraw := foldl_sameCharge (f := fun d k => d.withdraw k true) fun d k => withdraw_sameCharge d k true
  obtain ⟨hmode, hclosed, -, hpins, hqueue, hfuses⟩ := openAll_charge (d := d) 3
  rcases h with h | h | h | h <;>
    simp [Dev.enterSafe, h, hwithdraw, hmode, hclosed, hpins, hqueue, hfuses]

end Modes

/-- Settles O56. -/
theorem safeEntryOpensEveryCutPath : Obligations.SafeEntryOpensEveryCutPath := by
  refine ⟨fun d c k h => ?_, fun d c k h => ?_⟩
  · obtain ⟨hmode, hclosed, hcause, hpins, hqueue, hholds, hfuses⟩ := enterSafe_charge h c k
    have htoggling : (d.enterSafe c k).pins.safeToggling = false := congrArg Pins.safeToggling hpins
    exact ⟨hmode, hclosed, htoggling, hcause, hqueue, hholds, hfuses⟩
  · have hrecorded : d.enterSafe c k = d.event 3 c k 0 0 0 := by simp only [Dev.enterSafe, h]
    simp [hrecorded]

end Sys2Proof.Proofs
end
section
/-! PROOFS. How a step of the ladder ends (R501 to R504): O51. -/

namespace Sys2Proof.Proofs

open Sys2Proof.Machine Sys2Proof.Safety Sys2Proof.Laws

section Ladder

variable {d : Dev}

/-! ### What the starts of S10 and S12 leave of the ladder -/

@[simp] theorem trainStart_boot (n : Nat) : (d.trainStart n).boot = d.boot := by
  have hanswers := foldl_leaves (p := Dev.boot)
    (f := fun d (r : SvcReq) => (d.onPort n fun p => p.count 16 1).svcDone n r.tag 0x30 []) fun d r =>
      foldl_leaves (p := Dev.boot) (fun d j => finish_boot ..) _ _
  have hsilent : ∀ e : Dev, (e.headSilent n).boot = e.boot := fun e => by
    simp only [Dev.headSilent]
    split <;> simp
  simp only [Dev.trainStart, Dev.trainAttempt]
  split
  · rfl
  · split <;> simp [hanswers, hsilent]

@[simp] theorem testBegin_boot (k : Nat) : (d.testBegin k).boot = d.boot := by
  have hslots := foldl_leaves (p := Dev.boot) (f := fun d f =>
    if (d.slot (3 * k + f)).desc.isSome then d.onSlot (3 * k + f) LoopSlot.toAuto else d) fun d f => by split <;> rfl
  simp [Dev.testBegin, hslots]

@[simp] theorem testsBegin_boot : d.testsBegin.boot = d.boot := foldl_leaves (p := Dev.boot) (fun _ k => testBegin_boot k) _ _

/-- Where the ladder stands, whether it has halted, and what the Keep record says of its steps. -/
def ladder (d : Dev) : Nat × Bool × List Nat := (d.boot.next, d.boot.halted, d.boot.keep.steps)

@[simp] theorem portsBegin_ladder : ladder d.portsBegin = ladder d := by
  refine foldl_leaves (p := ladder) (fun d n => ?_) _ _
  split_ifs <;> simp [ladder, KeepRec.portOk, Dev.onBoot]

/-! ### The Keep record's entries -/

theorem stepEntry_fails {n o a : Nat} {s : Bool} (hn : n ≤ 3) : stepEntry n o s a % 4 = n := by
  rw [stepEntry]
  omega

theorem nth_set_same {l : List Nat} {i : Nat} (v : Nat) (hi : i < l.length) : nth (l.set i v) i = v := by
  simp [nth, hi]

theorem nth_set_ne {l : List Nat} {i j : Nat} (v : Nat) (hij : i ≠ j) : nth (l.set i v) j = nth l j := by
  simp [nth, hij]

theorem fails_of_ladder {t : Dev} (h : ladder t = ladder d) (j : Nat) : t.boot.keep.fails j = d.boot.keep.fails j := by
  simp only [ladder, Prod.mk.injEq] at h
  rw [KeepRec.fails, KeepRec.fails, h.2.2]

theorem skipStep_ladder (i : Nat) :
    (d.skipStep i).boot.halted = d.boot.halted ∧ ∀ j, i ≠ j → (d.skipStep i).boot.keep.fails j = d.boot.keep.fails j := by
  refine ⟨by simp [Dev.skipStep, Dev.onKeep, Dev.onBoot], fun j hij => ?_⟩
  simp [Dev.skipStep, Dev.onKeep, Dev.onBoot, KeepRec.fails, nth_set_ne, hij]

/-- R504: a step starts. -/
def stepStarts (i : Nat) (d : Dev) : Dev :=
  d.onBoot fun b => { b with next := i, stepTick := d.now, otherSlot := false, keep := b.keep.begin i }

theorem stepStarts_fails {i j : Nat} (hij : i ≠ j) : (stepStarts i d).boot.keep.fails j = d.boot.keep.fails j := by
  simp [stepStarts, Dev.onBoot, KeepRec.begin, KeepRec.fails, nth_set_ne, hij]

/-- What S10 and S12 start besides leaves the ladder where `stepStarts` puts it. -/
theorem stepStarts_begun (i : Nat) :
    ladder (if i = 10 then (stepStarts i d).portsBegin else if i = 12 then (stepStarts i d).testsBegin else stepStarts i d) =
      ladder (stepStarts i d) := by
  split_ifs
  · exact portsBegin_ladder
  · rw [ladder, testsBegin_boot, ladder]
  · rfl

/-! ### Going on, and halting -/

/-- R501, R502: the ladder goes on to a step from i on; it does not halt, and the entries of the steps before i stand. -/
theorem enterStep_ladder {n i : Nat} (hni : i + n = 15) :
    (Dev.enterStep n i d).boot.halted = d.boot.halted ∧ i ≤ (Dev.enterStep n i d).boot.next ∧
      (Dev.enterStep n i d).boot.next ≤ 15 ∧ ∀ j < i, (Dev.enterStep n i d).boot.keep.fails j = d.boot.keep.fails j := by
  induction n generalizing i d with
  | zero => simp [Dev.enterStep, Dev.onBoot]; omega
  | succ n ih =>
    obtain ⟨hhalted, hfrom, hto, hkept⟩ := ih (i := i + 1) (d := d) (by omega)
    rw [Dev.enterStep]
    split
    · exact ⟨hhalted, by omega, hto, fun j hj => hkept j (by omega)⟩
    split
    · obtain ⟨hhalted, hfrom, hto, hkept⟩ := ih (i := i + 1) (d := d.skipStep i) (by omega)
      obtain ⟨hskip, hskips⟩ := skipStep_ladder (d := d) i
      exact ⟨hhalted.trans hskip, by omega, hto, fun j hj => (hkept j (by omega)).trans (hskips j (by omega))⟩
    · have hbegun := stepStarts_begun (d := d) i
      have hfails := fails_of_ladder hbegun
      simp only [ladder, Prod.mk.injEq] at hbegun
      obtain ⟨hnext, hhalted, -⟩ := hbegun
      exact ⟨hhalted, hnext.ge, hnext.le.trans (by show i ≤ 15; omega), fun j hj => (hfails j).trans (stepStarts_fails (by omega))⟩

/-- R504: the entry of a step that ends, in the Keep record. -/
def stepNoted (i : Nat) (e : StepEnd) : Dev :=
  let d := e.dev
  let n := if e.outcome = 3 then min 3 (d.boot.keep.fails i + 1) else 0
  let d1 := d.onKeep fun k => { k with
    steps := k.steps.set i (stepEntry n e.outcome (optionalStep i && decide (2 ≤ n)) e.alt), lastStep := if e.halt then k.lastStep else i }
  if e.outcome = 2 then d1.healthRec 0x09 1 0x0D 0xFF i 0 0 0 else d1

section Noted

variable (i : Nat) (e : StepEnd)

theorem endStep_halts (h : e.halt = true) : (Dev.endStep i e).1 = (stepNoted i e).haltLadder := if_pos h

theorem endStep_goesOn (h : e.halt = false) : (Dev.endStep i e).1 = Dev.enterStep (14 - i) (i + 1) (stepNoted i e) :=
  if_neg (by simp [h])

theorem stepNoted_rest :
    (stepNoted i e).mode = e.dev.mode ∧ (stepNoted i e).boot.next = e.dev.boot.next ∧
      (stepNoted i e).boot.halted = e.dev.boot.halted := by
  simp only [stepNoted]
  split <;> simp [Dev.onKeep, Dev.onBoot]

theorem stepNoted_fails (hi : i < e.dev.boot.keep.steps.length) :
    (stepNoted i e).boot.keep.fails i = if e.outcome = 3 then min 3 (e.dev.boot.keep.fails i + 1) else 0 := by
  have hentry : nth (stepNoted i e).boot.keep.steps i = stepEntry (if e.outcome = 3 then min 3 (e.dev.boot.keep.fails i + 1) else 0)
      e.outcome (optionalStep i && decide (2 ≤ if e.outcome = 3 then min 3 (e.dev.boot.keep.fails i + 1) else 0)) e.alt := by
    rw [stepNoted]
    split <;> simp [Dev.onKeep, Dev.onBoot, nth_set_same, hi]
  rw [KeepRec.fails, hentry, stepEntry_fails]
  split <;> omega

end Noted

/-- R501: a halt opens every cut path and asserts WDOG_OUT_N. -/
theorem haltLadder_outcome :
    d.haltLadder.boot.halted = true ∧ d.haltLadder.ump.closed = 0 ∧ d.haltLadder.pins.wdogOut = true ∧
      d.haltLadder.mode.mode = d.mode.mode ∧ d.haltLadder.boot.next = d.boot.next ∧
      d.haltLadder.boot.keep.steps = d.boot.keep.steps := by
  simp only [Dev.haltLadder, Dev.assertWdog]
  split_ifs <;> simp_all [Dev.onBoot, Dev.keepFault, Dev.event]

end Ladder

/-- Settles O51: a halt keeps mode and step, and what goes on enters a later step, which leaves the entry of step i alone. -/
theorem ladderOutcomes : Obligations.LadderOutcomes := by
  refine ⟨fun i e h => ?halts, fun i e h hi => ?goesOn, fun i e hlen hi ho => ?counts⟩
  case halts =>
    obtain ⟨hsame, hat, -⟩ := stepNoted_rest i e
    obtain ⟨hhalted, hclosed, hwdog, hmode, hnext, -⟩ := haltLadder_outcome (d := stepNoted i e)
    rw [endStep_halts i e h]
    exact ⟨hhalted, hclosed, hwdog, hmode.trans (congrArg ModeCtl.mode hsame), hnext.trans hat⟩
  case goesOn =>
    obtain ⟨-, -, hrunning⟩ := stepNoted_rest i e
    obtain ⟨hhalted, hfrom, hto, -⟩ := enterStep_ladder (d := stepNoted i e) (n := 14 - i) (i := i + 1) (by omega)
    rw [endStep_goesOn i e h]
    exact ⟨hhalted.trans hrunning, hfrom, hto⟩
  case counts =>
    rw [← stepNoted_fails i e hlen]
    rcases hhalt : e.halt
    · rw [endStep_goesOn i e hhalt]
      exact (enterStep_ladder (by omega)).2.2.2 i (by omega)
    · rw [endStep_halts i e hhalt, KeepRec.fails, haltLadder_outcome.2.2.2.2.2, KeepRec.fails]

end Sys2Proof.Proofs
end
section
/-! PROOFS. What the bodies of the commands of ladder, fuses and firmware come to (R494, R502, R506 to R508): O52. -/

namespace Sys2Proof.Proofs

open Sys2Proof.Machine Sys2Proof.Safety Sys2Proof.Laws

section Bodies

variable {x : Ctx} {mem : Dram} {d : Dev}

theorem sysLadderBody_clear {k i w : Nat} (hk : k ≤ 1) (hw : w ≤ 1) (hstep : k = 0 → i < 15)
    (hport : k = 1 → d.portExists i = true) :
    sysLadderBody (some (k, i, w)) x mem d =
      .done (d.onKeep fun r => r.clear k i w) (d.onKeep fun r => r.clear k i w).ladderReport := by
  have hsound : ¬ (1 < k ∨ 1 < w ∨ (k = 0 ∧ 15 ≤ i) ∨ (k = 1 ∧ ! d.portExists i)) := by
    rintro (h | h | ⟨h, h'⟩ | ⟨h, h'⟩)
    · omega
    · omega
    · have := hstep h
      omega
    · simp [hport h] at h'
  rw [sysLadderBody, if_neg hsound]

/-- R494: a field takes one pulse for each of its bits that is not programmed yet. -/
theorem sysFuseBody_pulses {n v : Nat} {p : Nat × Nat} {ps : List (Nat × Nat)} (hn : n ≤ 2) (hv : v < 2 ^ fieldBits n)
    (hmap : n = 0 → d.fuses.rstMap = 0) (hset : v ||| d.fuses.field n = v) (hfree : d.boot.fusePulse = [])
    (hps : d.fuses.pulses n v = p :: ps) :
    sysFuseBody n v x mem d = .executing ({ d with boot := { d.boot with fusePulse := p :: ps } }.log x 0x0B n
      (u32 (d.fuses.field n)) (u32 v)) .fuse true := by
  have hsound : ¬ (2 < n ∨ 2 ^ fieldBits n ≤ v ∨ (n = 0 ∧ d.fuses.field n ≠ 0) ∨ v ||| d.fuses.field n ≠ v) := by
    rintro (h | h | ⟨rfl, h⟩ | h)
    · omega
    · omega
    · exact h (hmap rfl)
    · exact h hset
  simp only [sysFuseBody, if_neg hsound, hfree, ne_eq, not_true_eq_false, if_false, hps]
  rfl

theorem sysFuseBody_clears {n v : Nat} (hset : v ||| d.fuses.field n ≠ v) : sysFuseBody n v x mem d = badArg :=
  if_pos (.inr (.inr (.inr hset)))

section Stage

variable {a n c : Nat} {i : FwSlot} (hmin : 512 ≤ n) (hmax : n ≤ 58720256) (hrange : a + n ≤ d.mc.hostLimit)
  (hsound : mem.marked a n = []) (hcrc : crc32c (memBytes mem.mem a n) = c)
  (himage : FwSlot.ofImage (memBytes mem.mem a n) = some i)
include hmin hmax hrange hsound hcrc himage

/-- R507: an image that passes its checks is written to the slot that does not run. -/
theorem fwStageBody_passes (hchecks : i.failing d.fuses = none) : fwStageBody a n c x mem d =
    .ok (((d.activate a n).onBoot fun b => b.setSlot b.spareSlot (some i)).log x 0x0C d.boot.spareSlot
      (slotDigest (d.boot.slot d.boot.spareSlot)) i.header) (i.checks d.fuses) [] := by
  rw [fwStageBody, if_neg (by simp [Dev.rangeOk]; omega), withData_sound hsound hcrc]
  simp only [himage, activate_fuses, activate_boot, Dev.onBoot, hchecks]
  rfl

/-- R507: one that fails a check leaves that slot empty. -/
theorem fwStageBody_fails {k : Nat} (hchecks : i.failing d.fuses = some k) : fwStageBody a n c x mem d =
    .refuseWith (((d.activate a n).onBoot fun b => b.setSlot b.spareSlot none).log x 0x0C d.boot.spareSlot
      (slotDigest (d.boot.slot d.boot.spareSlot)) []) 0x21 k 0 [] [] := by
  rw [fwStageBody, if_neg (by simp [Dev.rangeOk]; omega), withData_sound hsound hcrc]
  simp only [himage, activate_fuses, activate_boot, Dev.onBoot, hchecks]
  rfl

end Stage

theorem fwActivateBody_held {i : Nat} (hi : i ≤ 1) (hslot : d.boot.slot i ≠ none) : fwActivateBody i x mem d =
    .done ((d.onBoot fun b => { b with preferred := i }).log x 0x0C 2 (u32 d.boot.preferred) (u32 i)) (u32 i) :=
  if_neg (by simp [hi.not_gt, hslot])

theorem fwCommitBody_raises (hfree : d.boot.fusePulse = []) (hsvn : d.fuses.svnMin < d.runningSvn) : fwCommitBody x mem d =
    .executing ({ d with boot := { d.boot with
      fusePulse := (List.range (d.runningSvn - d.fuses.svnMin)).map fun i => (3, d.fuses.svnMin + i)
      } }.log x 0x0B 3 (u32 d.fuses.svnMin) (u32 d.runningSvn)) .fuse true := by
  rw [fwCommitBody, if_neg (by simp [hfree]), if_neg (by omega)]
  rfl

theorem fwCommitBody_stays (hfree : d.boot.fusePulse = []) (hsvn : d.runningSvn ≤ d.fuses.svnMin) :
    fwCommitBody x mem d = .done d (u32 d.fuses.svnMin) := by
  rw [fwCommitBody, if_neg (by simp [hfree]), if_pos hsvn]

end Bodies

/-- Settles O52. -/
theorem bootCommandsComplete : Obligations.BootCommandsComplete := by
  refine ⟨?ladder, ?clear, ?fuse, ?clears, ?stage, ?activate, ?status, ?commit, ?stays⟩
  case ladder => exact fun m s x hs => exec_sysLadder.trans (runCmd_answered hs rfl)
  case clear =>
    exact fun m k i w s x hs hk hw hstep hport =>
      exec_sysLadder.trans (runCmd_answered hs (sysLadderBody_clear hk hw hstep hport))
  case fuse =>
    exact fun m n v p ps s x hs hn hv hmap hset hfree hps =>
      exec_sysFuse.trans (runCmd_running hs (sysFuseBody_pulses hn hv hmap hset hfree hps))
  case clears => exact fun m n v s x hs hn hset => exec_sysFuse.trans (runCmd_turnedAway hs (sysFuseBody_clears hset))
  case stage =>
    intro m a n c i s x hs hmin hmax hrange hsound hcrc himage
    rw [exec_fwStage, execFwStage]
    rcases hchecks : i.failing s.dev.fuses with _ | k
    · exact runCmd_answered hs (fwStageBody_passes hmin hmax hrange hsound hcrc himage hchecks)
    · rw [runCmd_starts hs, fwStageBody_fails hmin hmax hrange hsound hcrc himage hchecks, settle, faultRec_none (by decide)]
      rfl
  case activate =>
    exact fun m i s x hs hi hslot => exec_fwActivate.trans (runCmd_answered hs (fwActivateBody_held hi hslot))
  case status => exact fun m s x hs => ⟨_, exec_fwStatus.trans (runCmd_answered hs rfl), rfl⟩
  case commit =>
    exact fun m s x hs hfree hsvn => exec_fwCommit.trans (runCmd_running hs (fwCommitBody_raises hfree hsvn))
  case stays =>
    exact fun m s x hs hfree hsvn => exec_fwCommit.trans (runCmd_answered hs (fwCommitBody_stays hfree hsvn))

end Sys2Proof.Proofs
end
section
/-! PROOFS. Records chain and number in the Logbook (R543 to R545), error events merge in the spoil queue (R547 to R549): O13. -/

namespace Sys2Proof.Proofs

open Sys2Proof.Machine Sys2Proof.Safety Sys2Proof.Laws

section Lists

variable {α : Type}

/-- The latest n of a list end as the list does. -/
theorem getLast?_latest (l : List α) (a : α) {n : Nat} (hn : 0 < n) :
    ((l ++ [a]).drop ((l ++ [a]).length - n)).getLast? = some a := by
  rw [List.getLast?_drop, if_neg (by simp; omega), List.getLast?_concat]

/-- A list that ends in a kept element still does when filtered. -/
theorem filter_of_getLast? {p : α → Bool} {l : List α} {a : α} (h : l.getLast? = some a) (ha : p a = true) :
    ∃ l', l.filter p = l' ++ [a] := by
  obtain ⟨l', rfl⟩ := List.getLast?_eq_some_iff.1 h
  exact ⟨l'.filter p, by simp [ha]⟩

end Lists

section Logbook

variable (d : Dev) (a : LogArg)

/-- The record that a change adds (R543). -/
def recordOf (d : Dev) (a : LogArg) : LogRec :=
  let r : LogRec := ⟨d.logs.nextLog, d.time.sec, d.nsNow, a.origin, a.flags ||| (if d.logs.restartDue then 1 else 0), a.opcode,
    a.object, a.index, a.tag, a.mailbox, a.oldDigest, a.newDigest, []⟩
  { r with chain := sha256 (r.head ++ d.logs.chain) }

/-- R543: CHAIN covers the record's first 96 bytes and the CHAIN before it. -/
theorem recordOf_chain : (recordOf d a).chain = sha256 ((recordOf d a).head ++ d.logs.chain) := rfl

/-- The Logbook with that record, before it is in flash. -/
def chipWith (d : Dev) (a : LogArg) : Logs := d.logs.append d.time.sec d.nsNow d.now a

theorem chipWith_chip :
    (chipWith d a).chip = (d.logs.chip ++ [recordOf d a]).drop ((d.logs.chip ++ [recordOf d a]).length - 1024) := by
  simp only [chipWith, recordOf, Logs.append]

theorem chipWith_chain : (chipWith d a).chain = (recordOf d a).chain := by
  simp only [chipWith, recordOf, Logs.append]

theorem chipWith_last : (chipWith d a).chip.getLast? = some (recordOf d a) := by
  rw [chipWith_chip]
  exact getLast?_latest _ _ (by decide)

theorem logRaw_logs_eq : (d.logRaw a).logs = if a.origin = 1 ∨ a.origin = 4 then (chipWith d a).flush else chipWith d a := by
  rw [Dev.logRaw, raise_logs]
  rfl

/-- R545: what reaches flash at once changes nothing on the chip. -/
theorem logRaw_chip :
    (d.logRaw a).logs.chip = (chipWith d a).chip ∧ (d.logRaw a).logs.nextLog = d.logs.nextLog + 1 ∧
      (d.logRaw a).logs.chain = (recordOf d a).chain := by
  rw [logRaw_logs_eq]
  split
  · exact ⟨by rw [Logs.flush], by rw [Logs.flush, chipWith, Logs.append], by rw [Logs.flush, chipWith_chain]⟩
  · exact ⟨rfl, by rw [chipWith, Logs.append], chipWith_chain d a⟩

/-- R545: a record of PF0 or USB is in flash at once, behind those before it. -/
theorem logRaw_journal_last (horigin : a.origin = 1 ∨ a.origin = 4) (hnew : d.logs.flushed < d.logs.nextLog) :
    (d.logRaw a).logs.journal.getLast? = some (recordOf d a) := by
  obtain ⟨l, hl⟩ := filter_of_getLast? (p := fun r => decide (d.logs.flushed < r.seq)) (chipWith_last d a) (by simp only [recordOf, hnew, decide_true])
  have hflushed : (chipWith d a).flushed = d.logs.flushed := by simp only [Logs.flushed, chipWith, Logs.append]
  rw [logRaw_logs_eq, if_pos horigin]
  simp only [Logs.flush, hflushed, hl, ← List.append_assoc]
  exact getLast?_latest _ _ (by decide)

end Logbook

section Spoil

variable {d : Dev} {source inst code info : Nat}

/-- R548: an event merges into the newest record of its kind that is not released. -/
theorem spoil_merges {r : SpoilRec} (h : d.logs.spoilMatch source inst code = some r) :
    d.spoil source inst code false info = { d with logs := { d.logs with spoil := d.logs.spoil.map fun x =>
      if x.seq = r.seq then { x with count := min (x.count + 1) 0xFFFFFFFF, lastS := d.secLow, lastNs := d.nsNow } else x } } := by
  simp only [Dev.spoil, Bool.false_eq_true, if_false, h]

/-- R549: with no record to merge into and no place it is counted. -/
theorem spoil_overflows (h : d.logs.spoilMatch source inst code = none) (hplace : d.logs.spoilPlace false = none) :
    d.spoil source inst code false info =
      { d with logs := { d.logs with overflow := upd d.logs.overflow source (· + 1) } } := by
  simp only [Dev.spoil, Bool.false_eq_true, if_false, h, hplace]

/-- R548: with a general place free it opens a record. -/
theorem spoil_opens (h : d.logs.spoilMatch source inst code = none) (hplace : d.logs.spoilUsed false < 4032) :
    (d.spoil source inst code false info).logs = { d.logs with
      spoil := d.logs.spoil ++
        [⟨d.logs.spoilNewest + 1, source, inst, code, false, 1, d.secLow, d.nsNow, d.secLow, d.nsNow, info, false⟩]
      spoilNewest := d.logs.spoilNewest + 1 } := by
  have hfree : d.logs.spoilPlace false = some (false, d.logs.spoil) := if_pos hplace
  simp only [Dev.spoil, Bool.false_eq_true, if_false, h, hfree, raise_logs]

end Spoil

/-- Settles O13. -/
theorem logbookChainsAndSpoilCoalesces : Obligations.LogbookChainsAndSpoilCoalesces := by
  refine ⟨fun d a => ?chains, fun d source inst code info => ⟨fun r h => ?merges, fun h hplace => ?overflows, fun h hplace => ?opens⟩⟩
  case chains =>
    obtain ⟨hchip, hnext, hchain⟩ := logRaw_chip d a
    refine ⟨recordOf d a, ?_, ?_, rfl, hnext, rfl, rfl, rfl, rfl, rfl, recordOf_chain d a, hchain, logRaw_journal_last d a⟩
    · rw [hchip, chipWith_last]
    · rw [hchip, chipWith_chip, List.length_drop]
      omega
  case merges =>
    refine ⟨_, spoil_merges h, List.length_map .., fun y hy => ?_⟩
    obtain ⟨z, hz, rfl⟩ := List.mem_map.1 hy
    refine ⟨z, hz, ?_⟩
    split <;> simp
  case overflows => exact spoil_overflows h hplace
  case opens =>
    rw [spoil_opens h hplace]
    exact ⟨rfl, rfl⟩

end Sys2Proof.Proofs
end
section
/-! PROOFS. The clock commands and `sys.blockreset` (R483, R488 to R490, R498, R499): O46. -/

namespace Sys2Proof.Proofs

open Sys2Proof.Machine Sys2Proof.Safety Sys2Proof.Laws

section Bodies

variable {x : Ctx} {mem : Dram} {d : Dev} {c i n : Nat}

theorem planBreak_sound (hn : n = 2 ∨ n = 4 ∨ n = 8) (hc : c = 1500 ∨ c = 1600) : planBreak c n = none := by
  rw [planBreak, if_neg (by omega), if_neg (by omega), if_neg (by omega)]

/-- R488: a plan whose ratios hold is in force and stored. -/
theorem sysClockplanBody_sound (hn : n = 2 ∨ n = 4 ∨ n = 8) (hc : c = 1500 ∨ c = 1600) : sysClockplanBody c n x mem d =
    let k := { d.clk with
      coxMHz := c, divisor := n, storedCox := c, storedDiv := n, raw := d.clk.raw.map fun r => (c, n, r.2.2)
      mux := if d.clk.coxMHz = c then d.clk.mux else some (true, d.clk.coxMHz, d.now) }
    .done ({ d with clk := k }.log x 0x0A 0 d.clk.plan k.plan) (u32 c ++ u32 n) := by
  rw [sysClockplanBody, planBreak_sound hn hc]
  rfl

theorem sysClockplanBody_breaks (hn : n ≠ 2) (hn' : n ≠ 4) (hn'' : n ≠ 8) : sysClockplanBody c n x mem d = badArg 1 := by
  rw [sysClockplanBody, planBreak, if_pos ⟨hn, hn', hn''⟩]

theorem sysClocksrcBody_selectable (h : d.selectable i = true) : sysClocksrcBody i x mem d =
    .done ((d.takeSource i).log x 0x0A 1 (u32 d.clk.sel) (u32 i)) (u32 i) :=
  if_neg (by simp [h])

theorem sysClockrawBody_inRange {f : Nat} (hc : 400 ≤ c) (hc' : c ≤ 1600) (hn : 1 ≤ n) (hn' : n ≤ 16) (hf : 100 ≤ f) (hf' : f ≤ 400) :
    sysClockrawBody c n f x mem d =
      .done ({ d with clk := { d.clk with coxMHz := c, divisor := n, raw := some (c, n, f) } }.log x 0x0A 2 (rawBytes d.clk.raw)
        (u32 c ++ u32 n ++ u32 f)) :=
  if_neg (by omega)

section Block

variable (hnamed : d.blockNamed c i = true)
include hnamed

/-- R498, R499: an idle block is reset, and released at once while its clock is good. -/
theorem sysBlockresetBody_released (hidle : d.blockIdle c i = true) (hgood : d.clockGood c = true) :
    sysBlockresetBody c i x mem d = .done (d.blockOut c i) (u32 0) := by
  rw [sysBlockresetBody, if_neg (by simp [hnamed]), if_neg (by simp [hidle]), if_pos hgood]

theorem sysBlockresetBody_waits (hidle : d.blockIdle c i = true) (hgood : d.clockGood c = false) :
    sysBlockresetBody c i x mem d =
      .executing { d with boot := { d.boot with inReset := (c, i) :: d.boot.inReset.filter (· ≠ (c, i)) } }
        (.blockreset c i d.now) true := by
  rw [sysBlockresetBody, if_neg (by simp [hnamed]), if_neg (by simp [hidle]), if_neg (by simp [hgood])]

theorem sysBlockresetBody_busy (hidle : d.blockIdle c i = false) : sysBlockresetBody c i x mem d = refusedBusy 1000 := by
  rw [sysBlockresetBody, if_neg (by simp [hnamed]), if_pos (by simp [hidle])]

end Block

end Bodies

/-- Settles O46. -/
theorem clockCommandsComplete : Obligations.ClockCommandsComplete := by
  refine ⟨?plan, ?breaks, ?source, ?report, ?raw, ?released, ?waits, ?busy⟩
  case plan => exact fun m c n s x hs hn hc => exec_sysClockplan.trans (runCmd_answered hs (sysClockplanBody_sound hn hc))
  case breaks =>
    exact fun m c n s x hs hn hn' hn'' => exec_sysClockplan.trans (runCmd_turnedAway hs (sysClockplanBody_breaks hn hn' hn''))
  case source => exact fun m k s x hs hk => exec_sysClocksrc.trans (runCmd_answered hs (sysClocksrcBody_selectable hk))
  case report => exact fun m s x hs => exec_sysClockstat.trans (runCmd_answered hs rfl)
  case raw =>
    exact fun m c n f s x hs hc hc' hn hn' hf hf' =>
      exec_sysClockraw.trans (runCmd_answered hs (sysClockrawBody_inRange hc hc' hn hn' hf hf'))
  case released =>
    exact fun m c i s x hs hn hi hg => exec_sysBlockreset.trans (runCmd_answered hs (sysBlockresetBody_released hn hi hg))
  case waits =>
    exact fun m c i s x hs hn hi hg => exec_sysBlockreset.trans (runCmd_running hs (sysBlockresetBody_waits hn hi hg))
  case busy =>
    exact fun m c i s x hs hn hi => exec_sysBlockreset.trans (runCmd_turnedAway hs (sysBlockresetBody_busy hn hi))

end Sys2Proof.Proofs
end

section
/-! PROOFS. PLLs, references and clock switches (R481 to R487, R491, R492): O47. -/

namespace Sys2Proof.Proofs

open Sys2Proof.Machine Sys2Proof.Safety Sys2Proof.Laws

variable {d : Dev} {i k : Nat}

theorem onDevAny_eq {f : Dram → Dev → Dev} {s : State} {e : Dev} (ha : s.dev.awake = true) (h : f s.dram s.dev = e) :
    onDevAny f s = .next (withDev s e) := by
  rw [onDevAny_awake ha, h]

/-! ### PLLs (R484, R485) -/

/-- R484: the standby takes over; the failed member is to restart. -/
theorem pllFails_swaps (hdead : (d.clk.pair i).dead = false) (hstandby : (d.clk.pair i).standby = true) :
    d.pllFails i =
      let e := (d.onClk (·.onPair i fun p => { p with
        active := 1 - p.active, standby := false, switchovers := p.switchovers + 1, failTick := d.now, restartTick := some d.now
        })).spoil 0x0C i 0x001 false 0
      if i = 0 then e.cycleLost else oars32.foldl Dev.edgesSwitch e := by
  rw [Dev.pllFails, if_neg (by simp [hdead]), if_pos hstandby]
  rfl

/-- R485: with no standby every oar is cut and the device holds. -/
theorem pllFails_none (hdead : (d.clk.pair i).dead = false) (hstandby : (d.clk.pair i).standby = false) :
    d.pllFails i =
      let e := (d.onClk (·.onPair i fun p => { p with failTick := d.now, restartTick := some d.now, dead := true })).clockCutNow
      (if i = 0 then e.stepAbort else e.stopAllAxes fun _ => true).enterHold .pllLoss false (some 5) 4 := by
  rw [Dev.pllFails, if_neg (by simp [hdead]), if_neg (by simp [hstandby])]

theorem pllRestart_due {t : Nat} (ht : (d.clk.pair i).restartTick = some t) (hdue : t + sT 60 ≤ d.now) (hcox : d.coxRuns = true) :
    d.pllRestart i = d.onClk (·.onPair i fun p => { p with restartTick := some d.now }) := by
  simp only [Dev.pllRestart, ht]
  exact if_neg (by simp [hdue.not_gt, hcox])

theorem pllReady_standby {t : Nat} (ht : (d.clk.pair i).restartTick = some t) (hfail : (d.clk.pair i).failTick < t)
    (hdue : t + sT 1 ≤ d.now) (hdead : (d.clk.pair i).dead = false) :
    d.pllReady i = d.onClk (·.onPair i fun q => { q with standby := true, restartTick := none }) := by
  simp only [Dev.pllReady, ht]
  rw [if_neg (by omega), if_pos (by simp [hdead])]

theorem pllLost_link :
    d.pllLost 3 = ({ d with clk := { d.clk with locks := d.clk.locks.set 3 false } }).linksLost.enterHold .pllLoss false none 4 := by
  rw [Dev.pllLost, if_pos rfl, Dev.onClk]

theorem pllLost_other (h : i ∉ [0, 3, 4, 5, 6]) : d.pllLost i = d := by
  simp only [List.mem_cons, List.not_mem_nil, or_false, not_or] at h
  obtain ⟨h0, h3, h4, h5, h6⟩ := h
  simp only [Dev.pllLost, h0, h3, h4, h5, h6, if_false]

/-! ### The reference (R481, R482, R486) -/

/-- R486: the selected reference is lost, and every PLL rides the move to the IRO. -/
theorem refMonitor_ridden (hsel : d.clk.sel = k) (hk : k < 2) (hlost : d.clk.lost = none) (hqualified : nth d.clk.qualified k = true)
    (hiro : nth d.clk.qualified 2 = true) : d.refMonitor true k =
      ((((d.onClk fun c => { c with
        qualified := c.qualified.set k false, lossTick := c.lossTick.set k d.now, lost := some k, sel := 2
        mux := some (false, k, d.now) }).clockCutNow.spoil 0x0C k 0x004 true 0).stopAllAxes fun _ => true).enterHold
          .clockLoss false (some 5) 4) := by
  subst hsel
  have hmoves : (d.clk.sel ≠ 2 && nth d.clk.qualified 2) = true := by simp [hiro]; omega
  rw [Dev.refMonitor, if_pos rfl, Dev.refLost, if_neg (by simp [hlost, hqualified])]
  simp only [hmoves, Bool.and_self, if_true]
  rfl

theorem refMonitor_unselected {b : Bool} (hsel : d.clk.sel ≠ k) (hqualified : nth d.clk.qualified k = true) :
    d.refMonitor b k = d.onClk (Clocks.unqualify k d.now) := by
  rw [Dev.refMonitor, if_neg hsel.symm, if_pos hqualified]

theorem refQualifies_due (hqualified : nth d.clk.qualified k = false) (hk : k ≠ 1) (hlost : d.clk.lost ≠ some k)
    (hdue : nth d.clk.lossTick k + msT 10 ≤ d.now) : d.refQualifies k =
      let v := d.drawInt (-(qualBound k)) (qualBound k)
      v.2.onClk fun c => { c with qualified := c.qualified.set k true, ppm := c.ppm.set k v.1 } := by
  rw [Dev.refQualifies, if_neg (by simp [hqualified, hk, hdue])]
  exact if_neg hlost

/-- R482: a trim takes out at most 1 ppm of the error measured. -/
theorem trimIro_due {e : Int} (href : d.trimReference ≠ 3) (hdue : ∀ t, d.clk.trimTick = some t → t + sT 1 ≤ d.now) :
    d.trimIro e =
      ({ d with cal := { d.cal with iroSum := d.cal.iroSum + clampI (-1000) 1000 (-e) } } : Dev).onClk fun k => { k with
        trimTick := some d.now, trimRef := d.trimReference, lastCorrection := clampI (-1000) 1000 (-e)
        iroPpb := k.iroPpb + clampI (-1000) 1000 (-e), ppm := k.ppm.set 2 ((e + clampI (-1000) 1000 (-e)) / 1000) } := by
  have hready : ¬ (d.clk.trimTick.any fun t => d.now < t + sT 1) = true := by
    rw [Option.any_eq_true]
    rintro ⟨t, ht, hlate⟩
    have := hdue t ht
    simp only [decide_eq_true_eq] at hlate
    omega
  rw [Dev.trimIro, if_neg hready]
  simp only [href, if_false]

/-! ### Switches and gates (R491, R492) -/

theorem muxBypass_stopped {b : Bool} {o t : Nat} (hmux : d.clk.mux = some (b, o, t)) (hnow : d.now ≤ t + muxTicks) :
    d.muxBypass = (d.onClk fun c => { c with mux := none, bypasses := c.bypasses + 1 }).spoil 0x0C 0xFF 0x002 false 0 := by
  simp only [Dev.muxBypass, hmux]
  exact if_neg hnow.not_gt

theorem muxAbandon_cox {o t : Nat} (hmux : d.clk.mux = some (true, o, t)) (hnow : d.now ≤ t + muxTicks) :
    d.muxAbandon = ((d.onClk fun c => { c with mux := none, abandons := c.abandons + 1 }).spoil 0x0C 0xFF 0x003 false 0).onClk
      fun c => { c with coxMHz := o } := by
  simp only [Dev.muxAbandon, hmux]
  rw [if_neg hnow.not_gt]
  rfl

theorem gateLate_eq {b : Nat} : d.gateLate b k = { d with
    clk := { d.clk with
      gateTimeouts := d.clk.gateTimeouts + 1
      gated := if b ∈ d.clk.gated then d.clk.gated else d.clk.gated ++ [b] }
    host := if k = 0 then ({ d.host with bus := ⟨true, false, []⟩ } : HostIf).aerSet false 20 else d.host } := by
  simp only [Dev.gateLate, List.contains_iff_mem]
  split <;> rfl

/-- Settles O47. -/
theorem clockEventsComplete : Obligations.ClockEventsComplete := by
  refine ⟨?swap0, ?swap1, ?none0, ?none1, ?restart, ?ready, ?cox, ?link, ?ddr, ?pcie, ?eth, ?other, ?lost, ?unselected, ?qualified,
    ?trim, ?bypass, ?abandon, ?gate⟩
  case swap0 => exact fun s hl hdead hstandby => exec_pllFailure.trans (onDev_eq hl (pllFails_swaps hdead hstandby))
  case swap1 => exact fun s hl hdead hstandby => exec_pllFailure.trans (onDev_eq hl (pllFails_swaps hdead hstandby))
  case none0 => exact fun s hl hdead hstandby => exec_pllFailure.trans (onDev_eq hl (pllFails_none hdead hstandby))
  case none1 => exact fun s hl hdead hstandby => exec_pllFailure.trans (onDev_eq hl (pllFails_none hdead hstandby))
  case restart => exact fun i t s hl ht hdue hcox => exec_pllRestart.trans (onDev_eq hl (pllRestart_due ht hdue hcox))
  case ready =>
    exact fun i t s hl ht hfail hdue hdead => exec_pllStandbyReady.trans (onDev_eq hl (pllReady_standby ht hfail hdue hdead))
  case cox => exact fun s hl => exec_pllLockLoss.trans (onDev_live hl)
  case link => exact fun s hl => exec_pllLockLoss.trans (onDev_eq hl pllLost_link)
  case ddr => exact fun s hl => exec_pllLockLoss.trans (onDev_live hl)
  case pcie => exact fun s hl => exec_pllLockLoss.trans (onDev_live hl)
  case eth => exact fun s hl => exec_pllLockLoss.trans (onDev_live hl)
  case other => exact fun i s hl hi => exec_pllLockLoss.trans (onDev_eq hl (pllLost_other hi))
  case lost =>
    exact fun k s ha hsel hk hlost hq hiro =>
      exec_referenceLoss.trans (onDevAny_eq ha (refMonitor_ridden hsel hk hlost hq hiro))
  case unselected =>
    exact fun b k s ha hsel hq =>
      exec_referenceLoss.trans (onDevAny_eq ha (refMonitor_unselected hsel hq))
  case qualified =>
    exact fun k s hl hq hk hlost hdue => exec_referenceQualified.trans (onDev_eq hl (refQualifies_due hq hk hlost hdue))
  case trim =>
    exact fun e s ha href hdue => exec_iroTrim.trans (onDevAny_eq ha (trimIro_due href hdue))
  case bypass => exact fun b o t s hl hmux hnow => exec_muxHandshakeBypass.trans (onDev_eq hl (muxBypass_stopped hmux hnow))
  case abandon => exact fun o t s hl hmux hnow => exec_muxSwitchAbandon.trans (onDev_eq hl (muxAbandon_cox hmux hnow))
  case gate => exact fun b k s ha => exec_clockGateTimeout.trans (onDevAny_eq ha gateLate_eq)

end Sys2Proof.Proofs
end
section
/-! PROOFS. What the bodies of the `safe` commands come to (R464, R469, R471, R475, R480): O17. -/

namespace Sys2Proof.Proofs

open Sys2Proof.Machine Sys2Proof.Safety Sys2Proof.Laws

section Bodies

variable {x : Ctx} {mem : Dram} {d : Dev} {k : Nat}

theorem safeEnterBody_eq :
    safeEnterBody x mem d = .done (if d.mode.mode = .safe then d else d.enterSafe 0x05 0xFF) := by
  simp only [safeEnterBody, beq_iff_eq]

theorem safeStopBody_sound (hk : d.badOarMask k = false) : safeStopBody k x mem d =
    .done ((bitsOf 32 k).foldl (fun d i => if d.oarExists i then d.trip i 0x25 0 0 else d) d) :=
  if_neg (by simp [hk])

/-- R464: the oars of the mask leave T once the cause of each is gone. -/
theorem safeRearmBody_gone (hk : d.badOarMask k = false)
    (hgone : ∀ i < 32, Nat.testBit k i = true → d.inT i = true → d.causeGone i = true) : safeRearmBody k x mem d =
      .done ((d.leaveT ((bitsOf 32 k).filter d.inT)).logTrips x d.ump.trip) (u32 (maskOf ((bitsOf 32 k).filter d.inT))) := by
  have hfind : ((bitsOf 32 k).filter d.inT).find? (fun i => ! d.causeGone i) = none := by
    refine List.find?_eq_none.2 fun i hi => ?_
    obtain ⟨hbit, ht⟩ := List.mem_filter.1 hi
    obtain ⟨hi32, hbit⟩ := mem_bitsOf.1 hbit
    simp [hgone i hi32 hbit ht]
  simp only [safeRearmBody, hk, hfind, Bool.false_eq_true, if_false]

/-- R469: with no condition left the device goes to Ready, and trips end whose cause is gone. -/
theorem safeClearBody_clear (h : d.clearRefusal = none) : safeClearBody x mem d =
    .done (((((({ d with
        host := { d.host with hostStop := false }
        ump := { d.ump with clockCut := d.clk.fabric.dead || d.clk.exposure.dead } }).toReady 1).leaveT
      ((oars32.filter d.inT).filter d.causeGone)).event 9 0 0xFF 0 0 0).safeStart).logTrips x d.ump.trip) := by
  simp only [safeClearBody, h]

@[simp] theorem imageFailure_activate (a n : Nat) (s : SafetySet) : (d.activate a n).imageFailure s = d.imageFailure s := by
  simp [Dev.imageFailure, Dev.oarExists]

/-- R475: a sound image under its check code is staged. -/
theorem safeStageBody_sound {a c : Nat} (hrange : a + 8256 ≤ d.mc.hostLimit) (hmarked : mem.marked a 8256 = [])
    (hcrc : crc32c (memBytes mem.mem a 8256) = c)
    (himage : d.imageFailure ⟨memBytes mem.mem a 8256, sha256 (memBytes mem.mem a 8256)⟩ = none) :
    safeStageBody a 8256 c x mem d = .done
      { d.activate a 8256 with ump := { d.ump with
        staged := some ⟨memBytes mem.mem a 8256, sha256 (memBytes mem.mem a 8256)⟩ } }
      (sha256 (memBytes mem.mem a 8256)) := by
  rw [safeStageBody, if_neg (by simp [Dev.rangeOk, hrange]), withData_sound hmarked hcrc]
  simp only [imageFailure_activate, himage, activate_ump, Res.done]

/-- R475: the staged set is adopted under its digest. -/
theorem safeCommitBody_staged {g : List Byte} {set : SafetySet} (hlayer : d.layers.released = none)
    (hstaged : d.ump.staged = some set) (hset : d.commitRefusal set g = none) : safeCommitBody g x mem d =
      .done ((d.adoptSet set).logDigest x 2 0x06 0 ((d.ump.active.map (·.digest)).getD (sha256 [])) set.digest) set.digest := by
  simp only [safeCommitBody, hlayer, Option.isSome_none, Bool.false_eq_true, if_false, hstaged, hset]

theorem safeQueryBody_known {w : Nat} (hw : w ≤ 1) : safeQueryBody w x mem d =
    .done d (((if w = 0 then d.ump.active else d.ump.staged).map (·.image)).getD []) :=
  if_neg hw.not_gt

theorem safeEventsBody_few {f n : Nat} (hn : 1 ≤ n) (hn' : n ≤ 62) : safeEventsBody f n x mem d =
    .done d (listOf UmpEvent.bytes ((List.range n).filterMap fun i => d.ump.events.find? (·.seq = f + i))) :=
  if_neg (by omega)

theorem safeHoldpolicyBody_known {r : Nat} (hr : r ≤ 1) : safeHoldpolicyBody r x mem d =
    .done ({ d with ump := { d.ump with faultResume := r = 1 } }.log x 0x07 2 (u32 (boolN d.ump.faultResume)) (u32 r)) (u32 r) :=
  if_neg hr.not_gt

section Proof

variable (hk : d.badOarMask k = false)
include hk

theorem safeProofBody_none (hks : ((bitsOf 32 k).filter fun i => d.unprovable i = 0) = []) :
    safeProofBody k x mem d = .done d (d.proofReport k) := by
  simp only [safeProofBody, hk, hks, List.isEmpty_nil, Bool.false_eq_true, if_false, if_true]

/-- R471: the oars that can be proved are queued, and the command waits for them. -/
theorem safeProofBody_some {ks : List Nat} (hks : ((bitsOf 32 k).filter fun i => d.unprovable i = 0) = ks) (hne : ks ≠ []) :
    safeProofBody k x mem d = .executing { d.queueProofs ks with ump := { (d.queueProofs ks).ump with
      proofResults := (d.queueProofs ks).ump.proofResults.filter fun r => ! ks.contains r.1 } } (.proof k) true := by
  have hqueued : ¬ ks.isEmpty = true := by simp [hne]
  simp only [safeProofBody, hk, hks, hqueued, Bool.false_eq_true, if_false]

end Proof

end Bodies

/-- Settles O17. -/
theorem safeCommandsComplete : Obligations.SafeCommandsComplete := by
  refine ⟨?enter, ?stop, ?rearm, ?clear, ?stage, ?commit, ?discard, ?query, ?status, ?events, ?policy, ?noProof, ?proof⟩
  case enter => exact fun m s x hs => exec_safeEnter.trans (runCmd_answered hs safeEnterBody_eq)
  case stop => exact fun m k s x hs hk => exec_safeStop.trans (runCmd_answered hs (safeStopBody_sound hk))
  case rearm => exact fun m k s x hs hk hgone => exec_safeRearm.trans (runCmd_answered hs (safeRearmBody_gone hk hgone))
  case clear => exact fun m s x hs h => exec_safeClear.trans (runCmd_answered hs (safeClearBody_clear h))
  case stage =>
    exact fun m a c s x hs hrange hmarked hcrc himage =>
      exec_safeStage.trans (runCmd_answered hs (safeStageBody_sound hrange hmarked hcrc himage))
  case commit =>
    exact fun m g set s x hs hlayer hstaged hset =>
      exec_safeCommit.trans (runCmd_answered hs (safeCommitBody_staged hlayer hstaged hset))
  case discard => exact fun m s x hs => exec_safeDiscard.trans (runCmd_answered hs rfl)
  case query => exact fun m w s x hs hw => exec_safeQuery.trans (runCmd_answered hs (safeQueryBody_known hw))
  case status => exact fun m s x hs => exec_safeStatus.trans (runCmd_answered hs rfl)
  case events => exact fun m f n s x hs hn hn' => exec_safeEvents.trans (runCmd_answered hs (safeEventsBody_few hn hn'))
  case policy => exact fun m r s x hs hr => exec_safeHoldpolicy.trans (runCmd_answered hs (safeHoldpolicyBody_known hr))
  case noProof => exact fun m k s x hs hk hks => exec_safeProof.trans (runCmd_answered hs (safeProofBody_none hk hks))
  case proof => exact fun m k ks s x hs hk hks hne => exec_safeProof.trans (runCmd_running hs (safeProofBody_some hk hks hne))

end Sys2Proof.Proofs
end
section
/-! PROOFS. Safety inputs, checks, heartbeats and votes, and the proofs of cut paths (R19, R24, R452 to R472): O18. -/

namespace Sys2Proof.Proofs

open Sys2Proof.Machine Sys2Proof.Safety Sys2Proof.Laws

variable {d : Dev} {k c : Nat}

/-! ### Inputs (R456, R460, R461) -/

theorem onAonAny_dev {f : Dev → Dev} {s : State} {e : Dev} (h : f s.dev = e) :
    onAonAny (fun _ d => (f d, [])) s = .next (withDev s e) := by
  rw [onAonAny_next, h]
  rfl

theorem estopChange_low {b : Bool} (ha : d.awake = true) (hpin : (if b then d.pins.estopB else d.pins.estopA) = true) :
    d.estopChange b false =
      (({ d with pins := if b then { d.pins with estopB := false } else { d.pins with estopA := false } }).discrepancy).enterSafe
        (if b then 0x02 else 0x01) 0xFF := by
  simp only [Dev.estopChange, hpin, ha, Bool.not_true, Bool.or_self, Bool.true_eq_false, Bool.false_eq_true, if_false]

theorem estopChange_high {b : Bool} (hpin : (if b then d.pins.estopB else d.pins.estopA) = false) :
    d.estopChange b true =
      ({ d with pins := if b then { d.pins with estopB := true } else { d.pins with estopA := true } }).discrepancy := by
  simp only [Dev.estopChange, hpin, Bool.false_eq_true, if_false, Bool.true_or, if_true]

theorem latchDiscrepancy_late {t : Nat} (hsince : d.ump.disagreeSince = some t) (hlatched : d.ump.latched = false)
    (hlate : t + msT d.ump.discMs < d.now) : d.latchDiscrepancy =
      { d with ump := { d.ump with latched := true, bothLow := false } }.event 0xB 0x0B 0xFF 0 0 0 := by
  simp only [Dev.latchDiscrepancy, hsince]
  exact if_neg (by simp [hlatched, hlate])

theorem intlkChange_low (ha : d.awake = true) (hpin : d.pins.intlk = true) :
    d.intlkChange false = ({ d with pins := { d.pins with intlk := false } } : Dev).intlkLow := by
  simp only [Dev.intlkChange, hpin, ha, Bool.not_true, Bool.or_self, Bool.true_eq_false, Bool.false_eq_true, if_false]

theorem intlkLow_enters (hm : d.mode.mode = .build ∨ d.mode.mode = .hold) : d.intlkLow = d.enterSafe 0x03 0xFF := by
  rcases hm with hm | hm <;> simp only [Dev.intlkLow, hm]

/-- R460: in Ready the interlock opens every cut path, and the device stays in Ready. -/
theorem intlkLow_ready (hm : d.mode.mode = .ready) (he : d.mode.entry = none) :
    d.intlkLow.mode.mode = .ready ∧ d.intlkLow.pins = d.pins ∧ d.intlkLow.ump.closed = 0 := by
  obtain ⟨hmode, hclosed, -, hpins, -, -⟩ := openAll_charge (d := d) 3
  have hopens : d.intlkLow = (d.openAll 3).event 3 0x03 0xFF 0 0 0 := by
    simp only [Dev.intlkLow, hm]
    exact if_pos (by simp [hmode, he])
  simp [hopens, hmode, hm, hpins, hclosed]

theorem intlkChange_high (hpin : d.pins.intlk = false) :
    d.intlkChange true = { d with pins := { d.pins with intlk := true } } := by
  simp only [Dev.intlkChange, hpin, Bool.false_eq_true, if_false, Bool.true_or, if_true]

/-! ### Alarm and monitor of a laser (R456, R459) -/

theorem lalm_trips {set : SafetySet} (hset : d.ump.active = some set) (hoar : d.oarExists k = true) (hen : set.oarEn k = true)
    (hlalm : (set.field k 1 1).testBit 1 = true) :
    d.lalm k true = (d.onSafe k fun o => { o with lalmLow := true, lalmSince := d.now }).trip k 0x24 0 0 := by
  simp only [Dev.lalm, hset, hoar, hen, hlalm, Bool.and_self, if_true]

theorem lalm_ends : d.lalm k false = d.onSafe k fun o => { o with lalmLow := false, lalmSince := d.now } := by
  simp only [Dev.lalm, Bool.false_and, Bool.false_eq_true, if_false]
  split <;> rfl

theorem monitorSample_unset (hset : d.ump.active = none) : d.monitorSample k c =
    { d with melt := upd d.melt k fun m => { m with monSamples := (c :: m.monSamples).take 4 } } := by
  simp only [Dev.monitorSample, hset]

/-- R459: a sample counts while it is out of tolerance; the 80th in a row trips. -/
theorem monitorSample_checked {set : SafetySet} {tol x : Rat} (hset : d.ump.active = some set) (hoar : d.oarExists k = true)
    (hen : set.oarEn k = true) (hmon : (set.field k 1 1).testBit 2 = true)
    (hx : x = set.expected k ((nth d.ump.oars k).dacLine.getD (set.field k 18 2) 0))
    (htol : tol = (set.field k 6 2 : Rat) + (set.field k 16 1 : Rat) * x / 100) : d.monitorSample k c =
      let n := if tol < |(c : Rat) - x| then (nth d.ump.oars k).monCnt + 1 else 0
      let e := ({ d with melt := upd d.melt k fun m => { m with monSamples := (c :: m.monSamples).take 4 } }).onSafe k
        fun o => { o with monCnt := n }
      if 80 ≤ n then e.trip k 0x23 (roundRat ((c : Rat) - x)) (roundRat tol) else e := by
  subst htol hx
  simp only [Dev.monitorSample, hset, hoar, hen, hmon, Bool.and_self, Bool.not_true, Bool.false_eq_true, if_false]

/-! ### Heartbeats (R24, R467, R472) -/

theorem heartbeat_unclocked (h : d.coxClocked = false) : d.heartbeat c = d := if_pos (by simp [h])

theorem heartbeat_clocked (h : d.coxClocked = true) : d.heartbeat c =
    { d with ump := { d.ump with heartbeats := d.ump.heartbeats.set c d.now, hbMissing := d.ump.hbMissing.filter (· ≠ c) } } :=
  if_neg (by simp [h])

theorem heartbeatWithin_none {n : Nat} (h : ∀ t ∈ d.ump.heartbeats, t + n < d.now) : d.heartbeatWithin n = false :=
  List.any_eq_false.2 fun t ht => by simp [h t ht]

theorem heartbeatLost_enters (hwatch : d.ump.hbWatch = true) (h : ∀ t ∈ d.ump.heartbeats, t + usT 100 < d.now)
    (hm : d.mode.mode ≠ .safe) : d.heartbeatLost = d.enterSafe 0x06 0xFF :=
  if_neg (by simp [hwatch, heartbeatWithin_none h, hm])

theorem coreMissing_late (hwatch : d.ump.hbWatch = true) (hnew : c ∉ d.ump.hbMissing)
    (hlate : nth d.ump.heartbeats c + usT 100 < d.now) : d.coreMissing c =
      (({ d with
        ump := { d.ump with hbMissing := d.ump.hbMissing ++ [c] }
        boot := { d.boot with
          coxCores := if d.boot.coxCores.testBit c then d.boot.coxCores - 2 ^ c else d.boot.coxCores } }).event
            0xD 0 0xFF 0 0 c).spoil 0x01 c 0x003 false 0 := by
  rw [Dev.coreMissing, if_neg (by simp [hwatch, hnew, hlate])]

/-! ### Votes (R452, R453) -/

/-- The cores once a comparison has been counted. -/
def compared (u : Umpire) (c : Option Nat) : List UCore :=
  u.cores.mapIdx fun i x => { x with differs := if c = some i then x.differs + 1 else 0 }

theorem compared_none (u : Umpire) : compared u none = u.cores.map fun x => { x with differs := 0 } := by
  refine List.ext_getElem (by simp [compared]) fun i _ _ => by simp [compared]

theorem nth_compared {u : Umpire} (hc : c < u.cores.length) :
    nth (compared u (some c)) c = { nth u.cores c with differs := (nth u.cores c).differs + 1 } := by
  simp [nth, compared, hc]

theorem compareVotes_same : d.compareVotes none =
    ({ d with ump := { d.ump with cores := d.ump.cores.map fun x => { x with differs := 0 } } } : Dev).castVotes.openUnvoted := by
  rw [← compared_none]
  rfl

theorem compared_some (u : Umpire) (c : Nat) :
    compared u (some c) = u.cores.mapIdx fun i x => { x with differs := if i = c then x.differs + 1 else 0 } := by
  simp only [compared, Option.some.injEq, eq_comm]

theorem compareVotes_some (hc : c < d.ump.cores.length) : d.compareVotes (some c) =
    let e := ({ d with ump := { d.ump with
      cores := d.ump.cores.mapIdx fun i x => { x with differs := if i = c then x.differs + 1 else 0 } } } : Dev).castVotes.openUnvoted
    if (nth d.ump.cores c).inService && 3 ≤ (nth d.ump.cores c).differs + 1 then e.coreLeaves c else e := by
  rw [← compared_some, Dev.compareVotes, ← compared]
  simp only [nth_compared hc]

/-- R452: a path opens exactly where fewer than two live votes say closed. -/
theorem openUnvoted_closed (hk : k < 32) :
    d.openUnvoted.ump.closed.getLsbD k = (d.ump.closed.getLsbD k && d.ump.votesClosed k) := by
  rw [Dev.openUnvoted, (openCuts_charge _ _ _).2.1]
  dsimp only
  rw [getLsbD_clearAll _ _ hk]
  rcases hclosed : d.ump.closed.getLsbD k with _ | _
  · rw [Bool.false_and, Bool.false_and]
  · simp [oars32, hk, hclosed]

/-! ### Proofs of cut paths (R19, R470, R471) -/

theorem request_eq (w : Requester) (p n : Nat) (q : Rat) : (d.request w p n q).2 = { d with gov := (d.request w p n q).2.gov } := by
  simp only [Dev.request]
  split
  · split <;> rfl
  · rfl

theorem safetyLeave_eq : d.safetyLeave = { d with gov := d.safetyLeave.gov } := by
  rw [Dev.safetyLeave, request_eq]
  rfl

/-- R470: a proof that is due begins with P1. -/
theorem startProof_due (hfree : d.ump.proof = none) (hprovable : d.provable k = true) (hdue : d.proofDue k = true)
    (hopen : d.allOpen = false) (hidle : (nth d.eng k).cur = none) :
    (d.startProof k).ump.proof = some ⟨k, 1⟩ ∧
      (d.startProof k).ump.closed = d.ump.closed &&& ~~~ BitVec.ofNat 32 (2 ^ k) ∧
      (d.startProof k).ump.trip = d.ump.trip ∧ (d.startProof k).mode = d.mode ∧
      (d.startProof k).eng = upd d.eng k fun e =>
        { e with len := false, lenTick := d.now, lenSettled := false, lgate := false, dac := 0 } := by
  rw [Dev.startProof, if_neg (by simp [hfree, hprovable, hdue, hopen, hidle]), safetyLeave_eq]
  exact ⟨rfl, rfl, rfl, rfl, rfl⟩

theorem proofStep_passes {n t : Nat} (hproof : d.ump.proof = some ⟨k, n⟩) (hn : n < 5) (ht : 2 ≤ n → n ≤ 4 → t ≤ proofLimit n) :
    d.proofStep k true t = { d with ump := { d.ump with proof := some ⟨k, n + 1⟩ } } := by
  have hintime : ¬ ((! true || (inRange 2 4 n && decide (proofLimit n < t))) = true) := by
    simp only [inRange, Bool.not_true, Bool.false_or, Bool.and_eq_true, decide_eq_true_eq, not_and, not_lt, and_imp]
    exact ht
  simp only [Dev.proofStep, hproof, ne_eq, not_true_eq_false, if_false]
  rw [if_neg hintime, if_pos hn]

theorem proofStep_ends {t : Nat} (hproof : d.ump.proof = some ⟨k, 5⟩) : d.proofStep k true t = d.proofPassed k := by
  simp [Dev.proofStep, hproof, inRange]

theorem proofStep_fails {n t : Nat} (hproof : d.ump.proof = some ⟨k, n⟩) : d.proofStep k false t = d.proofFailed k n t := by
  simp [Dev.proofStep, hproof]

/-- R19: with the engine's outputs low the pads follow the step of the proof. -/
theorem pads_in_proof {n : Nat} (hproof : d.ump.proof = some ⟨k, n⟩) (hlgate : (nth d.eng k).lgate = false)
    (hlen : (nth d.eng k).len = false) (hdac : (nth d.eng k).dac = 0) :
    d.lgatePad k = decide (n = 2) ∧ d.lenPad k = decide (n = 4) ∧ d.dacPad k = if n = 3 then d.ump.proofCode else 0 := by
  have hat : ∀ j, d.proofAt k j = decide (n = j) := fun j => by simp [Dev.proofAt, hproof, beq_eq_decide]
  simp [Dev.lgatePad, Dev.lenPad, Dev.dacPad, hat, hlgate, hlen, hdac]

/-- Settles O18. -/
theorem umpireEventsComplete : Obligations.UmpireEventsComplete := by
  refine ⟨⟨?estopLow, ?estopHigh, ?latch, ?intlkLow, ?intlkReady, ?intlkHigh, ?lalm, ?lalmEnds, ?unset, ?checked⟩,
    ?unclocked, ?clocked, ?lost, ?absent, ?missing, ?liveness, ?same, ?differs, ?third, ?unvoted, ?resync, ?starts, ?passes, ?ends,
    ?fails, ?pads⟩
  case estopLow => exact fun b s ha hpin => exec_estopInputChange.trans (onAonAny_dev (estopChange_low ha hpin))
  case estopHigh => exact fun b s hpin => exec_estopInputChange.trans (onAonAny_dev (estopChange_high hpin))
  case latch =>
    exact fun t s hl hsince hlatched hlate => exec_discrepancyLatch.trans (onDev_eq hl (latchDiscrepancy_late hsince hlatched hlate))
  case intlkLow =>
    exact fun s ha hpin hm => exec_intlkInputChange.trans (onAonAny_dev ((intlkChange_low ha hpin).trans (intlkLow_enters hm)))
  case intlkReady =>
    intro s ha hpin hm he
    obtain ⟨hready, hpins, hclosed⟩ := intlkLow_ready (d := { s.dev with pins := { s.dev.pins with intlk := false } }) hm he
    exact ⟨_, exec_intlkInputChange.trans (onAonAny_dev (intlkChange_low ha hpin)), hready, congrArg Pins.intlk hpins, hclosed, rfl⟩
  case intlkHigh => exact fun s hpin => exec_intlkInputChange.trans (onAonAny_dev (intlkChange_high hpin))
  case lalm =>
    exact fun k set s hl hset hoar hen hlalm => exec_lalmLow.trans (onDev_eq hl (lalm_trips hset hoar hen hlalm))
  case lalmEnds => exact fun k s hl => exec_lalmLow.trans (onDev_eq hl lalm_ends)
  case unset => exact fun k c s hl hset => exec_monitorSample.trans (onDev_eq hl (monitorSample_unset hset))
  case checked =>
    exact fun k c set tol x s hl hset hoar hen hmon hx htol =>
      exec_monitorSample.trans (onDev_eq hl (monitorSample_checked hset hoar hen hmon hx htol))
  case unclocked => exact fun c s hl h => exec_coxHeartbeat.trans (onDev_eq hl (heartbeat_unclocked h))
  case clocked => exact fun c s hl h => exec_coxHeartbeat.trans (onDev_eq hl (heartbeat_clocked h))
  case lost => exact fun s hl hwatch h hm => exec_heartbeatLoss.trans (onDev_eq hl (heartbeatLost_enters hwatch h hm))
  case absent =>
    exact fun s hl hwatch h => exec_heartbeatAbsent1s.trans (onDev_eq hl (if_neg (by simp [hwatch, heartbeatWithin_none h])))
  case missing =>
    exact fun c s hl hwatch hnew hlate => exec_coxCoreMissing.trans (onDev_eq hl (coreMissing_late hwatch hnew hlate))
  case liveness => exact fun c s hl hin => exec_voteLivenessLoss.trans (onDev_eq hl (if_pos hin))
  case same => exact fun s ha => exec_voteComparison.trans (by rw [execVoteComparison, onDevAny_awake ha, compareVotes_same])
  case differs =>
    intro c s ha hfew hc
    rw [exec_voteComparison, execVoteComparison, onDevAny_awake ha, compareVotes_some hc]
    exact congrArg (fun e => Host.Outcome.next (withDev s e)) (if_neg (by simp; omega))
  case third =>
    intro c s ha htwo hin hc
    rw [exec_voteComparison, execVoteComparison, onDevAny_awake ha, compareVotes_some hc]
    exact congrArg (fun e => Host.Outcome.next (withDev s e)) (if_pos (by simp [htwo, hin]))
  case unvoted => exact fun d k hk => openUnvoted_closed hk
  case resync => exact fun s hl => exec_umpireTimeResync.trans (onDev_live hl)
  case starts =>
    intro k s hl hfree hprovable hdue hopen hidle
    obtain ⟨hproof, hclosed, htrip, hmode, heng⟩ := startProof_due hfree hprovable hdue hopen hidle
    exact ⟨_, exec_proofStart.trans (onDev_live hl), hproof, hclosed, htrip, hmode, rfl, heng⟩
  case passes =>
    exact fun k n t s hl hproof hn ht => exec_proofStep.trans (onDev_eq hl (proofStep_passes hproof hn ht))
  case ends => exact fun k t s hl hproof => exec_proofStep.trans (onDev_eq hl (proofStep_ends hproof))
  case fails => exact fun k n t s hl hproof => exec_proofStep.trans (onDev_eq hl (proofStep_fails hproof))
  case pads => exact fun k n d hproof hlgate hlen hdac => pads_in_proof hproof hlgate hlen hdac

end Sys2Proof.Proofs
end
section
/-! PROOFS. What the bodies of the mode commands and a write to MODE.MODE_REQ come to (R404, R517 to R522, R533, R534): O11. -/

namespace Sys2Proof.Proofs

open Sys2Proof.Machine Sys2Proof.Safety Sys2Proof.Laws

section Bodies

variable {x : Ctx} {mem : Dram} {d : Dev}

/-! ### Hold (R519) -/

theorem modeHoldBody_enters {u : Nat} (hu : u ≤ 1) (hm : d.mode.mode ≠ .hold) : modeHoldBody u x mem d =
    .done ((d.enterHold .command (u = 1) none 1).logMode x d.mode.mode) := by
  rw [modeHoldBody, if_neg hu.not_gt, if_neg (by simpa using hm)]

theorem modeHoldBody_inHold {u : Nat} (hu : u ≤ 1) (hm : d.mode.mode = .hold) : modeHoldBody u x mem d =
    .done (if u = 1 ∧ (d.mode.transition = true ∨ d.mode.urgent = false) then d.urgentHold else d) := by
  rw [modeHoldBody, if_neg hu.not_gt, if_pos (by simp [hm])]
  simp only [Bool.not_eq_true']

/-! ### `mode.set` (R517, R518, R521) -/

/-- What brought a change about: 2 for MODE_REQ, which stands as mailbox 17. -/
def modeTrigger (x : Ctx) : Nat := if x.mbx = 17 then 2 else 1

theorem railBad_none {l : List Bool} (h : true ∉ l) : l.any id = false :=
  List.any_eq_false.2 fun b hb => by
    rintro rfl
    exact h hb

section Set

variable (htransition : d.mode.transition = false)
include htransition

/-- Ready from Build with no layer released, or from Hold with no exposure left and every rail in its window. -/
theorem modeSetBody_ready (h : d.mode.mode = .build ∧ d.layers.released = none ∨
      d.mode.mode = .hold ∧ true ∉ d.pins.railBad ∧ ∀ k < 32, (nth d.eng k).exposing = false) :
    modeSetBody 4 x d = .done ((d.toReady (modeTrigger x)).logMode x d.mode.mode) (u32 4) := by
  rcases h with ⟨hm, hreleased⟩ | ⟨hm, hrails, hexposing⟩
  · simp [modeSetBody, htransition, hm, Mode.code, hreleased, modeTrigger]
  · have hidle : oars32.any (fun k => (nth d.eng k).exposing) = false :=
      List.any_eq_false.2 fun k hk => by simp [hexposing k (List.mem_range.1 hk)]
    simp only [modeSetBody, htransition, hm, Mode.code, railBad_none hrails, hidle, modeTrigger]
    rfl

theorem modeSetBody_hold (hm : d.mode.mode = .build) :
    modeSetBody 6 x d = .done ((d.enterHold .command false none (modeTrigger x)).logMode x .build) (u32 6) := by
  simp only [modeSetBody, htransition, hm, Mode.code, modeTrigger]
  rfl

/-- R518: Build with its conditions met is logged and goes on executing. -/
theorem modeSetBody_build (hm : d.mode.mode ≠ .build) (hrails : d.mode.mode = .hold → true ∉ d.pins.railBad)
    (hrefusal : d.buildRefusal = none) :
    modeSetBody 5 x d = .executing (d.log x 0x07 0 (u8 d.mode.mode.code) (u8 5)) (.modeSet 5) true := by
  have hother : ¬ 5 = d.mode.mode.code := by
    revert hm
    cases d.mode.mode <;> decide
  have hin : ¬ (5 = d.mode.mode.code ∨ (d.mode.mode == .hold) = true ∧ d.pins.railBad.any id = true) := by
    rintro (h | ⟨h, h'⟩)
    · exact hother h
    · rw [railBad_none (hrails (by simpa using h))] at h'
      cases h'
  simp only [modeSetBody, htransition, hin, hrefusal]
  rfl

end Set

/-! ### Standby, reports and budgets (R512, R522, R533) -/

theorem modeStandbyBody_idle {w : Nat} (hw : w < 8) (hreleased : d.layers.released = none) (hqueue : d.layers.queue = [])
    (hservice : d.host.serviceOn = false) (htransition : d.mode.transition = false) : modeStandbyBody w x mem d =
      .ok ((d.enterStandby mem w).1.logMode x d.mode.mode) [] (d.enterStandby mem w).2 := by
  rw [modeStandbyBody, if_neg hw.not_ge, if_neg (by simp [hreleased, hqueue, hservice, htransition])]

theorem modeBudgetBody_chip {c : Nat} (hc : 30000 ≤ c) (hc' : c ≤ 55000) : modeBudgetBody c none x mem d =
    .done ({ d with gov := { d.gov with chipBudget := c } }.log x 0x07 1 (d.gov.budgetBytes d.gov.plantBudget)
        ({ d.gov with chipBudget := c }.budgetBytes d.gov.plantBudget))
      ({ d.gov with chipBudget := c }.budgetBytes { d with gov := { d.gov with chipBudget := c } }.plantBudget) := by
  rw [modeBudgetBody, if_neg (by simp), if_neg (by omega)]

/-- R533: the plant budget and the factors take force in Ready with no layer queued. -/
theorem modeBudgetBody_plant {c p : Nat} {os : List OarPowerArg} (hc : 30000 ≤ c) (hc' : c ≤ 55000) (hm : d.mode.mode = .ready)
    (hp : 1000 ≤ p) (hp' : p ≤ 200000) (hos : ∀ o ∈ os, OarPowerArg.ok d o = true) (hqueue : d.layers.queue = []) :
    modeBudgetBody c (some (p, os)) x mem d =
      let e := { d with gov := { d.gov with chipBudget := c } }.setPlant p os
      .done (e.log x 0x07 1 (d.gov.budgetBytes d.gov.plantBudget) (e.gov.budgetBytes e.gov.plantBudget))
        (e.gov.budgetBytes e.plantBudget) := by
  have hargs : ¬ (p < 1000 ∨ 200000 < p ∨ (! os.all (OarPowerArg.ok d)) = true) := by
    simp only [Bool.not_eq_true', List.all_eq_false, not_or, not_exists, not_and, not_lt, not_not]
    exact ⟨hp, hp', hos⟩
  rw [modeBudgetBody, if_neg (by simp [hm]), if_neg (by omega)]
  simp only [hargs, hqueue, ne_eq, not_true_eq_false, if_false]

theorem modeLeaveBody_known {c : Nat} (hc : c ≤ 1) : modeLeaveBody c x mem d =
    .done (if c = 1 then { d with gov := { d.gov with counts := List.replicate 6 LeaveCount.reset } } else d)
      (u32 d.chipAcct ++ u32 (natOf (ceilRat d.plantAcct)) ++ u32 d.gov.chipBudget ++ u32 d.plantBudget ++
        d.gov.counts.flatMap LeaveCount.bytes) :=
  if_neg hc.not_gt

theorem modeThermalBody_known {c : Nat} (hc : c ≤ 1) : modeThermalBody c x mem d =
    .done (if c = 1 then { d with therm := { d.therm with minC := d.therm.c100, maxC := d.therm.c100, changes := 0 } } else d)
      d.therm.report :=
  if_neg hc.not_gt

end Bodies

section Request

variable {d : Dev} {v : Nat}

/-! ### MODE.MODE_REQ (R404) -/

/-- The modes in which `mode.set` is accepted. -/
theorem modeSet_modes (m : Mode) : ((opRow 0x0C02).map fun r => r.modes.testBit m.code).getD false =
    decide (m = .ready ∨ m = .build ∨ m = .hold) := by
  cases m <;> decide

section Up

variable (hup : d.host.linkUp = true)
include hup

theorem modeReqWrite_busy (hbusy : d.host.modeReq.busy = true) : d.modeReqWrite v =
    { d with host := { d.host with modeReq := { d.host.modeReq with status := 0x12, detail := 0 } } } := by
  rw [Dev.modeReqWrite, if_neg (by simp [hup]), if_pos hbusy]

variable (hfree : d.host.modeReq.busy = false)
include hfree

theorem modeReqWrite_noMode (hv : v % 16 ∉ [4, 5, 6]) : d.modeReqWrite v =
    { d with host := { d.host with modeReq := ⟨v % 16, 0x21, 0, false⟩ } }.raise 35 := by
  have hno : v % 16 ≠ 4 ∧ v % 16 ≠ 5 ∧ v % 16 ≠ 6 := by simpa using hv
  rw [Dev.modeReqWrite, if_neg (by simp [hup]), if_neg (by simp [hfree]), if_pos hno, Dev.modeReqDone]

theorem modeReqWrite_refused (hv : v % 16 ∈ [4, 5, 6]) (hm : d.mode.mode ∈ [.start, .safe]) : d.modeReqWrite v =
    { d with host := { d.host with modeReq := ⟨v % 16, 0x10, 0xFF09, false⟩ } }.raise 35 := by
  have hmode : ¬ (v % 16 ≠ 4 ∧ v % 16 ≠ 5 ∧ v % 16 ≠ 6) := by
    simp only [List.mem_cons, List.not_mem_nil, or_false] at hv
    omega
  have hrow : (! ((opRow 0x0C02).map fun r => r.modes.testBit d.mode.mode.code).getD false) = true := by
    rw [modeSet_modes]
    simp only [List.mem_cons, List.not_mem_nil, or_false] at hm
    rcases hm with hm | hm <;> simp [hm]
  rw [Dev.modeReqWrite, if_neg (by simp [hup]), if_neg (by simp [hfree]), if_neg hmode, if_pos hrow, Dev.modeReqDone]

/-- R404: Ready from Build once no layer is released. -/
theorem modeReqWrite_ready (hv : v % 16 = 4) (hm : d.mode.mode = .build) (htransition : d.mode.transition = false)
    (hreleased : d.layers.released = none) : d.modeReqWrite v =
      (({ d with host := { d.host with modeReq := ⟨4, 0, 0, true⟩ } }.toReady 2).logMode ⟨17, 0x0C02, 0, 0⟩ .build).modeReqDone 0 0 := by
  have hrow : ¬ (! ((opRow 0x0C02).map fun r => r.modes.testBit d.mode.mode.code).getD false) = true := by
    rw [modeSet_modes, hm]
    simp
  rw [Dev.modeReqWrite, if_neg (by simp [hup]), if_neg (by simp [hfree]), if_neg (by simp [hv]), if_neg hrow, hv,
    modeSetBody_ready (d := { d with host := { d.host with modeReq := ⟨4, 0, 0, true⟩ } }) htransition (.inl ⟨hm, hreleased⟩)]
  simp only [modeTrigger, if_true, Res.done, hm]

end Up

end Request

theorem startOf_wf {c : Instr} {d : Dev} {x : Ctx} (h : d.startOf c = some x) : c.wf = true := by
  simp only [Dev.startOf] at h
  split at h
  · cases h
  · split at h
    next hstarts =>
      simp only [Bool.and_eq_true] at hstarts
      tauto
    · cases h

/-- A mailbox's `mode.set` is not MODE_REQ's. -/
theorem modeTrigger_command {m t : Nat} {s : State} {x : Ctx} (h : s.dev.startOf (.modeSet m t) = some x) : modeTrigger x = 1 := by
  have hm : x.mbx = m := (startOf_row rfl h).1
  have hwf : (wfMbx m && wfU32 [t]) = true := startOf_wf h
  have hbox : m ≤ 16 := of_decide_eq_true ((Bool.and_eq_true _ _).mp hwf).1
  exact if_neg (by omega)

/-- Settles O11. -/
theorem modeCommandsComplete : Obligations.ModeCommandsComplete := by
  refine ⟨⟨?hold, ?urgent, ?ready, ?setHold, ?build, ?standby, ?status, ?chip, ?plant, ?leave, ?thermal⟩,
    fun v s hl hup => ⟨?busy, ?noMode, ?refused, ?reqReady⟩⟩
  case hold => exact fun m u s x hs hu hm => exec_modeHold.trans (runCmd_answered hs (modeHoldBody_enters hu hm))
  case urgent => exact fun m u s x hs hu hm => exec_modeHold.trans (runCmd_answered hs (modeHoldBody_inHold hu hm))
  case ready =>
    intro m s x hs htransition h
    have hbody := modeSetBody_ready (x := x) htransition h
    rw [modeTrigger_command hs.1] at hbody
    exact exec_modeSet_of_runCmd (runCmd_answered hs hbody)
  case setHold =>
    intro m s x hs htransition hm
    have hbody := modeSetBody_hold (x := x) htransition hm
    rw [modeTrigger_command hs.1] at hbody
    exact exec_modeSet_of_runCmd (runCmd_answered hs hbody)
  case build =>
    exact fun m s x hs htransition hm hrails hrefusal =>
      exec_modeSet_of_runCmd (runCmd_running hs (modeSetBody_build htransition hm hrails hrefusal))
  case standby =>
    exact fun m w s x hs hw hreleased hqueue hservice htransition =>
      exec_modeStandby.trans (runCmd_ok hs (modeStandbyBody_idle hw hreleased hqueue hservice htransition))
  case status => exact fun m s x hs => exec_modeStatus.trans (runCmd_answered hs rfl)
  case chip => exact fun m c s x hs hc hc' => exec_modeBudget.trans (runCmd_answered hs (modeBudgetBody_chip hc hc'))
  case plant =>
    intro m c p os s x hs hc hc' hm hp hp' hos hqueue
    refine ⟨_, exec_modeBudget.trans (runCmd_answered hs (modeBudgetBody_plant hc hc' hm hp hp' hos hqueue)), ?_⟩
    simp [answered, Dev.setPlant]
  case leave => exact fun m c s x hs hc => exec_modeLeave.trans (runCmd_answered hs (modeLeaveBody_known hc))
  case thermal => exact fun m c s x hs hc => exec_modeThermal.trans (runCmd_answered hs (modeThermalBody_known hc))
  case busy => exact fun hbusy => exec_modeReq.trans (onDev_eq hl (modeReqWrite_busy hup hbusy))
  case noMode => exact fun hfree hv => exec_modeReq.trans (onDev_eq hl (modeReqWrite_noMode hup hfree hv))
  case refused => exact fun hfree hv hm => exec_modeReq.trans (onDev_eq hl (modeReqWrite_refused hup hfree hv hm))
  case reqReady =>
    exact fun hfree hv hm htransition hreleased =>
      exec_modeReq.trans (onDev_eq hl (modeReqWrite_ready hup hfree hv hm htransition hreleased))

end Sys2Proof.Proofs
end
section
/-! PROOFS. What the bodies of the `cal` and `health` commands come to, and how a working coefficient lies between its sets
(R535 to R542, R550, R554): O14. -/

namespace Sys2Proof.Proofs

open Sys2Proof.Machine Sys2Proof.Safety Sys2Proof.Laws

section Line

variable (cs : List Int) (c : Int)

/-! ### Working coefficients (R537) -/

/-- The line from set i to the next, at a temperature. -/
def segment (i : Nat) : Rat :=
  let t : Rat := ((c + 2000 - 3000 * (i : Int) : Int) : Rat) / 3000
  ((nth cs i : Int) : Rat) * (1 - t) + ((nth cs (i + 1) : Int) : Rat) * t

theorem segment_eq (i : Nat) : segment cs c i = ((nth cs i : Int) : Rat) +
    ((nth cs (i + 1) - nth cs i : Int) : Rat) * ((c : Rat) - (-2000 + 3000 * (i : Rat))) / 3000 := by
  simp only [segment]
  push_cast
  ring

/-- Where two segments meet they agree. -/
theorem segment_meets {i : Nat} (hc : c = -2000 + 3000 * ((i : Int) + 1)) : segment cs c (i + 1) = segment cs c i := by
  rw [segment_eq, segment_eq, hc]
  push_cast
  ring

theorem calLine_eq (h : -2000 ≤ c) (h' : c ≤ 10000) : calLine cs c = segment cs c (min 3 (natOf ((c + 2000) / 3000))) := by
  have hclamped : max (-2000) (min 10000 c) = c := by omega
  rw [calLine, hclamped, segment]

theorem calLine_between {i : Nat} (hi : i < 4) (h : -2000 + 3000 * (i : Int) ≤ c) (h' : c ≤ -2000 + 3000 * ((i : Int) + 1)) :
    calLine cs c = segment cs c i := by
  rw [calLine_eq cs c (by omega) (by omega)]
  rcases h'.lt_or_eq with hlt | hat
  · have hindex : min 3 (natOf ((c + 2000) / 3000)) = i := by
      rw [natOf]
      omega
    rw [hindex]
  · rcases Nat.lt_or_ge i 3 with hi3 | hi3
    · have hindex : min 3 (natOf ((c + 2000) / 3000)) = i + 1 := by
        rw [natOf]
        omega
      rw [hindex, segment_meets cs c hat]
    · have hindex : min 3 (natOf ((c + 2000) / 3000)) = i := by
        rw [natOf]
        omega
      rw [hindex]

theorem calLine_below (h : c ≤ -2000) : calLine cs c = ((nth cs 0 : Int) : Rat) := by
  have hclamped : max (-2000) (min 10000 c) = -2000 := by omega
  simp [calLine, hclamped, natOf]

theorem calLine_above (h : 10000 ≤ c) : calLine cs c = ((nth cs 4 : Int) : Rat) := by
  have hclamped : max (-2000) (min 10000 c) = 10000 := by omega
  norm_num [calLine, hclamped, natOf]

end Line

section Bodies

variable {x : Ctx} {mem : Dram} {d : Dev} {k i p : Nat}

/-! ### Calibration (R535, R539, R552, R554) -/

theorem calPasses_eq : d.calPasses p = if d.boot.compat = true ∧ d.pins.rextOff = true then 0 else p := by
  simp only [Dev.calPasses, Bool.and_eq_true]

theorem calArgs_sound (hblocks : calBlocks k ≠ []) (heven : k % 2 = 0) (hk : k < 128) :
    ¬ (calBlocks k = [] ∨ k % 2 = 1 ∨ 128 ≤ k) := by
  rintro (h | h | h)
  · exact hblocks h
  · omega
  · omega

section Idle

variable (hblocks : calBlocks k ≠ []) (heven : k % 2 = 0) (hk : k < 128) (hreleased : d.layers.released = none)
  (hrun : d.cal.run = none)
include hblocks heven hk hreleased hrun

/-- R539: a run begins with leave for its first block. -/
theorem calRunBody_granted (hleave : (d.request (.cal ((calBlocks k).headD 0)) 4 1000 0).1 = .granted) :
    calRunBody k i x mem d =
      let e := (d.request (.cal ((calBlocks k).headD 0)) 4 1000 0).2
      .accepted { e with cal := { e.cal with run := some ⟨calBlocks k, i, true, [], d.now, d.cal.blocks⟩ } } 0 .cal [] := by
  have hargs := calArgs_sound hblocks heven hk
  have hidle : ¬ (d.layers.released.isSome = true ∨ d.cal.run.isSome = true) := by simp [hreleased, hrun]
  simp only [calRunBody, hargs, hidle, hleave, if_false]

/-- R537: the factory's sets stand, the wear guard band falls back, and the change is logged. -/
theorem calFactoryBody_idle : ∃ e : Dev, calFactoryBody k x mem d = .done (e.log x 0x0D 0xFFFF d.cal.form e.cal.form) ∧
    e.cal.wearUv = 0 ∧ e.eng = d.eng ∧ e.logs = d.logs ∧ e.cal.blocks = ({ d.cal with
      blocks := d.cal.blocks.mapIdx fun i (l : List CalInst) => if k.testBit (i + 1) then l.map CalInst.factory else l }.interp
        d.therm.c100 fun i => (nth d.eng i).exposing).blocks := by
  have hargs := calArgs_sound hblocks heven hk
  exact ⟨_, (if_neg hargs).trans (if_neg (by simp [hreleased, hrun])), rfl, rfl, rfl, rfl⟩

end Idle

section Done

variable {b : Nat} {bs : List Nat} {run : CalRun} (hrun : d.cal.run = some run) (hgranted : run.granted = true)
  (hblocks : run.blocks = b :: bs) (hdue : run.startTick + msT (calMs b) ≤ d.now)
include hrun hgranted hblocks hdue

theorem calDone_ready (hm : d.mode.mode = .ready) : d.calDone p =
    ((d.release (isCal b)).calEnter b run.instances (d.calPasses p)).calNext
      { run with blocks := bs, granted := false, results := run.results ++ [(b, d.calPasses p)] } := by
  simp only [Dev.calDone, hrun, hgranted, hblocks]
  rw [if_neg hdue.not_gt, if_neg (by simp [hm])]

theorem calDone_elsewhere (hm : d.mode.mode ≠ .ready) : d.calDone p = (d.release (isCal b)).calEnd run 0x31 0 := by
  simp only [Dev.calDone, hrun, hgranted, hblocks]
  rw [if_neg hdue.not_gt, if_pos (by simpa using hm)]

end Done

/-! ### Health (R542, R550, R554) -/

theorem healthRecordsBody_few {f n : Nat} (hn : 1 ≤ n) (hn' : n ≤ 31) : healthRecordsBody f n x mem d =
    .done d (listOf HealthRec.bytes (d.logs.health.filter fun r => f ≤ r.seq ∧ r.seq < f + n)) :=
  if_neg (by omega)

theorem healthReplanBody_idle (h : d.cal.replanSince = none) : healthReplanBody x mem d =
    .accepted { d with cal := { d.cal with replanSince := some d.now } } 1000000 .replan [] :=
  if_neg (by simp [h])

end Bodies

/-- Settles O14. -/
theorem calCommandsComplete : Obligations.CalCommandsComplete := by
  refine ⟨?run, ?ready, ?elsewhere, ?passes, ?between, ?outside, ?status, ?factory, ?records, ?report, ?replan, ?complete⟩
  case run =>
    exact fun m k i s x hs hblocks heven hk hreleased hrun hleave =>
      exec_calRun.trans (runCmd_taken hs (calRunBody_granted hblocks heven hk hreleased hrun hleave))
  case ready =>
    intro p b bs run s ha hrun hgranted hblocks hdue hm
    rw [exec_calBlockComplete, execCalBlockComplete, onDevAny_awake ha, calDone_ready hrun hgranted hblocks hdue hm]
  case elsewhere =>
    intro p b bs run s ha hrun hgranted hblocks hdue hm
    rw [exec_calBlockComplete, execCalBlockComplete, onDevAny_awake ha, calDone_elsewhere hrun hgranted hblocks hdue hm]
  case passes => exact fun d p => calPasses_eq
  case between => exact fun cs i c hi h h' => (calLine_between cs c hi h h').trans (segment_eq cs c i)
  case outside => exact fun cs c => ⟨calLine_below cs c, calLine_above cs c⟩
  case status => exact fun m s x hs => exec_calStatus.trans (runCmd_answered hs rfl)
  case factory =>
    intro m k s x hs hblocks heven hk hreleased hrun
    obtain ⟨e, hbody, hwear, heng, hlogs, hbank⟩ := calFactoryBody_idle (x := x) (mem := s.dram) hblocks heven hk hreleased hrun
    refine ⟨_, exec_calFactory.trans (runCmd_answered hs hbody), rfl, ?_, ?_, ?_, ?_⟩
    · simpa [answered] using hwear
    · simpa [answered] using heng
    · rw [answered, respond_logs, log_nextLog, hlogs]
    · simpa [answered] using hbank
  case records =>
    exact fun m f n s x hs hn hn' => exec_healthRecords.trans (runCmd_answered hs (healthRecordsBody_few hn hn'))
  case report => exact fun m s x hs => exec_healthReport.trans (runCmd_answered hs rfl)
  case replan => exact fun m s x hs h => exec_healthReplan.trans (runCmd_taken hs (healthReplanBody_idle h))
  case complete =>
    exact fun s hl hcox hsince =>
      exec_replanComplete.trans (onDev_eq hl (if_pos (by simp [hcox, Option.isSome_iff_ne_none, hsince])))

end Sys2Proof.Proofs
end
